-- ==== Sys2Proof/Word.lean ====
section
/-! DEFINITION. The byte, the unit in which the BV316's frames are laid out (R40, R150). -/

namespace Sys2Proof

/-- One byte of a car line payload or of a modem message. -/
abbrev Byte := BitVec 8

end Sys2Proof
end

