-- ==== Sys2Proof/Config.lean ====
section
/-! DEFINITION. The free values: what the spec uses and does not state. None has a body, so no proof can
rest on a value of one. -/

namespace Sys2Proof

/-- The source speed, in mm/s, of an edge that arrives in the same microsecond as the previous edge of its
source: R3 divides by an interval of 0 there. The argument counts the free values drawn so far
(log entry 8). -/
opaque Config.zeroIntervalSpeed : Nat → Nat

/-- The flags byte of a POSITION_REPORT: R166 names its four contents (position known, direction, emergency
latch, consist-wide valley lost) and gives them no bits (log entry 18). The direction is its STATE code. -/
opaque Config.reportFlags : (known : Bool) → (direction : BitVec 2) → (latch : Bool) → (lost : Bool) → Byte

/-- The byte of a POSITION_REPORT that holds the door summary and the highest active fault class: R166 gives
them no bits (log entry 18). Both arguments are STATE codes. -/
opaque Config.reportSummary : (summary : BitVec 2) → (faultClass : BitVec 2) → Byte

/-- The phase byte of an INSPECT BRAKES record while no proof test is RUNNING: the phase is meaningless then
(R119, log entry 19). The argument counts the free values drawn so far. -/
opaque Config.idlePhaseByte : Nat → Byte

/-- The bits over which the retained store's integrity check runs: R198 names what it covers and gives
neither order nor widths (log entry 16). The argument lists the covered values. -/
opaque Config.storeLayout : List Nat → List Bool

end Sys2Proof
end

