-- ==== Sys2Proof/Syntax.lean ====
section
/-! DEFINITION. The commands of the BV316: one constructor of `Instr` for each row of
spec/opcode_table.json, in the table's order, and the types of their operands (log entry 1). -/

namespace Sys2Proof

/-- What a command carries besides its own operands: the time since the previous command, in µs, and what
the load sensor (R144: signed kg, or no reading) and the two force feedback sensors (R103, in N) read at
the moment the command is taken (log entry 1). -/
structure Moment where
  elapsed : Nat
  load : Option Int
  force1 : Int
  force2 : Int
deriving DecidableEq, Repr

/-- Travel direction in line terms (00_scope.md 3.3). -/
inductive Direction where
  | none | up | down
deriving DecidableEq, Repr

/-- The car's ends (00_scope.md 3.3). -/
inductive CarEnd where
  | endA | endB
deriving DecidableEq, Repr

/-- The car's own sides (00_scope.md 3.3). -/
inductive CarSide where
  | a | b
deriving DecidableEq, Repr

/-- The line's sides, seen looking toward the summit (00_scope.md 3.3). -/
inductive LineSide where
  | l | r
deriving DecidableEq, Repr

/-- The two pinions, each with its tooth sensor, phase encoder and brake. -/
inductive Pinion where
  | p1 | p2
deriving DecidableEq, Repr

/-- The four doors: 1 and 2 on car side A, 3 and 4 on car side B (section 7.1). -/
inductive DoorId where
  | d1 | d2 | d3 | d4
deriving DecidableEq, Repr

/-- The two speed sources (R3). -/
inductive SpeedSource where
  | tooth | wheel
deriving DecidableEq, Repr

/-- The two conditions that the engagement monitor holds until the car stands (R34). -/
inductive HeldKind where
  | climbOut | calibrationFail
deriving DecidableEq, Repr

/-- One value for each pinion. -/
structure PerPinion (α : Type) where
  p1 : α
  p2 : α
deriving DecidableEq, Repr

/-- The value of one pinion. -/
def PerPinion.get {α : Type} (v : PerPinion α) : Pinion → α
  | .p1 => v.p1
  | .p2 => v.p2

/-- Replace the value of one pinion. -/
def PerPinion.set {α : Type} (v : PerPinion α) (p : Pinion) (x : α) : PerPinion α :=
  match p with
  | .p1 => { v with p1 := x }
  | .p2 => { v with p2 := x }

/-- One value for each door. -/
structure PerDoor (α : Type) where
  d1 : α
  d2 : α
  d3 : α
  d4 : α
deriving DecidableEq, Repr

/-- The value of one door. -/
def PerDoor.get {α : Type} (v : PerDoor α) : DoorId → α
  | .d1 => v.d1
  | .d2 => v.d2
  | .d3 => v.d3
  | .d4 => v.d4

/-- Replace the value of one door. -/
def PerDoor.set {α : Type} (v : PerDoor α) (d : DoorId) (x : α) : PerDoor α :=
  match d with
  | .d1 => { v with d1 := x }
  | .d2 => { v with d2 := x }
  | .d3 => { v with d3 := x }
  | .d4 => { v with d4 := x }

/-- Apply a function of the door's number to every door's value. -/
def PerDoor.mapIdx {α β : Type} (f : DoorId → α → β) (v : PerDoor α) : PerDoor β :=
  { d1 := f .d1 v.d1, d2 := f .d2 v.d2, d3 := f .d3 v.d3, d4 := f .d4 v.d4 }

/-- The four values in door order. -/
def PerDoor.toList {α : Type} (v : PerDoor α) : List α := [v.d1, v.d2, v.d3, v.d4]

/-- The input levels of one door: isolation input, closed-and-locked switch, fully-open switch, emergency
handle (section 7.1). -/
structure DoorLines where
  isolated : Bool
  lockMade : Bool
  openMade : Bool
  handle : Bool
deriving DecidableEq, Repr

/-- The levels of the part's level inputs: the chain pin and the neighbour sense of each car end (section
3.7), the door lines, whether another station pulls the brake loop (R111), channel-busy (R169) and whether
the supply monitor reads WARN (R192). -/
structure Levels where
  chainA : Bool
  chainB : Bool
  senseA : Bool
  senseB : Bool
  doors : PerDoor DoorLines
  loopOthers : Bool
  channelBusy : Bool
  supplyWarn : Bool
deriving DecidableEq, Repr

/-- The strap pins (00_scope.md 3.6, widths of section 11.6). -/
structure Straps where
  tare : BitVec 8
  pinionNom : BitVec 4
  wheelNom : BitVec 4
  orient : CarEnd
  carLen : BitVec 8
  wheelCirc : BitVec 8
  lineClass : BitVec 2
  strict : Bool
  radio : Bool
  radioAddr : BitVec 8
deriving DecidableEq, Repr

/-- A frame of the car line as its fields stand on the wire (section 3.2): header, payload, check, and
whether every bit of the end field was recessive. -/
structure LineFrame where
  priority : BitVec 2
  source : BitVec 3
  kind : BitVec 4
  length : BitVec 5
  payload : List Byte
  check : BitVec 16
  endClean : Bool
deriving DecidableEq, Repr

/-- The fields of a JOIN (R45). -/
structure JoinFields where
  number : Byte
  kind : BitVec 2
  last : Bool
  rejoin : Bool
  tare : BitVec 16
deriving DecidableEq, Repr

/-- The fields of a STATE (R44), each at its width on the wire. -/
structure StateReport where
  sequence : Byte
  stationState : BitVec 3
  direction : BitVec 2
  known : Bool
  holding : Bool
  latch : Bool
  speed : BitVec 16
  position : BitVec 24
  mass : BitVec 16
  capacity : BitVec 16
  applied : BitVec 16
  holdingCapacity : BitVec 16
  localLimit : BitVec 16
  summary : BitVec 2
  faultClass : BitVec 2
  valley : BitVec 2
  cabActive : Bool
  lastSequence : Byte
  grade : BitVec 16
deriving DecidableEq, Repr

/-- How a valley order reaches the part: in a RECEIVED message of its own modem, with the address the valley
frame carried (R153), or in an ORDER frame of another station (R158), with the frame's source. -/
inductive Via where
  | radio (address : Byte)
  | line (source : Fin 8)
deriving DecidableEq, Repr

/-- The commands of spec/opcode_table.json. A station is written as its number minus one, as in the source
field of a frame (00_scope.md 3.4). -/
inductive Instr where
  | toothEdge (m : Moment) (sensor : Pinion) (phase : Option (Fin 32))
  | wheelPulse (m : Moment) (channel1Leads : Bool)
  | sourceRest (m : Moment) (source : SpeedSource)
  | speedDisagreeExpiry (m : Moment)
  | speedAgreeExpiry (m : Moment)
  | standstillConfirmed (m : Moment)
  | trackMark (m : Moment) (dm : Nat)
  | gradeSampleExpiry (m : Moment) (reading : Option Int)
  | conditionHoldExpiry (m : Moment) (kind : HeldKind)
  | lineIdle (m : Moment)
  | contentionLost (m : Moment)
  | frameSent (m : Moment)
  | orderHoldOffExpiry (m : Moment)
  | chainOutActivate (m : Moment)
  | statePeriodExpiry (m : Moment)
  | accessTimeout (m : Moment)
  | joinRetry (m : Moment)
  | receiveJoin (m : Moment) (source : Fin 8) (fields : JoinFields)
  | receiveState (m : Moment) (source : Fin 8) (report : StateReport)
  | receiveAlert (m : Moment) (source : Fin 8) (kind : Byte) (station : Byte)
  | receiveInspectReply (m : Moment) (source : Fin 8) (payload : List Byte)
  | badFrame (m : Moment) (frame : LineFrame)
  | unknownFrameDropped (m : Moment) (frame : LineFrame)
  | lineQualityWindowEnd (m : Moment)
  | clashTimerExpiry (m : Moment)
  | neighbourSenseInput (m : Moment) (carEnd : CarEnd) (level : Bool)
  | neighbourSenseFiltered (m : Moment) (carEnd : CarEnd)
  | listenWindowEnd (m : Moment)
  | chainInChange (m : Moment) (carEnd : CarEnd) (level : Bool)
  | chainWaitExpiry (m : Moment)
  | completionWaitExpiry (m : Moment)
  | peerStale (m : Moment) (station : Fin 8)
  | peerLost (m : Moment) (station : Fin 8)
  | service (m : Moment) (source : Fin 8) (target : Byte) (param : BitVec 16)
  | release (m : Moment) (source : Fin 8) (target : Byte) (param : BitVec 16)
  | proof (m : Moment) (source : Fin 8) (target : Byte) (param : BitVec 16)
  | doorsRelease (m : Moment) (source : Fin 8) (target : Byte) (param : BitVec 16)
  | doorsClose (m : Moment) (source : Fin 8) (target : Byte) (param : BitVec 16)
  | consistReset (m : Moment) (source : Fin 8) (target : Byte) (param : BitVec 16)
  | inspect (m : Moment) (source : Fin 8) (target : Byte) (param : BitVec 16)
  | supervisionComputation (m : Moment)
  | brakeCycle (m : Moment)
  | pinionFailureTimeout (m : Moment) (pinion : Pinion)
  | proofSettleExpiry (m : Moment)
  | loopPulled (m : Moment)
  | loopReleased (m : Moment)
  | lockSwitchMade (m : Moment) (door : DoorId)
  | lockSwitchLost (m : Moment) (door : DoorId)
  | fullyOpenSwitch (m : Moment) (door : DoorId)
  | obstructionEdge (m : Moment) (door : DoorId)
  | openButton (m : Moment) (door : DoorId)
  | handleActive (m : Moment) (door : DoorId)
  | handleInactive (m : Moment) (door : DoorId)
  | doorOpeningTimeout (m : Moment) (door : DoorId)
  | doorClosingTimeout (m : Moment) (door : DoorId)
  | doorReopenExpiry (m : Moment) (door : DoorId)
  | linkStatus (m : Moment) (level : Byte)
  | modemMessageDiscarded (m : Moment) (bytes : List Byte)
  | restrict (m : Moment) (via : Via) (sequence : Byte) (orderId : BitVec 16) (start : BitVec 24)
      (length : BitVec 24) (limit : BitVec 16)
  | lift (m : Moment) (via : Via) (sequence : Byte) (orderId : BitVec 16)
  | halt (m : Moment) (via : Via) (sequence : Byte)
  | proceed (m : Moment) (via : Via) (sequence : Byte)
  | allHalt (m : Moment) (via : Via) (sequence : Byte)
  | platformRelease (m : Moment) (via : Via) (sequence : Byte) (side : Byte) (stop : BitVec 24)
  | supervise (m : Moment) (via : Via) (sequence : Byte)
  | linkStatusTimeout (m : Moment)
  | radioSupervisionExpiry (m : Moment)
  | positionReportExpiry (m : Moment)
  | sendMessageStart (m : Moment)
  | sendMessageDone (m : Moment)
  | channelBusyChange (m : Moment) (busy : Bool)
  | supplyWarn (m : Moment)
  | supplyGood (m : Moment)
  | dropOut (m : Moment)
  | storeHoldupExpiry (m : Moment)
  | powerOn (m : Moment) (levels : Levels) (checkFlips : BitVec 16)
  | strapsRead (m : Moment) (straps : Straps) (levels : Levels)
  | tenRecessiveBitTimes (m : Moment)
  | startBitOnLine (m : Moment)
  | orderFrameDiscarded (m : Moment) (source : Fin 8) (sequence : Byte) (valleyKind : Byte)
      (payload : List Byte)
deriving DecidableEq, Repr

end Sys2Proof
end

