-- ==== Sys2Proof/Machine/Frames.lean ====
section
/-! DEFINITION. The frames of the car line: the cyclic check (R41), the layouts of each kind (R43 to R46),
the good frames as values with their encoding, and the classification of a received frame (R55). -/

namespace Sys2Proof

/-- The bits of a field, most significant first (R39). -/
def bitsMsb {w : Nat} (x : BitVec w) : List Bool :=
  (List.range w).map fun i => x.getMsbD i

/-- One shift of the check register (R41): generator x^16 + x^12 + x^5 + 1. -/
def crcStep (r : BitVec 16) (b : Bool) : BitVec 16 :=
  let shifted := r <<< 1
  if (r.getMsbD 0) != b then shifted ^^^ 0x1021#16 else shifted

/-- The 16-bit cyclic check of R41: start FFFF, no final inversion. -/
def crc16 (bits : List Bool) : BitVec 16 :=
  bits.foldl crcStep 0xFFFF#16

/-- The bits the check of a frame covers: priority through the last payload bit (section 3.2). -/
def LineFrame.checkedBits (f : LineFrame) : List Bool :=
  bitsMsb f.priority ++ bitsMsb f.source ++ bitsMsb f.kind ++ bitsMsb f.length ++ f.payload.flatMap bitsMsb

/-- The bits of a frame as a station sends it (R40): the dominant start bit, header and payload, the check, seven
recessive end bits. Dominant is 0, recessive 1 (R39). -/
def LineFrame.wireBits (f : LineFrame) : List Bool :=
  false :: (f.checkedBits ++ bitsMsb f.check ++ List.replicate 7 true)

/-- The three recessive bits of the interframe gap (section 3.2). -/
def gapBits : List Bool := List.replicate 3 true

/-- The field whose bits arrive most significant first (R39). -/
def ofBitsMsb (w : Nat) (bits : List Bool) : BitVec w := BitVec.ofNat w (bits.foldl (fun n b => 2 * n + b.toNat) 0)

/-- A number of payload bytes, in line order (R39). -/
def readBytes : Nat → List Bool → List Byte
  | 0, _ => []
  | n + 1, bits => ofBitsMsb 8 (bits.take 8) :: readBytes n (bits.drop 8)

/-- What a receiver makes of the bits from a start bit on (R40): a whole frame taken at the last bit of its end field,
with the bits after it; a frame that its length field alone makes bad, with the bits after that field; or nothing yet. -/
inductive LineReading where
  | whole (frame : LineFrame) (rest : List Bool)
  | badLength (frame : LineFrame) (rest : List Bool)
  | unfinished
deriving DecidableEq, Repr

/-- The header of the bits after a start bit, payload and check still empty. -/
def readHeader (bits : List Bool) : LineFrame :=
  { priority := ofBitsMsb 2 (bits.take 2)
    source := ofBitsMsb 3 ((bits.drop 2).take 3)
    kind := ofBitsMsb 4 ((bits.drop 5).take 4)
    length := ofBitsMsb 5 ((bits.drop 9).take 5)
    payload := [], check := 0, endClean := true }

/-- The frame of the bits after a start bit: the length field says where the check and the end field stand (R40). -/
def readFields (bits : List Bool) : LineFrame :=
  let header := readHeader bits
  let body := bits.drop 14
  let tail := body.drop (8 * header.length.toNat)
  { header with
    payload := readBytes header.length.toNat body
    check := ofBitsMsb 16 (tail.take 16)
    endClean := ((tail.drop 16).take 7).all id }

/-- A receiver on the bits from a start bit on (R40). A line that stays recessive begins no frame. -/
def readFrame : List Bool → LineReading
  | false :: bits =>
    let header := readHeader bits
    let size := 37 + 8 * header.length.toNat
    if bits.length < 14 then .unfinished
    else if 24 < header.length.toNat then .badLength header (bits.drop 14)
    else if bits.length < size then .unfinished
    else .whole (readFields bits) (bits.drop size)
  | _ => .unfinished

/-- The bits after ten recessive ones in a row, `seen` of them before these bits, or none while they have not come: what
a receiver waits for after a start and after a frame bad at its length field (R39, R40). -/
def afterTenRecessive (seen : Nat) : List Bool → Option (List Bool)
  | [] => none
  | b :: bits =>
    if !b then afterTenRecessive 0 bits
    else if 9 ≤ seen then some bits
    else afterTenRecessive (seen + 1) bits

/-- Priority and source taken together, the value that decides contention: the lower wins (R42). -/
def LineFrame.contention (f : LineFrame) : Nat :=
  f.priority.toNat * 8 + f.source.toNat

/-- A transmitter that reads back a bit has lost its frame: in priority and source, bits 1 to 5 from the start bit, where
it sent recessive and reads dominant; from the kind field on, where it reads another level than it sent (R42). -/
def losesAt (bit : Nat) (sent read : Bool) : Bool :=
  if bit = 0 then false else if bit < 6 then sent && !read else sent != read

/-- What a transmitter has found on reading its frame back: sent to its last end bit, lost at a bit, or neither yet
(R42). -/
inductive ReadBack where
  | sent
  | lost (bit : Nat)
  | unfinished
deriving DecidableEq, Repr

/-- The bits of a frame from one position on, held against the line read back (R42). -/
def readBackFrom (bit : Nat) : List Bool → List Bool → ReadBack
  | [], _ => .sent
  | _ :: _, [] => .unfinished
  | sent :: more, read :: line => if losesAt bit sent read then .lost bit else readBackFrom (bit + 1) more line

/-- The line while two stations that began together drive their bits from one position on: dominant (0) where either is,
until one has lost its frame and stops driving (R39, R42). -/
def lineOfTwo (bit : Nat) : List Bool → List Bool → List Bool
  | [], b => b
  | a, [] => a
  | x :: a, y :: b =>
    let level := x && y
    level :: (if losesAt bit x level then b else if losesAt bit y level then a else lineOfTwo (bit + 1) a b)

/-- A frame in transmission, held against the line read back since its start bit (R42). -/
def LineFrame.readBack (f : LineFrame) (line : List Bool) : ReadBack := readBackFrom 0 f.wireBits line

/-- The subkinds of a COMMAND, in code order from 1 (R46). -/
inductive Subkind where
  | service | release | doorsRelease | doorsClose | proof | consistReset | inspect
deriving DecidableEq, Repr

/-- The code of a subkind (R46). -/
def Subkind.code : Subkind → Byte
  | .service => 1
  | .release => 2
  | .doorsRelease => 3
  | .doorsClose => 4
  | .proof => 5
  | .consistReset => 6
  | .inspect => 7

/-- The subkind of a code; 0 and codes above 7 are unknown (R46). -/
def Subkind.ofCode (c : Byte) : Option Subkind :=
  match c.toNat with
  | 1 => some .service
  | 2 => some .release
  | 3 => some .doorsRelease
  | 4 => some .doorsClose
  | 5 => some .proof
  | 6 => some .consistReset
  | 7 => some .inspect
  | _ => none

/-- A frame's contents by kind (R44 to R46), before any range is tested. -/
inductive FrameBody where
  | join (fields : JoinFields)
  | state (report : StateReport)
  | command (target : Byte) (sub : Subkind) (param : BitVec 16)
  | order (sequence : Byte) (valleyKind : Byte) (payload : List Byte)
  | alert (kind : Byte) (station : Byte)
  | inspectReply (payload : List Byte)
deriving DecidableEq, Repr

/-- The kind code of a frame (R43). -/
def FrameBody.kind : FrameBody → BitVec 4
  | .join _ => 1
  | .state _ => 2
  | .command _ _ _ => 3
  | .order _ _ _ => 4
  | .alert _ _ => 5
  | .inspectReply _ => 6

/-- The fixed priority of a kind code, for the six known kinds (R43). -/
def kindPriority (k : BitVec 4) : Option (BitVec 2) :=
  match k.toNat with
  | 1 => some 3
  | 2 => some 3
  | 3 => some 1
  | 4 => some 2
  | 5 => some 0
  | 6 => some 3
  | _ => none

/-- The payload lengths a kind code admits, in bytes (R43). -/
def kindLengthOk (k : BitVec 4) (n : Nat) : Bool :=
  match k.toNat with
  | 1 => n == 4
  | 2 => n == 21
  | 3 => n == 4
  | 4 => 2 ≤ n && n ≤ 18
  | 5 => n == 2
  | 6 => 4 ≤ n && n ≤ 24
  | _ => false

/-- The two bytes of a 16-bit field, most significant first (R39). -/
def bytes16 (x : BitVec 16) : List Byte := [x.extractLsb' 8 8, x.extractLsb' 0 8]

/-- The three bytes of a 24-bit field, most significant first (R39). -/
def bytes24 (x : BitVec 24) : List Byte := [x.extractLsb' 16 8, x.extractLsb' 8 8, x.extractLsb' 0 8]

/-- A flag as one bit. -/
def bit (b : Bool) : BitVec 1 := if b then 1 else 0

/-- The four bytes of a JOIN (R45). -/
def JoinFields.bytes (j : JoinFields) : List Byte :=
  [j.number, j.kind ++ bit j.last ++ bit j.rejoin ++ 0#4] ++ bytes16 j.tare

/-- The twenty-one bytes of a STATE (R44). -/
def StateReport.bytes (r : StateReport) : List Byte :=
  [r.sequence, r.stationState ++ r.direction ++ bit r.known ++ bit r.holding ++ bit r.latch]
    ++ bytes16 r.speed ++ bytes24 r.position ++ bytes16 r.mass ++ bytes16 r.capacity ++ bytes16 r.applied
    ++ bytes16 r.holdingCapacity ++ bytes16 r.localLimit
    ++ [r.summary ++ r.faultClass ++ r.valley ++ bit r.cabActive ++ 0#1, r.lastSequence] ++ bytes16 r.grade

/-- The payload of a frame (R44 to R46). -/
def FrameBody.payload : FrameBody → List Byte
  | .join j => j.bytes
  | .state r => r.bytes
  | .command target sub param => [target, sub.code] ++ bytes16 param
  | .order sequence valleyKind payload => [sequence, valleyKind] ++ payload
  | .alert kind station => [kind, station]
  | .inspectReply payload => payload

/-- Build a frame from its source and contents, with its kind's priority and its check (R41, R43). -/
def buildFrame (source : Fin 8) (body : FrameBody) : LineFrame :=
  let f : LineFrame :=
    { priority := (kindPriority body.kind).getD 0
      source := BitVec.ofNat 3 source.val
      kind := body.kind
      length := BitVec.ofNat 5 body.payload.length
      payload := body.payload
      check := 0
      endClean := true }
  { f with check := crc16 f.checkedBits }

/-- The fields of a JOIN payload; bits 3 to 0 of its second byte are ignored (R45). -/
def JoinFields.ofBytes : List Byte → Option JoinFields
  | [b0, b1, b2, b3] =>
    some { number := b0, kind := b1.extractLsb' 6 2, last := b1.getLsbD 5, rejoin := b1.getLsbD 4, tare := b2 ++ b3 }
  | _ => none

/-- The fields of a STATE payload; bit 0 of byte 17 is ignored (R44). -/
def StateReport.ofBytes : List Byte → Option StateReport
  | [b0, b1, b2, b3, b4, b5, b6, b7, b8, b9, b10, b11, b12, b13, b14, b15, b16, b17, b18, b19, b20] =>
    some
      { sequence := b0
        stationState := b1.extractLsb' 5 3
        direction := b1.extractLsb' 3 2
        known := b1.getLsbD 2
        holding := b1.getLsbD 1
        latch := b1.getLsbD 0
        speed := b2 ++ b3
        position := b4 ++ b5 ++ b6
        mass := b7 ++ b8
        capacity := b9 ++ b10
        applied := b11 ++ b12
        holdingCapacity := b13 ++ b14
        localLimit := b15 ++ b16
        summary := b17.extractLsb' 6 2
        faultClass := b17.extractLsb' 4 2
        valley := b17.extractLsb' 2 2
        cabActive := b17.getLsbD 1
        lastSequence := b18
        grade := b19 ++ b20 }
  | _ => none

/-- A JOIN's fields lie in the ranges of R45: number equal to source plus one, a defined kind, tare 100 to
355. -/
def JoinFields.ok (source : Fin 8) (j : JoinFields) : Bool :=
  j.number.toNat == source.val + 1 && j.kind.toNat ≤ 2 && 100 ≤ j.tare.toNat && j.tare.toNat ≤ 355

/-- A STATE's fields lie in the ranges of R44 and R55: defined codes, speed and local limit up to 400,
position up to 1 000 000, grade within ±500. -/
def StateReport.ok (r : StateReport) : Bool :=
  1 ≤ r.stationState.toNat && r.stationState.toNat ≤ 4 && r.direction.toNat ≤ 2 && r.speed.toNat ≤ 400
    && r.position.toNat ≤ 1000000 && r.localLimit.toNat ≤ 400 && r.summary.toNat ≤ 2 && r.valley.toNat ≤ 2
    && -500 ≤ r.grade.toInt && r.grade.toInt ≤ 500

/-- A COMMAND's fields lie in the ranges of R46, as R55 asks: target 0 to 8, a DOORS_RELEASE side 0 or 1, an INSPECT's
record set 1 to 5 (log entry 40). -/
def commandOk (target : Byte) (sub : Subkind) (param : BitVec 16) : Bool :=
  target.toNat ≤ 8 && (sub != .doorsRelease || param.toNat ≤ 1)
    && (sub != .inspect || (1 ≤ param.toNat && param.toNat ≤ 5))

/-- An ALERT's fields lie in the ranges of R55: fault kind 1 to 29, station number 1 to 8. -/
def alertOk (kind station : Byte) : Bool :=
  1 ≤ kind.toNat && kind.toNat ≤ 29 && 1 ≤ station.toNat && station.toNat ≤ 8

/-- A frame's contents lie in the ranges that make it good (R43, R55); a payload fits the lengths of its
kind. -/
def FrameBody.ok (source : Fin 8) : FrameBody → Bool
  | .join j => j.ok source
  | .state r => r.ok
  | .command target sub param => commandOk target sub param
  | .order _ _ payload => payload.length ≤ 16
  | .alert kind station => alertOk kind station
  | .inspectReply payload => 4 ≤ payload.length && payload.length ≤ 24

/-- What the line controller takes a received frame for at its last end bit (R55). -/
inductive FrameClass where
  | bad
  | unknown
  | good (source : Fin 8) (body : FrameBody)
deriving DecidableEq, Repr

/-- A frame's contents if its ranges hold, else bad (R55). -/
def goodOrBad (source : Fin 8) (body : Option FrameBody) : FrameClass :=
  match body with
  | some b => if b.ok source then .good source b else .bad
  | none => .bad

/-- Classify a COMMAND: a target above 8 is bad whatever the subkind (log entry 25); an unknown subkind is
dropped uncounted (R46). -/
def classifyCommand (source : Fin 8) : List Byte → FrameClass
  | [target, subCode, hi, lo] =>
    if 8 < target.toNat then .bad
    else match Subkind.ofCode subCode with
      | none => .unknown
      | some sub => goodOrBad source (some (.command target sub (hi ++ lo)))
  | _ => .bad

/-- Classify a payload by the frame's kind code (R43 to R46, R55). -/
def classifyBody (source : Fin 8) (kind : BitVec 4) (payload : List Byte) : FrameClass :=
  match kind.toNat with
  | 1 => goodOrBad source ((JoinFields.ofBytes payload).map .join)
  | 2 => goodOrBad source ((StateReport.ofBytes payload).map .state)
  | 3 => classifyCommand source payload
  | 4 =>
    match payload with
    | sequence :: valleyKind :: rest => goodOrBad source (some (.order sequence valleyKind rest))
    | _ => .bad
  | 5 =>
    match payload with
    | [kind, station] => goodOrBad source (some (.alert kind station))
    | _ => .bad
  | 6 => goodOrBad source (some (.inspectReply payload))
  | _ => .unknown

/-- Classify a received frame at its last end bit (R40, R43, R55): a length above 24, a payload that is not as
long as the length field says, a check that does not match or a dominant end bit makes it bad; then an
unknown kind is dropped; a known kind with another priority or length is bad; then the ranges decide. That the first
tests make a frame of unknown kind bad too, and so counted, is the model's choice (log entry 45). -/
def classify (f : LineFrame) : FrameClass :=
  if 24 < f.length.toNat || f.payload.length != f.length.toNat || f.check != crc16 f.checkedBits || !f.endClean then
    .bad
  else match kindPriority f.kind with
    | none => .unknown
    | some p =>
      if p != f.priority || !kindLengthOk f.kind f.length.toNat then .bad
      else classifyBody f.source.toFin f.kind f.payload

end Sys2Proof
end

