-- ==== Sys2Proof/Machine/RadioFrames.lean ====
section
/-! DEFINITION. The modem port's messages and the valley frames in them (R149 to R153, R159): layouts,
encoding, classification, and the command that a raw message or a raw line frame stands for (R55, R151). -/

namespace Sys2Proof

/-- A valley order by kind, with its payload fields at their widths (R159). -/
inductive ValleyOrder where
  | restrict (orderId : BitVec 16) (start : BitVec 24) (length : BitVec 24) (limit : BitVec 16)
  | lift (orderId : BitVec 16)
  | halt
  | proceed
  | platformRelease (side : Byte) (stop : BitVec 24)
  | supervise
  | allHalt
deriving DecidableEq, Repr

/-- The valley kind code of an order (R159). -/
def ValleyOrder.code : ValleyOrder → Byte
  | .restrict _ _ _ _ => 1
  | .lift _ => 2
  | .halt => 3
  | .proceed => 4
  | .platformRelease _ _ => 5
  | .supervise => 6
  | .allHalt => 7

/-- The payload bytes of an order (R159). -/
def ValleyOrder.payload : ValleyOrder → List Byte
  | .restrict orderId start length limit => bytes16 orderId ++ bytes24 start ++ bytes24 length ++ bytes16 limit
  | .lift orderId => bytes16 orderId
  | .platformRelease side stop => [side] ++ bytes24 stop
  | .halt => []
  | .proceed => []
  | .supervise => []
  | .allHalt => []

/-- Every coded payload field of the order holds a defined value: a line side above 1 is undefined (R153). -/
def ValleyOrder.ok : ValleyOrder → Bool
  | .platformRelease side _ => side.toNat ≤ 1
  | .restrict _ _ _ _ => true
  | .lift _ => true
  | .halt => true
  | .proceed => true
  | .supervise => true
  | .allHalt => true

/-- The kind test of R153 step 3: one of the seven kinds, its payload length, defined coded fields. -/
def valleyOrder? (kind : Byte) (payload : List Byte) : Option ValleyOrder :=
  match kind.toNat, payload with
  | 1, [i1, i0, s2, s1, s0, n2, n1, n0, l1, l0] => some (.restrict (i1 ++ i0) (s2 ++ s1 ++ s0) (n2 ++ n1 ++ n0) (l1 ++ l0))
  | 2, [i1, i0] => some (.lift (i1 ++ i0))
  | 3, [] => some .halt
  | 4, [] => some .proceed
  | 5, [side, s2, s1, s0] => if side.toNat ≤ 1 then some (.platformRelease side (s2 ++ s1 ++ s0)) else none
  | 6, [] => some .supervise
  | 7, [] => some .allHalt
  | _, _ => none

/-- The check of a valley frame, over its bytes from address through payload (R150). -/
def valleyCheck (bytes : List Byte) : BitVec 16 := crc16 (bytes.flatMap bitsMsb)

/-- The bytes of a valley frame: address, sequence, kind, length, payload, check (R150). -/
def valleyFrameBytes (address sequence kind : Byte) (payload : List Byte) : List Byte :=
  let covered := [address, sequence, kind, BitVec.ofNat 8 payload.length] ++ payload
  covered ++ bytes16 (valleyCheck covered)

/-- What a message received on the modem port is (R151). -/
inductive ModemMessage where
  | linkStatus (level : Byte)
  | received (address sequence kind : Byte) (payload : List Byte) (check : BitVec 16)
  | discarded
deriving DecidableEq, Repr

/-- A RECEIVED message's frame, given its first four bytes and the rest: length byte 16 or less and exactly
length + 2 bytes after it (R151). -/
def receivedFrame (address sequence kind length : Byte) (rest : List Byte) : ModemMessage :=
  if length.toNat ≤ 16 && rest.length == length.toNat + 2 then
    match rest.drop length.toNat with
    | [hi, lo] => .received address sequence kind (rest.take length.toNat) (hi ++ lo)
    | _ => .discarded
  else .discarded

/-- Classify a message at its end (R151). -/
def classifyMessage : List Byte → ModemMessage
  | [] => .discarded
  | type :: rest =>
    match type.toNat, rest with
    | 1, [level] => .linkStatus level
    | 2, address :: sequence :: kind :: length :: more => receivedFrame address sequence kind length more
    | _, _ => .discarded

/-- The three tests of R153 on a received valley frame; the address test is made against the strap. -/
def acceptFrame (radioAddr : BitVec 8) (address sequence kind : Byte) (payload : List Byte) (check : BitVec 16) :
    Option ValleyOrder :=
  if check == valleyCheck ([address, sequence, kind, BitVec.ofNat 8 payload.length] ++ payload)
      && (address == radioAddr || address == 255) then
    valleyOrder? kind payload
  else none

/-- The command of an order that arrives by a path. -/
def orderCommand (m : Moment) (via : Via) (sequence : Byte) : ValleyOrder → Instr
  | .restrict orderId start length limit => .restrict m via sequence orderId start length limit
  | .lift orderId => .lift m via sequence orderId
  | .halt => .halt m via sequence
  | .proceed => .proceed m via sequence
  | .platformRelease side stop => .platformRelease m via sequence side stop
  | .supervise => .supervise m via sequence
  | .allHalt => .allHalt m via sequence

/-- The command of a COMMAND frame, by its subkind (R79). -/
def subkindCommand (m : Moment) (source : Fin 8) (target : Byte) (param : BitVec 16) : Subkind → Instr
  | .service => .service m source target param
  | .release => .release m source target param
  | .doorsRelease => .doorsRelease m source target param
  | .doorsClose => .doorsClose m source target param
  | .proof => .proof m source target param
  | .consistReset => .consistReset m source target param
  | .inspect => .inspect m source target param

/-- The command that a frame received on the car line stands for (R55): where a good frame is handed, and
which row a bad, unknown or discarded one is. -/
def commandOfFrame (m : Moment) (f : LineFrame) : Instr :=
  match classify f with
  | .bad => .badFrame m f
  | .unknown => .unknownFrameDropped m f
  | .good source (.join fields) => .receiveJoin m source fields
  | .good source (.state report) => .receiveState m source report
  | .good source (.command target sub param) => subkindCommand m source target param sub
  | .good source (.alert kind station) => .receiveAlert m source kind station
  | .good source (.inspectReply payload) => .receiveInspectReply m source payload
  | .good source (.order sequence valleyKind payload) =>
    match valleyOrder? valleyKind payload with
    | some order => orderCommand m (.line source) sequence order
    | none => .orderFrameDiscarded m source sequence valleyKind payload

/-- The command that the bits on the car line from a start bit on stand for, at the last end bit of a whole frame or at
the length field of one that it makes bad (R40, R55); none before. -/
def commandOfBits (m : Moment) (bits : List Bool) : Option Instr :=
  match readFrame bits with
  | .whole frame _ => some (commandOfFrame m frame)
  | .badLength frame _ => some (commandOfFrame m frame)
  | .unfinished => none

/-- The commands that the line stands for to a station that transmits a frame, read back since its start bit: FRAME_SENT
at the last end bit; or CONTENTION_LOST at the bit that loses it, and then, at its own end, the frame that stands on the
line, which the station goes on receiving (R42). -/
def commandsOfTransmission (lost ended : Moment) (f : LineFrame) (line : List Bool) : List Instr :=
  match f.readBack line with
  | .sent => [.frameSent ended]
  | .lost _ => .contentionLost lost :: (commandOfBits ended line).toList
  | .unfinished => []

/-- A character received on the modem port (R149). -/
structure ModemCharacter where
  /-- How long the receive line was silent before it, us. -/
  silence : Nat
  byte : Byte
deriving DecidableEq, Repr

/-- The silence that delimits messages, us (R151). -/
def modemSilence : Nat := 1000

/-- The messages that end among these characters and the silence after them, in order (R151), going on with the message
begun before them, if one has. A character belongs to no message while none has begun. -/
def modemMessages (begun : Option (List Byte)) (silenceAfter : Nat) : List ModemCharacter → List (List Byte)
  | [] => if modemSilence ≤ silenceAfter then begun.toList else []
  | c :: more =>
    if modemSilence ≤ c.silence then begun.toList ++ modemMessages (some [c.byte]) silenceAfter more
    else modemMessages (begun.map fun bytes => bytes ++ [c.byte]) silenceAfter more

/-- The command that a message received on the modem port stands for, in a station strapped with
`radioAddr` (R151, R153). -/
def commandOfMessage (radioAddr : BitVec 8) (m : Moment) (bytes : List Byte) : Instr :=
  match classifyMessage bytes with
  | .linkStatus level => .linkStatus m level
  | .discarded => .modemMessageDiscarded m bytes
  | .received address sequence kind payload check =>
    match acceptFrame radioAddr address sequence kind payload check with
    | some order => orderCommand m (.radio address) sequence order
    | none => .modemMessageDiscarded m bytes

/-- The commands that characters received on the modem port stand for, one at the end of each message, at its moment
(R151). -/
def commandsOfCharacters (radioAddr : BitVec 8) (moment : Nat → Moment) (silenceAfter : Nat)
    (characters : List ModemCharacter) : List Instr :=
  (modemMessages none silenceAfter characters).mapIdx fun i => commandOfMessage radioAddr (moment i)

end Sys2Proof
end

