-- ==== Sys2Proof/WellFormed.lean ====
section
/-! DEFINITION. Which commands spell an event of their row: a frame named bad is bad, a received frame's fields
lie in their ranges, and so on. `exec` is total on the others too: a JOIN whose fields are out of range is
taken as the bad frame it is (R55), evidence that does not show its row's event has no effect (log entry 27). -/

namespace Sys2Proof

/-- The command spells an event of its row. -/
def Instr.wellFormed : Instr → Bool
  | .receiveJoin _ source fields => fields.ok source
  | .receiveState _ _ report => report.ok
  | .receiveAlert _ _ kind station => alertOk kind station
  | .receiveInspectReply _ _ payload => 4 ≤ payload.length && payload.length ≤ 24
  | .badFrame _ frame => classify frame == .bad
  | .unknownFrameDropped _ frame => classify frame == .unknown
  | .service _ _ target param => commandOk target .service param
  | .release _ _ target param => commandOk target .release param
  | .proof _ _ target param => commandOk target .proof param
  | .doorsRelease _ _ target param => commandOk target .doorsRelease param
  | .doorsClose _ _ target param => commandOk target .doorsClose param
  | .consistReset _ _ target param => commandOk target .consistReset param
  | .inspect _ _ target param => commandOk target .inspect param
  | .platformRelease _ _ _ side stop => (ValleyOrder.platformRelease side stop).ok
  | .orderFrameDiscarded _ _ _ valleyKind payload =>
    payload.length ≤ 16 && (valleyOrder? valleyKind payload).isNone
  | .modemMessageDiscarded _ bytes =>
    match classifyMessage bytes with
    | .linkStatus _ => false
    | .received _ _ _ _ _ => true
    | .discarded => true
  | .toothEdge _ _ _ => true
  | .wheelPulse _ _ => true
  | .sourceRest _ _ => true
  | .speedDisagreeExpiry _ => true
  | .speedAgreeExpiry _ => true
  | .standstillConfirmed _ => true
  | .trackMark _ _ => true
  | .gradeSampleExpiry _ _ => true
  | .conditionHoldExpiry _ _ => true
  | .lineIdle _ => true
  | .contentionLost _ => true
  | .frameSent _ => true
  | .orderHoldOffExpiry _ => true
  | .chainOutActivate _ => true
  | .statePeriodExpiry _ => true
  | .accessTimeout _ => true
  | .joinRetry _ => true
  | .lineQualityWindowEnd _ => true
  | .clashTimerExpiry _ => true
  | .neighbourSenseInput _ _ _ => true
  | .neighbourSenseFiltered _ _ => true
  | .listenWindowEnd _ => true
  | .chainInChange _ _ _ => true
  | .chainWaitExpiry _ => true
  | .completionWaitExpiry _ => true
  | .peerStale _ _ => true
  | .peerLost _ _ => true
  | .supervisionComputation _ => true
  | .brakeCycle _ => true
  | .pinionFailureTimeout _ _ => true
  | .proofSettleExpiry _ => true
  | .loopPulled _ => true
  | .loopReleased _ => true
  | .lockSwitchMade _ _ => true
  | .lockSwitchLost _ _ => true
  | .fullyOpenSwitch _ _ => true
  | .obstructionEdge _ _ => true
  | .openButton _ _ => true
  | .handleActive _ _ => true
  | .handleInactive _ _ => true
  | .doorOpeningTimeout _ _ => true
  | .doorClosingTimeout _ _ => true
  | .doorReopenExpiry _ _ => true
  | .linkStatus _ _ => true
  | .restrict _ _ _ _ _ _ _ => true
  | .lift _ _ _ _ => true
  | .halt _ _ _ => true
  | .proceed _ _ _ => true
  | .allHalt _ _ _ => true
  | .supervise _ _ _ => true
  | .linkStatusTimeout _ => true
  | .radioSupervisionExpiry _ => true
  | .positionReportExpiry _ => true
  | .sendMessageStart _ => true
  | .sendMessageDone _ => true
  | .channelBusyChange _ _ => true
  | .supplyWarn _ => true
  | .supplyGood _ => true
  | .dropOut _ => true
  | .storeHoldupExpiry _ => true
  | .powerOn _ _ _ => true
  | .strapsRead _ _ _ => true
  | .tenRecessiveBitTimes _ => true
  | .startBitOnLine _ => true

end Sys2Proof
end

