-- ==== Sys2Proof/Decode.lean ====
section
/-! DEFINITION. Words and commands: no row of spec/opcode_table.json has bits, so no word spells a command.
What the part does decode, frames of the car line and messages of the modem port, is in Machine/Frames.lean and
Machine/RadioFrames.lean. -/

namespace Sys2Proof

/-- The command that a word of `nbits` bits spells by the table's bits: none, since no row of the table has
any. -/
def decodeTableWord (_nbits _w : Nat) : Option Instr := none

end Sys2Proof
end

