-- ==== Sys2Proof/Machine/State.lean ====
section
/-! DEFINITION. The state of the part: every piece of state the spec names, block by block (00_scope.md 1.2), as
plain data; the named updates; the state after reset. -/

namespace Sys2Proof.Machine

/-! ## Faults and refusals of the machine -/

/-- The part has no stop: no rule of the spec halts it, so no command faults and the type is empty. The 29
fault kinds of chapter 10 are `FaultKind`, held in `State`. -/
inductive Fault where
deriving DecidableEq, Repr

/-- Why a command has no meaning. -/
inductive Refusal where
  /-- Raised by `exec` alone, for a row of the table that has no meaning yet; safe. No arm raises it. -/
  | notModelled (mnemonic : String)
deriving DecidableEq, Repr

/-! ## Timers -/

/-- A timer: stopped, or running since a reading of the clock in µs. -/
abbrev Timer := Option Nat

/-! ## Rack sensing unit (chapter 1) -/

/-- The state of the rack sensing unit (R1 to R17). -/
structure Rack where
  /-- arrival of the previous sensor 1 edge (R1) -/
  toothRef : Option Nat
  /-- tooth speed computed at the last sensor 1 edge, mm/s (R3) -/
  toothEdgeSpeed : Nat
  /-- tooth speed as last evaluated, mm/s (R3) -/
  toothSpeed : Nat
  /-- arrival of the previous wheel pulse (R2) -/
  wheelRef : Option Nat
  /-- wheel speed computed at the last wheel pulse, mm/s (R3) -/
  wheelEdgeSpeed : Nat
  /-- wheel speed as last evaluated, mm/s (R3) -/
  wheelSpeed : Nat
  /-- reported speed, mm/s (R6) -/
  reported : Nat
  /-- last wheel direction (R2) -/
  lastWheelDir : Direction
  /-- direction of the latest wheel pulse since standstill was left (R6) -/
  movingDir : Direction
  /-- standstill is STANDSTILL (R9) -/
  standstill : Bool
  standstillTimer : Timer
  disagreeTimer : Timer
  agreeTimer : Timer
  /-- rack presence is PRESENT (R4, R5) -/
  present : Bool
  /-- rack absence distance, hundredths of mm (R5) -/
  absence : Nat
  /-- travel since the last track mark, hundredths of mm (R11) -/
  travel : Int
  /-- uncounted wheel travel, hundredths of mm (R11) -/
  uncounted : Int
  pendingTeeth : Nat
  /-- mark base, dm (R13) -/
  markBase : Nat
  /-- position state is KNOWN (R13) -/
  known : Bool
  /-- last sixteen entered grade samples, oldest first (R15) -/
  ring : List Int
  lastValid : Option Int
  invalidCount : Nat
  validCount : Nat
  /-- published grade, per mille (R17) -/
  grade : Int
  /-- start of the running 10 ms grade sample period (R15) -/
  sampleStart : Nat
deriving DecidableEq, Repr

/-! ## Engagement monitor (chapter 2) -/

/-- Status of a window record (R20). -/
inductive WindowStatus where
  | invalid | sweeping | valid | failWide | failSparse
deriving DecidableEq, Repr

/-- A window record (section 2.1). -/
structure Window where
  status : WindowStatus
  hits : BitVec 32
  lower : Nat
  upper : Nat
  width : Nat
  inArc : Nat
deriving DecidableEq, Repr

/-- Cleared fields (R20) under a status. -/
def Window.cleared (status : WindowStatus) : Window :=
  { status := status, hits := 0, lower := 0, upper := 0, width := 0, inArc := 0 }

/-- One pinion's record and working state (section 2.1). -/
structure PinionMonitor where
  window : Window
  settle : Nat
  histogram : Vector Nat 32
  counted : Nat
  slip : Nat
deriving DecidableEq, Repr

/-- The engagement monitor. -/
structure Engagement where
  pinions : PerPinion PinionMonitor
  climbOutHold : Timer
  calibrationHold : Timer
deriving DecidableEq, Repr

/-! ## Fault kinds (chapter 10) -/

/-- The 29 fault kinds, in code order (section 10.1). -/
inductive FaultKind where
  | climbOut | overspeedHard | holdInadequate | valleyAllHalt | supplyFail | calibrationFail | peerLost
  | numberClash | consistChanged | consistIncomplete | cabConflict | speedDisagree | gradeSensor | brakeFade
  | pinionFailed | proofFail | doorForced | holdMargin | valleyHalt | lineQuality | lineCongestion | arithLimit
  | doorTimeout | doorObstructed | valleyLost | restrictionOverflow | slipEvent | positionUnknown | loadSensor
deriving DecidableEq, Repr

/-- The three classes of fault. -/
inductive FaultClass where
  | a | b | c
deriving DecidableEq, Repr

/-- A record of the fault table (section 10.2). -/
structure FaultRecord where
  kind : FaultKind
  cls : FaultClass
  active : Bool
  count : Nat
deriving DecidableEq, Repr

/-- The fault manager: one condition flag per kind, by code minus one, and the fault table (R183, R184). -/
structure Faults where
  flags : Vector Bool 29
  table : List FaultRecord
deriving DecidableEq, Repr

/-! ## Line controller (chapter 3) -/

/-- Enumeration phase (section 3.7). -/
inductive LinePhase where
  | listening | chainWait | joinWaiting | completionWait | complete | silent
deriving DecidableEq, Repr

/-- The line as the station takes it: busy until ten recessive bit times after a start, ignored until ten
recessive bit times after a frame bad at its length field (R40), idle, or busy (R39). -/
inductive Bus where
  | awaitingTen | ignoringUntilTen | idle | busy
deriving DecidableEq, Repr

/-- The four transmit slots (section 3.5). -/
inductive Slot where
  | alert | order | state | reply
deriving DecidableEq, Repr

/-- What a frame of the STATE slot is: a STATE, or a JOIN with its last and rejoin flags (R52). -/
inductive StateSlotKind where
  | state
  | join (last rejoin : Bool)
deriving DecidableEq, Repr

/-- A frame of the STATE slot with its placing time, from which its access timeout runs, and whether that
timeout ran out while it was in transmission (R52). -/
structure HeldFrame where
  frame : LineFrame
  kind : StateSlotKind
  placedAt : Nat
  late : Bool
deriving DecidableEq, Repr

/-- One neighbour sense: its filtered level and, while the raw level differs, the time since when (R58). -/
structure Sense where
  filtered : Bool
  changing : Timer
deriving DecidableEq, Repr

/-- The line controller. -/
structure Line where
  /-- own number minus one (R59, R60) -/
  own : Option (Fin 8)
  phase : LinePhase
  /-- JOIN_WAITING of a warm restart (R63) -/
  rejoin : Bool
  highestHeard : Nat
  chainOut : Bool
  chainOutDue : Timer
  senseA : Sense
  senseB : Sense
  /-- references of the senses at END_A and END_B (R61) -/
  references : Option (Bool × Bool)
  listenTimer : Timer
  chainWaitTimer : Timer
  completionTimer : Timer
  joinRetry : Timer
  statePeriod : Timer
  orderHoldOff : Timer
  /-- the hold-off has ended in this idle of the line: the ORDER slot is passed over to the next idle (R51) -/
  orderPassed : Bool
  qualityStart : Nat
  badCount : Nat
  clashTimer : Timer
  discards : Nat
  nextSequence : Byte
  alert : Option LineFrame
  alertBehind : Option LineFrame
  orders : List LineFrame
  stateSlot : Option HeldFrame
  stateBehind : Option HeldFrame
  replies : List LineFrame
  /-- slot whose oldest frame is in transmission -/
  sending : Option Slot
  bus : Bus
deriving DecidableEq, Repr

/-! ## Peer table (chapter 4) -/

/-- State of an entry (section 4.1); `self` marks the own number (R66). -/
inductive PeerState where
  | empty | joined | fresh | stale | lost | self
deriving DecidableEq, Repr

/-- Kind of a peer (section 4.1). -/
inductive PeerKind where
  | car | traction | cab | notKnown
deriving DecidableEq, Repr

/-- An entry of the peer table. The age is held as the clock reading from which it counts. -/
structure PeerEntry where
  state : PeerState
  kind : PeerKind
  /-- kg -/
  tare : Nat
  contents : Option StateReport
  ageFrom : Timer
  lastAlert : Option FaultKind
deriving DecidableEq, Repr

/-- An EMPTY entry (R80). -/
def PeerEntry.blank : PeerEntry :=
  { state := .empty, kind := .notKnown, tare := 0, contents := none, ageFrom := none, lastAlert := none }

/-! ## Speed supervisor (chapter 5) -/

/-- The speed supervisor and the arithmetic-limit flag. -/
structure Speed where
  superStart : Nat
  localLimit : Nat
  /-- candidate and hold start time (R93) -/
  raiseHold : Option (Nat × Nat)
  enforced : Nat
  hardRef : Nat
  buildUp : Nat
  descending : Bool
  /-- the intervention demand of 600 mm/s² stands (R97) -/
  intervening : Bool
  arithLimit : Bool
deriving DecidableEq, Repr

/-! ## Brake controller (chapter 6) -/

/-- Command mode of a pinion output (R102). -/
inductive PinionMode where
  | full | test
  | service (force : Nat)
deriving DecidableEq, Repr

/-- Command mode of the wheel output (R102). -/
inductive WheelMode where
  | full
  | service (force : Nat)
deriving DecidableEq, Repr

/-- State of the proof record (R119). -/
inductive ProofState where
  | idle | running | done | aborted
deriving DecidableEq, Repr

/-- Phase of a running proof test (R119). -/
inductive ProofPhase where
  | p1Settle | p1Sample | p2Settle | p2Sample
deriving DecidableEq, Repr

/-- Result of one pinion's measurement (R119). -/
inductive ProofResult where
  | notRun | pass | fail
deriving DecidableEq, Repr

/-- Abort reason (R119). -/
inductive AbortReason where
  | none | motion | emergency
deriving DecidableEq, Repr

/-- Last refusal (R119). -/
inductive ProofRefusal where
  | none | notHeld | notStandstill | emergency | running
deriving DecidableEq, Repr

/-- The proof record (R119). -/
structure ProofRecord where
  state : ProofState
  phase : ProofPhase
  results : PerPinion ProofResult
  forces : PerPinion Nat
  reason : AbortReason
  pulses : Nat
  lastRefusal : ProofRefusal
  refusals : Nat
deriving DecidableEq, Repr

/-- One pinion brake (section 6.1). -/
structure PinionBrake where
  /-- marked FAILED (R117) -/
  failed : Bool
  /-- J (R114) -/
  energy : Nat
  /-- N (R115) -/
  derated : Nat
  fade : Bool
  failTimer : Timer
  /-- split of the own service force from the last cycle, N (R108) -/
  split : Nat
  mode : PinionMode
deriving DecidableEq, Repr

/-- The brake controller. -/
structure Brake where
  cycleStart : Nat
  cabDemand : Nat
  target : Nat
  /-- holding state is APPLIED (R109) -/
  applied : Bool
  releasePending : Bool
  latch : Bool
  ownPull : Bool
  pinions : PerPinion PinionBrake
  /-- own service force F, N (R107) -/
  force : Nat
  wheel : WheelMode
  proof : ProofRecord
  sampleSum : Nat
  sampleCount : Nat
  settleTimer : Timer
  autoProof : Bool
deriving DecidableEq, Repr

/-! ## Door controller (chapter 7) -/

/-- Door state (section 7.1). -/
inductive DoorState where
  | locked | released | opening | opened | closing | reopening | forced | isolated
deriving DecidableEq, Repr

/-- The record of one door (section 7.1). -/
structure Door where
  state : DoorState
  attempts : Nat
  timer : Timer
  handleRelease : Bool
  handleAlarm : Bool
  timeoutFlag : Bool
  obstructionFlag : Bool
deriving DecidableEq, Repr

/-- The door controller. -/
structure DoorControl where
  doors : PerDoor Door
  releaseA : Bool
  releaseB : Bool
  latchPending : Bool
  /-- kg -/
  mass : Nat
deriving DecidableEq, Repr

/-! ## Valley radio unit (chapter 8) -/

/-- Valley status (R154, R155). -/
inductive ValleyStatus where
  | notFitted | alive | lost
deriving DecidableEq, Repr

/-- The platform release record while PRESENT (section 8.5). -/
structure Platform where
  side : LineSide
  /-- dm -/
  stop : Nat
  sequence : Byte
deriving DecidableEq, Repr

/-- Result of an order (R159). -/
inductive OrderResult where
  | accepted | acceptedCeiling | refusedRange
deriving DecidableEq, Repr

/-- What an outgoing frame carries (R166). -/
inductive OutPayload where
  | report (station : Byte) (known : Bool) (direction : BitVec 2) (latch lost : Bool) (position : BitVec 24)
      (speed enforced : BitVec 16) (summary faultClass : BitVec 2) (restrictions : Byte)
  | ack (station : Byte) (sequence : Byte) (result : OrderResult)
deriving DecidableEq, Repr

/-- An outgoing frame as built: address, radio sequence, payload (R166). -/
structure OutFrame where
  address : Byte
  sequence : Byte
  payload : OutPayload
deriving DecidableEq, Repr

/-- Which frame a SEND message in progress holds (R169). -/
inductive RadioSending where
  | ack | report
deriving DecidableEq, Repr

/-- The valley radio unit. -/
structure Radio where
  status : ValleyStatus
  supervision : Timer
  linkTimer : Timer
  lastLink : Byte
  /-- duplicate window, oldest first (R156) -/
  window : List Byte
  platform : Option Platform
  acks : List OutFrame
  report : Option OutFrame
  reportBehind : Option OutFrame
  sending : Option RadioSending
  radioSequence : Byte
  reportTimer : Timer
  /-- valley contact is lost consist-wide (R165) -/
  lostWide : Bool
deriving DecidableEq, Repr

/-! ## Restriction table (chapter 9) -/

/-- A restriction entry (section 9.1). -/
structure Restriction where
  orderId : BitVec 16
  /-- dm -/
  start : Nat
  /-- dm -/
  stop : Nat
  /-- 0.1 km/h -/
  limit : Nat
  /-- state is COVERING -/
  covering : Bool
deriving DecidableEq, Repr

/-- The restriction table. -/
structure Restrictions where
  entries : List Restriction
  overflow : Option Nat
deriving DecidableEq, Repr

/-! ## Station state and retained store (chapter 11) -/

/-- Station state (section 11.1); `off` while the part has no supply (R198). -/
inductive Life where
  | off | cold | joining | proving | ready | resuming
deriving DecidableEq, Repr

/-- The retained items of R193. -/
structure Retained where
  own : Option (Fin 8)
  /-- by station number: kind and tare of every entry that is not EMPTY and not SELF (R81) -/
  peers : List (Option (PeerKind × Nat))
  energies : PerPinion Nat
  failed : PerPinion Bool
  latch : Bool
  proof : ProofRecord
  windows : PerPinion Window
  restrictions : Restrictions
  window : List Byte
  mass : Nat
  faults : List FaultRecord
deriving DecidableEq, Repr

/-- The retained store: strap copy, validity mark, integrity check, items (R197, R198). -/
structure Store where
  straps : Straps
  valid : Bool
  check : BitVec 16
  items : Retained
deriving DecidableEq, Repr

/-- The station state block. -/
structure Station where
  life : Life
  /-- the controlled stop keeps the store equal to the items (R193) -/
  storing : Bool
  /-- when the part lost its supply (R198) -/
  droppedAt : Timer
deriving DecidableEq, Repr

/-- The input lines as they stand: the level inputs, and what the load sensor and the force feedback sensors
read at the last command (log entry 1). -/
structure Pins where
  levels : Levels
  load : Option Int
  force1 : Int
  force2 : Int
deriving DecidableEq, Repr

/-- The whole state of the part, the queue of waiting commands, the clock in µs, and the counter of free
values drawn. -/
structure State where
  pending : List Instr
  clock : Nat
  freeCount : Nat
  pins : Pins
  rack : Rack
  engagement : Engagement
  line : Line
  peers : Vector PeerEntry 8
  speed : Speed
  brake : Brake
  doors : DoorControl
  radio : Radio
  restrictions : Restrictions
  faults : Faults
  station : Station
  store : Store
deriving DecidableEq, Repr

/-! ## Named updates: one per field of `State` -/

def State.setPending (s : State) (v : List Instr) : State := { s with pending := v }
def State.setClock (s : State) (v : Nat) : State := { s with clock := v }
def State.setFreeCount (s : State) (v : Nat) : State := { s with freeCount := v }
def State.setPins (s : State) (v : Pins) : State := { s with pins := v }
def State.setRack (s : State) (v : Rack) : State := { s with rack := v }
def State.setEngagement (s : State) (v : Engagement) : State := { s with engagement := v }
def State.setLine (s : State) (v : Line) : State := { s with line := v }
def State.setPeers (s : State) (v : Vector PeerEntry 8) : State := { s with peers := v }
def State.setSpeed (s : State) (v : Speed) : State := { s with speed := v }
def State.setBrake (s : State) (v : Brake) : State := { s with brake := v }
def State.setDoors (s : State) (v : DoorControl) : State := { s with doors := v }
def State.setRadio (s : State) (v : Radio) : State := { s with radio := v }
def State.setRestrictions (s : State) (v : Restrictions) : State := { s with restrictions := v }
def State.setFaults (s : State) (v : Faults) : State := { s with faults := v }
def State.setStation (s : State) (v : Station) : State := { s with station := v }
def State.setStore (s : State) (v : Store) : State := { s with store := v }

/-! ## Start values: the cold start tables of each block (R18, R36, R65, R80, R100, R124, R146, R170, R181, R195) -/

/-- R18, cold start and warm restart. -/
def Rack.initial : Rack :=
  { toothRef := none, toothEdgeSpeed := 0, toothSpeed := 0, wheelRef := none, wheelEdgeSpeed := 0, wheelSpeed := 0
    reported := 0, lastWheelDir := .none, movingDir := .none, standstill := true, standstillTimer := none
    disagreeTimer := none, agreeTimer := none, present := false, absence := 0, travel := 0, uncounted := 0
    pendingTeeth := 0, markBase := 0, known := false, ring := [], lastValid := none, invalidCount := 0, validCount := 0
    grade := 500, sampleStart := 0 }

/-- R36, one pinion. -/
def PinionMonitor.initial : PinionMonitor :=
  { window := Window.cleared .invalid, settle := 0, histogram := Vector.replicate 32 0, counted := 0, slip := 0 }

/-- R36. -/
def Engagement.initial : Engagement :=
  { pinions := { p1 := PinionMonitor.initial, p2 := PinionMonitor.initial }, climbOutHold := none
    calibrationHold := none }

/-- R195, cold start. -/
def Faults.initial : Faults := { flags := Vector.replicate 29 false, table := [] }

/-- R65, cold start, its timers not yet started. -/
def Line.initial : Line :=
  { own := none, phase := .listening, rejoin := false, highestHeard := 0, chainOut := false, chainOutDue := none
    senseA := { filtered := false, changing := none }, senseB := { filtered := false, changing := none }
    references := none, listenTimer := none, chainWaitTimer := none, completionTimer := none, joinRetry := none
    statePeriod := none, orderHoldOff := none, orderPassed := false, qualityStart := 0, badCount := 0
    clashTimer := none, discards := 0, nextSequence := 0, alert := none, alertBehind := none, orders := []
    stateSlot := none, stateBehind := none, replies := [], sending := none, bus := .awaitingTen }

/-- R80. -/
def initialPeers : Vector PeerEntry 8 := Vector.replicate 8 PeerEntry.blank

/-- R100. -/
def Speed.initial : Speed :=
  { superStart := 0, localLimit := 0, raiseHold := none, enforced := 0, hardRef := 0, buildUp := 0, descending := false
    intervening := false, arithLimit := false }

/-- R124, cold start; the phase and the pulses seen are the model's (log entry 5). -/
def ProofRecord.initial : ProofRecord :=
  { state := .idle, phase := .p1Settle, results := { p1 := .notRun, p2 := .notRun }, forces := { p1 := 0, p2 := 0 }
    reason := .none, pulses := 0, lastRefusal := .none, refusals := 0 }

/-- R124, cold start, one pinion; its derated capacity is R115's for energy 0 and an all-zero strap copy (log entries 4
and 5). -/
def PinionBrake.initial : PinionBrake :=
  { failed := false, energy := 0, derated := 20000, fade := false, failTimer := none, split := 0, mode := .full }

/-- R124, cold start. -/
def Brake.initial : Brake :=
  { cycleStart := 0, cabDemand := 0, target := 0, applied := true, releasePending := false, latch := false
    ownPull := false, pinions := { p1 := PinionBrake.initial, p2 := PinionBrake.initial }, force := 0, wheel := .full
    proof := ProofRecord.initial, sampleSum := 0, sampleCount := 0, settleTimer := none, autoProof := false }

/-- R146, a door before its switches are read (log entry 5). -/
def Door.initial : Door :=
  { state := .locked, attempts := 0, timer := none, handleRelease := false, handleAlarm := false, timeoutFlag := false
    obstructionFlag := false }

/-- R146, with the tare of an all-zero strap copy. -/
def DoorControl.initial : DoorControl :=
  { doors := { d1 := Door.initial, d2 := Door.initial, d3 := Door.initial, d4 := Door.initial }, releaseA := false
    releaseB := false, latchPending := false, mass := 18000 }

/-- R170 with RADIO = 0. -/
def Radio.initial : Radio :=
  { status := .notFitted, supervision := none, linkTimer := none, lastLink := 0, window := [], platform := none
    acks := [], report := none, reportBehind := none, sending := none, radioSequence := 0, reportTimer := none
    lostWide := true }

/-- R181, cold start. -/
def Restrictions.initial : Restrictions := { entries := [], overflow := none }

/-- A strap copy that no strap reading has written yet (log entry 4). -/
def Straps.unread : Straps :=
  { tare := 0, pinionNom := 0, wheelNom := 0, orient := .endA, carLen := 0, wheelCirc := 0, lineClass := 0
    strict := false, radio := false, radioAddr := 0 }

/-- The items of a store that nothing has written (log entry 4). -/
def Retained.initial : Retained :=
  { own := none, peers := [], energies := { p1 := 0, p2 := 0 }, failed := { p1 := false, p2 := false }
    latch := false, proof := ProofRecord.initial
    windows := { p1 := Window.cleared .invalid, p2 := Window.cleared .invalid }
    restrictions := Restrictions.initial, window := [], mass := 0, faults := [] }

/-- A store whose validity mark is clear (log entry 4). -/
def Store.initial : Store := { straps := Straps.unread, valid := false, check := 0, items := Retained.initial }

/-- Door lines of a door that stands shut, its handle returned (log entry 5). -/
def DoorLines.quiet : DoorLines := { isolated := false, lockMade := true, openMade := false, handle := false }

/-- Input levels before anything has been sensed (log entry 5). -/
def Levels.quiet : Levels :=
  { chainA := false, chainB := false, senseA := false, senseB := false
    doors := { d1 := DoorLines.quiet, d2 := DoorLines.quiet, d3 := DoorLines.quiet, d4 := DoorLines.quiet }
    loopOthers := false, channelBusy := false, supplyWarn := false }

/-- Inputs before anything has been sensed (log entry 5). -/
def Pins.initial : Pins := { levels := Levels.quiet, load := none, force1 := 0, force2 := 0 }

/-- The machine right after reset: supply has reached the part, its retained store is not valid, and it is in
COLD (R196), every block at its cold start values and every output FULL (R102). -/
def State.reset : State :=
  { pending := [], clock := 0, freeCount := 0, pins := Pins.initial, rack := Rack.initial
    engagement := Engagement.initial, line := Line.initial, peers := initialPeers, speed := Speed.initial
    brake := Brake.initial, doors := DoorControl.initial, radio := Radio.initial
    restrictions := Restrictions.initial, faults := Faults.initial
    station := { life := .cold, storing := false, droppedAt := none }, store := Store.initial }

end Sys2Proof.Machine
end

