-- ==== Sys2Proof/Machine/Operands.lean ====
section
/-! DEFINITION. The quantities commands compute with: times, strap quantities (00_scope.md 3.6, 3.7), the ORIENT
mapping (R2, R15, R127), the brake arithmetic unit (R83 to R85) and the gravity table (R86). -/

namespace Sys2Proof

/-! ## Strap quantities -/

/-- Car tare mass, kg (00_scope.md 3.6). -/
def Straps.tareKg (p : Straps) : Nat := 10000 + p.tare.toNat * 100

/-- Nominal capacity of each pinion brake C_nom, N (00_scope.md 3.6). -/
def Straps.pinionNominal (p : Straps) : Nat := 20000 + p.pinionNom.toNat * 5000

/-- Wheel brake capacity WHEEL_NOM, N (00_scope.md 3.6). -/
def Straps.wheelNominal (p : Straps) : Nat := 10000 + p.wheelNom.toNat * 2000

/-- Car length, dm (00_scope.md 3.6). -/
def Straps.carLength (p : Straps) : Nat := p.carLen.toNat

/-- Wheel circumference, mm (00_scope.md 3.6). -/
def Straps.wheelCircumference (p : Straps) : Nat := 2000 + p.wheelCirc.toNat * 4

/-- Stopping distance S of the line class, mm (00_scope.md 3.7). -/
def Straps.stoppingDistance (p : Straps) : Nat :=
  match p.lineClass.toNat with
  | 0 => 40000
  | 1 => 50000
  | 2 => 60000
  | _ => 80000

/-- Brake build-up time t_r of the line class, ms (00_scope.md 3.7). -/
def Straps.buildUpTime (p : Straps) : Nat := if p.lineClass.toNat ≤ 1 then 1500 else 1200

/-- Rack ceiling of the line class, 0.1 km/h (00_scope.md 3.7). -/
def Straps.rackCeiling (p : Straps) : Nat :=
  match p.lineClass.toNat with
  | 0 => 120
  | 1 => 160
  | 2 => 200
  | _ => 250

/-- Adhesion ceiling of the line class, 0.1 km/h (00_scope.md 3.7). -/
def Straps.adhesionCeiling (p : Straps) : Nat :=
  match p.lineClass.toNat with
  | 0 => 250
  | 1 => 300
  | 2 => 350
  | _ => 400

/-- The station works as radio-fitted: RADIO = 1, and RADIO_ADDR is neither 0 nor 255 (R197). -/
def Straps.radioFitted (p : Straps) : Bool := p.radio && p.radioAddr != 0 && p.radioAddr != 255

end Sys2Proof

namespace Sys2Proof.Machine

/-! ## Times -/

/-- A length of time in ms, on the clock's µs. -/
def ms (n : Nat) : Nat := n * 1000

/-- A timer runs and has reached its limit (00_scope.md 3.5), a limit in µs. -/
def timerReached (t : Timer) (now limit : Nat) : Bool :=
  match t with
  | some start => start + limit ≤ now
  | none => false

/-! ## The ORIENT mapping -/

/-- Direction of a wheel pulse in line terms (R2). -/
def pulseDirection (orient : CarEnd) (channel1Leads : Bool) : Direction :=
  match orient, channel1Leads with
  | .endA, true => .up
  | .endA, false => .down
  | .endB, true => .down
  | .endB, false => .up

/-- The grade sample of a raw inclinometer reading (R15). -/
def gradeSample (orient : CarEnd) (raw : Int) : Int :=
  match orient with
  | .endA => raw
  | .endB => -raw

/-- The car side of a line side (R127). -/
def carSideOf (orient : CarEnd) (side : LineSide) : CarSide :=
  match orient, side with
  | .endA, .l => .a
  | .endA, .r => .b
  | .endB, .l => .b
  | .endB, .r => .a

/-- The line side of a car side (R127). -/
def lineSideOf (orient : CarEnd) (side : CarSide) : LineSide :=
  match orient, side with
  | .endA, .a => .l
  | .endA, .b => .r
  | .endB, .a => .r
  | .endB, .b => .l

/-- The car side of a door (section 7.1). -/
def doorSide : DoorId → CarSide
  | .d1 => .a
  | .d2 => .a
  | .d3 => .b
  | .d4 => .b

/-! ## Clamping and the limiter -/

/-- Clamp to a range (00_scope.md 3.2). -/
def clampInt (lo hi x : Int) : Int := if x < lo then lo else if hi < x then hi else x

/-- The limiter, into an unsigned field of `w` bits (R85). -/
def narrow (w : Nat) (x : Nat) : BitVec w := BitVec.ofNat w (min x (2 ^ w - 1))

/-- Signed travel of the odometer, saturating at its ends without a record (R11). -/
def clampTravel (x : Int) : Int := clampInt (-2147483647) 2147483647 x

/-- A distance taken in a direction; NONE takes none. -/
def signedDistance (d : Direction) (x : Nat) : Int :=
  match d with
  | .up => x
  | .down => -(x : Int)
  | .none => 0

/-- A force feedback reading, one below 0 taken as 0 (R103). -/
def feedback (x : Int) : Nat := x.toNat

/-! ## The brake arithmetic unit -/

/-- The end of the accumulator's range, 2^39 - 1 (section 5.1). -/
def accumulatorEnd : Int := 549755813887

/-- The end of a 32-bit destination's range, 2^31 - 1 (R84). -/
def destinationEnd : Int := 2147483647

/-- The value of an operation in progress and how often it has saturated (R83, R84). -/
structure Sat where
  val : Int
  hits : Nat
deriving DecidableEq, Repr

/-- Replace a value outside ±`limit` by the nearer end, counting one saturation (R84). -/
def Sat.bound (limit : Int) (hits : Nat) (x : Int) : Sat :=
  if limit < x then { val := limit, hits := hits + 1 }
  else if x < -limit then { val := -limit, hits := hits + 1 }
  else { val := x, hits := hits }

/-- Start an operation: the first operand added to an accumulator of 0 (R83). -/
def Sat.load (x : Int) : Sat := Sat.bound accumulatorEnd 0 x

/-- Add in the accumulator (R83, R84). -/
def Sat.add (a : Sat) (x : Int) : Sat := Sat.bound accumulatorEnd a.hits (a.val + x)

/-- Multiply in the accumulator (R83, R84). -/
def Sat.mul (a : Sat) (x : Int) : Sat := Sat.bound accumulatorEnd a.hits (a.val * x)

/-- Divide by a positive integer, the floor of the quotient (R83). -/
def Sat.divBy (a : Sat) (x : Int) : Sat := { a with val := a.val / x }

/-- Deliver to a 32-bit destination (R84). -/
def Sat.to32 (a : Sat) : Sat := Sat.bound destinationEnd a.hits a.val

/-- Integer square root of a value below 2^32: the floor of the exact root, one bit at a time (R83). -/
def isqrtBits (n : Nat) : Nat → Nat → Nat
  | 0, r => r
  | k + 1, r => isqrtBits n k (if (r + 2 ^ k) * (r + 2 ^ k) ≤ n then r + 2 ^ k else r)

/-- Integer square root (R83). -/
def isqrt (n : Nat) : Nat := isqrtBits n 16 0

/-- Repeat mode: the sum of its operands (R83); the sixteen ring entries lie within ±9 600 and do not saturate
(R17). -/
def repeatSum (xs : List Int) : Int := xs.foldl (· + ·) 0

/-! ## The gravity table -/

/-- The table T[0] to T[50], mm/s² (section 5.2). -/
def gravityTable : List Nat :=
  [0, 98, 196, 294, 392, 490, 588, 685, 782, 879, 976, 1073, 1169, 1265, 1360, 1455, 1550, 1644, 1738, 1831
   , 1924, 2016, 2108, 2199, 2289, 2379, 2469, 2557, 2645, 2732, 2819, 2905, 2990, 3074, 3158, 3241, 3323, 3404
   , 3485, 3564, 3643, 3721, 3799, 3875, 3951, 4026, 4100, 4173, 4245, 4317, 4387]

/-- An entry of the table. -/
def gravityEntry (k : Nat) : Nat := gravityTable.getD k 0

/-- The magnitude of the gravity component for |G| = 10 k + j (R86). -/
def gravityMagnitude (g : Nat) : Nat :=
  let k := g / 10
  let j := g % 10
  if 500 ≤ g then gravityEntry 50
  else gravityEntry k + (gravityEntry (k + 1) - gravityEntry k) * j / 10

/-- The signed gravity component a_g for a grade in per mille (R86). -/
def gravity (g : Int) : Int :=
  if g < 0 then -(gravityMagnitude g.natAbs : Int) else (gravityMagnitude g.natAbs : Int)

/-- Per mille of speed: mm/s to 0.1 km/h, floored (R6, R91). -/
def toTenthKmh (v : Nat) : Nat := v * 36 / 1000

end Sys2Proof.Machine
end

