-- ==== Sys2Proof/Machine/Flags.lean ====
section
/-! DEFINITION. The fault manager's flags and records (chapter 10): occurrence, presence without occurrence and
going of a kind, the fault table with its replacement, the indications. No class reaction is taken here. -/

namespace Sys2Proof.Machine

/-- The 29 kinds in code order (section 10.1). -/
def allFaultKinds : List FaultKind :=
  [.climbOut, .overspeedHard, .holdInadequate, .valleyAllHalt, .supplyFail, .calibrationFail, .peerLost
   , .numberClash, .consistChanged, .consistIncomplete, .cabConflict, .speedDisagree, .gradeSensor, .brakeFade
   , .pinionFailed, .proofFail, .doorForced, .holdMargin, .valleyHalt, .lineQuality, .lineCongestion, .arithLimit
   , .doorTimeout, .doorObstructed, .valleyLost, .restrictionOverflow, .slipEvent, .positionUnknown, .loadSensor]

/-- The code of a kind minus one (section 10.1). -/
def FaultKind.index : FaultKind → Fin 29
  | .climbOut => 0
  | .overspeedHard => 1
  | .holdInadequate => 2
  | .valleyAllHalt => 3
  | .supplyFail => 4
  | .calibrationFail => 5
  | .peerLost => 6
  | .numberClash => 7
  | .consistChanged => 8
  | .consistIncomplete => 9
  | .cabConflict => 10
  | .speedDisagree => 11
  | .gradeSensor => 12
  | .brakeFade => 13
  | .pinionFailed => 14
  | .proofFail => 15
  | .doorForced => 16
  | .holdMargin => 17
  | .valleyHalt => 18
  | .lineQuality => 19
  | .lineCongestion => 20
  | .arithLimit => 21
  | .doorTimeout => 22
  | .doorObstructed => 23
  | .valleyLost => 24
  | .restrictionOverflow => 25
  | .slipEvent => 26
  | .positionUnknown => 27
  | .loadSensor => 28

/-- The code of a kind (section 10.1). -/
def FaultKind.code (k : FaultKind) : Nat := k.index.val + 1

/-- The kind of a code (section 10.1). -/
def faultKindOfCode (c : Nat) : Option FaultKind := if c = 0 then none else allFaultKinds[c - 1]?

/-- The class of a kind; CALIBRATION_FAIL follows the STRICT strap (R26, R183). -/
def faultClassOf (strict : Bool) : FaultKind → FaultClass
  | .climbOut => .a
  | .overspeedHard => .a
  | .holdInadequate => .a
  | .valleyAllHalt => .a
  | .supplyFail => .a
  | .calibrationFail => if strict then .a else .b
  | .peerLost => .b
  | .numberClash => .b
  | .consistChanged => .b
  | .consistIncomplete => .b
  | .cabConflict => .b
  | .speedDisagree => .b
  | .gradeSensor => .b
  | .brakeFade => .b
  | .pinionFailed => .b
  | .proofFail => .b
  | .doorForced => .b
  | .holdMargin => .b
  | .valleyHalt => .b
  | .lineQuality => .c
  | .lineCongestion => .c
  | .arithLimit => .c
  | .doorTimeout => .c
  | .doorObstructed => .c
  | .valleyLost => .c
  | .restrictionOverflow => .c
  | .slipEvent => .c
  | .positionUnknown => .c
  | .loadSensor => .c

/-- The kind's condition is present (R183). -/
def Faults.present (f : Faults) (k : FaultKind) : Bool := f.flags[k.index]

/-- The fault table has a record of the kind (R184). -/
def Faults.hasRecord (f : Faults) (k : FaultKind) : Bool := f.table.any fun r => r.kind == k

/-- A record that a full table gives up: class C and inactive (R185). -/
def FaultRecord.replaceable (r : FaultRecord) : Bool := r.cls == .c && !r.active

/-- Add a record for a kind that has none: as the newest, in the place of the oldest inactive class C record
when the table is full, or not at all when there is none (R184, R185). -/
def Faults.addRecord (f : Faults) (r : FaultRecord) : Faults :=
  if f.table.length < 16 then { f with table := f.table ++ [r] }
  else if f.table.any FaultRecord.replaceable then
    { f with table := f.table.eraseP FaultRecord.replaceable ++ [r] }
  else f

/-- Change the record of a kind where it stands. -/
def Faults.mapRecord (f : Faults) (k : FaultKind) (g : FaultRecord → FaultRecord) : Faults :=
  { f with table := f.table.map fun r => if r.kind = k then g r else r }

/-- Set the kind's condition flag (R183). -/
def Faults.setFlag (f : Faults) (k : FaultKind) (v : Bool) : Faults := { f with flags := f.flags.set k.index v }

/-- One occurrence of a kind (R183, R184). -/
def Faults.occur (strict : Bool) (k : FaultKind) (f : Faults) : Faults :=
  let f1 := f.setFlag k true
  if f.hasRecord k then f1.mapRecord k fun r => { r with active := true, count := min 255 (r.count + 1) }
  else f1.addRecord { kind := k, cls := faultClassOf strict k, active := true, count := 1 }

/-- A presence without occurrence (R183, R184). -/
def Faults.note (strict : Bool) (k : FaultKind) (f : Faults) : Faults :=
  let f1 := f.setFlag k true
  if f.hasRecord k then f1.mapRecord k fun r => { r with active := true }
  else f1.addRecord { kind := k, cls := faultClassOf strict k, active := true, count := 0 }

/-- A going of a kind; one for a condition already absent changes nothing (R183, R184). -/
def Faults.going (k : FaultKind) (f : Faults) : Faults :=
  if f.present k then (f.setFlag k false).mapRecord k fun r => { r with active := false } else f

/-- At least one condition of a class is present (R186). -/
def Faults.classActive (strict : Bool) (cls : FaultClass) (f : Faults) : Bool :=
  allFaultKinds.any fun k => faultClassOf strict k == cls && f.present k

/-- The highest active class as its STATE code: 0 NONE, 1 C, 2 B, 3 A (R44, R186). -/
def Faults.highestClass (strict : Bool) (f : Faults) : BitVec 2 :=
  if f.classActive strict .a then 3 else if f.classActive strict .b then 2 else if f.classActive strict .c then 1 else 0

/-- A record leaves the table at a consist reset (R189). -/
def Faults.removedAtReset (standing : Bool) (f : Faults) (r : FaultRecord) : Bool :=
  match r.cls with
  | .a => !f.present r.kind && standing
  | .b => !f.present r.kind
  | .c => !f.present r.kind

/-- The consist reset of the fault manager; `standing` is consist-wide standstill (R189). -/
def Faults.consistReset (standing : Bool) (f : Faults) : Faults :=
  { f with table := f.table.filter fun r => !f.removedAtReset standing r }

/-- Remove the record of a kind (R190). -/
def Faults.removeRecord (k : FaultKind) (f : Faults) : Faults := { f with table := f.table.filter fun r => r.kind != k }

/-- The fault manager at a warm restart: the retained table with every active flag clear, no condition present
(R195). -/
def Faults.restored (table : List FaultRecord) : Faults :=
  { Faults.initial with table := table.map fun r => { r with active := false } }

end Sys2Proof.Machine
end

