-- ==== Sys2Proof/Machine/Views.lean ====
section
/-! DEFINITION. What blocks read of each other: the published quantities, the counted values and tests of the peer
table, the capacities, the door summary, the permit, the brake loop, the indications. Nothing is changed here. -/

namespace Sys2Proof.Machine

/-! ## Straps, life cycle, faults -/

/-- The strap values in force: the strap copy (R197). -/
def State.straps (s : State) : Straps := s.store.straps

/-- The part's blocks are running: it has supply and has left COLD (R197). -/
def State.running (s : State) : Bool :=
  match s.station.life with
  | .off => false
  | .cold => false
  | .joining => true
  | .proving => true
  | .ready => true
  | .resuming => true

/-- A kind's condition is present (R183). -/
def State.present (s : State) (k : FaultKind) : Bool := s.faults.present k

/-- Class A is active (R186). -/
def State.classA (s : State) : Bool := s.faults.classActive s.straps.strict .a

/-- Class B is active (R186). -/
def State.classB (s : State) : Bool := s.faults.classActive s.straps.strict .b

/-! ## Rack sensing -/

/-- The odometer counts teeth: rack PRESENT and SPEED_DISAGREE inactive (section 1.4). -/
def State.countingTeeth (s : State) : Bool := s.rack.present && !s.present .speedDisagree

/-- The published direction (R6). -/
def State.direction (s : State) : Direction := if s.rack.standstill then .none else s.rack.movingDir

/-- The published speed, 0.1 km/h (R6). -/
def State.publishedSpeed (s : State) : Nat :=
  if s.rack.standstill then 0 else min 400 (toTenthKmh s.rack.reported)

/-- The position in dm, while it is KNOWN (R14). -/
def State.position (s : State) : Option Nat :=
  if s.rack.known then some (clampInt 0 1000000 (s.rack.markBase + s.rack.travel / 10000)).toNat else none

/-- The published grade is the worst case (R17). -/
def State.gradeWorst (s : State) : Bool := s.present .gradeSensor || decide (s.rack.ring.length < 16)

/-- The STATE code of a direction (R44). -/
def directionCode : Direction → BitVec 2
  | .none => 0
  | .up => 1
  | .down => 2

/-! ## Engagement monitor -/

/-- The sweep-running indication (R35). -/
def State.sweeping (s : State) : Bool :=
  s.engagement.pinions.p1.window.status == .sweeping || s.engagement.pinions.p2.window.status == .sweeping

/-! ## Position chain and neighbour senses -/

/-- The level at the chain-in pin, at the valley end (section 3.7). -/
def State.chainIn (s : State) : Bool :=
  match s.straps.orient with
  | .endA => s.pins.levels.chainA
  | .endB => s.pins.levels.chainB

/-- The filtered valley-side neighbour sense shows a neighbour (R58, R59). -/
def State.valleyNeighbour (s : State) : Bool :=
  match s.straps.orient with
  | .endA => s.line.senseA.filtered
  | .endB => s.line.senseB.filtered

/-- The filtered summit-side neighbour sense shows a neighbour (R45, R58). -/
def State.summitNeighbour (s : State) : Bool :=
  match s.straps.orient with
  | .endA => s.line.senseB.filtered
  | .endB => s.line.senseA.filtered

/-! ## Car line -/

/-- The frame in transmission, the oldest of its slot (R42, R48). -/
def Line.inTransmission (l : Line) : Option LineFrame :=
  match l.sending with
  | none => none
  | some .alert => l.alert
  | some .order => l.orders.head?
  | some .state => l.stateSlot.map fun held => held.frame
  | some .reply => l.replies.head?

/-- The bits the station drives: the frame in transmission and its gap (R40); none while it only listens. -/
def Line.driven (l : Line) : List Bool :=
  match l.inTransmission with
  | none => []
  | some frame => frame.wireBits ++ gapBits

/-! ## Peer table -/

/-- The entry is in the consist set: FRESH or STALE (R74). -/
def PeerEntry.inSet (e : PeerEntry) : Bool := e.state == .fresh || e.state == .stale

/-- A report of zeros, read only from an entry without contents, which no FRESH, STALE or LOST entry of a run is
(log entry 31). -/
def StateReport.zero : StateReport :=
  { sequence := 0, stationState := 0, direction := 0, known := false, holding := false, latch := false, speed := 0
    position := 0, mass := 0, capacity := 0, applied := 0, holdingCapacity := 0, localLimit := 0, summary := 0
    faultClass := 0, valley := 0, cabActive := false, lastSequence := 0, grade := 0 }

/-- The last STATE of an entry. -/
def PeerEntry.report (e : PeerEntry) : StateReport := e.contents.getD StateReport.zero

/-- Age in ms, saturating (section 4.1). -/
def PeerEntry.age (e : PeerEntry) (now : Nat) : Nat :=
  match e.ageFrom with
  | some start => min 65535 ((now - start) / 1000)
  | none => 0

/-- Counted mass, kg (R73). -/
def PeerEntry.countedMass (e : PeerEntry) : Nat := max (e.report.mass.toNat * 100) e.tare

/-- Counted capacity, N: 0 for a STALE peer (R73). -/
def PeerEntry.countedCapacity (e : PeerEntry) : Nat := if e.state = .fresh then e.report.capacity.toNat * 100 else 0

/-- Counted holding capacity, N: 0 for a STALE peer (R73). -/
def PeerEntry.countedHolding (e : PeerEntry) : Nat := if e.state = .fresh then e.report.holdingCapacity.toNat * 100 else 0

/-- The peers of the consist set (R74). -/
def State.consistPeers (s : State) : List PeerEntry := s.peers.toList.filter PeerEntry.inSet

/-- The all-fresh test (R75). -/
def State.allFresh (s : State) : Bool := s.peers.toList.all fun e => !e.inSet || e.state == .fresh

/-- The all-closed test (R75). -/
def State.allClosed (s : State) : Bool :=
  s.peers.toList.all fun e => !e.inSet || (e.state == .fresh && e.report.summary == 0)

/-- Consist-wide standstill (R76). -/
def State.consistStandstill (s : State) : Bool :=
  s.rack.standstill && s.peers.toList.all fun e => !e.inSet || (e.report.speed == 0 && e.report.direction == 0)

/-- The entry holds a cab claim (R77). -/
def PeerEntry.claims (e : PeerEntry) : Bool :=
  e.kind == .cab && (e.state == .fresh || e.state == .stale || e.state == .lost) && e.report.cabActive

/-- The number of cab claims (R77). -/
def State.claimCount (s : State) : Nat := s.peers.toList.countP PeerEntry.claims

/-- The entry of a source is the active cab (R77). -/
def State.activeCab (s : State) (source : Fin 8) : Bool :=
  !s.present .cabConflict && s.peers[source].claims && s.peers[source].state == .fresh

/-- At least one entry is LOST (R71). -/
def State.anyLost (s : State) : Bool := s.peers.toList.any fun e => e.state == .lost

/-- Valley contact is lost consist-wide, formed afresh (R165). -/
def State.valleyLostNow (s : State) : Bool :=
  s.radio.status != .alive && s.peers.toList.all fun e => !(e.state == .fresh && e.report.valley == 1)

/-! ## Brake controller -/

/-- The brake loop input is sensed pulled: the line is pulled by another station or by the own pull (section 6.7,
log entry 14). -/
def State.loopPulled (s : State) : Bool := s.pins.levels.loopOthers || s.brake.ownPull

/-- The derated capacity a pinion gives to service, 0 while it is marked FAILED (R103, R108). A mark that returns to OK
gives 0 until the next brake cycle, the derated capacity being that of the last one (log entry 41). -/
def PinionBrake.capacity (p : PinionBrake) : Nat := if p.failed then 0 else p.derated

/-- The own service capacity, N (R103): the rack presence and the marks of the moment of reading, over the derated
capacities of the last brake cycle. That a rack entry or exit counts before the next cycle is the model's choice (log
entry 39). -/
def State.serviceCapacity (s : State) : Nat :=
  if s.rack.present then s.brake.pinions.p1.capacity + s.brake.pinions.p2.capacity else s.straps.wheelNominal

/-- The own holding capacity, N (R103). -/
def State.holdingCapacity (s : State) : Nat :=
  (if s.brake.pinions.p1.failed then 0 else s.straps.pinionNominal)
    + (if s.brake.pinions.p2.failed then 0 else s.straps.pinionNominal)

/-- The force the wheel output is commanding, N (R102, R103). -/
def State.wheelForce (s : State) : Nat :=
  match s.brake.wheel with
  | .full => s.straps.wheelNominal
  | .service f => f

/-- The applied force, N (R103). -/
def State.appliedForce (s : State) : Nat := feedback s.pins.force1 + feedback s.pins.force2 + s.wheelForce

/-- The service command in force of an output: 0 in FULL and TEST (R108). -/
def PinionMode.command : PinionMode → Nat
  | .full => 0
  | .test => 0
  | .service f => f

/-- The feedback reading of a pinion, N (R103). -/
def State.feedbackOf (s : State) (p : Pinion) : Nat :=
  match p with
  | .p1 => feedback s.pins.force1
  | .p2 => feedback s.pins.force2

/-! ## Door controller -/

/-- The door summary (R142). -/
inductive DoorSummary where
  | allClosed | released | notClosed
deriving DecidableEq, Repr

/-- The door counts as closed (R142). -/
def Door.closed (d : Door) : Bool := d.state == .locked || d.state == .isolated

/-- The door keeps the summary NOT_CLOSED (R142). -/
def Door.away (d : Door) : Bool :=
  d.state == .opening || d.state == .opened || d.state == .closing || d.state == .reopening || d.state == .forced

/-- The door summary of four doors (R142). -/
def summaryOf (doors : PerDoor Door) : DoorSummary :=
  if doors.toList.all Door.closed then .allClosed
  else if doors.toList.any Door.away then .notClosed
  else .released

/-- The own door summary (R142). -/
def State.summary (s : State) : DoorSummary := summaryOf s.doors.doors

/-- The STATE code of a summary (R44). -/
def DoorSummary.code : DoorSummary → BitVec 2
  | .allClosed => 0
  | .released => 1
  | .notClosed => 2

/-- The side release of a car side is SET (R130). -/
def DoorControl.sideRelease (c : DoorControl) (side : CarSide) : Bool :=
  match side with
  | .a => c.releaseA
  | .b => c.releaseB

/-- The door has a release (section 7.1). -/
def DoorControl.hasRelease (c : DoorControl) (d : DoorId) : Bool :=
  c.sideRelease (doorSide d) || (c.doors.get d).handleRelease

/-- The fourth part of the permit: a grade below 100 per mille, or the platform release record (R128). -/
def State.platformPermits (s : State) (side : LineSide) : Bool :=
  match s.radio.platform, s.position with
  | some rec, some pos => rec.side == side && pos ≤ rec.stop + 20 && rec.stop ≤ pos + 20
  | _, _ => false

/-- The door permit for a line side (R128). -/
def State.permit (s : State) (side : LineSide) : Bool :=
  s.consistStandstill && s.allFresh && s.brake.applied && !s.classA && !s.classB
    && (decide (s.rack.grade.natAbs < 100) || s.platformPermits side)

/-- The lock release output of a door (R126). -/
def DoorState.lockRelease : DoorState → Bool
  | .opening => true
  | .opened => true
  | .reopening => true
  | .locked => false
  | .released => false
  | .closing => false
  | .forced => false
  | .isolated => false

/-- The motor output of a door (R126). -/
inductive DoorMotor where
  | off | opens | closes
deriving DecidableEq, Repr

/-- The motor output of a door (R126). -/
def DoorState.motor : DoorState → DoorMotor
  | .opening => .opens
  | .reopening => .opens
  | .closing => .closes
  | .locked => .off
  | .released => .off
  | .opened => .off
  | .forced => .off
  | .isolated => .off

/-! ## Valley radio and station -/

/-- The STATE code of a valley status (R44). -/
def ValleyStatus.code : ValleyStatus → BitVec 2
  | .notFitted => 0
  | .alive => 1
  | .lost => 2

/-- The last accepted valley sequence (R156). -/
def Radio.lastSequence (r : Radio) : Byte := r.window.getLast?.getD 0

/-- The code a STATE carries for the station state (section 11.1); COLD and OFF send none. -/
def Life.code : Life → BitVec 3
  | .joining => 1
  | .proving => 2
  | .ready => 3
  | .resuming => 4
  | .cold => 0
  | .off => 0

/-- The own station number, 0 while there is none (R166). -/
def State.stationByte (s : State) : Byte :=
  match s.line.own with
  | some n => BitVec.ofNat 8 (n.val + 1)
  | none => 0

end Sys2Proof.Machine
end

