-- ==== Sys2Proof/Machine/Ops.lean ====
section
/-! DEFINITION. The operations that commands share, from the lowest: the fault table without reactions, the
limits of the speed supervisor, the doors and the mass latch, the holding brake, the emergency latch, the own
pull with its ALERT, the raising of a fault with its class reaction, the peer table's tests, the restriction
evaluation, the retained store; and the frame every command runs in. -/

namespace Sys2Proof.Machine

/-! ## Fault manager, without class reactions -/

/-- One occurrence of a kind in the fault manager alone (R183, R184). -/
def State.recordOccurrence (k : FaultKind) (s : State) : State := s.setFaults (s.faults.occur s.straps.strict k)

/-- A going of a kind in the fault manager alone (R183, R184). -/
def State.recordGoing (k : FaultKind) (s : State) : State := s.setFaults (s.faults.going k)

/-- A presence without occurrence in the fault manager alone (R183, R184). -/
def State.recordNote (k : FaultKind) (s : State) : State := s.setFaults (s.faults.note s.straps.strict k)

/-! ## Speed supervisor: the limits -/

/-- The enforced limit formed afresh: the least of the own local limit and those of the consist set (R95). -/
def State.reformEnforced (s : State) : State :=
  s.setSpeed { s.speed with enforced := (s.consistPeers.map fun e => e.report.localLimit.toNat).foldl min s.speed.localLimit }

/-- The standing local limit and its raise hold under a ceiling that has fallen (R94). -/
def Speed.lower (ceiling : Nat) (v : Speed) : Speed :=
  let limit := min v.localLimit ceiling
  { v with
    localLimit := limit
    raiseHold :=
      match v.raiseHold with
      | none => none
      | some (candidate, start) => if limit < min candidate ceiling then some (min candidate ceiling, start) else none }

/-- Lower the local limit at the event that lowers a ceiling, and re-form the enforced limit (R94, R95). -/
def State.lowerLimit (ceiling : Nat) (s : State) : State := (s.setSpeed (s.speed.lower ceiling)).reformEnforced

/-! ## Doors: withdrawal, permit retest, mass latch -/

/-- Latch a payload, in kg, over the tare (R144). -/
def State.latchPayload (payload : Nat) (s : State) : State :=
  s.setDoors { s.doors with mass := s.straps.tareKg + payload, latchPending := false }

/-- Read the load sensor and latch the car's mass (R144); without a valid reading the payload is 8 000 kg and
LOAD_SENSOR occurs (R145). -/
def State.latchMass (s : State) : State :=
  match s.pins.load with
  | some x =>
    if -1000 ≤ x ∧ x ≤ 10000 then (s.latchPayload (clampInt 0 8000 x).toNat).recordGoing .loadSensor
    else (s.latchPayload 8000).recordOccurrence .loadSensor
  | none => (s.latchPayload 8000).recordOccurrence .loadSensor

/-- Take the mass latch if the door summary has become ALL_CLOSED, latch pending is SET and the car stands
(R144). -/
def State.latchIfClosed (was : DoorSummary) (s : State) : State :=
  if was ≠ .allClosed ∧ s.summary = .allClosed ∧ s.doors.latchPending ∧ s.rack.standstill then s.latchMass else s

/-- A door that ceases to have a release is withdrawn, by R135's table. That table closes an OPEN door whose flag is
CLEAR, so also one stopped by its third obstruction whose flag a consist reset has cleared, with its attempts left at 3,
though R138 and R148 have such a door OPEN until a DOORS_CLOSE: the model's choice (log entry 35). -/
def Door.withdraw (now : Nat) (d : Door) : Door :=
  match d.state with
  | .released => { d with state := .locked }
  | .opening => { d with state := .closing, timer := some now }
  | .opened => if d.obstructionFlag then d else { d with state := .closing, timer := some now }
  | .locked => d
  | .closing => d
  | .reopening => d
  | .forced => d
  | .isolated => d

/-- Set the side release of a car side. -/
def DoorControl.setSideRelease (c : DoorControl) (side : CarSide) (v : Bool) : DoorControl :=
  match side with
  | .a => { c with releaseA := v }
  | .b => { c with releaseB := v }

/-- Clear a side release that is SET and withdraw each door that thereby ceases to have a release (R129, R134,
R135). -/
def State.clearSide (side : CarSide) (s : State) : State :=
  if s.doors.sideRelease side then
    let doors := s.doors.doors.mapIdx fun d r => if doorSide d = side ∧ r.handleRelease = false then r.withdraw s.clock else r
    s.setDoors { s.doors.setSideRelease side false with doors := doors }
  else s

/-- Clear a released side whose permit fails (R129). -/
def State.retestSide (side : CarSide) (s : State) : State :=
  if s.doors.sideRelease side && !s.permit (lineSideOf s.straps.orient side) then s.clearSide side else s

/-- Test the permit of each released side again (R129), with the mass latch that a withdrawal may bring (R144). -/
def State.retestPermits (s : State) : State :=
  ((s.retestSide .a).retestSide .b).latchIfClosed s.summary

/-! ## Holding brake and outputs -/

/-- Every output at FULL (R102). -/
def Brake.allFull (b : Brake) : Brake :=
  { b with
    pinions := { p1 := { b.pinions.p1 with mode := .full }, p2 := { b.pinions.p2 with mode := .full } }
    wheel := .full }

/-- Both pinions at FULL (R122, R123). -/
def Brake.pinionsFull (b : Brake) : Brake :=
  { b with pinions := { p1 := { b.pinions.p1 with mode := .full }, p2 := { b.pinions.p2 with mode := .full } } }

/-- The door's treatment when its handle release becomes SET (R131). -/
def Door.handleReleased (now : Nat) (d : Door) : Door :=
  match d.state with
  | .locked => { d with handleRelease := true, state := .released }
  | .closing => { d with handleRelease := true, state := .opening, attempts := 0, timer := some now }
  | .released => { d with handleRelease := true }
  | .opening => { d with handleRelease := true }
  | .opened => { d with handleRelease := true }
  | .reopening => { d with handleRelease := true }
  | .forced => { d with handleRelease := true }
  | .isolated => d

/-- Change one door's record; a door that leaves LOCKED sets latch pending (R144). -/
def DoorControl.change (c : DoorControl) (d : DoorId) (r : Door) : DoorControl :=
  { c with
    doors := c.doors.set d r
    latchPending := c.latchPending || ((c.doors.get d).state == .locked && r.state != .locked) }

/-- The handle release of a door whose handle is active (R131). -/
def State.releaseByHandle (d : DoorId) (s : State) : State :=
  if (s.pins.levels.doors.get d).handle && s.rack.standstill && s.brake.applied then
    s.setDoors (s.doors.change d ((s.doors.doors.get d).handleReleased s.clock))
  else s

/-- The handle releases given when the holding state becomes APPLIED (R131). -/
def State.releaseByHandles (s : State) : State :=
  (((s.releaseByHandle .d1).releaseByHandle .d2).releaseByHandle .d3).releaseByHandle .d4

/-- The holding state becomes APPLIED: every output FULL, handle releases, permits tested again; one already
APPLIED changes nothing (R109, R129, R131). -/
def State.applyHolding (s : State) : State :=
  if s.brake.applied then s
  else ((s.setBrake { s.brake.allFull with applied := true }).releaseByHandles).retestPermits

/-! ## Proof test abort, emergency latch, own pull -/

/-- Abort a running proof test: ABORTED with a reason, both pinions FULL (R123). -/
def Brake.abort (reason : AbortReason) (b : Brake) : Brake :=
  if b.proof.state = .running then
    { b.pinionsFull with proof := { b.proof with state := .aborted, reason := reason }, settleTimer := none }
  else b

/-- The emergency latch becomes SET: outputs FULL, holding APPLIED at standstill, release request discarded, proof
test aborted, local limit 0; one already SET changes nothing (R94, R111). -/
def State.setLatch (s : State) : State :=
  if s.brake.latch then s
  else
    let s1 := s.setBrake { (s.brake.abort .emergency).allFull with latch := true, releasePending := false }
    (if s1.rack.standstill then s1.applyHolding else s1).lowerLimit 0

/-- The slot holds a frame that R48 may choose; the ORDER slot is passed over while the hold-off runs, and from its end
on an idle line to the next idle (R51). -/
def Line.hasWaiting (l : Line) : Slot → Bool
  | .alert => l.alert.isSome
  | .order => !l.orders.isEmpty && l.orderHoldOff.isNone && !l.orderPassed
  | .state => l.stateSlot.isSome
  | .reply => !l.replies.isEmpty

/-- The first slot of R48's order that holds a frame to offer. That JOIN_WAITING offers from every slot, and not the JOIN
alone that section 3.7 lists for it, is the model's choice (log entry 44). -/
def Line.choice (l : Line) : Option Slot := [Slot.alert, .order, .state, .reply].find? l.hasWaiting

/-- On an idle line, begin the frame chosen by R48 at once (R39, log entry 12). -/
def Line.offer (l : Line) : Line :=
  if l.bus = .idle ∧ l.sending = none then
    match l.choice with
    | some slot => { l with sending := some slot, bus := .busy }
    | none => l
  else l

/-- An idle of the line begins: the choice of R48 is made afresh, the ORDER slot included (R39, R51). -/
def Line.beginIdle (l : Line) : Line := { l with bus := .idle, orderPassed := false }.offer

/-- Place an ALERT in its slot, replacing a waiting one or behind one in transmission (R49); a station without a
number discards it (R47). -/
def State.placeAlert (k : FaultKind) (s : State) : State :=
  match s.line.own with
  | none => s
  | some n =>
    let f := buildFrame n (.alert (BitVec.ofNat 8 k.code) (BitVec.ofNat 8 (n.val + 1)))
    if s.line.sending = some .alert then s.setLine { s.line with alertBehind := some f }
    else s.setLine { s.line with alert := some f }.offer

/-- Assert the own pull for a class A condition, if it is RELEASED: the latch is set and one ALERT handed over
(R111, R112). -/
def State.assertPull (k : FaultKind) (s : State) : State :=
  if s.brake.ownPull then s
  else ((s.setBrake { s.brake with ownPull := true }).setLatch).placeAlert k

/-! ## Raising and ending a fault, with the class reactions -/

/-- The reaction to a condition that has become present, by class (R94, R112, R129, R187, R188). -/
def State.react (k : FaultKind) (s : State) : State :=
  match faultClassOf s.straps.strict k with
  | .a => ((s.assertPull k).lowerLimit 0).retestPermits
  | .b => (s.lowerLimit 0).retestPermits
  | .c => s

/-- One occurrence of a kind, with the reaction of its class if the condition was absent (R183 to R188). -/
def State.raise (k : FaultKind) (s : State) : State :=
  if s.present k then s.recordOccurrence k else (s.recordOccurrence k).react k

/-- A presence without occurrence, with the reaction of its class if the condition was absent (R183). -/
def State.note (k : FaultKind) (s : State) : State :=
  if s.present k then s.recordNote k else (s.recordNote k).react k

/-- A going of a kind; the door controller tests its released sides again at a change of class A or B (R129,
R186). A going of an absent condition changes nothing (R183). -/
def State.clear (k : FaultKind) (s : State) : State :=
  if s.present k then
    match faultClassOf s.straps.strict k with
    | .a => (s.recordGoing k).retestPermits
    | .b => (s.recordGoing k).retestPermits
    | .c => s.recordGoing k
  else s

/-- A number of occurrences of one kind. -/
def State.raiseTimes (k : FaultKind) : Nat → State → State
  | 0, s => s
  | n + 1, s => (s.raise k).raiseTimes k n

/-- Saturations of the brake arithmetic unit: each sets the arithmetic-limit flag and is one occurrence of
ARITH_LIMIT (R84). -/
def State.saturations (hits : Nat) (s : State) : State :=
  if hits = 0 then s else (s.setSpeed { s.speed with arithLimit := true }).raiseTimes .arithLimit hits

/-! ## Peer table tests and valley state -/

/-- Replace an entry of the peer table. -/
def State.setPeer (i : Fin 8) (e : PeerEntry) (s : State) : State := s.setPeers (s.peers.set i e)

/-- Form the consist-wide valley state afresh; at the change to lost the local limit falls to 60 (R94, R165). -/
def State.reformValley (s : State) : State :=
  let lost := s.valleyLostNow
  let s1 := s.setRadio { s.radio with lostWide := lost }
  if lost && !s.radio.lostWide then s1.lowerLimit 60 else s1

/-- CAB_CONFLICT by the number of claims (R77). -/
def State.reformCabConflict (s : State) : State :=
  if 2 ≤ s.claimCount then (if s.present .cabConflict then s else s.raise .cabConflict) else s.clear .cabConflict

/-- PEER_LOST goes when no entry is LOST (R71). -/
def State.reformPeerLost (s : State) : State := if s.anyLost then s else s.clear .peerLost

/-- What follows a change in the peer table: claims, PEER_LOST, enforced limit, valley state, permits (R71, R77,
R95, R129, R165). -/
def State.peersChanged (s : State) : State :=
  (((s.reformCabConflict.reformPeerLost).reformEnforced).reformValley).retestPermits

/-! ## Restriction evaluation -/

/-- The entry is passed (R177). -/
def Restriction.passed (direction : Direction) (position carLength : Nat) (e : Restriction) : Bool :=
  match direction with
  | .up => decide (e.stop < 1000000) && decide (e.stop ≤ position)
  | .down => decide (position + carLength < e.start)
  | .none => false

/-- The entry covers the car (R176). -/
def Restriction.covers (position carLength : Nat) (e : Restriction) : Bool :=
  (if e.stop = 1000000 then decide (position ≤ 1000000) else decide (position < e.stop))
    && decide (e.start ≤ position + carLength)

/-- One entry's evaluation: removed as passed, or with its state (R176 to R178). -/
def State.evaluateEntry (s : State) (e : Restriction) : Option Restriction :=
  match s.position with
  | none => some { e with covering := true }
  | some pos =>
    if e.passed s.direction pos s.straps.carLength then none
    else some { e with covering := e.covers pos s.straps.carLength }

/-- The limit announced when an entry becomes COVERING from AHEAD (R179). -/
def State.newlyCovering (s : State) (e : Restriction) : Option Nat :=
  match s.evaluateEntry e with
  | some r => if r.covering && !e.covering then some r.limit else none
  | none => none

/-- Evaluate every entry, announcing the ceilings that begin to cover the car (R176, R179). -/
def State.evaluateRestrictions (s : State) : State :=
  let lowered := s.restrictions.entries.filterMap s.newlyCovering
  let s1 := s.setRestrictions { s.restrictions with entries := s.restrictions.entries.filterMap s.evaluateEntry }
  lowered.foldl (fun t limit => t.lowerLimit limit) s1

/-- What follows a change of the published position, position state or direction since `before`: restriction
evaluation (R176) and, for the position, the permits (R129). -/
def State.afterMove (s before : State) : State :=
  let s1 := if s.position ≠ before.position ∨ s.direction ≠ before.direction then s.evaluateRestrictions else s
  if s.position ≠ before.position then s1.retestPermits else s1

/-! ## Retained store -/

/-- The kind and tare the store keeps of an entry (R81, R193). -/
def PeerEntry.kept (e : PeerEntry) : Option (PeerKind × Nat) :=
  if e.state = .empty ∨ e.state = .self then none else some (e.kind, e.tare)

/-- The items of R193 as they stand. -/
def State.capture (s : State) : Retained :=
  { own := s.line.own
    peers := s.peers.toList.map PeerEntry.kept
    energies := { p1 := s.brake.pinions.p1.energy, p2 := s.brake.pinions.p2.energy }
    failed := { p1 := s.brake.pinions.p1.failed, p2 := s.brake.pinions.p2.failed }
    latch := s.brake.latch
    proof := s.brake.proof
    windows := { p1 := s.engagement.pinions.p1.window, p2 := s.engagement.pinions.p2.window }
    restrictions := s.restrictions
    window := s.radio.window
    mass := s.doors.mass
    faults := s.faults.table }

/-- A flag as a number. -/
def flagNat (b : Bool) : Nat := if b then 1 else 0

/-- The position of a peer kind in its list of values (section 4.1). -/
def PeerKind.code : PeerKind → Nat
  | .car => 0
  | .traction => 1
  | .cab => 2
  | .notKnown => 3

/-- The position of a window status in its list of values (R20). -/
def WindowStatus.code : WindowStatus → Nat
  | .invalid => 0
  | .sweeping => 1
  | .valid => 2
  | .failWide => 3
  | .failSparse => 4

/-- The position of a proof state in its list of values (R119). -/
def ProofState.code : ProofState → Nat
  | .idle => 0
  | .running => 1
  | .done => 2
  | .aborted => 3

/-- The position of a proof phase in its list of values (R119). -/
def ProofPhase.code : ProofPhase → Nat
  | .p1Settle => 0
  | .p1Sample => 1
  | .p2Settle => 2
  | .p2Sample => 3

/-- The position of a proof result in its list of values (R119). -/
def ProofResult.code : ProofResult → Nat
  | .notRun => 0
  | .pass => 1
  | .fail => 2

/-- The position of an abort reason in its list of values (R119). -/
def AbortReason.code : AbortReason → Nat
  | .none => 0
  | .motion => 1
  | .emergency => 2

/-- The position of a refusal in its list of values (R119). -/
def ProofRefusal.code : ProofRefusal → Nat
  | .none => 0
  | .notHeld => 1
  | .notStandstill => 2
  | .emergency => 3
  | .running => 4

/-- The STATE code of a fault class (R44). -/
def FaultClass.code : FaultClass → Nat
  | .c => 1
  | .b => 2
  | .a => 3

/-- The values of a window record. -/
def Window.numbers (w : Window) : List Nat := [w.status.code, w.hits.toNat, w.lower, w.upper, w.width, w.inArc]

/-- The values of a proof record. -/
def ProofRecord.numbers (p : ProofRecord) : List Nat :=
  [p.state.code, p.phase.code, p.results.p1.code, p.results.p2.code, p.forces.p1, p.forces.p2, p.reason.code, p.pulses
   , p.lastRefusal.code, p.refusals]

/-- The values of a strap copy. -/
def Straps.numbers (p : Straps) : List Nat :=
  [p.tare.toNat, p.pinionNom.toNat, p.wheelNom.toNat, flagNat (p.orient == .endB), p.carLen.toNat, p.wheelCirc.toNat
   , p.lineClass.toNat, flagNat p.strict, flagNat p.radio, p.radioAddr.toNat]

/-- The values of the retained items, list lengths among them. -/
def Retained.numbers (r : Retained) : List Nat :=
  [match r.own with | some n => n.val + 1 | none => 0]
    ++ r.peers.flatMap (fun e => match e with | some (k, tare) => [1, k.code, tare] | none => [0])
    ++ [r.energies.p1, r.energies.p2, flagNat r.failed.p1, flagNat r.failed.p2, flagNat r.latch]
    ++ r.proof.numbers ++ r.windows.p1.numbers ++ r.windows.p2.numbers
    ++ [r.restrictions.entries.length]
    ++ r.restrictions.entries.flatMap (fun e => [e.orderId.toNat, e.start, e.stop, e.limit, flagNat e.covering])
    ++ (match r.restrictions.overflow with | some c => [1, c] | none => [0])
    ++ [r.window.length] ++ r.window.map (fun b => b.toNat)
    ++ [r.mass, r.faults.length]
    ++ r.faults.flatMap (fun f => [f.kind.code, f.cls.code, flagNat f.active, f.count])

/-- The integrity check over the strap copy and every retained item (R198); the layout is a free value (log entry
16). -/
def storeCheck (straps : Straps) (items : Retained) : BitVec 16 :=
  crc16 (Config.storeLayout (Machine.Straps.numbers straps ++ items.numbers))

/-- The strap values written into the strap copy (R197), with the check rewritten over the copy and the items (R198). That
the items stay and count in the check as they stand is the model's reading (log entry 37). -/
def Store.writeStraps (straps : Straps) (v : Store) : Store :=
  { v with straps := straps, check := storeCheck straps v.items }

/-- While the controlled stop runs, the store holds every item as it stands, with its check (R193, R198). -/
def State.keepStore (s : State) : State :=
  if s.station.storing then
    s.setStore { s.store with items := s.capture, check := storeCheck s.straps s.capture }
  else s

/-! ## Station state -/

/-- On entry to PROVING the automatic proof request becomes pending (R120, R196). -/
def State.enterProving (s : State) : State :=
  (s.setStation { s.station with life := .proving }).setBrake { s.brake with autoProof := true }

/-- The consist is complete: a JOINING station goes to PROVING (R196). -/
def State.consistComplete (s : State) : State := if s.station.life = .joining then s.enterProving else s

/-- The supply-fail controlled stop: SUPPLY_FAIL occurs with its reactions, and the store is written and kept from
here (R192, R193, R198, log entry 30); the write itself is `keepStore`, at the end of the command. -/
def State.beginStop (s : State) : State :=
  let s1 := s.raise .supplyFail
  (s1.setStation { s1.station with storing := true }).setStore { s1.store with valid := true }

/-- The rejoin is done: READY with a retained PASS for both pinions, else PROVING; then the controlled stop if the
supply monitor reads WARN (R196, R198). -/
def State.rejoinDone (s : State) : State :=
  if s.station.life = .resuming then
    let s1 :=
      if s.brake.proof.results.p1 = .pass ∧ s.brake.proof.results.p2 = .pass then
        s.setStation { s.station with life := .ready }
      else s.enterProving
    if s1.pins.levels.supplyWarn then s1.beginStop else s1
  else s

/-! ## The frame of a command -/

/-- The command's moment: time has passed, and the sampled inputs read what they read (log entry 1). -/
def State.atMoment (m : Moment) (s : State) : State :=
  (s.setClock (s.clock + m.elapsed)).setPins { s.pins with load := m.load, force1 := m.force1, force2 := m.force2 }

/-- Run a block's effect if the blocks run, and keep the store; in OFF and COLD nothing but the moment and the
lines passes (log entry 6). -/
def State.whileRunning (effect : State → State) (s : State) : State :=
  if s.running then (effect s).keepStore else s

/-- A command whose effect is that of running blocks. -/
def runCommand (m : Moment) (effect : State → State) (s : State) : Host.Outcome State Fault Refusal :=
  .next ((s.atMoment m).whileRunning effect)

/-- A command that first changes the level inputs, which stand whether the blocks run or not. -/
def runLevels (m : Moment) (levels : Levels → Levels) (effect : State → State) (s : State) :
    Host.Outcome State Fault Refusal :=
  let s1 := s.atMoment m
  .next ((s1.setPins { s1.pins with levels := levels s1.pins.levels }).whileRunning effect)

/-- A line on which a frame is being received is busy to the end of the gap (R39). -/
def Line.occupied (l : Line) : Line := { l with bus := if l.bus = .idle then .busy else l.bus }

/-- A frame is heard: it is taken unless the line is being ignored after a bad length (R40). -/
def State.hear (effect : State → State) (s : State) : State :=
  if s.line.bus = .ignoringUntilTen then s else effect (s.setLine s.line.occupied)

/-- A command that is a frame received on the car line. -/
def runFrame (m : Moment) (effect : State → State) (s : State) : Host.Outcome State Fault Refusal :=
  runCommand m (State.hear effect) s

/-- Do something only when a timer is due (00_scope.md 3.5, log entry 3). -/
def State.whenDue (t : Timer) (limit : Nat) (effect : State → State) (s : State) : State :=
  if timerReached t s.clock limit then effect s else s

end Sys2Proof.Machine
end

