-- ==== Sys2Proof/Machine/EngagementMonitor.lean ====
section
/-! DEFINITION. The engagement monitor (chapter 2): rack entry and exit, tooth events, the calibration sweep, the
slip check, the held conditions; the command CONDITION_HOLD_EXPIRY. -/

namespace Sys2Proof.Machine

/-- Replace one pinion's record and working state. -/
def State.setMonitor (p : Pinion) (mon : PinionMonitor) (s : State) : State :=
  s.setEngagement { s.engagement with pinions := s.engagement.pinions.set p mon }

/-! ## The arc of a completed sweep (R24) -/

/-- The count of a bin. -/
def binCount (histogram : Vector Nat 32) (bin : Nat) : Nat := histogram.toList.getD bin 0

/-- The hit bins, in bin order: those with two edges or more (R24 step 1). -/
def hitBins (histogram : Vector Nat 32) : List Nat := (List.range 32).filter fun b => 2 ≤ binCount histogram b

/-- The hit bitmap (R24 step 1). -/
def hitBitmap (bins : List Nat) : BitVec 32 := bins.foldl (fun v b => v ||| (1#32 <<< b)) 0#32

/-- Width of the run that starts at `lower` and contains every bin of the list, going upward round the circle. -/
def runWidth (bins : List Nat) (lower : Nat) : Nat := bins.foldl (fun w b => max w ((b + 32 - lower) % 32 + 1)) 0

/-- Lower bin and width of the shortest run that contains every hit bin; among equals the lowest lower bin (R24
steps 2 and 3). -/
def shortestArc (bins : List Nat) : Nat × Nat :=
  match bins with
  | [] => (0, 0)
  | first :: _ =>
    bins.foldl (fun best b => if runWidth bins b < best.2 then (b, runWidth bins b) else best)
      (first, runWidth bins first)

/-- The edges in a run of bins (R24 step 4). -/
def inArcCount (histogram : Vector Nat 32) (lower width : Nat) : Nat :=
  (List.range width).foldl (fun n i => n + binCount histogram ((lower + i) % 32)) 0

/-- The result of a completed sweep (R25). -/
def sweepResult (width inArc : Nat) : WindowStatus :=
  if 12 < width then .failWide else if inArc < 48 then .failSparse else .valid

/-- The window record a completed sweep writes (R24, R25). -/
def sweptWindow (histogram : Vector Nat 32) : Window :=
  let bins := hitBins histogram
  let arc := shortestArc bins
  let inArc := inArcCount histogram arc.1 arc.2
  { status := sweepResult arc.2 inArc, hits := hitBitmap bins, lower := arc.1, upper := (arc.1 + arc.2 + 31) % 32
    width := arc.2, inArc := inArc }

/-! ## Held conditions (R34) -/

/-- An occurrence of CLIMB_OUT, with its hold timer (re)started at standstill (R32, R34). -/
def State.raiseClimbOut (s : State) : State :=
  (if s.rack.standstill then s.setEngagement { s.engagement with climbOutHold := some s.clock } else s).raise .climbOut

/-- An occurrence of CALIBRATION_FAIL, with its hold timer (re)started at standstill (R26, R34). -/
def State.raiseCalibrationFail (s : State) : State :=
  (if s.rack.standstill then s.setEngagement { s.engagement with calibrationHold := some s.clock } else s).raise
    .calibrationFail

/-- SLIP_EVENT goes when both slip counts are 0 (R33). -/
def State.reformSlip (s : State) : State :=
  if s.engagement.pinions.p1.slip = 0 ∧ s.engagement.pinions.p2.slip = 0 then s.clear .slipEvent else s

/-- Standstill confirmed: the held conditions go (R34). -/
def State.monitorConfirmed (s : State) : State :=
  ((s.setEngagement { s.engagement with climbOutHold := none, calibrationHold := none }).clear .climbOut).clear
    .calibrationFail

/-- Standstill left: the hold timers are discarded (R34). -/
def State.monitorLeft (s : State) : State :=
  s.setEngagement { s.engagement with climbOutHold := none, calibrationHold := none }

/-! ## Rack entry and exit -/

/-- One pinion at rack entry (R21). -/
def PinionMonitor.entered (p : PinionMonitor) : PinionMonitor :=
  if p.window.status = .valid then { p with settle := 8, slip := 0 }
  else { window := Window.cleared .sweeping, settle := 8, histogram := Vector.replicate 32 0, counted := 0, slip := 0 }

/-- Rack entry (R21, R35); the local limit falls to 50 when the sweep-running indication becomes set (R94). -/
def State.monitorEntry (s : State) : State :=
  let s1 := s.setEngagement
    { s.engagement with
      pinions := { p1 := s.engagement.pinions.p1.entered, p2 := s.engagement.pinions.p2.entered } }
  let s2 := if s1.sweeping && !s.sweeping then s1.lowerLimit 50 else s1
  s2.reformSlip

/-- One pinion at rack exit (R27). -/
def PinionMonitor.exited (p : PinionMonitor) : PinionMonitor :=
  if p.window.status = .sweeping then
    { window := Window.cleared .invalid, settle := 0, histogram := Vector.replicate 32 0, counted := 0, slip := 0 }
  else { p with settle := 0, slip := 0 }

/-- Rack exit (R27, R33). -/
def State.monitorExit (s : State) : State :=
  (s.setEngagement
    { s.engagement with
      pinions := { p1 := s.engagement.pinions.p1.exited, p2 := s.engagement.pinions.p2.exited } }).reformSlip

/-! ## Tooth events -/

/-- Complete a sweep: write the record, clear the working counts, report a failing result (R25, R26). -/
def State.completeSweep (p : Pinion) (histogram : Vector Nat 32) (s : State) : State :=
  let w := sweptWindow histogram
  let s1 := s.setMonitor p
    { s.engagement.pinions.get p with window := w, histogram := Vector.replicate 32 0, counted := 0 }
  if w.status = .valid then s1 else s1.raiseCalibrationFail

/-- A tooth event of a SWEEPING pinion past its settle teeth (R23). -/
def State.sweepEdge (p : Pinion) (bin : Fin 32) (s : State) : State :=
  let mon := s.engagement.pinions.get p
  let histogram := mon.histogram.set bin (mon.histogram[bin] + 1)
  if mon.counted + 1 = 64 then s.completeSweep p histogram
  else s.setMonitor p { mon with histogram := histogram, counted := mon.counted + 1 }

/-- The bin lies in the band of the record: its arc widened by two bins at each end (R29). -/
def Window.inBand (w : Window) (bin : Fin 32) : Bool := (bin.val + 34 - w.lower % 32) % 32 < w.width + 4

/-- A checked tooth event (R29, R30, R32, R33), its reports in the order of log entry 48. -/
def State.checkEdge (p : Pinion) (bin : Fin 32) (s : State) : State :=
  let mon := s.engagement.pinions.get p
  if mon.window.inBand bin then (s.setMonitor p { mon with slip := mon.slip - 1 }).reformSlip
  else if mon.slip + 4 < 32 then (s.setMonitor p { mon with slip := mon.slip + 4 }).raise .slipEvent
  else
    (((s.setMonitor p { mon with slip := 0, window := { mon.window with status := .invalid } }).raise
      .slipEvent).raiseClimbOut).reformSlip

/-- A tooth event of a pinion (R20, R22, R23, R29 to R32). -/
def State.toothEvent (p : Pinion) (phase : Option (Fin 32)) (s : State) : State :=
  let mon := s.engagement.pinions.get p
  if 0 < mon.settle then s.setMonitor p { mon with settle := mon.settle - 1 }
  else match phase with
    | none => s
    | some bin =>
      match mon.window.status with
      | .sweeping => s.sweepEdge p bin
      | .valid => s.checkEdge p bin
      | .invalid => s
      | .failWide => s
      | .failSparse => s

/-! ## Commands -/

/-- CONDITION_HOLD_EXPIRY: a hold timer reaches 2 000 ms and its condition goes (R34). -/
def execConditionHoldExpiry (m : Moment) (kind : HeldKind) (s : State) : Host.Outcome State Fault Refusal :=
  runCommand m
    (fun t => match kind with
      | .climbOut =>
        t.whenDue t.engagement.climbOutHold (ms 2000)
          (fun u => (u.setEngagement { u.engagement with climbOutHold := none }).clear .climbOut)
      | .calibrationFail =>
        t.whenDue t.engagement.calibrationHold (ms 2000)
          (fun u => (u.setEngagement { u.engagement with calibrationHold := none }).clear .calibrationFail))
    s

end Sys2Proof.Machine
end

