-- ==== Sys2Proof/Machine/RackSensing.lean ====
section
/-! DEFINITION. The rack sensing unit (chapter 1): speed evaluation, standstill, odometer and position, grade
filter; the commands TOOTH_EDGE, WHEEL_PULSE, SOURCE_REST, SPEED_DISAGREE_EXPIRY, SPEED_AGREE_EXPIRY,
STANDSTILL_CONFIRMED, TRACK_MARK, GRADE_SAMPLE_EXPIRY. -/

namespace Sys2Proof.Machine

/-! ## Source speeds and the speed evaluation -/

/-- The time after which a source without edges comes to rest, µs (R3). -/
def restTime : Nat := 2000000

/-- A source that comes to rest by `now` keeps no reference (R3, log entry 9). -/
def liveReference (now : Nat) (ref : Option Nat) : Option Nat :=
  match ref with
  | some t => if t + restTime ≤ now then none else some t
  | none => none

/-- A source speed decayed to `now`: the lesser of the value at the last edge and the value for the time since it
(R3). -/
def decayedSpeed (edgeSpeed distance : Nat) (ref : Option Nat) (now : Nat) : Nat :=
  match ref with
  | some t => if now - t = 0 then edgeSpeed else min edgeSpeed (distance / (now - t))
  | none => 0

/-- The speed an edge gives, and how many free values it draws (R3, log entry 8). -/
def speedAtEdge (freeCount distance : Nat) (ref : Option Nat) (now : Nat) : Nat × Nat :=
  match ref with
  | some t => if now - t = 0 then (Config.zeroIntervalSpeed freeCount, 1) else (distance / (now - t), 0)
  | none => (0, 0)

/-- Distance of a tooth for the speed formula (R3). -/
def toothDistance : Nat := 100000000

/-- Distance of a wheel pulse for the speed formula (R3). -/
def wheelDistance (circumference : Nat) : Nat := circumference * 10000

/-- The reported speed formed from the two source speeds (R6). -/
def Rack.report (r : Rack) : Rack :=
  { r with reported := if r.present then max r.toothSpeed r.wheelSpeed else r.wheelSpeed }

/-- Source speeds at an evaluation, and the reported speed (R3, R6). -/
def Rack.formSpeeds (now circumference : Nat) (r : Rack) : Rack :=
  let toothRef := liveReference now r.toothRef
  let wheelRef := liveReference now r.wheelRef
  { r with
    toothRef := toothRef
    toothEdgeSpeed := if toothRef.isSome then r.toothEdgeSpeed else 0
    toothSpeed := decayedSpeed r.toothEdgeSpeed toothDistance toothRef now
    wheelRef := wheelRef
    wheelEdgeSpeed := if wheelRef.isSome then r.wheelEdgeSpeed else 0
    wheelSpeed := decayedSpeed r.wheelEdgeSpeed (wheelDistance circumference) wheelRef now }.report

/-- The larger of the two source speeds (R7). -/
def Rack.larger (r : Rack) : Nat := max r.toothSpeed r.wheelSpeed

/-- The two sources agree: ten times their difference is not above the larger (R8). -/
def Rack.agree (r : Rack) : Bool := 10 * (r.larger - min r.toothSpeed r.wheelSpeed) ≤ r.larger

/-- A timer that runs on, or starts now. -/
def keepOrStart (t : Timer) (now : Nat) : Timer := some (t.getD now)

/-- The timers of R7, R8 and R9 at an evaluation; `active` is SPEED_DISAGREE. -/
def Rack.evaluateTimers (now : Nat) (active : Bool) (r : Rack) : Rack :=
  { r with
    disagreeTimer := if !active && r.present && decide (556 ≤ r.larger) && !r.agree then keepOrStart r.disagreeTimer now else none
    agreeTimer := if active && r.agree then keepOrStart r.agreeTimer now else none
    standstillTimer := if !r.standstill && decide (r.reported < 56) then keepOrStart r.standstillTimer now else none }

/-- A speed evaluation (R3, R6 to R9). -/
def State.evaluateSpeed (s : State) : State :=
  s.setRack ((s.rack.formSpeeds s.clock s.straps.wheelCircumference).evaluateTimers s.clock (s.present .speedDisagree))

/-! ## Standstill left -/

/-- Every handle release becomes CLEAR; a door that thereby ceases to have a release is withdrawn (R131). -/
def State.dropHandleReleases (s : State) : State :=
  let doors := s.doors.doors.mapIdx fun d r =>
    if r.handleRelease then
      if s.doors.sideRelease (doorSide d) then { r with handleRelease := false }
      else Door.withdraw s.clock { r with handleRelease := false }
    else r
  (s.setDoors { s.doors with doors := doors }).latchIfClosed s.summary

/-- Standstill is left at an edge, with the announcements of R10: hold timers (R34), platform release record (R164),
handle releases (R131), permits (R129). -/
def State.leaveStandstill (direction : Direction) (s : State) : State :=
  let s1 := s.setRack { s.rack with standstill := false, movingDir := direction, standstillTimer := none }
  let s2 := s1.monitorLeft
  let s3 := s2.setRadio { s2.radio with platform := none }
  (s3.dropHandleReleases).retestPermits

/-! ## Motion indications to the proof test (R123) -/

/-- Abort a running test for motion: one occurrence of PROOF_FAIL (R123). -/
def State.abortForMotion (s : State) : State :=
  if s.brake.proof.state = .running then (s.setBrake (s.brake.abort .motion)).raise .proofFail else s

/-- A wheel pulse while a test runs: the third aborts it (R123). -/
def State.wheelMotion (s : State) : State :=
  if s.brake.proof.state = .running then
    let s1 := s.setBrake { s.brake with proof := { s.brake.proof with pulses := min 3 (s.brake.proof.pulses + 1) } }
    if 3 ≤ s1.brake.proof.pulses then s1.abortForMotion else s1
  else s

/-! ## Grade -/

/-- The worst-case grade in the current travel direction (R17). -/
def worstGrade (d : Direction) : Int :=
  match d with
  | .up => -500
  | .down => 500
  | .none => 500

/-- The filtered grade of a full ring: the magnitude of the sum over 16, rounded up, with the sign of the sum,
clamped (R17). -/
def filteredGrade (ring : List Int) : Int :=
  let sum := repeatSum ring
  let magnitude : Int := ((sum.natAbs + 15) / 16 : Nat)
  clampInt (-500) 500 (if sum < 0 then -magnitude else magnitude)

/-- Publish a grade; a change tests the released sides again (R129). -/
def State.setGrade (g : Int) (s : State) : State :=
  if g = s.rack.grade then s else (s.setRack { s.rack with grade := g }).retestPermits

/-- Publish the grade of R17 after a sample. -/
def State.publishGrade (s : State) : State :=
  s.setGrade (if s.gradeWorst then worstGrade s.rack.lastWheelDir else filteredGrade s.rack.ring)

/-- The worst-case grade follows the last wheel direction while it stands (R17). -/
def State.followWorstGrade (s : State) : State :=
  if s.gradeWorst then s.setGrade (worstGrade s.rack.lastWheelDir) else s

/-- Enter a value into the ring of sixteen (R15). -/
def enterRing (ring : List Int) (x : Int) : List Int := (ring ++ [x]).drop (ring.length + 1 - 16)

/-- The grade sample of a reading is valid (R15). -/
def validSample (orient : CarEnd) (reading : Option Int) : Option Int :=
  match reading with
  | some raw => if -600 ≤ gradeSample orient raw ∧ gradeSample orient raw ≤ 600 then some (gradeSample orient raw) else none
  | none => none

/-- One sample taken into the filter (R15). -/
def Rack.sample (x : Option Int) (r : Rack) : Rack :=
  match x with
  | some g =>
    { r with lastValid := some g, ring := enterRing r.ring g, invalidCount := 0, validCount := min 16 (r.validCount + 1) }
  | none =>
    { r with
      invalidCount := min 16 (r.invalidCount + 1)
      validCount := 0
      ring :=
        match r.lastValid with
        | some g => enterRing r.ring g
        | none => r.ring }

/-- GRADE_SENSOR by the counts after a sample (R16): the change to present is the occurrence (R183), so a count that
reaches 16 while the condition stands reports nothing. -/
def State.reformGradeSensor (before : Rack) (s : State) : State :=
  if s.rack.invalidCount = 16 ∧ before.invalidCount ≠ 16 then
    if s.present .gradeSensor then s else s.raise .gradeSensor
  else if s.rack.validCount = 16 ∧ before.validCount ≠ 16 then s.clear .gradeSensor
  else s

/-! ## Odometer -/

/-- A sensor 1 tooth edge in the odometer, when the counting source at its arrival is TEETH (R11). -/
def Rack.countTooth (r : Rack) : Rack :=
  match r.lastWheelDir with
  | .none => { r with pendingTeeth := min 65535 (r.pendingTeeth + 1), uncounted := 0 }
  | .up => { r with travel := clampTravel (r.travel + 10000), uncounted := 0 }
  | .down => { r with travel := clampTravel (r.travel - 10000), uncounted := 0 }

/-- The first wheel pulse after a start applies the pending teeth in its direction (R11). -/
def Rack.applyPending (direction : Direction) (r : Rack) : Rack :=
  if r.lastWheelDir = .none then
    { r with travel := clampTravel (r.travel + signedDistance direction (r.pendingTeeth * 10000)), pendingTeeth := 0 }
  else r

/-- A wheel pulse in the odometer, by the counting source at its arrival (R11). -/
def Rack.countPulse (teeth : Bool) (direction : Direction) (circumference : Nat) (r : Rack) : Rack :=
  if teeth then { r with uncounted := clampTravel (r.uncounted + signedDistance direction circumference) }
  else { r with travel := clampTravel (r.travel + signedDistance direction circumference) }

/-- The counting source changes from TEETH to WHEEL (R12). -/
def Rack.transfer (r : Rack) : Rack := { r with travel := clampTravel (r.travel + r.uncounted), uncounted := 0 }

/-! ## Edges -/

/-- A sensor 1 edge in the tooth speed source; edges of sensor 2 do not feed it (R1, R3). -/
def State.toothSource (sensor : Pinion) (s : State) : State :=
  match sensor with
  | .p2 => s
  | .p1 =>
    let v := speedAtEdge s.freeCount toothDistance (liveReference s.clock s.rack.toothRef) s.clock
    (s.setRack { s.rack with toothRef := some s.clock, toothEdgeSpeed := v.1 }).setFreeCount (s.freeCount + v.2)

/-- A wheel pulse in the wheel speed source (R2, R3). -/
def State.wheelSource (s : State) : State :=
  let v := speedAtEdge s.freeCount (wheelDistance s.straps.wheelCircumference) (liveReference s.clock s.rack.wheelRef) s.clock
  (s.setRack { s.rack with wheelRef := some s.clock, wheelEdgeSpeed := v.1 }).setFreeCount (s.freeCount + v.2)

/-- A tooth edge in the rack's own state: presence and absence distance (R4, R5), odometer (R11, R12). -/
def Rack.toothEdge (sensor : Pinion) (teeth disagree : Bool) (r : Rack) : Rack :=
  let r1 := { r with present := true, absence := 0, uncounted := if !r.present && !disagree then 0 else r.uncounted }
  match sensor with
  | .p1 => if teeth then r1.countTooth else r1
  | .p2 => r1

/-- A tooth edge leaves standstill when it is one of sensor 1 with a tooth speed of 56 mm/s or more (R10). -/
def State.leaveAtTooth (sensor : Pinion) (s : State) : State :=
  match sensor with
  | .p1 => if s.rack.standstill && decide (56 ≤ s.rack.toothSpeed) then s.leaveStandstill .none else s
  | .p2 => s

/-- Rack entry as announced: the engagement monitor (R4, R21), then the fall of the local limit to the rack
ceiling (R94). -/
def State.announceEntry (s : State) : State := (s.monitorEntry).lowerLimit s.straps.rackCeiling

/-- The effect of a tooth edge, in the order of log entry 11 (R1, R3 to R12, R22, R123). -/
def State.toothEdge (sensor : Pinion) (phase : Option (Fin 32)) (s : State) : State :=
  let s1 := s.setRack (s.rack.toothEdge sensor s.countingTeeth (s.present .speedDisagree))
  let s2 := ((s1.toothSource sensor).evaluateSpeed).leaveAtTooth sensor
  let s3 := if s.rack.present then s2 else s2.announceEntry
  ((s3.toothEvent sensor phase).abortForMotion).afterMove s

/-- A wheel pulse in the rack's own state (R2, R5, R11, R12). -/
def Rack.wheelPulse (direction : Direction) (teeth : Bool) (circumference : Nat) (r : Rack) : Rack :=
  let r1 := (r.applyPending direction).countPulse teeth direction circumference
  let exits := r.present && decide (30000 ≤ r.absence + circumference)
  let r2 := if exits && teeth then r1.transfer else r1
  { r2 with
    lastWheelDir := direction
    absence := r.absence + circumference
    present := r.present && !exits
    movingDir := if r.standstill then r.movingDir else direction }

/-- A wheel pulse leaves standstill when its wheel speed is 56 mm/s or more (R10). -/
def State.leaveAtPulse (direction : Direction) (s : State) : State :=
  if s.rack.standstill && decide (56 ≤ s.rack.wheelSpeed) then s.leaveStandstill direction else s

/-- The effect of a wheel pulse, in the order of log entry 11 (R2, R3, R5 to R12, R17, R27, R123). -/
def State.wheelPulse (channel1Leads : Bool) (s : State) : State :=
  let direction := pulseDirection s.straps.orient channel1Leads
  let s1 := s.setRack (s.rack.wheelPulse direction s.countingTeeth s.straps.wheelCircumference)
  let s2 := ((s1.wheelSource).evaluateSpeed).leaveAtPulse direction
  let s3 := if s.rack.present && !s2.rack.present then s2.monitorExit else s2
  ((s3.followWorstGrade).wheelMotion).afterMove s

/-! ## Commands -/

/-- TOOTH_EDGE (R1, R3, R4, R11). -/
def execToothEdge (m : Moment) (sensor : Pinion) (phase : Option (Fin 32)) (s : State) : Host.Outcome State Fault Refusal :=
  runCommand m (State.toothEdge sensor phase) s

/-- WHEEL_PULSE (R2, R3, R5, R11). -/
def execWheelPulse (m : Moment) (channel1Leads : Bool) (s : State) : Host.Outcome State Fault Refusal :=
  runCommand m (State.wheelPulse channel1Leads) s

/-- SOURCE_REST: a source comes to rest 2 000 000 µs after its last edge (R3); the reported speed is re-formed (log
entry 10). -/
def execSourceRest (m : Moment) (source : SpeedSource) (s : State) : Host.Outcome State Fault Refusal :=
  runCommand m
    (fun t => match source with
      | .tooth =>
        t.whenDue t.rack.toothRef restTime
          (fun u => u.setRack { u.rack with toothRef := none, toothEdgeSpeed := 0, toothSpeed := 0 }.report)
      | .wheel =>
        t.whenDue t.rack.wheelRef restTime
          (fun u => u.setRack { u.rack with wheelRef := none, wheelEdgeSpeed := 0, wheelSpeed := 0 }.report))
    s

/-- SPEED_DISAGREE_EXPIRY: the condition becomes active, and the uncounted wheel travel is transferred when the
counting source was TEETH (R7, R12). -/
def execSpeedDisagreeExpiry (m : Moment) (s : State) : Host.Outcome State Fault Refusal :=
  runCommand m
    (fun t => t.whenDue t.rack.disagreeTimer (ms 1000)
      (fun u =>
        let r := { u.rack with disagreeTimer := none }
        ((u.setRack (if u.countingTeeth then r.transfer else r)).raise .speedDisagree).afterMove u))
    s

/-- SPEED_AGREE_EXPIRY: the condition becomes inactive; with rack PRESENT counting goes back to teeth (R8, R12). -/
def execSpeedAgreeExpiry (m : Moment) (s : State) : Host.Outcome State Fault Refusal :=
  runCommand m
    (fun t => t.whenDue t.rack.agreeTimer (ms 1000)
      (fun u =>
        let r := { u.rack with agreeTimer := none }
        (u.setRack (if u.rack.present then { r with uncounted := 0 } else r)).clear .speedDisagree))
    s

/-- Standstill confirmed, with its announcements: holding brake (R109), held conditions (R34), OVERSPEED_HARD (R98),
permits (R129), restriction evaluation (R176). -/
def State.confirmStandstill (s : State) : State :=
  let s1 := s.setRack { s.rack with standstill := true, standstillTimer := none }
  ((((s1.applyHolding).monitorConfirmed).clear .overspeedHard).retestPermits).afterMove s

/-- STANDSTILL_CONFIRMED (R9). -/
def execStandstillConfirmed (m : Moment) (s : State) : Host.Outcome State Fault Refusal :=
  runCommand m
    (fun t => if t.rack.standstill then t else t.whenDue t.rack.standstillTimer (ms 2000) State.confirmStandstill)
    s

/-- TRACK_MARK: a mark of 0 to 1 000 000 dm sets the base and makes the position KNOWN; one above is discarded
(R13, R14). -/
def execTrackMark (m : Moment) (dm : Nat) (s : State) : Host.Outcome State Fault Refusal :=
  runCommand m
    (fun t =>
      if dm ≤ 1000000 then
        ((t.setRack { t.rack with markBase := dm, travel := 0, uncounted := 0, pendingTeeth := 0, known := true }).clear
          .positionUnknown).afterMove t
      else t)
    s

/-- GRADE_SAMPLE_EXPIRY: the sample enters the filter (R15), GRADE_SENSOR is judged (R16), the grade is published
(R17), and the expiry is a speed evaluation (R3). -/
def execGradeSampleExpiry (m : Moment) (reading : Option Int) (s : State) : Host.Outcome State Fault Refusal :=
  runCommand m
    (fun t => t.whenDue (some t.rack.sampleStart) (ms 10)
      (fun u =>
        let u1 := u.setRack { u.rack.sample (validSample u.straps.orient reading) with sampleStart := u.clock }
        ((u1.reformGradeSensor u.rack).publishGrade).evaluateSpeed))
    s

end Sys2Proof.Machine
end

