-- ==== Sys2Proof/Machine/LineControl.lean ====
section
/-! DEFINITION. The line controller (chapter 3): transmit slots, contention as the commands show it, line quality,
number clash, neighbour senses, numbering; the commands LINE_IDLE to JOIN_RETRY, BAD_FRAME to
COMPLETION_WAIT_EXPIRY, RECEIVE_INSPECT_REPLY, TEN_RECESSIVE_BIT_TIMES and START_BIT_ON_LINE. -/

namespace Sys2Proof.Machine

/-! ## The STATE slot (R44, R45, R52, R61) -/

/-- Place a frame in the STATE slot, replacing a waiting one or behind one in transmission (R52). -/
def State.placeHeld (f : LineFrame) (kind : StateSlotKind) (s : State) : State :=
  let held : HeldFrame := { frame := f, kind := kind, placedAt := s.clock, late := false }
  if s.line.sending = some .state then s.setLine { s.line with stateBehind := some held }
  else s.setLine { s.line with stateSlot := some held }.offer

/-- The fields of a STATE built now (R44). -/
def State.stateReport (s : State) : StateReport :=
  { sequence := s.line.nextSequence
    stationState := s.station.life.code
    direction := directionCode s.direction
    known := s.rack.known
    holding := s.brake.applied
    latch := s.brake.latch
    speed := narrow 16 s.publishedSpeed
    position := narrow 24 (s.position.getD 0)
    mass := narrow 16 (s.doors.mass / 100)
    capacity := narrow 16 (s.serviceCapacity / 100)
    applied := narrow 16 (s.appliedForce / 100)
    holdingCapacity := narrow 16 (s.holdingCapacity / 100)
    localLimit := narrow 16 s.speed.localLimit
    summary := s.summary.code
    faultClass := s.faults.highestClass s.straps.strict
    valley := s.radio.status.code
    cabActive := false
    lastSequence := s.radio.lastSequence
    grade := BitVec.ofInt 16 (clampInt (-500) 500 s.rack.grade) }

/-- Build a STATE and place it; the sequence rises whether it is sent or not (R44, R52). -/
def State.placeState (n : Fin 8) (s : State) : State :=
  let f := buildFrame n (.state s.stateReport)
  let s1 := s.setLine { s.line with nextSequence := s.line.nextSequence + 1 }
  s1.placeHeld f .state

/-- Build a JOIN and place it in the STATE slot (R45, R61, R63). -/
def State.placeJoin (n : Fin 8) (s : State) : State :=
  let last := !s.summitNeighbour
  let fields : JoinFields :=
    { number := BitVec.ofNat 8 (n.val + 1), kind := 0, last := last, rejoin := s.line.rejoin
      tare := narrow 16 (s.straps.tareKg / 100) }
  s.placeHeld (buildFrame n (.join fields)) (.join last s.line.rejoin)

/-- A discarded frame of the STATE slot: counted, and from the third in a row an occurrence of LINE_CONGESTION; a
JOIN is built anew 50 ms after its placing (R52, R53, R61). -/
def State.discarded (f : HeldFrame) (s : State) : State :=
  let joinRetry :=
    match f.kind with
    | .join _ _ => some f.placedAt
    | .state => s.line.joinRetry
  let s1 := s.setLine { s.line with discards := s.line.discards + 1, joinRetry := joinRetry }
  if 3 ≤ s1.line.discards then s1.raise .lineCongestion else s1

/-! ## Taking a number (R59 to R61, R66) -/

/-- Mark the own entry SELF (R66). -/
def State.markSelf (n : Fin 8) (s : State) : State := (s.setPeer n { PeerEntry.blank with state := .self }).peersChanged

/-- The position report timer of a radio-fitted station runs from the moment it takes or restores its number
(R168). -/
def State.startReports (s : State) : State :=
  if s.straps.radioFitted then s.setRadio { s.radio with reportTimer := some s.clock } else s

/-- Take a number: JOIN_WAITING, own entry SELF, JOIN placed (R59 to R61, R66). -/
def State.takeNumber (n : Fin 8) (s : State) : State :=
  let s1 := s.setLine { s.line with own := some n, phase := .joinWaiting, listenTimer := none, chainWaitTimer := none }
  ((s1.markSelf n).startReports).placeJoin n

/-- Give up numbering: CONSIST_INCOMPLETE and SILENT (R60). -/
def State.goSilent (s : State) : State :=
  (s.setLine { s.line with phase := .silent, chainWaitTimer := none }).raise .consistIncomplete

/-- In CHAIN_WAIT, take the number after the highest heard once chain-in is active and a JOIN has been heard
(R60). -/
def State.tryTakeNumber (s : State) : State :=
  if s.line.phase = .chainWait ∧ s.chainIn = true ∧ 1 ≤ s.line.highestHeard then
    if h : s.line.highestHeard < 8 then s.takeNumber ⟨s.line.highestHeard, h⟩ else s.goSilent
  else s

/-! ## Receiving (R55 to R57) -/

/-- A bad frame is counted toward line quality; the eleventh of a window is an occurrence of LINE_QUALITY (R56). -/
def State.countBad (s : State) : State :=
  let s1 := s.setLine { s.line with badCount := s.line.badCount + 1 }
  if s1.line.badCount = 11 then s1.raise .lineQuality else s1

/-- One occurrence of NUMBER_CLASH, and the clash timer restarts (R57, R67). -/
def State.clash (s : State) : State := (s.setLine { s.line with clashTimer := some s.clock }).raise .numberClash

/-- The clash test on a good frame that the station did not send (R57). -/
def State.clashTest (source : Fin 8) (s : State) : State := if s.line.own = some source then s.clash else s

/-- A frame of a known layout: bad if its ranges do not hold, else tested for a clash and handed on (R55, R57). That the
clash of a frame under the own number is reported before the frame is handed on is the model's choice (log entry 43). -/
def State.handOn (ok : Bool) (source : Fin 8) (effect : State → State) (s : State) : State :=
  if ok then effect (s.clashTest source) else s.countBad

/-- The ORDER hold-off ends; on an idle line the ORDER slot is offered again at the next idle only (R51, log entry 12). -/
def State.endHoldOff (s : State) : State :=
  s.setLine { s.line with orderHoldOff := none, orderPassed := decide (s.line.bus = .idle) }

/-! ## Neighbour senses (R58, R64) -/

/-- One raw level at the sense's filter (R58). -/
def Sense.input (now : Nat) (level : Bool) (v : Sense) : Sense :=
  if level = v.filtered then { v with changing := none } else { v with changing := some (v.changing.getD now) }

/-- The filtered level changes (R58). -/
def Sense.settle (v : Sense) : Sense := { filtered := !v.filtered, changing := none }

/-- Change the sense of a car end. -/
def Line.mapSense (carEnd : CarEnd) (f : Sense → Sense) (l : Line) : Line :=
  match carEnd with
  | .endA => { l with senseA := f l.senseA }
  | .endB => { l with senseB := f l.senseB }

/-- The sense of a car end. -/
def Line.sense (carEnd : CarEnd) (l : Line) : Sense :=
  match carEnd with
  | .endA => l.senseA
  | .endB => l.senseB

/-- A filtered sense differs from its reference (R64). -/
def Line.changed (l : Line) : Bool :=
  match l.references with
  | some (a, b) => l.senseA.filtered != a || l.senseB.filtered != b
  | none => false

/-- CONSIST_CHANGED by the senses, in COMPLETION_WAIT and COMPLETE (R64). -/
def State.reformConsistChanged (s : State) : State :=
  if s.line.phase = .completionWait ∨ s.line.phase = .complete then
    if s.line.changed then (if s.present .consistChanged then s else s.raise .consistChanged)
    else s.clear .consistChanged
  else s

/-! ## A frame sent (R42, R49 to R53, R61, R63) -/

/-- The own JOIN has been sent (R61, R63). -/
def State.joinSent (last rejoin : Bool) (s : State) : State :=
  let s1 := s.setLine
    { s.line with
      statePeriod := some s.clock
      chainOutDue := some s.clock
      references := some (s.line.senseA.filtered, s.line.senseB.filtered)
      joinRetry := none }
  if rejoin then (s1.setLine { s1.line with phase := .complete }).rejoinDone
  else if last then (s1.setLine { s1.line with phase := .complete }).consistComplete
  else s1.setLine { s1.line with phase := .completionWait, completionTimer := some s1.clock }

/-- A STATE or JOIN frame has been sent: the discard count is 0 and LINE_CONGESTION goes (R52, R53). That it goes before the
effects of a JOIN, such as the SUPPLY_FAIL of a rejoin with the supply at WARN (R198), is the model's choice (log entry
46). -/
def State.heldSent (s : State) : State :=
  match s.line.stateSlot with
  | none => s
  | some held =>
    let s1 := (s.setLine { s.line with stateSlot := s.line.stateBehind, stateBehind := none, discards := 0 }).clear
      .lineCongestion
    match held.kind with
    | .state => s1
    | .join last rejoin => s1.joinSent last rejoin

/-- The frame in transmission leaves its slot, with the effects of its sending (R42). -/
def State.frameSent (s : State) : State :=
  let s1 := s.setLine { s.line with sending := none, bus := .busy }
  match s.line.sending with
  | none => s
  | some .alert => s1.setLine { s1.line with alert := s1.line.alertBehind, alertBehind := none }
  | some .order => s1.setLine { s1.line with orders := s1.line.orders.tail, orderHoldOff := some s1.clock }
  | some .state => s1.heldSent
  | some .reply => s1.setLine { s1.line with replies := s1.line.replies.tail }

/-- The frame in transmission is waiting again; an ALERT or STATE held behind it takes its place, and a frame of
the STATE slot whose access timeout has run out is discarded (R42, R49, R52). -/
def State.contentionLost (s : State) : State :=
  let s1 := s.setLine { s.line with sending := none, bus := .busy }
  match s.line.sending with
  | none => s
  | some .alert =>
    if s1.line.alertBehind.isSome then s1.setLine { s1.line with alert := s1.line.alertBehind, alertBehind := none } else s1
  | some .order => s1
  | some .reply => s1
  | some .state =>
    match s1.line.stateSlot with
    | none => s1
    | some held =>
      let s2 :=
        if held.late || s1.line.stateBehind.isSome then
          s1.setLine { s1.line with stateSlot := s1.line.stateBehind, stateBehind := none }
        else s1
      if held.late then s2.discarded held else s2

/-- The access timeout of a frame has reached 20 ms (R52). -/
def HeldFrame.overdue (now : Nat) (f : HeldFrame) : Bool := !f.late && decide (f.placedAt + ms 20 ≤ now)

/-- A frame in transmission stays until it is sent or lost; a waiting one is discarded (R52). -/
def State.accessTimeout (s : State) : State :=
  match s.line.stateSlot with
  | none => s
  | some held =>
    if held.overdue s.clock then
      if s.line.sending = some .state then s.setLine { s.line with stateSlot := some { held with late := true } }
      else (s.setLine { s.line with stateSlot := s.line.stateBehind, stateBehind := none }).discarded held
    else
      match s.line.stateBehind with
      | none => s
      | some behind =>
        if behind.overdue s.clock then (s.setLine { s.line with stateBehind := none }).discarded behind else s

/-! ## Commands: transmitting -/

/-- LINE_IDLE: an idle of the line, at which at most one frame is chosen and offered (R39, R48). -/
def execLineIdle (m : Moment) (s : State) : Host.Outcome State Fault Refusal :=
  runCommand m
    (fun t =>
      if t.line.sending = none ∧ (t.line.bus = .busy ∨ t.line.bus = .idle) then t.setLine t.line.beginIdle else t)
    s

/-- CONTENTION_LOST (R42). -/
def execContentionLost (m : Moment) (s : State) : Host.Outcome State Fault Refusal := runCommand m State.contentionLost s

/-- FRAME_SENT (R42). -/
def execFrameSent (m : Moment) (s : State) : Host.Outcome State Fault Refusal := runCommand m State.frameSent s

/-- ORDER_HOLD_OFF_EXPIRY: 5 ms after the own ORDER was sent (R51). -/
def execOrderHoldOffExpiry (m : Moment) (s : State) : Host.Outcome State Fault Refusal :=
  runCommand m (fun t => t.whenDue t.line.orderHoldOff (ms 5) State.endHoldOff) s

/-- CHAIN_OUT_ACTIVATE: 24 µs after the own JOIN was sent (R61). -/
def execChainOutActivate (m : Moment) (s : State) : Host.Outcome State Fault Refusal :=
  runCommand m
    (fun t => t.whenDue t.line.chainOutDue 24 (fun u => u.setLine { u.line with chainOut := true, chainOutDue := none }))
    s

/-- STATE_PERIOD_EXPIRY: a STATE is built and placed every 50 ms (R44, R52). -/
def execStatePeriodExpiry (m : Moment) (s : State) : Host.Outcome State Fault Refusal :=
  runCommand m
    (fun t => t.whenDue t.line.statePeriod (ms 50)
      (fun u =>
        let u1 := u.setLine { u.line with statePeriod := some u.clock }
        match u1.line.own with
        | none => u1
        | some n => u1.placeState n))
    s

/-- ACCESS_TIMEOUT: a frame of the STATE slot has waited 20 ms (R52). -/
def execAccessTimeout (m : Moment) (s : State) : Host.Outcome State Fault Refusal := runCommand m State.accessTimeout s

/-- JOIN_RETRY: 50 ms after a discarded JOIN was placed a new one is built and placed (R61). -/
def execJoinRetry (m : Moment) (s : State) : Host.Outcome State Fault Refusal :=
  runCommand m
    (fun t => t.whenDue t.line.joinRetry (ms 50)
      (fun u =>
        let u1 := u.setLine { u.line with joinRetry := none }
        match u1.line.phase, u1.line.own with
        | .joinWaiting, some n => u1.placeJoin n
        | _, _ => u1))
    s

/-! ## Commands: receiving -/

/-- RECEIVE_INSPECT_REPLY: not used, but tested for a clash (R55, R57). -/
def execReceiveInspectReply (m : Moment) (source : Fin 8) (payload : List Byte) (s : State) :
    Host.Outcome State Fault Refusal :=
  runFrame m (State.handOn ((FrameBody.inspectReply payload).ok source) source id) s

/-- BAD_FRAME: counted in the current window; one bad at its length field makes the line ignored until ten
recessive bit times (R40, R55, R56). -/
def execBadFrame (m : Moment) (frame : LineFrame) (s : State) : Host.Outcome State Fault Refusal :=
  runFrame m
    (fun t =>
      if classify frame = .bad then
        let t1 := t.countBad
        if 24 < frame.length.toNat then t1.setLine { t1.line with bus := .ignoringUntilTen } else t1
      else t)
    s

/-- UNKNOWN_FRAME_DROPPED: dropped, not counted (R43, R46, R55). -/
def execUnknownFrameDropped (m : Moment) (_frame : LineFrame) (s : State) : Host.Outcome State Fault Refusal :=
  runFrame m id s

/-- LINE_QUALITY_WINDOW_END: LINE_QUALITY goes at a count of 2 or less; a new window begins (R56). -/
def execLineQualityWindowEnd (m : Moment) (s : State) : Host.Outcome State Fault Refusal :=
  runCommand m
    (fun t => t.whenDue (some t.line.qualityStart) (ms 1000)
      (fun u =>
        let u1 := u.setLine { u.line with qualityStart := u.clock, badCount := 0 }
        if u.line.badCount ≤ 2 then u1.clear .lineQuality else u1))
    s

/-- CLASH_TIMER_EXPIRY: NUMBER_CLASH goes 1 000 ms after the last clash frame (R57). -/
def execClashTimerExpiry (m : Moment) (s : State) : Host.Outcome State Fault Refusal :=
  runCommand m
    (fun t => t.whenDue t.line.clashTimer (ms 1000)
      (fun u => (u.setLine { u.line with clashTimer := none }).clear .numberClash))
    s

/-- TEN_RECESSIVE_BIT_TIMES: the line is idle again after a start or after a bad length (R39, R40). -/
def execTenRecessiveBitTimes (m : Moment) (s : State) : Host.Outcome State Fault Refusal :=
  runCommand m
    (fun t =>
      if t.line.bus = .awaitingTen ∨ t.line.bus = .ignoringUntilTen then t.setLine t.line.beginIdle else t)
    s

/-- START_BIT_ON_LINE: another station's start bit makes an idle line busy (R39). -/
def execStartBitOnLine (m : Moment) (s : State) : Host.Outcome State Fault Refusal :=
  runCommand m (fun t => t.setLine t.line.occupied) s

/-! ## Commands: neighbour senses and numbering -/

/-- NEIGHBOUR_SENSE_INPUT: a raw sense takes a level and its filter times it (R58). -/
def execNeighbourSenseInput (m : Moment) (carEnd : CarEnd) (level : Bool) (s : State) :
    Host.Outcome State Fault Refusal :=
  runLevels m
    (fun v => match carEnd with
      | .endA => { v with senseA := level }
      | .endB => { v with senseB := level })
    (fun t => t.setLine (t.line.mapSense carEnd (Sense.input t.clock level)))
    s

/-- NEIGHBOUR_SENSE_FILTERED: a level held for 100 ms becomes the filtered level (R58, R64). -/
def execNeighbourSenseFiltered (m : Moment) (carEnd : CarEnd) (s : State) : Host.Outcome State Fault Refusal :=
  runCommand m
    (fun t => t.whenDue (t.line.sense carEnd).changing (ms 100)
      (fun u => (u.setLine (u.line.mapSense carEnd Sense.settle)).reformConsistChanged))
    s

/-- LISTEN_WINDOW_END: number 1 without a valley-side neighbour, else CHAIN_WAIT (R59, R60). -/
def execListenWindowEnd (m : Moment) (s : State) : Host.Outcome State Fault Refusal :=
  runCommand m
    (fun t => t.whenDue t.line.listenTimer (ms 300)
      (fun u =>
        let u1 := u.setLine { u.line with listenTimer := none }
        if u1.valleyNeighbour then
          (u1.setLine { u1.line with phase := .chainWait, chainWaitTimer := some u1.clock }).tryTakeNumber
        else u1.takeNumber 0))
    s

/-- CHAIN_IN_CHANGE: a level at a chain pin (R60). -/
def execChainInChange (m : Moment) (carEnd : CarEnd) (level : Bool) (s : State) : Host.Outcome State Fault Refusal :=
  runLevels m
    (fun v => match carEnd with
      | .endA => { v with chainA := level }
      | .endB => { v with chainB := level })
    State.tryTakeNumber
    s

/-- CHAIN_WAIT_EXPIRY: 5 000 ms without a number (R60). -/
def execChainWaitExpiry (m : Moment) (s : State) : Host.Outcome State Fault Refusal :=
  runCommand m (fun t => t.whenDue t.line.chainWaitTimer (ms 5000) State.goSilent) s

/-- COMPLETION_WAIT_EXPIRY: 10 000 ms without a last-flag JOIN; the phase stays (R62). -/
def execCompletionWaitExpiry (m : Moment) (s : State) : Host.Outcome State Fault Refusal :=
  runCommand m
    (fun t => t.whenDue t.line.completionTimer (ms 10000)
      (fun u => (u.setLine { u.line with completionTimer := none }).raise .consistIncomplete))
    s

end Sys2Proof.Machine
end

