-- ==== Sys2Proof/Machine/PeerTable.lean ====
section
/-! DEFINITION. The peer table (chapter 4): what frames and ages do to an entry, the acceptance of COMMAND frames
(R78) and their admission (R200); the commands RECEIVE_JOIN, RECEIVE_STATE, RECEIVE_ALERT, PEER_STALE and
PEER_LOST. -/

namespace Sys2Proof.Machine

/-! ## Entries -/

/-- The kind a JOIN carries (R45). -/
def peerKindOf (code : BitVec 2) : PeerKind :=
  match code.toNat with
  | 0 => .car
  | 1 => .traction
  | 2 => .cab
  | _ => .notKnown

/-- An entry that a JOIN has made JOINED (R67). -/
def PeerEntry.joinedBy (now : Nat) (fields : JoinFields) : PeerEntry :=
  { state := .joined, kind := peerKindOf fields.kind, tare := fields.tare.toNat * 100, contents := none
    ageFrom := some now, lastAlert := none }

/-- A JOIN of another kind than the entry's is a clash (R67). -/
def PeerEntry.mismatch (e : PeerEntry) (kind : PeerKind) : Bool :=
  e.state != .empty && e.kind != .notKnown && e.kind != kind

/-- A JOIN in the table (R67); one from the own number is applied to no entry (R66). -/
def State.peerJoin (source : Fin 8) (fields : JoinFields) (s : State) : State :=
  if s.line.own = some source ∨ s.peers[source].state = .self then s
  else if s.peers[source].mismatch (peerKindOf fields.kind) then s.clash
  else (s.setPeer source (PeerEntry.joinedBy s.clock fields)).peersChanged

/-- A last-flag JOIN in COMPLETION_WAIT completes the consist (R62). -/
def State.completeByJoin (last : Bool) (s : State) : State :=
  if last = true ∧ s.line.phase = .completionWait then
    ((s.setLine { s.line with phase := .complete, completionTimer := none }).consistComplete).clear .consistIncomplete
  else s

/-- A JOIN in the own numbering: the highest number heard until a number is taken (R59, R60), completion (R62). -/
def State.numberByJoin (fields : JoinFields) (s : State) : State :=
  let s1 :=
    if s.line.own = none then s.setLine { s.line with highestHeard := max s.line.highestHeard fields.number.toNat } else s
  (s1.completeByJoin fields.last).tryTakeNumber

/-- A STATE in the table (R68). -/
def State.peerState (source : Fin 8) (report : StateReport) (s : State) : State :=
  if s.line.own = some source ∨ s.peers[source].state = .self then s
  else
    (s.setPeer source
      { s.peers[source] with state := .fresh, contents := some report, ageFrom := some s.clock }).peersChanged

/-- An ALERT in the table (R72). -/
def State.peerAlert (source : Fin 8) (kind : Byte) (s : State) : State :=
  if s.line.own = some source ∨ s.peers[source].state = .self then s
  else s.setPeer source { s.peers[source] with lastAlert := faultKindOfCode kind.toNat }

/-- A FRESH entry's age reaches 150 ms (R69). -/
def State.peerStale (station : Fin 8) (s : State) : State :=
  if s.peers[station].state = .fresh then
    (s.setPeer station { s.peers[station] with state := .stale }).peersChanged
  else s

/-- A STALE or JOINED entry's age reaches 500 ms (R70, log entry 48). -/
def State.peerLost (station : Fin 8) (s : State) : State :=
  if s.peers[station].state = .stale ∨ s.peers[station].state = .joined then
    ((s.setPeer station { s.peers[station] with state := .lost }).raise .peerLost).peersChanged
  else s

/-! ## COMMAND frames -/

/-- The peer table accepts a COMMAND: no CAB_CONFLICT, its source the active cab, its target ALL or the own number
(R78). -/
def State.accepts (source : Fin 8) (target : Byte) (s : State) : Bool :=
  s.activeCab source && (target.toNat == 0 || (s.line.own.isSome && target == s.stationByte))

/-- The station state admits a subkind (R200). -/
def admits : Subkind → Life → Bool
  | .consistReset, life => life != .off && life != .cold
  | .proof, life => life == .proving || life == .ready
  | .service, life => life == .ready
  | .release, life => life == .ready
  | .doorsRelease, life => life == .ready
  | .doorsClose, life => life == .ready
  | .inspect, life => life == .ready

/-- A COMMAND frame: bad out of its ranges, else tested for a clash, accepted (R78) and admitted (R200) or ignored
(R55, R79). -/
def runCommandFrame (m : Moment) (sub : Subkind) (source : Fin 8) (target : Byte) (param : BitVec 16)
    (effect : State → State) (s : State) : Host.Outcome State Fault Refusal :=
  runFrame m
    (State.handOn (commandOk target sub param) source
      (fun t => if t.accepts source target && admits sub t.station.life then effect t else t))
    s

/-! ## Commands -/

/-- RECEIVE_JOIN (R55, R57, R59, R60, R62, R67). -/
def execReceiveJoin (m : Moment) (source : Fin 8) (fields : JoinFields) (s : State) :
    Host.Outcome State Fault Refusal :=
  runFrame m
    (State.handOn (fields.ok source) source (fun t => (t.peerJoin source fields).numberByJoin fields)) s

/-- RECEIVE_STATE (R55, R57, R68). -/
def execReceiveState (m : Moment) (source : Fin 8) (report : StateReport) (s : State) :
    Host.Outcome State Fault Refusal :=
  runFrame m (State.handOn report.ok source (State.peerState source report)) s

/-- RECEIVE_ALERT (R55, R57, R72). -/
def execReceiveAlert (m : Moment) (source : Fin 8) (kind : Byte) (station : Byte) (s : State) :
    Host.Outcome State Fault Refusal :=
  runFrame m (State.handOn (alertOk kind station) source (State.peerAlert source kind)) s

/-- PEER_STALE (R69). -/
def execPeerStale (m : Moment) (station : Fin 8) (s : State) : Host.Outcome State Fault Refusal :=
  runCommand m (fun t => t.whenDue t.peers[station].ageFrom (ms 150) (State.peerStale station)) s

/-- PEER_LOST (R70, R71). -/
def execPeerLost (m : Moment) (station : Fin 8) (s : State) : Host.Outcome State Fault Refusal :=
  runCommand m (fun t => t.whenDue t.peers[station].ageFrom (ms 500) (State.peerLost station)) s

end Sys2Proof.Machine
end

