-- ==== Sys2Proof/Machine/SpeedSupervision.lean ====
section
/-! DEFINITION. The speed supervisor (chapter 5): the stages of the local limit, the raise hold, the holding check,
intervention and hard overspeed; the command SUPERVISION_COMPUTATION. -/

namespace Sys2Proof.Machine

/-! ## Stages 1 to 5 (R88 to R91) -/

/-- Stage 1: the gravity component of the published grade (R86, R88). -/
def State.gravityHere (s : State) : Int := gravity s.rack.grade

/-- Stage 2: the mass M of the consist set, kg (R88). -/
def State.totalMass (s : State) : Sat :=
  s.consistPeers.foldl (fun a e => a.add e.countedMass) (Sat.load s.doors.mass)

/-- Stage 2: the capacity C of the consist set, N (R88). -/
def State.totalCapacity (s : State) : Sat :=
  s.consistPeers.foldl (fun a e => a.add e.countedCapacity) (Sat.load s.serviceCapacity)

/-- Stage 2: a_brake = floor(C × 1 000 / M), with the saturations of the three operations (R83, R84, R88). -/
def State.brakeDeceleration (s : State) : Sat :=
  let a := ((s.totalCapacity.mul 1000).divBy s.totalMass.val).to32
  { a with hits := a.hits + s.totalMass.hits }

/-- Stage 3 before its upper bound: the brakes less the pull of gravity in the travel direction (R89). -/
def netDeceleration (direction : Direction) (brake gravity : Int) : Sat :=
  match direction with
  | .up => ((Sat.load brake).add gravity).to32
  | .down => ((Sat.load brake).add (-gravity)).to32
  | .none => ((Sat.load brake).add (-gravity)).to32

/-- Stages 1 to 3: a_net, bounded above by 2 500, with the saturations on the way (R88, R89). -/
def State.netDecel (s : State) : Sat :=
  let brake := s.brakeDeceleration
  let net := netDeceleration s.direction brake.val s.gravityHere
  { val := min net.val 2500, hits := brake.hits + net.hits }

/-- Stage 4: b, the speed lost by the build-up time (R90). -/
def buildUpLoss (net : Int) (buildUpTime : Nat) : Sat := (((Sat.load net).mul buildUpTime).divBy 1000).to32

/-- Stage 4: the highest speed v from which the consist stops within S, mm/s (R90). -/
def stoppingSpeed (net : Int) (buildUpTime stoppingDistance : Nat) : Sat :=
  let b := buildUpLoss net buildUpTime
  let square := (Sat.load b.val).mul b.val
  let path := ((Sat.load 2).mul net).mul stoppingDistance
  let d := (square.add path.val).to32
  let v := ((Sat.load (isqrt d.val.toNat)).add (-b.val)).to32
  { v with hits := b.hits + path.hits + d.hits + v.hits }

/-- The section ceiling for the line class (R91). -/
def State.sectionCeiling (s : State) : Nat := if s.rack.present then s.straps.rackCeiling else s.straps.adhesionCeiling

/-- Stage 5: v in 0.1 km/h under the section ceiling and the sweep cap; 0 when a_net is 0 or less (R89, R91). -/
def State.stageFive (net : Int) (s : State) : Sat :=
  if net ≤ 0 then { val := 0, hits := 0 }
  else
    let v := stoppingSpeed net s.straps.buildUpTime s.straps.stoppingDistance
    let tenth := (((Sat.load v.val).mul 36).divBy 1000).to32
    let capped := min tenth.val s.sectionCeiling
    { val := if s.sweeping then min capped 50 else capped, hits := v.hits + tenth.hits }

/-! ## Stage 6 and the local limit (R92, R93) -/

/-- The ceilings of stage 6 that apply, besides the stage 5 value (R92). -/
def State.ceilings (s : State) : List Nat :=
  (s.restrictions.entries.filter fun e => e.covering || !s.rack.known).map (fun e => e.limit)
    ++ s.restrictions.overflow.toList
    ++ (if s.valleyLostNow then [60] else [])
    ++ (if s.classA || s.classB || s.brake.latch then [0] else [])

/-- Stage 6: the computation's result (R92). -/
def State.stageSix (five : Nat) (s : State) : Nat := s.ceilings.foldl min five

/-- The result against the standing local limit (R93). -/
def Speed.takeResult (r now : Nat) (v : Speed) : Speed :=
  if r < v.localLimit then { v with localLimit := r, raiseHold := none }
  else if r = v.localLimit then { v with raiseHold := none }
  else
    match v.raiseHold with
    | none => { v with raiseHold := some (r, now) }
    | some (candidate, start) =>
      if start + ms 2000 ≤ now then { v with localLimit := min candidate r, raiseHold := none }
      else { v with raiseHold := some (min candidate r, start) }

/-! ## Conditions judged at a computation (R89, R96 to R98) -/

/-- HOLD_INADEQUATE by a_net and the own standstill (R89). -/
def State.judgeHoldInadequate (net : Int) (s : State) : State :=
  if net ≤ 0 ∧ s.rack.standstill = false then (if s.present .holdInadequate then s else s.raise .holdInadequate)
  else s.clear .holdInadequate

/-- The holding capacity H of the consist set, N (R96). -/
def State.totalHolding (s : State) : Sat :=
  s.consistPeers.foldl (fun a e => a.add e.countedHolding) (Sat.load s.holdingCapacity)

/-- The two products of the holding check: H × 5 000 and M × |a_g| × 6 (R96). -/
def State.holdingProducts (s : State) : Sat × Sat :=
  (s.totalHolding.mul 5000, (((Sat.load s.totalMass.val).mul s.gravityHere.natAbs).mul 6))

/-- The holding check, made at STANDSTILL on the inputs of the expiry (R96). -/
def State.judgeHoldMargin (s inputs : State) : State :=
  if inputs.rack.standstill then
    let p := inputs.holdingProducts
    let s1 := s.saturations (p.1.hits + p.2.hits)
    if p.1.val < p.2.val then (if s1.present .holdMargin then s1 else s1.raise .holdMargin) else s1.clear .holdMargin
  else s

/-- The intervention demand by the supervised speed and the enforced limit (R97). -/
def Speed.intervene (speed : Nat) (v : Speed) : Speed :=
  if v.intervening then
    { v with intervening := !(if v.enforced < 10 then speed == 0 else decide (speed + 10 ≤ v.enforced)) }
  else { v with intervening := decide (v.enforced < speed) }

/-- The hard reference follows the enforced limit (R98). -/
def Speed.followHard (buildUpTime : Nat) (v : Speed) : Speed :=
  if v.hardRef ≤ v.enforced then { v with hardRef := v.enforced, buildUp := 0, descending := false }
  else if v.descending then
    if 0 < v.buildUp then { v with buildUp := v.buildUp - 1 }
    else
      let lowered := max v.enforced (v.hardRef - 2)
      { v with hardRef := lowered, descending := lowered != v.enforced }
  else { v with buildUp := buildUpTime / 100, descending := true }

/-- OVERSPEED_HARD by the supervised speed and the hard reference (R98). -/
def State.judgeOverspeed (speed : Nat) (s : State) : State :=
  if s.speed.hardRef + 20 < speed ∧ s.present .overspeedHard = false then s.raise .overspeedHard else s

/-- One supervision computation on the inputs as they stand at the expiry (R87), its reports in the order of log entry 48. -/
def State.supervise (s : State) : State :=
  let net := s.netDecel
  let five := s.stageFive net.val
  let result := s.stageSix five.val.toNat
  let speed := toTenthKmh s.rack.reported
  let s1 := (s.saturations (net.hits + five.hits)).judgeHoldInadequate net.val
  let s2 := (s1.setSpeed (s1.speed.takeResult result s1.clock)).reformEnforced
  let s3 := s2.judgeHoldMargin s
  let s4 := s3.setSpeed ((s3.speed.intervene speed).followHard s3.straps.buildUpTime)
  s4.judgeOverspeed speed

/-! ## Command -/

/-- SUPERVISION_COMPUTATION: every 100 ms (R87). -/
def execSupervisionComputation (m : Moment) (s : State) : Host.Outcome State Fault Refusal :=
  runCommand m
    (fun t => t.whenDue (some t.speed.superStart) (ms 100)
      (fun u => (u.setSpeed { u.speed with superStart := u.clock }).supervise))
    s

end Sys2Proof.Machine
end

