-- ==== Sys2Proof/Machine/Braking.lean ====
section
/-! DEFINITION. The brake controller (chapter 6): the brake cycle, energy and derating, failure check, proof test,
release, force sharing, output modes; the commands SERVICE, RELEASE, PROOF, BRAKE_CYCLE, PINION_FAILURE_TIMEOUT,
PROOF_SETTLE_EXPIRY, LOOP_PULLED and LOOP_RELEASED. -/

namespace Sys2Proof.Machine

/-- Replace one pinion brake. -/
def State.setPinion (p : Pinion) (b : PinionBrake) (s : State) : State :=
  s.setBrake { s.brake with pinions := s.brake.pinions.set p b }

/-! ## Energy, derating, fade (R114 to R116) -/

/-- E1, the energy up to which a pinion keeps its nominal capacity, J (R115). -/
def energyE1 : Nat := 4000000

/-- E2, the energy from which a pinion has half its nominal capacity, J (R115). -/
def energyE2 : Nat := 12000000

/-- The energy under which a fade flag clears, J (R116). -/
def fadeClear : Nat := 10000000

/-- The energy after a cycle's cooling and, on the rack, heating (R114). -/
def energyAfter (energy force speed : Nat) (present : Bool) : Sat :=
  let cooled := ((Sat.load energy).add (-((energy / 4096 : Nat) : Int))).to32
  if present then
    let heat := ((Sat.load force).mul speed).divBy 50000
    let sum := ((Sat.load cooled.val).add heat.val).to32
    { sum with hits := cooled.hits + heat.hits + sum.hits }
  else cooled

/-- The derated capacity formed at a cycle, N (R115). -/
def deratedCapacity (p : Straps) (failed : Bool) (energy : Nat) : Nat :=
  if failed then 0
  else if energy ≤ energyE1 then p.pinionNominal
  else if energy < energyE2 then p.pinionNominal - (4 + p.pinionNom.toNat) * (energy - energyE1) / 3200
  else p.pinionNominal / 2

/-- The fade flag after a cycle (R116). -/
def fadeAfter (energy : Nat) (fade : Bool) : Bool :=
  if energyE2 ≤ energy then true else if energy < fadeClear then false else fade

/-- One pinion's energy, derated capacity and fade flag at a cycle (R114 to R116). The derated capacity stands until the
next cycle, also when a later step marks the pinion FAILED or returns its mark to OK: the model's reading (log entry
41). -/
def PinionBrake.heated (p : Straps) (energy : Nat) (b : PinionBrake) : PinionBrake :=
  { b with energy := energy, derated := deratedCapacity p b.failed energy, fade := fadeAfter energy b.fade }

/-- One pinion's energy update and derating (R114, R115). -/
def State.heatPinion (p : Pinion) (s : State) : State :=
  let e := energyAfter (s.brake.pinions.get p).energy (s.feedbackOf p) s.rack.reported s.rack.present
  (s.setPinion p ((s.brake.pinions.get p).heated s.straps e.val.toNat)).saturations e.hits

/-- A pinion's fade flag that this cycle has set is an occurrence of BRAKE_FADE (R116, log entry 24). -/
def State.raiseFade (s before : State) (p : Pinion) : State :=
  if (s.brake.pinions.get p).fade && !(before.brake.pinions.get p).fade then s.raise .brakeFade else s

/-- Step 1 of the brake cycle (R105, R114 to R116), its reports in the order of log entry 48. -/
def State.energyStep (s : State) : State :=
  let s1 := (s.heatPinion .p1).heatPinion .p2
  let s2 := (s1.raiseFade s .p1).raiseFade s .p2
  if s2.brake.pinions.p1.fade || s2.brake.pinions.p2.fade then s2 else s2.clear .brakeFade

/-! ## Failure check (R117, R118) -/

/-- The pinion fails the check: in SERVICE with 5 000 N or more, its feedback is below half its command (R117). -/
def State.failsCheck (p : Pinion) (s : State) : Bool :=
  let b := s.brake.pinions.get p
  !b.failed && decide (5000 ≤ b.mode.command) && decide (2 * s.feedbackOf p < b.mode.command)

/-- Mark a pinion FAILED (R117, R118). -/
def State.markFailed (p : Pinion) (s : State) : State :=
  (s.setPinion p { s.brake.pinions.get p with failed := true, failTimer := none }).raise .pinionFailed

/-- The failure check of one pinion (R117). -/
def State.checkPinion (p : Pinion) (s : State) : State :=
  let b := s.brake.pinions.get p
  if s.failsCheck p then
    match b.failTimer with
    | none => s.setPinion p { b with failTimer := some s.clock }
    | some start => if start + ms 1000 ≤ s.clock then s.markFailed p else s
  else s.setPinion p { b with failTimer := none }

/-- Step 2 of the brake cycle (R105, R117). -/
def State.failureStep (s : State) : State := (s.checkPinion .p1).checkPinion .p2

/-! ## Proof test (R119 to R122) -/

/-- The test force, N (R102, R121). -/
def State.testForce (s : State) : Nat := s.straps.pinionNominal / 2

/-- The result of a measured force (R121). -/
def proofResult (measured test : Nat) : ProofResult :=
  if 100 * (max measured test - min measured test) ≤ 15 * test then .pass else .fail

/-- The record at the start of a test (R119, R120). -/
def ProofRecord.started (p : ProofRecord) : ProofRecord :=
  { p with
    state := .running
    phase := .p1Settle
    results := { p1 := .notRun, p2 := .notRun }
    forces := { p1 := 0, p2 := 0 }
    reason := .none
    pulses := 0 }

/-- Which pinion is in TEST: 1 in the first two phases, 2 in the last two (R121). -/
def ProofPhase.tested : ProofPhase → Pinion
  | .p1Settle => .p1
  | .p1Sample => .p1
  | .p2Settle => .p2
  | .p2Sample => .p2

/-- One pinion in TEST, the other FULL (R102). -/
def Brake.testing (p : Pinion) (b : Brake) : Brake :=
  match p with
  | .p1 => { b with pinions := { p1 := { b.pinions.p1 with mode := .test }, p2 := { b.pinions.p2 with mode := .full } } }
  | .p2 => { b with pinions := { p1 := { b.pinions.p1 with mode := .full }, p2 := { b.pinions.p2 with mode := .test } } }

/-- Start a proof test (R120). -/
def Brake.startProof (now : Nat) (b : Brake) : Brake :=
  { (b.testing .p1) with proof := b.proof.started, settleTimer := some now, autoProof := false }

/-- A PROOF command is refused for this reason, or not at all (R120). -/
def State.proofRefusal (s : State) : ProofRefusal :=
  if s.brake.proof.state = .running then .running
  else if s.brake.latch || s.loopPulled then .emergency
  else if s.brake.applied = false then .notHeld
  else if s.consistStandstill = false then .notStandstill
  else .none

/-- Record a refusal (R119, R120). -/
def ProofRecord.refused (why : ProofRefusal) (p : ProofRecord) : ProofRecord :=
  { p with lastRefusal := why, refusals := min 255 (p.refusals + 1) }

/-- The effect of an admitted PROOF (R120). -/
def State.proof (s : State) : State :=
  match s.proofRefusal with
  | .none => s.setBrake (s.brake.startProof s.clock)
  | .notHeld => s.setBrake { s.brake with proof := s.brake.proof.refused .notHeld }
  | .notStandstill => s.setBrake { s.brake with proof := s.brake.proof.refused .notStandstill }
  | .emergency => s.setBrake { s.brake with proof := s.brake.proof.refused .emergency }
  | .running => s.setBrake { s.brake with proof := s.brake.proof.refused .running }

/-- A mark FAILED returns to OK when its pinion has passed (R118, R122). -/
def PinionBrake.restoredBy (r : ProofResult) (b : PinionBrake) : PinionBrake :=
  { b with failed := b.failed && !(r == .pass) }

/-- Completion of a proof test: marks, PINION_FAILED, PROOF_FAIL, and the station state (R118, R122, R196). -/
def State.completeProof (s : State) : State :=
  let r := s.brake.proof.results
  let b := s.brake.pinionsFull
  let s1 := s.setBrake
    { b with
      proof := { b.proof with state := .done }
      settleTimer := none
      pinions := { p1 := b.pinions.p1.restoredBy r.p1, p2 := b.pinions.p2.restoredBy r.p2 } }
  let s2 := if s1.brake.pinions.p1.failed || s1.brake.pinions.p2.failed then s1 else s1.clear .pinionFailed
  if r.p1 = .pass ∧ r.p2 = .pass then
    let s3 := s2.clear .proofFail
    if s3.station.life = .proving then s3.setStation { s3.station with life := .ready } else s3
  else s2.raise .proofFail

/-- The 50th reading ends a sample phase: result and force are recorded, and the test goes on or completes (R121,
R122). -/
def State.endSample (p : Pinion) (s : State) : State :=
  let measured := s.brake.sampleSum / 50
  let proof :=
    { s.brake.proof with
      results := s.brake.proof.results.set p (proofResult measured s.testForce)
      forces := s.brake.proof.forces.set p measured }
  match p with
  | .p1 =>
    s.setBrake { (s.brake.testing .p2) with proof := { proof with phase := .p2Settle }, settleTimer := some s.clock }
  | .p2 => (s.setBrake { s.brake with proof := proof }).completeProof

/-- One feedback reading of the tested pinion (R121). -/
def State.takeReading (p : Pinion) (s : State) : State :=
  let s1 := s.setBrake
    { s.brake with sampleSum := s.brake.sampleSum + s.feedbackOf p, sampleCount := s.brake.sampleCount + 1 }
  if 50 ≤ s1.brake.sampleCount then s1.endSample p else s1

/-- The proof sample reading, while a pinion is in its sample phase (R105, R121). -/
def State.sampleStep (s : State) : State :=
  if s.brake.proof.state = .running then
    match s.brake.proof.phase with
    | .p1Settle => s
    | .p1Sample => s.takeReading .p1
    | .p2Settle => s
    | .p2Sample => s.takeReading .p2
  else s

/-- The start of a pending automatic proof test (R105, R120). -/
def State.automaticStep (s : State) : State :=
  if s.brake.autoProof = true ∧ s.proofRefusal = .none then s.setBrake (s.brake.startProof s.clock) else s

/-! ## Release of the holding brake (R110) -/

/-- The holding release is allowed (R110). -/
def State.releaseAllowed (s : State) : Bool :=
  s.station.life == .ready && !s.brake.latch && !s.classA && !s.classB && s.summary == .allClosed && s.allClosed
    && s.brake.proof.state != .running

/-- Step 4 of the brake cycle: a pending request is tested and discarded (R105, R110); a permit falls with the
holding state (R129). -/
def State.releaseStep (s : State) : State :=
  if s.brake.releasePending then
    let s1 := s.setBrake { s.brake with releasePending := false }
    if s1.brake.applied && s1.releaseAllowed then (s1.setBrake { s1.brake with applied := false }).retestPermits else s1
  else s

/-! ## Arbitration and force sharing (R105 to R108) -/

/-- Step 5: the target deceleration a_t, mm/s² (R105), with the 800 mm/s² of R188 while class B is active and, since the
class B reaction is in force under class A too (R187, log entry 42), while class A is. -/
def State.arbitrate (s : State) : Nat :=
  max s.brake.cabDemand (max (if s.speed.intervening then 600 else 0) (if s.classA || s.classB then 800 else 0))

/-- The gravity term a_gs (R106). -/
def State.gravityTerm (s : State) : Int :=
  match s.direction with
  | .up => -s.gravityHere
  | .down => s.gravityHere
  | .none => s.gravityHere

/-- The requirement of a station of mass m, N (R106). -/
def requirement (mass : Nat) (decel : Int) : Sat :=
  let r := ((Sat.load mass).mul decel).divBy 1000
  { r with val := max 0 r.val }

/-- A station in the sharing: its requirement and its capacity, N (R106). -/
structure Share where
  need : Int
  capacity : Int
  hits : Nat
deriving DecidableEq, Repr

/-- The share of a station (R106). -/
def shareOf (mass capacity : Nat) (decel : Int) : Share :=
  let r := requirement mass decel
  { need := r.val, capacity := capacity, hits := r.hits }

/-- What a station lacks, N (R106). -/
def Share.short (x : Share) : Int := max 0 (x.need - x.capacity)

/-- What a station can spare, N (R106). -/
def Share.spare (x : Share) : Int := max 0 (x.capacity - x.need)

/-- A sum formed in the accumulator. -/
def satSum (xs : List Int) : Sat := xs.foldl Sat.add (Sat.load 0)

/-- The own extra, N (R107). -/
def ownExtra (short spare own : Int) : Sat :=
  if 0 < spare then ((Sat.load (min short spare)).mul own).divBy spare else { val := 0, hits := 0 }

/-- The own station in the sharing (R106). -/
def State.ownShare (target : Nat) (s : State) : Share := shareOf s.doors.mass s.serviceCapacity (target + s.gravityTerm)

/-- The peers of the consist set in the sharing (R106). -/
def State.peerShares (target : Nat) (s : State) : List Share :=
  s.consistPeers.map fun e => shareOf e.countedMass e.countedCapacity (target + s.gravityTerm)

/-- Step 6: the own service force F, N, with the saturations on the way (R106, R107). -/
def State.serviceForce (target : Nat) (s : State) : Sat :=
  let own := s.ownShare target
  let all := own :: s.peerShares target
  let short := satSum (all.map Share.short)
  let spare := satSum (all.map Share.spare)
  let extra := ownExtra short.val spare.val own.spare
  let force := (Sat.load own.need).add extra.val
  { val := min own.capacity force.val
    hits := (all.map fun x => x.hits).sum + short.hits + spare.hits + extra.hits + force.hits }

/-- The split of F between the pinions on the rack: in proportion, the remainder to pinion 1 while it fits (R108). -/
def splitForce (force c1 c2 : Nat) : Nat × Nat :=
  if c1 + c2 = 0 then (0, 0)
  else
    let f1 := force * c1 / (c1 + c2)
    let f2 := force * c2 / (c1 + c2)
    let rest := force - f1 - f2
    (if f1 + rest ≤ c1 then f1 + rest else f1, f2)

/-- Steps 5 and 6 of the brake cycle (R105 to R108). -/
def State.sharingStep (s : State) : State :=
  let target := s.arbitrate
  let force := s.serviceForce target
  let c1 := s.brake.pinions.p1.capacity
  let c2 := s.brake.pinions.p2.capacity
  let split := if s.rack.present then splitForce force.val.toNat c1 c2 else (0, 0)
  (s.setBrake
    { s.brake with
      target := target
      force := force.val.toNat
      pinions :=
        { p1 := { s.brake.pinions.p1 with split := split.1 }
          p2 := { s.brake.pinions.p2 with split := split.2 } } }).saturations force.hits

/-! ## Output modes (R102) -/

/-- Step 7: the command modes of the three outputs (R102). -/
def State.modesStep (s : State) : State :=
  if s.brake.latch || s.loopPulled then s.setBrake s.brake.allFull
  else if s.brake.proof.state = .running then
    s.setBrake { (s.brake.testing s.brake.proof.phase.tested) with wheel := .full }
  else if s.brake.applied then s.setBrake s.brake.allFull
  else if s.rack.present then
    s.setBrake
      { s.brake with
        pinions :=
          { p1 := { s.brake.pinions.p1 with mode := .service s.brake.pinions.p1.split }
            p2 := { s.brake.pinions.p2 with mode := .service s.brake.pinions.p2.split } }
        wheel := .service 0 }
  else
    s.setBrake
      { s.brake with
        pinions :=
          { p1 := { s.brake.pinions.p1 with mode := .service 0 }
            p2 := { s.brake.pinions.p2 with mode := .service 0 } }
        wheel := .service s.brake.force }

/-- One brake cycle (R105); each step reads what the steps before it leave (log entry 34). -/
def State.brakeCycle (s : State) : State :=
  (((((s.energyStep.failureStep).sampleStep).automaticStep).releaseStep).sharingStep).modesStep

/-! ## Loop and settle events -/

/-- The brake loop becomes sensed pulled: test aborted, outputs FULL, latch SET (R102, R111, R123). -/
def State.senseLoop (s : State) : State := (s.setBrake (s.brake.abort .emergency).allFull).setLatch

/-- The settle timer has run out: the sample phase begins (R121). -/
def Brake.beginSample (b : Brake) : Brake :=
  let next : ProofPhase :=
    match b.proof.phase with
    | .p1Settle => .p1Sample
    | .p1Sample => .p1Sample
    | .p2Settle => .p2Sample
    | .p2Sample => .p2Sample
  { b with proof := { b.proof with phase := next }, sampleSum := 0, sampleCount := 0, settleTimer := none }

/-! ## Commands -/

/-- SERVICE: the cab demand, clamped (R104). -/
def execService (m : Moment) (source : Fin 8) (target : Byte) (param : BitVec 16) (s : State) :
    Host.Outcome State Fault Refusal :=
  runCommandFrame m .service source target param
    (fun t => t.setBrake { t.brake with cabDemand := min 2000 param.toNat }) s

/-- RELEASE: the cab demand becomes 0 and the release request pending, but while a proof test runs (R110). -/
def execRelease (m : Moment) (source : Fin 8) (target : Byte) (param : BitVec 16) (s : State) :
    Host.Outcome State Fault Refusal :=
  runCommandFrame m .release source target param
    (fun t =>
      if t.brake.proof.state = .running then t
      else t.setBrake { t.brake with cabDemand := 0, releasePending := true })
    s

/-- PROOF (R120). -/
def execProof (m : Moment) (source : Fin 8) (target : Byte) (param : BitVec 16) (s : State) :
    Host.Outcome State Fault Refusal :=
  runCommandFrame m .proof source target param State.proof s

/-- BRAKE_CYCLE: every 20 ms (R105). -/
def execBrakeCycle (m : Moment) (s : State) : Host.Outcome State Fault Refusal :=
  runCommand m
    (fun t => t.whenDue (some t.brake.cycleStart) (ms 20)
      (fun u => (u.setBrake { u.brake with cycleStart := u.clock }).brakeCycle))
    s

/-- PINION_FAILURE_TIMEOUT: a failure timer at 1 000 ms with the pinion still failing the check (R117, log entry
26). -/
def execPinionFailureTimeout (m : Moment) (pinion : Pinion) (s : State) : Host.Outcome State Fault Refusal :=
  runCommand m
    (fun t => t.whenDue (t.brake.pinions.get pinion).failTimer (ms 1000)
      (fun u => if u.failsCheck pinion then u.markFailed pinion else u))
    s

/-- PROOF_SETTLE_EXPIRY: the settle timer at 500 ms (R121). -/
def execProofSettleExpiry (m : Moment) (s : State) : Host.Outcome State Fault Refusal :=
  runCommand m
    (fun t => t.whenDue t.brake.settleTimer (ms 500)
      (fun u => if u.brake.proof.state = .running then u.setBrake u.brake.beginSample else u))
    s

/-- LOOP_PULLED: another station's pull makes the loop sensed pulled (R111, log entry 14). That the command is taken as
that event, and sets a clear latch, also where the loop is sensed pulled before it is the model's choice (log entry 27). -/
def execLoopPulled (m : Moment) (s : State) : Host.Outcome State Fault Refusal :=
  runLevels m (fun v => { v with loopOthers := true }) State.senseLoop s

/-- LOOP_RELEASED: the latch stays SET (R111). -/
def execLoopReleased (m : Moment) (s : State) : Host.Outcome State Fault Refusal :=
  runLevels m (fun v => { v with loopOthers := false }) id s

end Sys2Proof.Machine
end

