-- ==== Sys2Proof/Machine/PassengerDoors.lean ====
section
/-! DEFINITION. The door controller (chapter 7): release, opening, closing, obstructions, forced doors and handles;
the commands DOORS_RELEASE, DOORS_CLOSE, LOCK_SWITCH_MADE to DOOR_REOPEN_EXPIRY. The withdrawal, the permit retest
and the mass latch, which other blocks' events bring too, are in Machine/Ops.lean. -/

namespace Sys2Proof.Machine

/-- Change one door's record (R144 for latch pending). -/
def State.setDoor (d : DoorId) (r : Door) (s : State) : State := s.setDoors (s.doors.change d r)

/-! ## Conditions of the doors (R133, R138, R141) -/

/-- DOOR_TIMEOUT goes when no timeout flag is SET (R133). -/
def State.reformTimeout (s : State) : State :=
  if s.doors.doors.toList.any fun r => r.timeoutFlag then s else s.clear .doorTimeout

/-- DOOR_OBSTRUCTED goes when no obstruction flag is SET (R138). -/
def State.reformObstructed (s : State) : State :=
  if s.doors.doors.toList.any fun r => r.obstructionFlag then s else s.clear .doorObstructed

/-- DOOR_FORCED goes when no door is FORCED and no handle alarm is SET (R141). -/
def State.reformForced (s : State) : State :=
  if s.doors.doors.toList.any fun r => r.state == .forced || r.handleAlarm then s else s.clear .doorForced

/-! ## Release (R127, R130) -/

/-- A door's treatment at a DOORS_RELEASE taken with the permit (R130). -/
def Door.released (now : Nat) (r : Door) : Door :=
  match r.state with
  | .locked => { r with state := .released }
  | .released => r
  | .opening => r
  | .opened => { r with attempts := 0, obstructionFlag := false }
  | .closing => { r with state := .opening, attempts := 0, timer := some now }
  | .reopening => { r with state := .opening, attempts := 0, timer := some now }
  | .forced => r
  | .isolated => r

/-- Release one door if it stands on the side (R130). -/
def State.releaseDoor (side : CarSide) (d : DoorId) (s : State) : State :=
  if doorSide d = side then s.setDoor d ((s.doors.doors.get d).released s.clock) else s

/-- Release a car side (R130). -/
def State.releaseSide (side : CarSide) (s : State) : State :=
  let s1 := s.setDoors (s.doors.setSideRelease side true)
  ((((s1.releaseDoor side .d1).releaseDoor side .d2).releaseDoor side .d3).releaseDoor side .d4).reformObstructed

/-- The line side a parameter names: 0 L, 1 R (R46). -/
def lineSideOfParam (param : BitVec 16) : LineSide := if param = 0 then .l else .r

/-- The effect of an admitted DOORS_RELEASE (R130). -/
def State.doorsRelease (side : LineSide) (s : State) : State :=
  if s.permit side then s.releaseSide (carSideOf s.straps.orient side) else s

/-! ## Closing (R134, R136 to R138) -/

/-- A door that is OPEN and has no release closes at a DOORS_CLOSE (R134). -/
def Door.closeOpen (now : Nat) (hasRelease : Bool) (r : Door) : Door :=
  if r.state = .opened ∧ hasRelease = false then
    { r with state := .closing, attempts := 0, obstructionFlag := false, timer := some now }
  else r

/-- The effect of an admitted DOORS_CLOSE (R134), with the mass latch it may bring (R144), reported in
this order (log entry 47). -/
def State.doorsClose (s : State) : State :=
  let s1 := (s.clearSide .a).clearSide .b
  let doors := s1.doors.doors.mapIdx fun d r => r.closeOpen s1.clock (s1.doors.hasRelease d)
  ((s1.setDoors { s1.doors with doors := doors }).reformObstructed).latchIfClosed s.summary

/-- A door whose closed-and-locked switch is made (R136). -/
def Door.locks (hasRelease : Bool) (r : Door) : Door :=
  { r with
    state := if hasRelease then .released else .locked
    attempts := 0
    timeoutFlag := false
    obstructionFlag := false
    timer := none }

/-- The closed-and-locked switch of a door is made (R136, R141, R144). That the goings of DOOR_TIMEOUT, DOOR_OBSTRUCTED and
DOOR_FORCED are reported in that order, and before a LOAD_SENSOR of the mass latch (R145), is the model's choice (log entry
47). -/
def State.lockMade (d : DoorId) (s : State) : State :=
  let r := s.doors.doors.get d
  let locks := (((s.setDoor d (r.locks (s.doors.hasRelease d))).reformTimeout.reformObstructed).reformForced).latchIfClosed
    s.summary
  match r.state with
  | .closing => locks
  | .reopening => locks
  | .forced => locks
  | .locked => s
  | .released => s
  | .opening => s
  | .opened => s
  | .isolated => s

/-- The closed-and-locked switch of a door is lost (R132, R139, R141). -/
def State.lockLost (d : DoorId) (s : State) : State :=
  let r := s.doors.doors.get d
  match r.state with
  | .locked => (s.setDoor d { r with state := .forced }).raise .doorForced
  | .released => s.setDoor d { r with state := .opening, timer := some s.clock }
  | .opening => s
  | .opened => s
  | .closing => s
  | .reopening => s
  | .forced => s
  | .isolated => s

/-- An obstruction of a CLOSING door (R137, R138). One that finds the attempts at 3 already is taken as a third
obstruction, and they stay at 3: the model's choice (log entry 36). -/
def State.obstruct (d : DoorId) (s : State) : State :=
  let r := s.doors.doors.get d
  if r.state = .closing then
    if r.attempts + 1 < 3 then
      s.setDoor d { r with state := .reopening, attempts := r.attempts + 1, timer := some s.clock }
    else
      (s.setDoor d { r with state := .opened, attempts := 3, obstructionFlag := true, timer := none }).raise
        .doorObstructed
  else s

/-! ## Handles (R131, R140) -/

/-- A handle becomes active: a handle release for a held car at standstill, else an alarm (R131, R140, R141). -/
def State.handleActive (d : DoorId) (s : State) : State :=
  let r := s.doors.doors.get d
  if r.state = .isolated then s
  else if s.rack.standstill && s.brake.applied then s.setDoor d (r.handleReleased s.clock)
  else
    let s1 := s.setDoor d { r with handleAlarm := true }
    if r.handleAlarm then s1 else s1.raise .doorForced

/-- A handle becomes inactive: its alarm and release go, and a door without a release is withdrawn (R131, R135,
R140, log entry 47). -/
def State.handleInactive (d : DoorId) (s : State) : State :=
  let r := s.doors.doors.get d
  if r.state = .isolated then s
  else
    let returned : Door := { r with handleAlarm := false, handleRelease := false }
    let r1 := if r.handleRelease && !s.doors.sideRelease (doorSide d) then returned.withdraw s.clock else returned
    ((s.setDoor d r1).reformForced).latchIfClosed s.summary

/-! ## Commands -/

/-- Change the lines of one door. -/
def Levels.mapDoor (d : DoorId) (f : DoorLines → DoorLines) (v : Levels) : Levels :=
  { v with doors := v.doors.set d (f (v.doors.get d)) }

/-- DOORS_RELEASE (R130). -/
def execDoorsRelease (m : Moment) (source : Fin 8) (target : Byte) (param : BitVec 16) (s : State) :
    Host.Outcome State Fault Refusal :=
  runCommandFrame m .doorsRelease source target param (State.doorsRelease (lineSideOfParam param)) s

/-- DOORS_CLOSE (R134). -/
def execDoorsClose (m : Moment) (source : Fin 8) (target : Byte) (param : BitVec 16) (s : State) :
    Host.Outcome State Fault Refusal :=
  runCommandFrame m .doorsClose source target param State.doorsClose s

/-- LOCK_SWITCH_MADE (R136). -/
def execLockSwitchMade (m : Moment) (door : DoorId) (s : State) : Host.Outcome State Fault Refusal :=
  runLevels m (Levels.mapDoor door fun v => { v with lockMade := true }) (State.lockMade door) s

/-- LOCK_SWITCH_LOST (R132, R139). -/
def execLockSwitchLost (m : Moment) (door : DoorId) (s : State) : Host.Outcome State Fault Refusal :=
  runLevels m (Levels.mapDoor door fun v => { v with lockMade := false }) (State.lockLost door) s

/-- FULLY_OPEN_SWITCH: an OPENING door becomes OPEN (R133). -/
def execFullyOpenSwitch (m : Moment) (door : DoorId) (s : State) : Host.Outcome State Fault Refusal :=
  runLevels m (Levels.mapDoor door fun v => { v with openMade := true })
    (fun t =>
      let r := t.doors.doors.get door
      if r.state = .opening then t.setDoor door { r with state := .opened, timer := none } else t)
    s

/-- OBSTRUCTION_EDGE (R137). -/
def execObstructionEdge (m : Moment) (door : DoorId) (s : State) : Host.Outcome State Fault Refusal :=
  runCommand m (State.obstruct door) s

/-- OPEN_BUTTON: a RELEASED door becomes OPENING (R132). -/
def execOpenButton (m : Moment) (door : DoorId) (s : State) : Host.Outcome State Fault Refusal :=
  runCommand m
    (fun t =>
      let r := t.doors.doors.get door
      if r.state = .released then t.setDoor door { r with state := .opening, timer := some t.clock } else t)
    s

/-- HANDLE_ACTIVE (R131, R140). -/
def execHandleActive (m : Moment) (door : DoorId) (s : State) : Host.Outcome State Fault Refusal :=
  runLevels m (Levels.mapDoor door fun v => { v with handle := true }) (State.handleActive door) s

/-- HANDLE_INACTIVE (R131, R140). -/
def execHandleInactive (m : Moment) (door : DoorId) (s : State) : Host.Outcome State Fault Refusal :=
  runLevels m (Levels.mapDoor door fun v => { v with handle := false }) (State.handleInactive door) s

/-- DOOR_OPENING_TIMEOUT: an OPENING door's phase timer at 6 000 ms (R133). -/
def execDoorOpeningTimeout (m : Moment) (door : DoorId) (s : State) : Host.Outcome State Fault Refusal :=
  runCommand m
    (fun t => t.whenDue (t.doors.doors.get door).timer (ms 6000)
      (fun u =>
        let r := u.doors.doors.get door
        if r.state = .opening then
          (u.setDoor door { r with state := .opened, timer := none, timeoutFlag := true }).raise .doorTimeout
        else u))
    s

/-- DOOR_CLOSING_TIMEOUT: a CLOSING door's phase timer at 8 000 ms counts as an obstruction (R137). -/
def execDoorClosingTimeout (m : Moment) (door : DoorId) (s : State) : Host.Outcome State Fault Refusal :=
  runCommand m (fun t => t.whenDue (t.doors.doors.get door).timer (ms 8000) (State.obstruct door)) s

/-- DOOR_REOPEN_EXPIRY: a REOPENING door's phase timer at 1 000 ms (R137). -/
def execDoorReopenExpiry (m : Moment) (door : DoorId) (s : State) : Host.Outcome State Fault Refusal :=
  runCommand m
    (fun t => t.whenDue (t.doors.doors.get door).timer (ms 1000)
      (fun u =>
        let r := u.doors.doors.get door
        if r.state = .reopening then u.setDoor door { r with state := .closing, timer := some u.clock } else u))
    s

end Sys2Proof.Machine
end

