-- ==== Sys2Proof/Machine/SpeedRestrictions.lean ====
section
/-! DEFINITION. The restriction table (chapter 9): what a RESTRICT and a LIFT do to it. The evaluation of entries
stands in Machine/Ops.lean. -/

namespace Sys2Proof.Machine

/-- The end of a stretch (R173). -/
def restrictionEnd (start length : Nat) : Nat := if length = 0 then 1000000 else min (start + length) 1000000

/-- The entry that stands for an order id. -/
def Restrictions.find (orderId : BitVec 16) (t : Restrictions) : Option Restriction :=
  t.entries.find? fun e => e.orderId == orderId

/-- The list with an entry's place taken by its evaluated replacement, or closed up if it was passed (R172, R173). -/
def replaceEntry (orderId : BitVec 16) (placed : Option Restriction) (entries : List Restriction) : List Restriction :=
  entries.filterMap fun x => if x.orderId = orderId then placed else some x

/-- The placing of an entry is announced: it covers, and did not before, or has a lower limit, or the position is
UNKNOWN (R179). -/
def State.announcesPlacing (old : Option Restriction) (placed : Restriction) (s : State) : Bool :=
  placed.covering
    && (match old with
      | none => true
      | some o => !o.covering || decide (placed.limit < o.limit) || s.position.isNone)

/-- Place a new or replacing entry, evaluated at once (R173, R176 to R179). -/
def State.placeEntry (old : Option Restriction) (e : Restriction) (s : State) : State :=
  let placed := s.evaluateEntry e
  let entries :=
    match old with
    | some _ => replaceEntry e.orderId placed s.restrictions.entries
    | none => s.restrictions.entries ++ placed.toList
  let s1 := s.setRestrictions { s.restrictions with entries := entries }
  match placed with
  | none => s1
  | some r => if s.announcesPlacing old r then s1.lowerLimit r.limit else s1

/-- A RESTRICT that finds the table full sets or lowers the overflow ceiling (R174, R179, R180). -/
def State.overflow (limit : Nat) (s : State) : State :=
  let ceiling :=
    match s.restrictions.overflow with
    | none => limit
    | some c => min c limit
  let s1 := s.setRestrictions { s.restrictions with overflow := some ceiling }
  (if s.restrictions.overflow = some ceiling then s1 else s1.lowerLimit ceiling).raise .restrictionOverflow

/-- The restriction table takes a RESTRICT (R173, R174). -/
def State.restrict (e : Restriction) (s : State) : State × OrderResult :=
  match s.restrictions.find e.orderId with
  | some old => (s.placeEntry (some old) e, .accepted)
  | none =>
    if s.restrictions.entries.length < 8 then (s.placeEntry none e, .accepted)
    else (s.overflow e.limit, .acceptedCeiling)

/-- A RESTRICT order as applied: refused for its start, its limit bounded by 400 (R160, R173). -/
def State.applyRestrict (orderId : BitVec 16) (start length limit : Nat) (s : State) : State × OrderResult :=
  if 1000000 < start then (s, .refusedRange)
  else
    s.restrict
      { orderId := orderId, start := start, stop := restrictionEnd start length, limit := min 400 limit, covering := false }

/-- A LIFT order as applied (R160, R175). -/
def State.applyLift (orderId : BitVec 16) (s : State) : State × OrderResult :=
  (s.setRestrictions { s.restrictions with entries := s.restrictions.entries.filter fun e => e.orderId != orderId }
   , .accepted)

end Sys2Proof.Machine
end

