-- ==== Sys2Proof/Machine/ValleyRadio.lean ====
section
/-! DEFINITION. The valley radio unit (chapter 8): supervision, duplicate window, orders by radio and by relay,
acknowledgements, position reports, the modem port; the commands LINK_STATUS to CHANNEL_BUSY_CHANGE and
ORDER_FRAME_DISCARDED. -/

namespace Sys2Proof.Machine

/-! ## Valley status (R152, R154) -/

/-- An accepted frame: supervision restarts, the status is ALIVE, VALLEY_LOST goes (R154, R165). -/
def State.frameAccepted (s : State) : State :=
  ((s.setRadio { s.radio with supervision := some s.clock, status := .alive }).reformValley).clear .valleyLost

/-- The valley status becomes LOST, with VALLEY_LOST present (R152, R154, R165). -/
def State.valleyGone (s : State) : State :=
  let s1 := (s.setRadio { s.radio with status := .lost }).reformValley
  if s1.present .valleyLost then s1 else s1.raise .valleyLost

/-! ## Acknowledgements and reports (R166 to R168) -/

/-- Build an outgoing frame, which takes the next radio sequence (R166). -/
def State.outFrame (payload : OutPayload) (s : State) : OutFrame :=
  { address := s.straps.radioAddr, sequence := s.radio.radioSequence, payload := payload }

/-- Make room for an acknowledgement: of three, the oldest that is not in transmission goes (R167). -/
def Radio.roomForAck (r : Radio) : List OutFrame :=
  if r.acks.length < 3 then r.acks
  else if r.sending = some .ack then r.acks.take 1 ++ r.acks.drop 2
  else r.acks.drop 1

/-- Queue an acknowledgement (R157, R167). -/
def State.queueAck (sequence : Byte) (result : OrderResult) (s : State) : State :=
  s.setRadio
    { s.radio with
      acks := s.radio.roomForAck ++ [s.outFrame (.ack s.stationByte sequence result)]
      radioSequence := s.radio.radioSequence + 1 }

/-- The position report of this moment (R166, R168). -/
def State.positionReport (s : State) : OutPayload :=
  .report s.stationByte s.rack.known (directionCode s.direction) s.brake.latch s.radio.lostWide
    (narrow 24 (s.position.getD 0)) (narrow 16 s.publishedSpeed) (narrow 16 s.speed.enforced) s.summary.code
    (s.faults.highestClass s.straps.strict) (narrow 8 s.restrictions.entries.length)

/-- Build a report into its slot, replacing a waiting one or behind one in transmission (R168). -/
def State.buildReport (s : State) : State :=
  let f := s.outFrame s.positionReport
  let r : Radio := { s.radio with radioSequence := s.radio.radioSequence + 1 }
  s.setRadio (if r.sending = some .report then { r with reportBehind := some f } else { r with report := some f })

/-- The code of a result in an acknowledgement (R166). -/
def OrderResult.code : OrderResult → Byte
  | .accepted => 0
  | .acceptedCeiling => 1
  | .refusedRange => 2

/-- The kind code and payload bytes of an outgoing frame; the layout of two report bytes is free (R166, log entry
18). -/
def OutPayload.wire : OutPayload → Byte × List Byte
  | .report station known direction latch lost position speed enforced summary faultClass restrictions =>
    (16, [station, Config.reportFlags known direction latch lost] ++ bytes24 position ++ bytes16 speed ++ bytes16 enforced
      ++ [Config.reportSummary summary faultClass, restrictions])
  | .ack station sequence result => (17, [station, sequence, result.code])

/-- The SEND message that carries an outgoing frame (R149, R150, R169). -/
def OutFrame.message (f : OutFrame) : List Byte :=
  3 :: valleyFrameBytes f.address f.sequence f.payload.wire.1 f.payload.wire.2

/-! ## Orders (R153, R156 to R163, R190) -/

/-- Append a sequence number to the duplicate window of sixteen (R156). -/
def appendWindow (window : List Byte) (sequence : Byte) : List Byte :=
  (if window.length < 16 then window else window.drop 1) ++ [sequence]

/-- The order's sequence enters the window (R156). -/
def State.noteSequence (sequence : Byte) (s : State) : State :=
  s.setRadio { s.radio with window := appendWindow s.radio.window sequence }

/-- Ask the line controller to relay an order (R47, R50). -/
def State.relay (sequence : Byte) (order : ValleyOrder) (s : State) : State :=
  match s.line.own with
  | none => s
  | some n =>
    if 4 ≤ s.line.orders.length then s.raise .lineCongestion
    else
      s.setLine
        { s.line with orders := s.line.orders ++ [buildFrame n (.order sequence order.code order.payload)] }.offer

/-- An accepted radio frame with an order (R154, R157). -/
def State.radioOrder (sequence : Byte) (order : ValleyOrder) (apply : State → State × OrderResult) (s : State) : State :=
  let s1 := s.frameAccepted
  if s1.radio.window.contains sequence then s1.queueAck sequence .accepted
  else
    let applied := apply (s1.noteSequence sequence)
    (applied.1.relay sequence order).queueAck sequence applied.2

/-- An order carried by an ORDER frame (R158). -/
def State.lineOrder (sequence : Byte) (apply : State → State × OrderResult) (s : State) : State :=
  if s.radio.window.contains sequence then s else (apply (s.noteSequence sequence)).1

/-- The address test of R153 in a radio-fitted station. -/
def State.takesAddress (address : Byte) (s : State) : Bool :=
  s.straps.radioFitted && (address == s.straps.radioAddr || address == 255)

/-- A valley order by its path: a radio frame is accepted by its address and coded fields (R153, R157), an ORDER
frame is tested for a clash, ends the hold-off and is tested for its coded fields (R51, R57, R158). -/
def runOrder (m : Moment) (via : Via) (sequence : Byte) (order : ValleyOrder) (apply : State → State × OrderResult)
    (s : State) : Host.Outcome State Fault Refusal :=
  match via with
  | .radio address =>
    runCommand m (fun t => if t.takesAddress address && order.ok then t.radioOrder sequence order apply else t) s
  | .line source =>
    runFrame m
      (State.handOn true source
        (fun t => if order.ok then t.endHoldOff.lineOrder sequence apply else t.endHoldOff))
      s

/-- The goings of a PROCEED, where present, and the removal of the VALLEY_HALT record (R161, R190). -/
def State.endHalts (s : State) : State :=
  let s1 := (s.clear .valleyHalt).clear .valleyAllHalt
  s1.setFaults (s1.faults.removeRecord .valleyHalt)

/-- A PROCEED in the fault manager; with neither condition present it has no effect there (R161, R190, log entry 33). -/
def State.applyProceed (s : State) : State × OrderResult :=
  (if s.present .valleyHalt || s.present .valleyAllHalt then s.endHalts else s, .accepted)

/-- The line side an order names: 0 L, 1 R (R159). -/
def lineSideOfByte (side : Byte) : LineSide := if side = 0 then .l else .r

/-- A PLATFORM_RELEASE replaces the record, or is refused for its stop position (R163). -/
def State.applyPlatform (side : LineSide) (stop : Nat) (sequence : Byte) (s : State) : State × OrderResult :=
  if 1000000 < stop then (s, .refusedRange)
  else
    ((s.setRadio { s.radio with platform := some { side := side, stop := stop, sequence := sequence } }).retestPermits
     , .accepted)

/-! ## Commands: the modem port -/

/-- LINK_STATUS (R152); a station without radio discards it (R151). -/
def execLinkStatus (m : Moment) (level : Byte) (s : State) : Host.Outcome State Fault Refusal :=
  runCommand m
    (fun t =>
      if t.straps.radioFitted then t.setRadio { t.radio with linkTimer := some t.clock, lastLink := level } else t)
    s

/-- MODEM_MESSAGE_DISCARDED: nothing restarts or changes (R151, R153). -/
def execModemMessageDiscarded (m : Moment) (_bytes : List Byte) (s : State) : Host.Outcome State Fault Refusal :=
  runCommand m id s

/-- LINK_STATUS_TIMEOUT: 3 000 ms without a LINK_STATUS (R152). -/
def execLinkStatusTimeout (m : Moment) (s : State) : Host.Outcome State Fault Refusal :=
  runCommand m
    (fun t => t.whenDue t.radio.linkTimer (ms 3000) (fun u => (u.setRadio { u.radio with linkTimer := none }).valleyGone)) s

/-- RADIO_SUPERVISION_EXPIRY: 8 000 ms without an accepted frame (R154). -/
def execRadioSupervisionExpiry (m : Moment) (s : State) : Host.Outcome State Fault Refusal :=
  runCommand m
    (fun t => t.whenDue t.radio.supervision (ms 8000)
      (fun u => (u.setRadio { u.radio with supervision := none }).valleyGone))
    s

/-- POSITION_REPORT_EXPIRY: a report every 2 000 ms (R168). -/
def execPositionReportExpiry (m : Moment) (s : State) : Host.Outcome State Fault Refusal :=
  runCommand m
    (fun t => t.whenDue t.radio.reportTimer (ms 2000)
      (fun u => (u.setRadio { u.radio with reportTimer := some u.clock }).buildReport))
    s

/-- The frame that a SEND message begun now holds (R169). -/
def Radio.nextSend (r : Radio) : Option RadioSending :=
  if !r.acks.isEmpty then some .ack else if r.report.isSome then some .report else none

/-- SEND_MESSAGE_START (R155, R169). -/
def execSendMessageStart (m : Moment) (s : State) : Host.Outcome State Fault Refusal :=
  runCommand m
    (fun t =>
      if t.straps.radioFitted ∧ t.radio.sending = none ∧ t.pins.levels.channelBusy = false then
        t.setRadio { t.radio with sending := t.radio.nextSend }
      else t)
    s

/-- The frame of an ended message leaves the queue (R167 to R169). -/
def Radio.sent (r : Radio) : Radio :=
  match r.sending with
  | none => r
  | some .ack => { r with sending := none, acks := r.acks.drop 1 }
  | some .report => { r with sending := none, report := r.reportBehind, reportBehind := none }

/-- SEND_MESSAGE_DONE (R169). -/
def execSendMessageDone (m : Moment) (s : State) : Host.Outcome State Fault Refusal :=
  runCommand m (fun t => t.setRadio t.radio.sent) s

/-- CHANNEL_BUSY_CHANGE (R169). -/
def execChannelBusyChange (m : Moment) (busy : Bool) (s : State) : Host.Outcome State Fault Refusal :=
  runLevels m (fun v => { v with channelBusy := busy }) id s

/-! ## Commands: valley orders -/

/-- RESTRICT (R160, R173, R174). -/
def execRestrict (m : Moment) (via : Via) (sequence : Byte) (orderId : BitVec 16) (start length : BitVec 24)
    (limit : BitVec 16) (s : State) : Host.Outcome State Fault Refusal :=
  runOrder m via sequence (.restrict orderId start length limit)
    (State.applyRestrict orderId start.toNat length.toNat limit.toNat) s

/-- LIFT (R160, R175). -/
def execLift (m : Moment) (via : Via) (sequence : Byte) (orderId : BitVec 16) (s : State) :
    Host.Outcome State Fault Refusal :=
  runOrder m via sequence (.lift orderId) (State.applyLift orderId) s

/-- HALT: one occurrence of VALLEY_HALT (R161, R190). -/
def execHalt (m : Moment) (via : Via) (sequence : Byte) (s : State) : Host.Outcome State Fault Refusal :=
  runOrder m via sequence .halt (fun t => (t.raise .valleyHalt, .accepted)) s

/-- PROCEED (R161, R190). -/
def execProceed (m : Moment) (via : Via) (sequence : Byte) (s : State) : Host.Outcome State Fault Refusal :=
  runOrder m via sequence .proceed State.applyProceed s

/-- ALL_HALT: one occurrence of VALLEY_ALL_HALT (R161, R187, R190). -/
def execAllHalt (m : Moment) (via : Via) (sequence : Byte) (s : State) : Host.Outcome State Fault Refusal :=
  runOrder m via sequence .allHalt (fun t => (t.raise .valleyAllHalt, .accepted)) s

/-- PLATFORM_RELEASE (R163). -/
def execPlatformRelease (m : Moment) (via : Via) (sequence : Byte) (side : Byte) (stop : BitVec 24) (s : State) :
    Host.Outcome State Fault Refusal :=
  runOrder m via sequence (.platformRelease side stop) (State.applyPlatform (lineSideOfByte side) stop.toNat sequence) s

/-- SUPERVISE: no consumer (R162). -/
def execSupervise (m : Moment) (via : Via) (sequence : Byte) (s : State) : Host.Outcome State Fault Refusal :=
  runOrder m via sequence .supervise (fun t => (t, .accepted)) s

/-- ORDER_FRAME_DISCARDED: no effect of its own, but it ends the hold-off and is tested for a clash (R51, R57, R158);
more than 16 payload bytes are a bad length (R43, R55). -/
def execOrderFrameDiscarded (m : Moment) (source : Fin 8) (_sequence : Byte) (valleyKind : Byte) (payload : List Byte)
    (s : State) : Host.Outcome State Fault Refusal :=
  runFrame m
    (State.handOn (payload.length ≤ 16) source
      (fun t => if (valleyOrder? valleyKind payload).isNone then t.endHoldOff else t))
    s

end Sys2Proof.Machine
end

