-- ==== Sys2Proof/Machine/Starts.lean ====
section
/-! DEFINITION. Cold start, warm restart and drop-out, every block together (R18, R36, R37, R63, R65, R80, R81, R100,
R124, R146, R147, R170, R181, R195 to R199). -/

namespace Sys2Proof.Machine

/-- One pinion at a start, with the energy and the mark it begins with (R124); until the first brake cycle its derated
capacity is what R115's table gives for them (log entry 5). -/
def PinionBrake.started (p : Straps) (energy : Nat) (failed : Bool) : PinionBrake :=
  { PinionBrake.initial with
    energy := energy, failed := failed, derated := deratedCapacity p failed energy, fade := decide (energyE2 ≤ energy) }

/-- R124, cold start. -/
def Brake.coldStarted (now : Nat) (p : Straps) : Brake :=
  { Brake.initial with
    cycleStart := now
    pinions := { p1 := PinionBrake.started p 0 false, p2 := PinionBrake.started p 0 false } }

/-- The part without its lost state: every block at its start values and every output FULL; the queue, the clock, the
lines and the retained store stay (R102, R198, log entry 7). -/
def State.blank (life : Life) (s : State) : State :=
  { State.reset with
    pending := s.pending
    clock := s.clock
    freeCount := s.freeCount
    pins := s.pins
    store := s.store
    brake := Brake.coldStarted 0 s.straps
    station := { life := life, storing := false, droppedAt := none } }

/-! ## Block by block, at a start with its timers started now -/

/-- R18. -/
def startRack (now : Nat) : Rack := { Rack.initial with sampleStart := now }

/-- R58, R65: the filtered senses are the raw levels, the quality window begins. -/
def startLine (now : Nat) (levels : Levels) : Line :=
  { Line.initial with
    senseA := { filtered := levels.senseA, changing := none }
    senseB := { filtered := levels.senseB, changing := none }
    qualityStart := now }

/-- R100. -/
def startSpeed (now : Nat) : Speed := { Speed.initial with superStart := now }

/-- R146: a door from its isolation input and switches. -/
def startDoor (now : Nat) (v : DoorLines) : Door :=
  if v.isolated then { Door.initial with state := .isolated }
  else if v.lockMade then Door.initial
  else if v.openMade then { Door.initial with state := .opened }
  else { Door.initial with state := .closing, timer := some now }

/-- R146, R147: the doors, with a latched mass. -/
def startDoors (now : Nat) (levels : Levels) (mass : Nat) : DoorControl :=
  let doors := levels.doors.mapIdx fun _ v => startDoor now v
  { doors := doors, releaseA := false, releaseB := false
    latchPending := doors.toList.any fun r => r.state == .opened || r.state == .closing
    mass := mass }

/-- R170. -/
def startRadio (now : Nat) (p : Straps) (window : List Byte) : Radio :=
  { Radio.initial with
    status := if p.radioFitted then .lost else .notFitted
    supervision := if p.radioFitted then some now else none
    linkTimer := if p.radioFitted then some now else none
    window := window }

/-- R37: a retained window record. -/
def Window.restarted (w : Window) : Window := if w.status = .sweeping then { w with status := .invalid } else w

/-- R37. -/
def restartEngagement (windows : PerPinion Window) : Engagement :=
  { Engagement.initial with
    pinions :=
      { p1 := { PinionMonitor.initial with window := windows.p1.restarted }
        p2 := { PinionMonitor.initial with window := windows.p2.restarted } } }

/-- R124, warm restart. -/
def restartBrake (now : Nat) (p : Straps) (r : Retained) : Brake :=
  { Brake.initial with
    cycleStart := now
    latch := r.latch
    pinions :=
      { p1 := PinionBrake.started p r.energies.p1 r.failed.p1
        p2 := PinionBrake.started p r.energies.p2 r.failed.p2 }
    proof := { r.proof with lastRefusal := .none, refusals := 0 } }

/-- R81: one entry of the table. -/
def restartEntry (now : Nat) (kept : Option (PeerKind × Nat)) : PeerEntry :=
  match kept with
  | some (kind, tare) => { PeerEntry.blank with state := .joined, kind := kind, tare := tare, ageFrom := some now }
  | none => PeerEntry.blank

/-- R81: the entry of one station number; the own number is SELF (R66). -/
def restartPeer (now : Nat) (r : Retained) (i : Fin 8) : PeerEntry :=
  if r.own = some i then { PeerEntry.blank with state := .self } else restartEntry now (r.peers.getD i.val none)

/-- R81. -/
def restartPeers (now : Nat) (r : Retained) : Vector PeerEntry 8 :=
  #v[restartPeer now r 0, restartPeer now r 1, restartPeer now r 2, restartPeer now r 3, restartPeer now r 4
     , restartPeer now r 5, restartPeer now r 6, restartPeer now r 7]

/-- R181: the retained entries are COVERING, the position being UNKNOWN (R178). -/
def restartRestrictions (t : Restrictions) : Restrictions :=
  { t with entries := t.entries.map fun e => { e with covering := true } }

/-! ## The starts -/

/-- The controlled stop begins if the supply monitor reads WARN (R198). -/
def State.stopIfWarned (s : State) : State := if s.pins.levels.supplyWarn then s.beginStop else s

/-- A cold start with the strap copy just written (R196, R197): the listen window begins, POSITION_UNKNOWN is raised
(R14), active handles release their doors (R131), a warned supply begins the controlled stop (R198). That POSITION_UNKNOWN
is reported before SUPPLY_FAIL is the model's choice (log entry 15). -/
def State.coldStart (s : State) : State :=
  let s1 : State :=
    { s.blank .joining with
      rack := startRack s.clock
      line := { startLine s.clock s.pins.levels with listenTimer := some s.clock }
      speed := startSpeed s.clock
      brake := Brake.coldStarted s.clock s.straps
      doors := startDoors s.clock s.pins.levels (s.straps.tareKg + 8000)
      radio := startRadio s.clock s.straps [] }
  ((s1.raise .positionUnknown).releaseByHandles).stopIfWarned

/-- The conditions that blocks report at a warm restart (R14, R124, R181, R195). -/
def State.restartReports (s : State) : State :=
  let s1 := s.raise .positionUnknown
  let s2 := if s1.brake.pinions.p1.fade || s1.brake.pinions.p2.fade then s1.note .brakeFade else s1
  let s3 := if s2.brake.pinions.p1.failed || s2.brake.pinions.p2.failed then s2.note .pinionFailed else s2
  if s3.restrictions.overflow.isSome then s3.note .restrictionOverflow else s3

/-- A warm restart under the retained own number: every block takes its retained items, the rejoin JOIN is placed
(R63, R195, R199). -/
def State.warmStart (n : Fin 8) (s : State) : State :=
  let r := s.store.items
  let s1 : State :=
    { s.blank .resuming with
      rack := startRack s.clock
      engagement := restartEngagement r.windows
      line := { startLine s.clock s.pins.levels with own := some n, phase := .joinWaiting, rejoin := true }
      peers := restartPeers s.clock r
      speed := startSpeed s.clock
      brake := restartBrake s.clock s.straps r
      doors := startDoors s.clock s.pins.levels r.mass
      radio := startRadio s.clock s.straps r.window
      restrictions := restartRestrictions r.restrictions
      faults := Faults.restored r.faults }
  (((s1.restartReports).releaseByHandles).startReports).placeJoin n

/-- Supply reaches the part: the validity mark is read and cleared, the check is compared, and the station goes to
RESUMING or COLD (R196, R198, R199). -/
def State.powerOn (checkFlips : BitVec 16) (s : State) : State :=
  let s1 := s.setStore { s.store with valid := false }
  if s.store.valid = true ∧ storeCheck s.straps s.store.items = s.store.check ^^^ checkFlips then
    match s.store.items.own with
    | some n => s1.warmStart n
    | none => s1.blank .cold
  else s1.blank .cold

/-- The part loses its supply (R191, R198). -/
def State.dropOut (s : State) : State :=
  let s1 := s.blank .off
  s1.setStation { s1.station with droppedAt := some s.clock }

end Sys2Proof.Machine
end

