-- ==== Sys2Proof/Machine/StationState.lean ====
section
/-! DEFINITION. The station state block (chapter 11): supply, drop-out and starts, consist reset across the blocks,
INSPECT and its records; the commands CONSIST_RESET, INSPECT and SUPPLY_WARN to STRAPS_READ. -/

namespace Sys2Proof.Machine

/-! ## Consist reset (R38, R82, R101, R113, R125, R148, R171, R182, R189) -/

/-- The own pull at a consist reset (R113 step 1). -/
def State.resetPull (s : State) : State :=
  if s.brake.ownPull && s.consistStandstill && !s.classA then s.setBrake { s.brake with ownPull := false } else s

/-- The latch at a consist reset, the loop read after step 1 (R113 step 2). -/
def State.resetLatch (s : State) : State :=
  if s.brake.latch && !s.brake.ownPull && s.consistStandstill && !s.classA && !s.loopPulled then
    s.setBrake { s.brake with latch := false }
  else s

/-- The brake controller at a consist reset (R113, R125). -/
def State.resetBrake (s : State) : State :=
  ((s.setBrake { s.brake with cabDemand := 0, releasePending := false }).resetPull).resetLatch

/-- The slip counts at a consist reset (R38). -/
def State.resetSlips (s : State) : State :=
  (s.setEngagement
    { s.engagement with
      pinions :=
        { p1 := { s.engagement.pinions.p1 with slip := 0 }
          p2 := { s.engagement.pinions.p2 with slip := 0 } } }).reformSlip

/-- The arithmetic-limit flag at a consist reset (R84, R101). -/
def State.resetArith (s : State) : State := (s.setSpeed { s.speed with arithLimit := false }).clear .arithLimit

/-- The flags of the doors at a consist reset (R148). -/
def State.resetDoorFlags (s : State) : State :=
  let doors := s.doors.doors.mapIdx fun _ r => { r with timeoutFlag := false, obstructionFlag := false }
  ((s.setDoors { s.doors with doors := doors }).clear .doorTimeout).clear .doorObstructed

/-- The overflow ceiling at a consist reset (R182). -/
def State.resetOverflow (s : State) : State :=
  (s.setRestrictions { s.restrictions with overflow := none }).clear .restrictionOverflow

/-- The platform release record at a consist reset (R164, R171). -/
def State.resetPlatform (s : State) : State := (s.setRadio { s.radio with platform := none }).retestPermits

/-- A table of entries changed one by one. -/
def mapPeers (f : PeerEntry → PeerEntry) (v : Vector PeerEntry 8) : Vector PeerEntry 8 :=
  #v[f v[0], f v[1], f v[2], f v[3], f v[4], f v[5], f v[6], f v[7]]

/-- The last alerts at a consist reset (R72, R82). -/
def State.resetAlerts (s : State) : State := s.setPeers (mapPeers (fun e => { e with lastAlert := none }) s.peers)

/-- An admitted CONSIST_RESET, taken by every block; the fault manager tests its records after the others have ended
their conditions (R189), in the order of log entry 48. -/
def State.consistReset (s : State) : State :=
  let s1 := (((((s.resetSlips.resetArith).resetDoorFlags).resetOverflow).resetAlerts).resetPlatform).resetBrake
  s1.setFaults (s1.faults.consistReset s1.consistStandstill)

/-! ## INSPECT records (R202) -/

/-- A value narrowed into one byte (R85, R202). -/
def byteOf (n : Nat) : Byte := narrow 8 n

/-- A value narrowed into two bytes (R85, R202). -/
def twoBytes (n : Nat) : List Byte := bytes16 (narrow 16 n)

/-- A value narrowed into three bytes (R85, R202). -/
def threeBytes (n : Nat) : List Byte := bytes24 (narrow 24 n)

/-- A flag whose values are listed clear first. -/
def flagByte (b : Bool) : Byte := if b then 1 else 0

/-- A force or capacity in 100 N units (R202), the floor as in a STATE (R44, log entry 38). -/
def forceBytes (n : Nat) : List Byte := twoBytes (n / 100)

/-- The code of a kind, 0 for none (R202). -/
def alertByte (k : Option FaultKind) : Byte :=
  match k with
  | some kind => byteOf kind.code
  | none => 0

/-- A fault record: kind, class, active flag (its values are listed set, clear: log entry 20), count. -/
def FaultRecord.bytes (r : FaultRecord) : List Byte :=
  [byteOf r.kind.code, byteOf r.cls.code, flagByte (!r.active), byteOf r.count]

/-- The records after the first two, five at a time. -/
def fiveByFive (fuel : Nat) (rs : List FaultRecord) : List (List Byte) :=
  match fuel with
  | 0 => []
  | n + 1 =>
    match rs with
    | [] => []
    | _ => (rs.take 5).flatMap FaultRecord.bytes :: fiveByFive n (rs.drop 5)

/-- FAULTS. -/
def State.faultsSet (s : State) : List (List Byte) :=
  let table := s.faults.table
  ([byteOf table.length, (s.faults.highestClass s.straps.strict).setWidth 8]
      ++ s.peers.toList.map (fun e => alertByte e.lastAlert) ++ (table.take 2).flatMap FaultRecord.bytes)
    :: fiveByFive 3 (table.drop 2)

/-- The four bytes of a hit bitmap, bin 31 first. -/
def bitmapBytes (v : BitVec 32) : List Byte :=
  [v.extractLsb' 24 8, v.extractLsb' 16 8, v.extractLsb' 8 8, v.extractLsb' 0 8]

/-- One record of WINDOWS. -/
def windowRecord (number : Byte) (p : PinionMonitor) : List Byte :=
  [number, byteOf p.window.status.code] ++ bitmapBytes p.window.hits
    ++ [byteOf p.window.lower, byteOf p.window.upper, byteOf p.window.width, byteOf p.window.inArc, byteOf p.slip
        , byteOf p.settle]

/-- WINDOWS. -/
def State.windowsSet (s : State) : List (List Byte) :=
  [windowRecord 1 s.engagement.pinions.p1, windowRecord 2 s.engagement.pinions.p2]

/-- Record 0 of BRAKES; the holding state lists APPLIED first. -/
def State.brakesHead (s : State) : List Byte :=
  [flagByte (!s.brake.applied), flagByte s.brake.latch, flagByte s.brake.ownPull, flagByte s.loopPulled]
    ++ twoBytes s.brake.cabDemand ++ twoBytes (if s.speed.intervening then 600 else 0) ++ twoBytes s.speed.localLimit
    ++ twoBytes s.speed.enforced ++ twoBytes s.speed.hardRef ++ [byteOf s.speed.buildUp]

/-- Records 1 and 2 of BRAKES; the energy in kJ is the floor of E / 1 000, the model's choice (log entry 38). -/
def State.pinionRecord (number : Byte) (p : Pinion) (s : State) : List Byte :=
  let b := s.brake.pinions.get p
  [number, flagByte b.failed, flagByte b.fade] ++ twoBytes (b.energy / 1000) ++ forceBytes b.derated
    ++ [byteOf (s.brake.proof.results.get p).code] ++ forceBytes (s.brake.proof.forces.get p)

/-- The phase byte: the phase of a RUNNING test, else a free value (R119, log entry 19). -/
def State.phaseByte (s : State) : Byte :=
  if s.brake.proof.state = .running then byteOf s.brake.proof.phase.code else Config.idlePhaseByte s.freeCount

/-- Record 3 of BRAKES. -/
def State.proofRecordBytes (s : State) : List Byte :=
  let p := s.brake.proof
  [byteOf p.state.code, s.phaseByte, byteOf p.reason.code, byteOf p.pulses, byteOf p.lastRefusal.code, byteOf p.refusals
   , flagByte s.brake.autoProof]

/-- BRAKES. -/
def State.brakesSet (s : State) : List (List Byte) :=
  [s.brakesHead, s.pinionRecord 1 .p1, s.pinionRecord 2 .p2, s.proofRecordBytes]

/-- The bytes of one restriction entry. -/
def Restriction.bytes (e : Restriction) : List Byte :=
  bytes16 e.orderId ++ threeBytes e.start ++ threeBytes e.stop ++ twoBytes e.limit ++ [flagByte e.covering]

/-- What every record of RESTRICTIONS begins with. -/
def Restrictions.head (t : Restrictions) : List Byte :=
  [byteOf t.entries.length, flagByte t.overflow.isSome] ++ twoBytes (t.overflow.getD 0)

/-- RESTRICTIONS. -/
def State.restrictionsSet (s : State) : List (List Byte) :=
  match s.restrictions.entries with
  | [] => [s.restrictions.head]
  | entries => entries.map fun e => s.restrictions.head ++ e.bytes

/-- The platform release record in record 0 of RADIO. -/
def platformBytes (p : Option Platform) : List Byte :=
  match p with
  | none => [0, 0] ++ threeBytes 0 ++ [0]
  | some r => [1, match r.side with | .l => 0 | .r => 1] ++ threeBytes r.stop ++ [r.sequence]

/-- RADIO. -/
def State.radioSet (s : State) : List (List Byte) :=
  [[s.radio.status.code.setWidth 8, flagByte s.radio.lostWide, s.radio.lastLink, byteOf s.radio.acks.length]
      ++ platformBytes s.radio.platform ++ [byteOf s.radio.window.length]
   , byteOf s.radio.window.length :: s.radio.window]

/-- The record sets an INSPECT may ask for (R46). -/
inductive RecordSet where
  | faults | windows | brakes | restrictions | radio
deriving DecidableEq, Repr

/-- The record set of a parameter, 1 to 5 (R46, R201). -/
def recordSetOf (param : BitVec 16) : Option RecordSet :=
  match param.toNat with
  | 1 => some .faults
  | 2 => some .windows
  | 3 => some .brakes
  | 4 => some .restrictions
  | 5 => some .radio
  | _ => none

/-- The records of a set, in index order (R202). -/
def State.records (which : RecordSet) (s : State) : List (List Byte) :=
  match which with
  | .faults => s.faultsSet
  | .windows => s.windowsSet
  | .brakes => s.brakesSet
  | .restrictions => s.restrictionsSet
  | .radio => s.radioSet

/-- One INSPECT_REPLY (R46, R54). -/
def replyFrame (n : Fin 8) (param : BitVec 16) (count index : Nat) (truncated : Bool) (contents : List Byte) : LineFrame :=
  buildFrame n
    (.inspectReply ([param.setWidth 8, byteOf index, byteOf count, flagByte truncated] ++ contents))

/-- The replies placed of an answer for which `room` places are left; the last one placed carries the truncated flag
if any record is left out (R54). -/
def placedReplies (n : Fin 8) (param : BitVec 16) (room : Nat) (records : List (List Byte)) : List LineFrame :=
  (records.take room).mapIdx fun i contents =>
    replyFrame n param records.length i (decide (room < records.length) && i + 1 == room) contents

/-- Hand every record of an answer to the REPLY slot (R54). -/
def State.placeReplies (n : Fin 8) (param : BitVec 16) (records : List (List Byte)) (s : State) : State :=
  s.setLine
    { s.line with
      replies := s.line.replies ++ placedReplies n param (4 - s.line.replies.length) records }.offer

/-- A read of BRAKES with no test RUNNING draws a free value (log entry 19). -/
def State.drawPhase (which : RecordSet) (s : State) : State :=
  if which = .brakes ∧ s.brake.proof.state ≠ .running then s.setFreeCount (s.freeCount + 1) else s

/-- An admitted INSPECT: answered for the own number and a known record set (R201). -/
def State.inspect (target : Byte) (param : BitVec 16) (s : State) : State :=
  match s.line.own, recordSetOf param with
  | some n, some which =>
    if target = s.stationByte then (s.placeReplies n param (s.records which)).drawPhase which else s
  | _, _ => s

/-! ## Commands -/

/-- CONSIST_RESET (R113, R189). -/
def execConsistReset (m : Moment) (source : Fin 8) (target : Byte) (param : BitVec 16) (s : State) :
    Host.Outcome State Fault Refusal :=
  runCommandFrame m .consistReset source target param State.consistReset s

/-- INSPECT (R201, R202). -/
def execInspect (m : Moment) (source : Fin 8) (target : Byte) (param : BitVec 16) (s : State) :
    Host.Outcome State Fault Refusal :=
  runCommandFrame m .inspect source target param (State.inspect target param) s

/-- SUPPLY_WARN: at a change from GOOD to WARN the controlled stop begins (R192); in RESUMING it waits for the end
of that state, as in COLD (R198, log entry 22). -/
def execSupplyWarn (m : Moment) (s : State) : Host.Outcome State Fault Refusal :=
  runLevels m (fun v => { v with supplyWarn := true })
    (fun t => if s.pins.levels.supplyWarn = false ∧ t.station.life ≠ .resuming then t.beginStop else t) s

/-- SUPPLY_GOOD: SUPPLY_FAIL goes, and the store is no longer kept nor valid (R194, R198). -/
def execSupplyGood (m : Moment) (s : State) : Host.Outcome State Fault Refusal :=
  runLevels m (fun v => { v with supplyWarn := false })
    (fun t =>
      ((t.setStation { t.station with storing := false }).setStore { t.store with valid := false }).clear .supplyFail)
    s

/-- DROP_OUT: the part loses its supply; a part without supply has none to lose (R198). -/
def execDropOut (m : Moment) (s : State) : Host.Outcome State Fault Refusal :=
  let s1 := s.atMoment m
  .next (if s1.station.life = .off then s1 else s1.dropOut)

/-- STORE_HOLDUP_EXPIRY: 30 000 ms without supply clear the validity mark (R198). -/
def execStoreHoldupExpiry (m : Moment) (s : State) : Host.Outcome State Fault Refusal :=
  let s1 := s.atMoment m
  .next
    (if s1.station.life = .off then
      s1.whenDue s1.station.droppedAt (ms 30000) (fun t => t.setStore { t.store with valid := false })
    else s1)

/-- POWER_ON: supply reaches the part (R196, R198, R199); `checkFlips` is what the store's check has lost without
supply (log entry 17). -/
def execPowerOn (m : Moment) (levels : Levels) (checkFlips : BitVec 16) (s : State) :
    Host.Outcome State Fault Refusal :=
  let s1 := s.atMoment m
  .next
    (if s1.station.life = .off then (s1.setPins { s1.pins with levels := levels }).powerOn checkFlips else s1)

/-- STRAPS_READ: in COLD the straps and the isolation inputs are read, the strap copy is written with its check, and
JOINING begins (R196 to R198). -/
def execStrapsRead (m : Moment) (straps : Straps) (levels : Levels) (s : State) : Host.Outcome State Fault Refusal :=
  let s1 := s.atMoment m
  .next
    (if s1.station.life = .cold then
      (((s1.setPins { s1.pins with levels := levels }).setStore (s1.store.writeStraps straps)).coldStart).keepStore
    else s1)

end Sys2Proof.Machine
end

