-- ==== Sys2Proof/Machine/Dispatch.lean ====
section
/-! DEFINITION. One arm per command: the meaning it has. -/

namespace Sys2Proof.Machine

open Sys2Proof

/-- The effect of a command on everything but the queue. -/
def exec (i : Instr) (s : State) : Host.Outcome State Fault Refusal :=
  match i with
  | .toothEdge m sensor phase => Sys2Proof.Machine.execToothEdge m sensor phase s
  | .wheelPulse m channel1Leads => Sys2Proof.Machine.execWheelPulse m channel1Leads s
  | .sourceRest m source => Sys2Proof.Machine.execSourceRest m source s
  | .speedDisagreeExpiry m => Sys2Proof.Machine.execSpeedDisagreeExpiry m s
  | .speedAgreeExpiry m => Sys2Proof.Machine.execSpeedAgreeExpiry m s
  | .standstillConfirmed m => Sys2Proof.Machine.execStandstillConfirmed m s
  | .trackMark m dm => Sys2Proof.Machine.execTrackMark m dm s
  | .gradeSampleExpiry m reading => Sys2Proof.Machine.execGradeSampleExpiry m reading s
  | .conditionHoldExpiry m kind => Sys2Proof.Machine.execConditionHoldExpiry m kind s
  | .lineIdle m => Sys2Proof.Machine.execLineIdle m s
  | .contentionLost m => Sys2Proof.Machine.execContentionLost m s
  | .frameSent m => Sys2Proof.Machine.execFrameSent m s
  | .orderHoldOffExpiry m => Sys2Proof.Machine.execOrderHoldOffExpiry m s
  | .chainOutActivate m => Sys2Proof.Machine.execChainOutActivate m s
  | .statePeriodExpiry m => Sys2Proof.Machine.execStatePeriodExpiry m s
  | .accessTimeout m => Sys2Proof.Machine.execAccessTimeout m s
  | .joinRetry m => Sys2Proof.Machine.execJoinRetry m s
  | .receiveJoin m source fields => Sys2Proof.Machine.execReceiveJoin m source fields s
  | .receiveState m source report => Sys2Proof.Machine.execReceiveState m source report s
  | .receiveAlert m source kind station => Sys2Proof.Machine.execReceiveAlert m source kind station s
  | .receiveInspectReply m source payload => Sys2Proof.Machine.execReceiveInspectReply m source payload s
  | .badFrame m frame => Sys2Proof.Machine.execBadFrame m frame s
  | .unknownFrameDropped m frame => Sys2Proof.Machine.execUnknownFrameDropped m frame s
  | .lineQualityWindowEnd m => Sys2Proof.Machine.execLineQualityWindowEnd m s
  | .clashTimerExpiry m => Sys2Proof.Machine.execClashTimerExpiry m s
  | .neighbourSenseInput m carEnd level => Sys2Proof.Machine.execNeighbourSenseInput m carEnd level s
  | .neighbourSenseFiltered m carEnd => Sys2Proof.Machine.execNeighbourSenseFiltered m carEnd s
  | .listenWindowEnd m => Sys2Proof.Machine.execListenWindowEnd m s
  | .chainInChange m carEnd level => Sys2Proof.Machine.execChainInChange m carEnd level s
  | .chainWaitExpiry m => Sys2Proof.Machine.execChainWaitExpiry m s
  | .completionWaitExpiry m => Sys2Proof.Machine.execCompletionWaitExpiry m s
  | .peerStale m station => Sys2Proof.Machine.execPeerStale m station s
  | .peerLost m station => Sys2Proof.Machine.execPeerLost m station s
  | .service m source target param => Sys2Proof.Machine.execService m source target param s
  | .release m source target param => Sys2Proof.Machine.execRelease m source target param s
  | .proof m source target param => Sys2Proof.Machine.execProof m source target param s
  | .doorsRelease m source target param => Sys2Proof.Machine.execDoorsRelease m source target param s
  | .doorsClose m source target param => Sys2Proof.Machine.execDoorsClose m source target param s
  | .consistReset m source target param => Sys2Proof.Machine.execConsistReset m source target param s
  | .inspect m source target param => Sys2Proof.Machine.execInspect m source target param s
  | .supervisionComputation m => Sys2Proof.Machine.execSupervisionComputation m s
  | .brakeCycle m => Sys2Proof.Machine.execBrakeCycle m s
  | .pinionFailureTimeout m pinion => Sys2Proof.Machine.execPinionFailureTimeout m pinion s
  | .proofSettleExpiry m => Sys2Proof.Machine.execProofSettleExpiry m s
  | .loopPulled m => Sys2Proof.Machine.execLoopPulled m s
  | .loopReleased m => Sys2Proof.Machine.execLoopReleased m s
  | .lockSwitchMade m door => Sys2Proof.Machine.execLockSwitchMade m door s
  | .lockSwitchLost m door => Sys2Proof.Machine.execLockSwitchLost m door s
  | .fullyOpenSwitch m door => Sys2Proof.Machine.execFullyOpenSwitch m door s
  | .obstructionEdge m door => Sys2Proof.Machine.execObstructionEdge m door s
  | .openButton m door => Sys2Proof.Machine.execOpenButton m door s
  | .handleActive m door => Sys2Proof.Machine.execHandleActive m door s
  | .handleInactive m door => Sys2Proof.Machine.execHandleInactive m door s
  | .doorOpeningTimeout m door => Sys2Proof.Machine.execDoorOpeningTimeout m door s
  | .doorClosingTimeout m door => Sys2Proof.Machine.execDoorClosingTimeout m door s
  | .doorReopenExpiry m door => Sys2Proof.Machine.execDoorReopenExpiry m door s
  | .linkStatus m level => Sys2Proof.Machine.execLinkStatus m level s
  | .modemMessageDiscarded m bytes => Sys2Proof.Machine.execModemMessageDiscarded m bytes s
  | .restrict m via sequence orderId start length limit => Sys2Proof.Machine.execRestrict m via sequence orderId start length limit s
  | .lift m via sequence orderId => Sys2Proof.Machine.execLift m via sequence orderId s
  | .halt m via sequence => Sys2Proof.Machine.execHalt m via sequence s
  | .proceed m via sequence => Sys2Proof.Machine.execProceed m via sequence s
  | .allHalt m via sequence => Sys2Proof.Machine.execAllHalt m via sequence s
  | .platformRelease m via sequence side stop => Sys2Proof.Machine.execPlatformRelease m via sequence side stop s
  | .supervise m via sequence => Sys2Proof.Machine.execSupervise m via sequence s
  | .linkStatusTimeout m => Sys2Proof.Machine.execLinkStatusTimeout m s
  | .radioSupervisionExpiry m => Sys2Proof.Machine.execRadioSupervisionExpiry m s
  | .positionReportExpiry m => Sys2Proof.Machine.execPositionReportExpiry m s
  | .sendMessageStart m => Sys2Proof.Machine.execSendMessageStart m s
  | .sendMessageDone m => Sys2Proof.Machine.execSendMessageDone m s
  | .channelBusyChange m busy => Sys2Proof.Machine.execChannelBusyChange m busy s
  | .supplyWarn m => Sys2Proof.Machine.execSupplyWarn m s
  | .supplyGood m => Sys2Proof.Machine.execSupplyGood m s
  | .dropOut m => Sys2Proof.Machine.execDropOut m s
  | .storeHoldupExpiry m => Sys2Proof.Machine.execStoreHoldupExpiry m s
  | .powerOn m levels checkFlips => Sys2Proof.Machine.execPowerOn m levels checkFlips s
  | .strapsRead m straps levels => Sys2Proof.Machine.execStrapsRead m straps levels s
  | .tenRecessiveBitTimes m => Sys2Proof.Machine.execTenRecessiveBitTimes m s
  | .startBitOnLine m => Sys2Proof.Machine.execStartBitOnLine m s
  | .orderFrameDiscarded m source sequence valleyKind payload => Sys2Proof.Machine.execOrderFrameDiscarded m source sequence valleyKind payload s

end Sys2Proof.Machine
end

