-- ==== Sys2Proof/Safety.lean ====
section
/-! DEFINITION. What the claims are stated with: the moment of a command, the parts of the state and the frame
condition over them, and the invariants of the part. -/

namespace Sys2Proof

/-- The moment a command carries (log entry 1). -/
def Instr.moment : Instr → Moment
  | .toothEdge m _ _ => m
  | .wheelPulse m _ => m
  | .sourceRest m _ => m
  | .speedDisagreeExpiry m => m
  | .speedAgreeExpiry m => m
  | .standstillConfirmed m => m
  | .trackMark m _ => m
  | .gradeSampleExpiry m _ => m
  | .conditionHoldExpiry m _ => m
  | .lineIdle m => m
  | .contentionLost m => m
  | .frameSent m => m
  | .orderHoldOffExpiry m => m
  | .chainOutActivate m => m
  | .statePeriodExpiry m => m
  | .accessTimeout m => m
  | .joinRetry m => m
  | .receiveJoin m _ _ => m
  | .receiveState m _ _ => m
  | .receiveAlert m _ _ _ => m
  | .receiveInspectReply m _ _ => m
  | .badFrame m _ => m
  | .unknownFrameDropped m _ => m
  | .lineQualityWindowEnd m => m
  | .clashTimerExpiry m => m
  | .neighbourSenseInput m _ _ => m
  | .neighbourSenseFiltered m _ => m
  | .listenWindowEnd m => m
  | .chainInChange m _ _ => m
  | .chainWaitExpiry m => m
  | .completionWaitExpiry m => m
  | .peerStale m _ => m
  | .peerLost m _ => m
  | .service m _ _ _ => m
  | .release m _ _ _ => m
  | .proof m _ _ _ => m
  | .doorsRelease m _ _ _ => m
  | .doorsClose m _ _ _ => m
  | .consistReset m _ _ _ => m
  | .inspect m _ _ _ => m
  | .supervisionComputation m => m
  | .brakeCycle m => m
  | .pinionFailureTimeout m _ => m
  | .proofSettleExpiry m => m
  | .loopPulled m => m
  | .loopReleased m => m
  | .lockSwitchMade m _ => m
  | .lockSwitchLost m _ => m
  | .fullyOpenSwitch m _ => m
  | .obstructionEdge m _ => m
  | .openButton m _ => m
  | .handleActive m _ => m
  | .handleInactive m _ => m
  | .doorOpeningTimeout m _ => m
  | .doorClosingTimeout m _ => m
  | .doorReopenExpiry m _ => m
  | .linkStatus m _ => m
  | .modemMessageDiscarded m _ => m
  | .restrict m _ _ _ _ _ _ => m
  | .lift m _ _ _ => m
  | .halt m _ _ => m
  | .proceed m _ _ => m
  | .allHalt m _ _ => m
  | .platformRelease m _ _ _ _ => m
  | .supervise m _ _ => m
  | .linkStatusTimeout m => m
  | .radioSupervisionExpiry m => m
  | .positionReportExpiry m => m
  | .sendMessageStart m => m
  | .sendMessageDone m => m
  | .channelBusyChange m _ => m
  | .supplyWarn m => m
  | .supplyGood m => m
  | .dropOut m => m
  | .storeHoldupExpiry m => m
  | .powerOn m _ _ => m
  | .strapsRead m _ _ => m
  | .tenRecessiveBitTimes m => m
  | .startBitOnLine m => m
  | .orderFrameDiscarded m _ _ _ _ => m

end Sys2Proof

namespace Sys2Proof.Machine

/-! ## When a command comes, and to whom -/

/-- The clock reading at which a command with this moment is taken. -/
def State.instant (s : State) (m : Moment) : Nat := s.clock + m.elapsed

/-- The part takes frames from the car line: its blocks run, and the line is not being ignored after a bad length
(R40). -/
def State.hears (s : State) : Bool := s.running && s.line.bus != .ignoringUntilTen

/-- A COMMAND frame of another station that is good, accepted and admitted (R55, R78, R200). -/
def State.takes (sub : Subkind) (source : Fin 8) (target : Byte) (param : BitVec 16) (s : State) : Bool :=
  s.hears && commandOk target sub param && s.line.own != some source && s.accepts source target
    && admits sub s.station.life

/-- A valley order by this path reaches the duplicate window: by the own radio to the own address or 255 (R153, R155),
or in an ORDER frame of another station that is heard (R55, R158). -/
def State.takesOrder (via : Via) (s : State) : Bool :=
  match via with
  | .radio address =>
    s.running && s.straps.radioFitted && (address == s.straps.radioAddr || address == 255)
  | .line source => s.hears && s.line.own != some source

/-- The commands that a part whose blocks do not run takes: supply, its loss, the hold-up time, the straps. -/
def isStart : Instr → Bool
  | .dropOut _ => true
  | .storeHoldupExpiry _ => true
  | .powerOn _ _ _ => true
  | .strapsRead _ _ _ => true
  | _ => false

/-! ## Frames -/

/-- The parts of the state that a frame condition tells apart. The queue, the clock and what the load and force
sensors read are the same for every command and stand apart. -/
inductive Part where
  | levels | speedSources | motion | presence | odometer | gradeFilter
  | monitors | holdTimers
  | numbering | chainOut | senses | slots | transmission | lineTimers | quality
  | peers
  | limit | supervision | arith
  | demand | sharing | holding | emergency | pinions | outputs | proof
  | doors | sideReleases | mass
  | valley | window | platform | outgoing
  | restrictions | faults | station | store | freeCount
deriving DecidableEq, Repr

/-- A part is the same in two states. While the controlled stop keeps the retained store equal to the items, the
store's items and check follow the other parts; its strap copy and validity mark are compared always. -/
def Part.same (p : Part) (s t : State) : Prop :=
  match p with
  | .levels => t.pins.levels = s.pins.levels
  | .speedSources =>
    t.rack.toothRef = s.rack.toothRef ∧ t.rack.toothEdgeSpeed = s.rack.toothEdgeSpeed
      ∧ t.rack.toothSpeed = s.rack.toothSpeed ∧ t.rack.wheelRef = s.rack.wheelRef
      ∧ t.rack.wheelEdgeSpeed = s.rack.wheelEdgeSpeed ∧ t.rack.wheelSpeed = s.rack.wheelSpeed
      ∧ t.rack.reported = s.rack.reported ∧ t.rack.disagreeTimer = s.rack.disagreeTimer
      ∧ t.rack.agreeTimer = s.rack.agreeTimer ∧ t.rack.standstillTimer = s.rack.standstillTimer
  | .motion =>
    t.rack.lastWheelDir = s.rack.lastWheelDir ∧ t.rack.movingDir = s.rack.movingDir
      ∧ t.rack.standstill = s.rack.standstill
  | .presence => t.rack.present = s.rack.present ∧ t.rack.absence = s.rack.absence
  | .odometer =>
    t.rack.travel = s.rack.travel ∧ t.rack.uncounted = s.rack.uncounted ∧ t.rack.pendingTeeth = s.rack.pendingTeeth
      ∧ t.rack.markBase = s.rack.markBase ∧ t.rack.known = s.rack.known
  | .gradeFilter =>
    t.rack.ring = s.rack.ring ∧ t.rack.lastValid = s.rack.lastValid ∧ t.rack.invalidCount = s.rack.invalidCount
      ∧ t.rack.validCount = s.rack.validCount ∧ t.rack.grade = s.rack.grade ∧ t.rack.sampleStart = s.rack.sampleStart
  | .monitors => t.engagement.pinions = s.engagement.pinions
  | .holdTimers =>
    t.engagement.climbOutHold = s.engagement.climbOutHold ∧ t.engagement.calibrationHold = s.engagement.calibrationHold
  | .numbering =>
    t.line.own = s.line.own ∧ t.line.phase = s.line.phase ∧ t.line.rejoin = s.line.rejoin
      ∧ t.line.highestHeard = s.line.highestHeard ∧ t.line.references = s.line.references
      ∧ t.line.listenTimer = s.line.listenTimer ∧ t.line.chainWaitTimer = s.line.chainWaitTimer
      ∧ t.line.completionTimer = s.line.completionTimer
  | .chainOut => t.line.chainOut = s.line.chainOut ∧ t.line.chainOutDue = s.line.chainOutDue
  | .senses => t.line.senseA = s.line.senseA ∧ t.line.senseB = s.line.senseB
  | .slots =>
    t.line.alert = s.line.alert ∧ t.line.alertBehind = s.line.alertBehind ∧ t.line.orders = s.line.orders
      ∧ t.line.stateSlot = s.line.stateSlot ∧ t.line.stateBehind = s.line.stateBehind ∧ t.line.replies = s.line.replies
  | .transmission =>
    t.line.sending = s.line.sending ∧ t.line.bus = s.line.bus ∧ t.line.orderPassed = s.line.orderPassed
  | .lineTimers =>
    t.line.joinRetry = s.line.joinRetry ∧ t.line.statePeriod = s.line.statePeriod
      ∧ t.line.orderHoldOff = s.line.orderHoldOff ∧ t.line.discards = s.line.discards
      ∧ t.line.nextSequence = s.line.nextSequence
  | .quality =>
    t.line.qualityStart = s.line.qualityStart ∧ t.line.badCount = s.line.badCount ∧ t.line.clashTimer = s.line.clashTimer
  | .peers => t.peers = s.peers
  | .limit =>
    t.speed.localLimit = s.speed.localLimit ∧ t.speed.raiseHold = s.speed.raiseHold ∧ t.speed.enforced = s.speed.enforced
  | .supervision =>
    t.speed.superStart = s.speed.superStart ∧ t.speed.hardRef = s.speed.hardRef ∧ t.speed.buildUp = s.speed.buildUp
      ∧ t.speed.descending = s.speed.descending ∧ t.speed.intervening = s.speed.intervening
  | .arith => t.speed.arithLimit = s.speed.arithLimit
  | .demand => t.brake.cabDemand = s.brake.cabDemand
  | .sharing =>
    t.brake.cycleStart = s.brake.cycleStart ∧ t.brake.target = s.brake.target ∧ t.brake.force = s.brake.force
      ∧ t.brake.pinions.p1.split = s.brake.pinions.p1.split ∧ t.brake.pinions.p2.split = s.brake.pinions.p2.split
  | .holding => t.brake.applied = s.brake.applied ∧ t.brake.releasePending = s.brake.releasePending
  | .emergency => t.brake.latch = s.brake.latch ∧ t.brake.ownPull = s.brake.ownPull
  | .pinions =>
    t.brake.pinions.p1.failed = s.brake.pinions.p1.failed ∧ t.brake.pinions.p2.failed = s.brake.pinions.p2.failed
      ∧ t.brake.pinions.p1.energy = s.brake.pinions.p1.energy ∧ t.brake.pinions.p2.energy = s.brake.pinions.p2.energy
      ∧ t.brake.pinions.p1.derated = s.brake.pinions.p1.derated ∧ t.brake.pinions.p2.derated = s.brake.pinions.p2.derated
      ∧ t.brake.pinions.p1.fade = s.brake.pinions.p1.fade ∧ t.brake.pinions.p2.fade = s.brake.pinions.p2.fade
      ∧ t.brake.pinions.p1.failTimer = s.brake.pinions.p1.failTimer
      ∧ t.brake.pinions.p2.failTimer = s.brake.pinions.p2.failTimer
  | .outputs =>
    t.brake.pinions.p1.mode = s.brake.pinions.p1.mode ∧ t.brake.pinions.p2.mode = s.brake.pinions.p2.mode
      ∧ t.brake.wheel = s.brake.wheel
  | .proof =>
    t.brake.proof = s.brake.proof ∧ t.brake.sampleSum = s.brake.sampleSum ∧ t.brake.sampleCount = s.brake.sampleCount
      ∧ t.brake.settleTimer = s.brake.settleTimer ∧ t.brake.autoProof = s.brake.autoProof
  | .doors => t.doors.doors = s.doors.doors
  | .sideReleases => t.doors.releaseA = s.doors.releaseA ∧ t.doors.releaseB = s.doors.releaseB
  | .mass => t.doors.mass = s.doors.mass ∧ t.doors.latchPending = s.doors.latchPending
  | .valley =>
    t.radio.status = s.radio.status ∧ t.radio.supervision = s.radio.supervision ∧ t.radio.linkTimer = s.radio.linkTimer
      ∧ t.radio.lastLink = s.radio.lastLink ∧ t.radio.lostWide = s.radio.lostWide
  | .window => t.radio.window = s.radio.window
  | .platform => t.radio.platform = s.radio.platform
  | .outgoing =>
    t.radio.acks = s.radio.acks ∧ t.radio.report = s.radio.report ∧ t.radio.reportBehind = s.radio.reportBehind
      ∧ t.radio.sending = s.radio.sending ∧ t.radio.radioSequence = s.radio.radioSequence
      ∧ t.radio.reportTimer = s.radio.reportTimer
  | .restrictions => t.restrictions = s.restrictions
  | .faults => t.faults = s.faults
  | .station => t.station = s.station
  | .store =>
    t.store.straps = s.store.straps ∧ t.store.valid = s.store.valid ∧ (s.station.storing = false → t.store = s.store)
  | .freeCount => t.freeCount = s.freeCount

/-- Every part outside the list is the same in the second state as in the first. -/
def onlyChanges (parts : List Part) (s t : State) : Prop := ∀ p : Part, p ∈ parts ∨ p.same s t

/-- The parts that the reaction to a class B condition, or to the going of a class A or B condition, may change: the
fault manager, the limits, and the doors through their permits (R94, R129, R188). -/
def Part.ofClassB : List Part := [.faults, .limit, .doors, .sideReleases, .mass]

/-- Two lists of parts together. -/
def Part.also (parts more : List Part) : List Part := parts ++ more

/-- The parts that the reaction to a class A condition may change: those of class B, the emergency state with the
outputs, the holding brake and a proof test, and the line's ALERT (R111, R112, R123, R187). -/
def Part.ofClassA : List Part := Part.also Part.ofClassB [.emergency, .holding, .outputs, .proof, .slots, .transmission]

/-- The parts that a change of a peer's entry may change besides the entry: the conditions formed from the table, the
limits, the valley state, the doors (R71, R77, R95, R129, R165). -/
def Part.ofPeers : List Part := Part.also Part.ofClassB [.peers, .valley]

/-- The parts that a change of the position may change besides the odometer: restriction entries with the limits, and
the doors through their permits (R94, R129, R176). -/
def Part.ofPosition : List Part := Part.also Part.ofClassB [.restrictions]

/-- The parts that an order's path may change whatever the order: the line that heard it, or the valley state, the
acknowledgements and the relay of a radio (R51, R154, R156 to R158, R167). -/
def Part.ofVia : Via → List Part
  | .radio _ => [.window, .valley, .outgoing, .slots, .transmission, .faults]
  | .line _ => [.window, .transmission, .lineTimers]

/-! ## Doors that lose a release, and the reports of the mass latch -/

/-- A door that ceases to have a release: the table of R135 (log entry 35). -/
def Door.withoutRelease (now : Nat) (r : Door) : Door :=
  let closing : Door := { r with state := .closing, timer := some now }
  match r.state with
  | .released => { r with state := .locked }
  | .opening => closing
  | .opened => if r.obstructionFlag then r else closing
  | .locked => r
  | .closing => r
  | .reopening => r
  | .forced => r
  | .isolated => r

/-- What is left of `doors` as a class B condition fails the permit of both sides: a door that only the release of its
side held ceases to have a release, and every other door stands (R129, R135). -/
def State.permitFailed (now : Nat) (doors : PerDoor Door) (s : State) : PerDoor Door :=
  doors.mapIdx fun d r =>
    if s.doors.sideRelease (doorSide d) = true ∧ r.handleRelease = false then r.withoutRelease now else r

/-- The fault manager `f`, and with it the report of the mass latch if that is taken on the way from `s` to `t`: the
doors have become ALL_CLOSED with latch pending, at standstill (R144, R145). -/
def State.latchReports (m : Moment) (s t : State) (f : Faults) : Faults :=
  if s.summary ≠ .allClosed ∧ t.summary = .allClosed ∧ s.doors.latchPending = true ∧ s.rack.standstill = true then
    match m.load with
    | some x => if -1000 ≤ x ∧ x ≤ 10000 then f.going .loadSensor else f.occur s.straps.strict .loadSensor
    | none => f.occur s.straps.strict .loadSensor
  else f

/-- The fault manager after one occurrence of a class A or B kind and the withdrawal it may bring (R129, R183, R184). -/
def State.afterOccurrence (m : Moment) (k : FaultKind) (s t : State) : Faults :=
  s.latchReports m t (s.faults.occur s.straps.strict k)

/-- The record of a kind. -/
def Faults.recordOf (k : FaultKind) (f : Faults) : Option FaultRecord := f.table.find? fun r => r.kind == k

/-! ## What a command leaves at a speed evaluation, and as standstill is left -/

/-- The tooth source at an evaluation without an edge of sensor 1 (R3): without a reference, or at rest from 2 000 000 µs
on (log entry 9), its speed is 0; else the lesser of the last edge's value and the value for the time since. -/
def Rack.toothDecays (now : Nat) (r t : Rack) : Prop :=
  match r.toothRef with
  | none => t.toothRef = none ∧ t.toothSpeed = 0
  | some ref =>
    if ref + 2000000 ≤ now then t.toothRef = none ∧ t.toothSpeed = 0
    else
      t.toothRef = some ref ∧ t.toothEdgeSpeed = r.toothEdgeSpeed
        ∧ t.toothSpeed = if now ≤ ref then r.toothEdgeSpeed else min r.toothEdgeSpeed (100000000 / (now - ref))

/-- The wheel source at an evaluation without a wheel pulse (R3, log entry 9). -/
def Rack.wheelDecays (now circumference : Nat) (r t : Rack) : Prop :=
  match r.wheelRef with
  | none => t.wheelRef = none ∧ t.wheelSpeed = 0
  | some ref =>
    if ref + 2000000 ≤ now then t.wheelRef = none ∧ t.wheelSpeed = 0
    else
      t.wheelRef = some ref ∧ t.wheelEdgeSpeed = r.wheelEdgeSpeed
        ∧ t.wheelSpeed = if now ≤ ref then r.wheelEdgeSpeed else min r.wheelEdgeSpeed (circumference * 10000 / (now - ref))

/-- The reported speed and the three timers after an evaluation, by the source speeds and the presence it leaves;
`disagree` is SPEED_DISAGREE (R6 to R9). -/
def Rack.evaluated (now : Nat) (disagree : Bool) (r t : Rack) : Prop :=
  let larger := max t.toothSpeed t.wheelSpeed
  let apart := 10 * (larger - min t.toothSpeed t.wheelSpeed)
  t.reported = (if t.present then larger else t.wheelSpeed)
    ∧ t.disagreeTimer
      = (if disagree = false ∧ t.present = true ∧ 556 ≤ larger ∧ larger < apart then some (r.disagreeTimer.getD now) else none)
    ∧ t.agreeTimer = (if disagree = true ∧ apart ≤ larger then some (r.agreeTimer.getD now) else none)
    ∧ t.standstillTimer
      = (if r.standstill = false ∧ t.reported < 56 then some (r.standstillTimer.getD now) else none)

/-- What follows as standstill is left (R10, R34, R129, R131, R135, R164): no platform release record, no hold timer, no
release of a side or a handle; a door that had a release is withdrawn. -/
def State.standstillLeft (now : Nat) (s t : State) : Prop :=
  t.radio.platform = none ∧ t.engagement.climbOutHold = none ∧ t.engagement.calibrationHold = none
    ∧ t.doors.releaseA = false ∧ t.doors.releaseB = false
    ∧ ∀ d : DoorId,
      let r : Door := { s.doors.doors.get d with handleRelease := false }
      t.doors.doors.get d = if s.doors.hasRelease d then r.withoutRelease now else r

/-! ## The values that blocks take of each other -/

/-- The consist set and its counted values, the own capacities and the gravity term, as the rules form them (R73, R74,
R88, R96, R103, R106). -/
def State.valuesFormed (s : State) : Prop :=
  let nominal := 20000 + s.straps.pinionNom.toNat * 5000
  let p1 := s.brake.pinions.p1
  let p2 := s.brake.pinions.p2
  s.serviceCapacity
      = (if s.rack.present then (if p1.failed then 0 else p1.derated) + (if p2.failed then 0 else p2.derated)
        else 10000 + s.straps.wheelNom.toNat * 2000)
    ∧ s.holdingCapacity = (if p1.failed then 0 else nominal) + (if p2.failed then 0 else nominal)
    ∧ s.gravityTerm
      = (if s.rack.standstill = false ∧ s.rack.movingDir = .up then -gravity s.rack.grade else gravity s.rack.grade)
    ∧ s.consistPeers = (s.peers.toList.filter fun e => decide (e.state = .fresh ∨ e.state = .stale))
    ∧ ∀ e ∈ s.consistPeers,
      e.countedMass = max (e.report.mass.toNat * 100) e.tare
        ∧ (e.state = .fresh →
          e.countedCapacity = e.report.capacity.toNat * 100 ∧ e.countedHolding = e.report.holdingCapacity.toNat * 100)
        ∧ (e.state = .stale → e.countedCapacity = 0 ∧ e.countedHolding = 0)

/-- The masses, capacities and tares that the straps, the sensors and JOIN frames admit (section 5.3, R45, R115, R144). -/
def State.measuresOk (s : State) : Prop :=
  10000 ≤ s.doors.mass ∧ s.doors.mass ≤ 43500 ∧ s.brake.pinions.p1.derated ≤ 95000
    ∧ s.brake.pinions.p2.derated ≤ 95000 ∧ ∀ e ∈ s.consistPeers, e.tare ≤ 35500

/-! ## Conditions that stand while something holds -/

/-- CAB_CONFLICT is present exactly with two cab claims or more; as it arises the local limit falls to 0 (R77, R94). -/
def State.claimsFollow (t s : State) : Prop :=
  let claims :=
    t.peers.toList.filter fun e =>
      decide
        (e.kind = .cab ∧ (e.state = .fresh ∨ e.state = .stale ∨ e.state = .lost) ∧ e.report.cabActive = true)
  (t.present .cabConflict = true ↔ 2 ≤ claims.length)
    ∧ (s.present .cabConflict = false → t.present .cabConflict = true → t.speed.localLimit = 0)

/-- PEER_LOST stands while an entry is LOST, and goes with the last (R71). -/
def State.lossesFollow (t s : State) : Prop :=
  t.present .peerLost = true ↔ s.present .peerLost = true ∧ ∃ i : Fin 8, t.peers[i].state = .lost

/-- DOOR_TIMEOUT stands while a timeout flag is SET, and goes with the last (R133). -/
def State.timeoutsFollow (t s : State) : Prop :=
  t.present .doorTimeout = true ↔ s.present .doorTimeout = true ∧ ∃ d : DoorId, (t.doors.doors.get d).timeoutFlag = true

/-- DOOR_OBSTRUCTED stands while an obstruction flag is SET, and goes with the last (R138). -/
def State.obstructionsFollow (t s : State) : Prop :=
  t.present .doorObstructed = true ↔
    s.present .doorObstructed = true ∧ ∃ d : DoorId, (t.doors.doors.get d).obstructionFlag = true

/-- DOOR_FORCED stands while a door is FORCED or a handle alarm is SET, and goes with the last (R141). -/
def State.forcedFollow (t s : State) : Prop :=
  t.present .doorForced = true ↔
    s.present .doorForced = true
      ∧ ∃ d : DoorId, (t.doors.doors.get d).state = .forced ∨ (t.doors.doors.get d).handleAlarm = true

/-! ## The doors at a start -/

/-- The doors that a start leaves, from the isolation inputs, the switches and the handles; both side releases CLEAR;
latch pending with a door that is not shut (R131, R144, R146, R147). -/
def State.doorsBegun (t : State) (levels : Levels) (now : Nat) : Prop :=
  t.doors.releaseA = false ∧ t.doors.releaseB = false
    ∧ (∀ d : DoorId,
      let v := levels.doors.get d
      let shut : Door :=
        { state := .locked, attempts := 0, handleRelease := false, handleAlarm := false, timeoutFlag := false
          obstructionFlag := false, timer := none }
      t.doors.doors.get d
        = if v.isolated then { shut with state := .isolated }
          else if v.lockMade then
            if v.handle then { shut with state := .released, handleRelease := true } else shut
          else if v.openMade then { shut with state := .opened, handleRelease := v.handle }
          else
            { shut with
              state := if v.handle then .opening else .closing, handleRelease := v.handle, timer := some now })
    ∧ (t.doors.latchPending = true ↔
      ∃ d : DoorId,
        let v := levels.doors.get d
        v.isolated = false ∧ (v.lockMade = false ∨ v.handle = true))

/-! ## Invariants -/

/-- Every output is FULL (R102). -/
def Brake.outputsFull (b : Brake) : Prop := b.pinions.p1.mode = .full ∧ b.pinions.p2.mode = .full ∧ b.wheel = .full

/-- A fault table as R184 has it: 16 records at most, one for each kind. -/
def faultTableOk (table : List FaultRecord) : Prop := table.length ≤ 16 ∧ (table.map fun r => r.kind).Nodup

/-- A restriction table as R172 has it: eight entries at most, no order id twice. -/
def restrictionsOk (t : Restrictions) : Prop := t.entries.length ≤ 8 ∧ (t.entries.map fun e => e.orderId).Nodup

/-- A duplicate window as R156 has it: sixteen numbers at most, none twice. -/
def windowOk (window : List Byte) : Prop := window.length ≤ 16 ∧ window.Nodup

/-- The bounded tables, slots and queues, the retained copies among them (R50, R54, R156, R167, R172, R184), and every
fault record active exactly while its condition is present (R184). -/
def State.tablesOk (s : State) : Prop :=
  faultTableOk s.faults.table ∧ (∀ r ∈ s.faults.table, r.active = s.present r.kind) ∧ restrictionsOk s.restrictions
    ∧ windowOk s.radio.window ∧ s.line.orders.length ≤ 4 ∧ s.line.replies.length ≤ 4 ∧ s.radio.acks.length ≤ 3
    ∧ faultTableOk s.store.items.faults ∧ restrictionsOk s.store.items.restrictions ∧ windowOk s.store.items.window

/-- A door of a car whose holding brake is not applied: LOCKED, FORCED or ISOLATED, without a handle release. -/
def Door.heldShut (r : Door) : Prop :=
  (r.state = .locked ∨ r.state = .forced ∨ r.state = .isolated) ∧ r.handleRelease = false

/-- While the holding brake is not applied no door has a release and none is on the way open; a door with a handle
release is neither LOCKED nor ISOLATED (R110, R128 to R131, R139). -/
def State.doorsOk (s : State) : Prop :=
  (s.brake.applied = false →
      (∀ d : DoorId, (s.doors.doors.get d).heldShut) ∧ s.doors.releaseA = false ∧ s.doors.releaseB = false)
    ∧ ∀ d : DoorId, (s.doors.doors.get d).handleRelease = true →
      (s.doors.doors.get d).state ≠ .locked ∧ (s.doors.doors.get d).state ≠ .isolated

/-- A released car side has its permit (R129). -/
def State.permitsOk (s : State) : Prop :=
  ∀ side : CarSide, s.doors.sideRelease side = true → s.permit (lineSideOf s.straps.orient side) = true

/-- A class A condition holds the own pull, the own pull holds the latch, and with the latch, a pulled loop or no
running blocks every output is FULL (R102, R111, R112). -/
def State.emergencyOk (s : State) : Prop :=
  (s.classA = true → s.brake.ownPull = true) ∧ (s.brake.ownPull = true → s.brake.latch = true)
    ∧ (s.brake.latch = true ∨ s.loopPulled = true ∨ s.running = false → s.brake.outputsFull)

/-- A proof test runs only in a running part that is held, with the latch clear and the loop not pulled; the controlled
stop keeps SUPPLY_FAIL present, and no retained test runs (R120, R123, R192, R193). -/
def State.proofOk (s : State) : Prop :=
  s.emergencyOk
    ∧ (s.brake.proof.state = .running →
        s.running = true ∧ s.brake.applied = true ∧ s.brake.latch = false ∧ s.loopPulled = false)
    ∧ (s.station.storing = true → s.present .supplyFail = true) ∧ s.store.items.proof.state ≠ .running

/-- While the controlled stop runs, the retained store is valid and equal to the items, under its check (R193,
R198). -/
def State.storeOk (s : State) : Prop :=
  s.station.storing = true →
    s.running = true ∧ s.store.valid = true ∧ s.store.items = s.capture ∧ s.store.check = storeCheck s.straps s.capture

/-- The local limit stands under every ceiling that applies, the enforced limit under every local limit of the consist
set (R91, R92, R94, R95, R165). -/
def State.limitOk (s : State) : Prop :=
  s.speed.localLimit ≤ s.sectionCeiling ∧ (s.sweeping = true → s.speed.localLimit ≤ 50)
    ∧ (∀ e ∈ s.restrictions.entries, e.covering = true ∨ s.rack.known = false → s.speed.localLimit ≤ e.limit)
    ∧ (∀ c ∈ s.restrictions.overflow, s.speed.localLimit ≤ c)
    ∧ s.radio.lostWide = s.valleyLostNow ∧ (s.valleyLostNow = true → s.speed.localLimit ≤ 60)
    ∧ (s.classA = true ∨ s.classB = true ∨ s.brake.latch = true → s.speed.localLimit = 0)
    ∧ s.speed.enforced ≤ s.speed.localLimit
    ∧ ∀ e ∈ s.consistPeers, s.speed.enforced ≤ e.report.localLimit.toNat

/-- A pinion brake: its energy within its 32-bit field, its derated capacity within the nominal one, its service
command within the derated capacity (R84, R108, R114, R115). -/
def PinionBrake.ok (nominal : Nat) (b : PinionBrake) : Prop :=
  b.energy ≤ 2147483647 ∧ b.derated ≤ nominal ∧ b.mode.command ≤ b.derated

/-- A window record: a VALID one has the width and the in-arc count that R25 asks for. -/
def Window.ok (w : Window) : Prop := w.status = .valid → w.width ≤ 12 ∧ 48 ≤ w.inArc

/-- Both pinions' brakes and window records, and their retained copies (R25, R37, R108, R114, R115, R124). -/
def State.pinionsOk (s : State) : Prop :=
  s.brake.pinions.p1.ok s.straps.pinionNominal ∧ s.brake.pinions.p2.ok s.straps.pinionNominal
    ∧ s.store.items.energies.p1 ≤ 2147483647 ∧ s.store.items.energies.p2 ≤ 2147483647
    ∧ s.engagement.pinions.p1.window.ok ∧ s.engagement.pinions.p2.window.ok
    ∧ s.store.items.windows.p1.ok ∧ s.store.items.windows.p2.ok

/-- The slot in transmission holds a frame. -/
def Line.sendingHeld (l : Line) : Prop :=
  match l.sending with
  | none => True
  | some .alert => l.alert.isSome = true
  | some .order => l.orders ≠ []
  | some .state => l.stateSlot.isSome = true
  | some .reply => l.replies ≠ []

/-- The own entry is the SELF entry and there is no other; a station in CHAIN_WAIT or still listening has no number;
the slot in transmission holds a frame (R42, R59, R60, R66). -/
def State.numberOk (s : State) : Prop :=
  (∀ i : Fin 8, s.peers[i].state = .self ↔ s.line.own = some i)
    ∧ (s.line.phase = .chainWait ∨ s.line.listenTimer.isSome = true → s.line.own = none)
    ∧ s.line.sendingHeld

end Sys2Proof.Machine
end

