-- ==== Sys2Proof/Certificates/Slice0/Obligations.lean ====
section
/-! DEFINITION. The statements for the provers: the machine as a whole, its codecs, its invariants, then the commands
chapter by chapter. A frame condition names every part of the state that the commands may change; the queue, the clock
and what the sensors read are the same for all (EveryCommandAnswersInItsMoment). -/

open Sys2Proof Sys2Proof.Machine

/-! ## The machine as a whole -/

/-- A step runs the command at the front of the queue on the state with the queue's rest. -/
def Obligations.StepRunsFrontCommand : Prop :=
  ∀ (c : Instr) (rest : List Instr) (s : State), s.pending = c :: rest → step s = exec c (s.setPending rest)

/-- Every command answers a next state in which its moment has passed and the queue stands (log entry 1). -/
def Obligations.EveryCommandAnswersInItsMoment : Prop :=
  ∀ (c : Instr) (s : State),
    ∃ t : State, exec c s = .next t ∧ t.pending = s.pending ∧ t.clock = s.clock + c.moment.elapsed
      ∧ t.pins.load = c.moment.load ∧ t.pins.force1 = c.moment.force1 ∧ t.pins.force2 = c.moment.force2

/-- A part that has no supply or is in COLD takes nothing but supply, its loss, the end of the hold-up time and its
straps; of any other command only the input levels show (log entry 6). -/
def Obligations.StoppedPartTakesNoCommand : Prop :=
  ∀ (c : Instr) (s : State), s.running = false → isStart c = false →
    ∃ t : State, exec c s = .next t ∧ onlyChanges [.levels] s t

/-- A command that names an expiry has no effect while its timer does not run or has not reached its limit (section
3.5 of the scope). Every expiry of the table is named, in 32 clauses; that such a command may be given at all is the
model's choice (log entry 3). -/
def Obligations.ExpiryNotDueHasNoEffect : Prop :=
  ∀ (m : Moment) (reading : Option Int) (carEnd : CarEnd) (station : Fin 8) (pinion : Pinion) (door : DoorId) (s : State),
    (timerReached s.rack.toothRef (s.instant m) 2000000 = false →
        ∃ t : State, exec (.sourceRest m .tooth) s = .next t ∧ onlyChanges [] s t)
      ∧ (timerReached s.rack.wheelRef (s.instant m) 2000000 = false →
        ∃ t : State, exec (.sourceRest m .wheel) s = .next t ∧ onlyChanges [] s t)
      ∧ (timerReached s.rack.disagreeTimer (s.instant m) (ms 1000) = false →
        ∃ t : State, exec (.speedDisagreeExpiry m) s = .next t ∧ onlyChanges [] s t)
      ∧ (timerReached s.rack.agreeTimer (s.instant m) (ms 1000) = false →
        ∃ t : State, exec (.speedAgreeExpiry m) s = .next t ∧ onlyChanges [] s t)
      ∧ (timerReached s.rack.standstillTimer (s.instant m) (ms 2000) = false →
        ∃ t : State, exec (.standstillConfirmed m) s = .next t ∧ onlyChanges [] s t)
      ∧ (s.instant m < s.rack.sampleStart + ms 10 →
        ∃ t : State, exec (.gradeSampleExpiry m reading) s = .next t ∧ onlyChanges [] s t)
      ∧ (timerReached (s.line.sense carEnd).changing (s.instant m) (ms 100) = false →
        ∃ t : State, exec (.neighbourSenseFiltered m carEnd) s = .next t ∧ onlyChanges [] s t)
      ∧ (timerReached s.line.statePeriod (s.instant m) (ms 50) = false →
        ∃ t : State, exec (.statePeriodExpiry m) s = .next t ∧ onlyChanges [] s t)
      ∧ (timerReached s.peers[station].ageFrom (s.instant m) (ms 150) = false →
        ∃ t : State, exec (.peerStale m station) s = .next t ∧ onlyChanges [] s t)
      ∧ (timerReached s.peers[station].ageFrom (s.instant m) (ms 500) = false →
        ∃ t : State, exec (.peerLost m station) s = .next t ∧ onlyChanges [] s t)
      ∧ (s.instant m < s.speed.superStart + ms 100 →
        ∃ t : State, exec (.supervisionComputation m) s = .next t ∧ onlyChanges [] s t)
      ∧ (s.instant m < s.brake.cycleStart + ms 20 → ∃ t : State, exec (.brakeCycle m) s = .next t ∧ onlyChanges [] s t)
      ∧ (timerReached (s.brake.pinions.get pinion).failTimer (s.instant m) (ms 1000) = false →
        ∃ t : State, exec (.pinionFailureTimeout m pinion) s = .next t ∧ onlyChanges [] s t)
      ∧ (timerReached (s.doors.doors.get door).timer (s.instant m) (ms 6000) = false →
        ∃ t : State, exec (.doorOpeningTimeout m door) s = .next t ∧ onlyChanges [] s t)
      ∧ (timerReached s.radio.linkTimer (s.instant m) (ms 3000) = false →
        ∃ t : State, exec (.linkStatusTimeout m) s = .next t ∧ onlyChanges [] s t)
      ∧ (timerReached s.radio.supervision (s.instant m) (ms 8000) = false →
        ∃ t : State, exec (.radioSupervisionExpiry m) s = .next t ∧ onlyChanges [] s t)
      ∧ (timerReached s.engagement.climbOutHold (s.instant m) (ms 2000) = false →
        ∃ t : State, exec (.conditionHoldExpiry m .climbOut) s = .next t ∧ onlyChanges [] s t)
      ∧ (timerReached s.engagement.calibrationHold (s.instant m) (ms 2000) = false →
        ∃ t : State, exec (.conditionHoldExpiry m .calibrationFail) s = .next t ∧ onlyChanges [] s t)
      ∧ (timerReached s.line.orderHoldOff (s.instant m) (ms 5) = false →
        ∃ t : State, exec (.orderHoldOffExpiry m) s = .next t ∧ onlyChanges [] s t)
      ∧ (timerReached s.line.chainOutDue (s.instant m) 24 = false →
        ∃ t : State, exec (.chainOutActivate m) s = .next t ∧ onlyChanges [] s t)
      ∧ ((∀ held ∈ s.line.stateSlot, held.late = true ∨ s.instant m < held.placedAt + ms 20) →
        (∀ held ∈ s.line.stateBehind, held.late = true ∨ s.instant m < held.placedAt + ms 20) →
        ∃ t : State, exec (.accessTimeout m) s = .next t ∧ onlyChanges [] s t)
      ∧ (timerReached s.line.joinRetry (s.instant m) (ms 50) = false →
        ∃ t : State, exec (.joinRetry m) s = .next t ∧ onlyChanges [] s t)
      ∧ (s.instant m < s.line.qualityStart + ms 1000 →
        ∃ t : State, exec (.lineQualityWindowEnd m) s = .next t ∧ onlyChanges [] s t)
      ∧ (timerReached s.line.clashTimer (s.instant m) (ms 1000) = false →
        ∃ t : State, exec (.clashTimerExpiry m) s = .next t ∧ onlyChanges [] s t)
      ∧ (timerReached s.line.listenTimer (s.instant m) (ms 300) = false →
        ∃ t : State, exec (.listenWindowEnd m) s = .next t ∧ onlyChanges [] s t)
      ∧ (timerReached s.line.chainWaitTimer (s.instant m) (ms 5000) = false →
        ∃ t : State, exec (.chainWaitExpiry m) s = .next t ∧ onlyChanges [] s t)
      ∧ (timerReached s.line.completionTimer (s.instant m) (ms 10000) = false →
        ∃ t : State, exec (.completionWaitExpiry m) s = .next t ∧ onlyChanges [] s t)
      ∧ (timerReached s.brake.settleTimer (s.instant m) (ms 500) = false →
        ∃ t : State, exec (.proofSettleExpiry m) s = .next t ∧ onlyChanges [] s t)
      ∧ (timerReached (s.doors.doors.get door).timer (s.instant m) (ms 8000) = false →
        ∃ t : State, exec (.doorClosingTimeout m door) s = .next t ∧ onlyChanges [] s t)
      ∧ (timerReached (s.doors.doors.get door).timer (s.instant m) (ms 1000) = false →
        ∃ t : State, exec (.doorReopenExpiry m door) s = .next t ∧ onlyChanges [] s t)
      ∧ (timerReached s.radio.reportTimer (s.instant m) (ms 2000) = false →
        ∃ t : State, exec (.positionReportExpiry m) s = .next t ∧ onlyChanges [] s t)
      ∧ (s.station.life ≠ .off ∨ timerReached s.station.droppedAt (s.instant m) (ms 30000) = false →
        ∃ t : State, exec (.storeHoldupExpiry m) s = .next t ∧ onlyChanges [] s t)

/-- The state after reset: a part in COLD, of each block the cold start values that the clauses name, every output FULL.
Doors LOCKED and unreleased before their switches are read (log entry 5), and the mass over the tare of a strap copy that
nothing has written (log entry 4), are the model's choices. -/
def Obligations.ResetHoldsColdStartValues : Prop :=
  State.reset.station.life = .cold ∧ State.reset.brake.outputsFull ∧ State.reset.brake.applied = true
    ∧ State.reset.brake.latch = false ∧ State.reset.brake.ownPull = false ∧ State.reset.brake.proof.state = .idle
    ∧ State.reset.brake.cabDemand = 0 ∧ State.reset.rack.standstill = true ∧ State.reset.rack.present = false
    ∧ State.reset.rack.known = false ∧ State.reset.rack.grade = 500 ∧ State.reset.rack.ring = []
    ∧ State.reset.rack.lastWheelDir = .none ∧ State.reset.engagement.pinions.p1.window = Window.cleared .invalid
    ∧ State.reset.engagement.pinions.p2.window = Window.cleared .invalid ∧ State.reset.line.own = none
    ∧ State.reset.line.phase = .listening ∧ State.reset.line.bus = .awaitingTen ∧ State.reset.line.chainOut = false
    ∧ (∀ i : Fin 8, State.reset.peers[i] = PeerEntry.blank) ∧ State.reset.speed.localLimit = 0
    ∧ State.reset.speed.enforced = 0 ∧ State.reset.radio.window = [] ∧ State.reset.radio.platform = none
    ∧ State.reset.restrictions = { entries := [], overflow := none } ∧ State.reset.faults.table = []
    ∧ (∀ k : FaultKind, State.reset.present k = false) ∧ State.reset.store.valid = false
    ∧ (∀ d : DoorId,
      State.reset.doors.doors.get d
        = { state := .locked, attempts := 0, timer := none, handleRelease := false, handleAlarm := false
            timeoutFlag := false, obstructionFlag := false })
    ∧ State.reset.doors.releaseA = false ∧ State.reset.doors.releaseB = false ∧ State.reset.doors.latchPending = false
    ∧ State.reset.doors.mass = 18000

/-! ## Codecs -/

/-- A frame built for contents in their ranges is classified as those contents from that source: no bit of any kind's
layout is dropped or doubled. Laid out as line bits, any frame of up to 24 payload bytes takes 38 + 8 L of them and is
read back from them by its length field at the last end bit and not before; one with a greater length is a bad frame at
its length field. Read back by its sender, a frame alone on the line is sent; of two that start together the one with the
lower value of priority and source goes on and the other is lost within those five bits; a bit after them that differs
loses the frame at that bit. -/
def Obligations.LineFramesRoundTrip : Prop :=
  ∀ (m ended : Moment) (source : Fin 8) (body : FrameBody) (frame other : LineFrame) (rest : List Bool) (cut : Nat),
    (body.ok source = true →
        classify (buildFrame source body) = .good source body
          ∧ (buildFrame source body).wireBits.length = 38 + 8 * body.payload.length
          ∧ readFrame ((buildFrame source body).wireBits ++ rest) = .whole (buildFrame source body) rest)
      ∧ (frame.length.toNat ≤ 24 → frame.payload.length = frame.length.toNat → frame.endClean = true →
        frame.wireBits.length = 38 + 8 * frame.length.toNat ∧ readFrame (frame.wireBits ++ rest) = .whole frame rest
          ∧ commandOfBits m (frame.wireBits ++ rest) = some (commandOfFrame m frame)
          ∧ (cut < 38 + 8 * frame.length.toNat → commandOfBits m (frame.wireBits.take cut) = none))
      ∧ (24 < frame.length.toNat →
        let header : LineFrame := { frame with payload := [], check := 0, endClean := true }
        readFrame (frame.wireBits ++ rest) = .badLength header (frame.wireBits.drop 15 ++ rest)
          ∧ commandOfBits m (frame.wireBits ++ rest) = some (.badFrame m header)
          ∧ commandOfBits m (frame.wireBits.take 15) = some (.badFrame m header))
      ∧ commandsOfTransmission m ended frame (frame.wireBits ++ rest) = [.frameSent ended]
      ∧ (frame.contention < other.contention →
        lineOfTwo 0 frame.wireBits other.wireBits = frame.wireBits
          ∧ lineOfTwo 0 other.wireBits frame.wireBits = frame.wireBits
          ∧ ∃ bit ∈ [1, 2, 3, 4, 5], other.readBack frame.wireBits = .lost bit)
      ∧ (6 ≤ cut → ∀ level ∈ frame.wireBits[cut]?,
        let line := frame.wireBits.take cut ++ (!level) :: rest
        frame.readBack line = .lost cut
          ∧ commandsOfTransmission m ended frame line = .contentionLost m :: (commandOfBits ended line).toList)

/-- A valley frame in a RECEIVED message is read back with its address, sequence and order, and is accepted exactly
at its own address and at 255. Characters are a message from one that 1 ms of silence precedes to the next such silence,
each message stands for one command, and characters before the first such silence are of none. -/
def Obligations.ValleyOrdersRoundTrip : Prop :=
  ∀ (radioAddr address sequence : Byte) (order : ValleyOrder) (moment : Nat → Moment) (first : ModemCharacter)
    (run more : List ModemCharacter) (begun : Option (List Byte)) (silence : Nat),
    (order.ok = true →
        classifyMessage (2 :: valleyFrameBytes address sequence order.code order.payload)
            = .received address sequence order.code order.payload
              (valleyCheck ([address, sequence, order.code, BitVec.ofNat 8 order.payload.length] ++ order.payload))
          ∧ acceptFrame radioAddr address sequence order.code order.payload
              (valleyCheck ([address, sequence, order.code, BitVec.ofNat 8 order.payload.length] ++ order.payload))
            = if address = radioAddr ∨ address = 255 then some order else none)
      ∧ (1000 ≤ first.silence → (∀ c ∈ run, c.silence < 1000) →
        let bytes := first.byte :: run.map fun c => c.byte
        (1000 ≤ silence →
            modemMessages begun silence (first :: run) = begun.toList ++ [bytes]
              ∧ commandsOfCharacters radioAddr moment silence (first :: run)
                = [commandOfMessage radioAddr (moment 0) bytes])
          ∧ (silence < 1000 → modemMessages begun silence (first :: run) = begun.toList)
          ∧ (∀ next ∈ more.head?, 1000 ≤ next.silence →
            modemMessages begun silence (first :: (run ++ more))
              = begun.toList ++ bytes :: modemMessages none silence more))
      ∧ ((∀ c ∈ run, c.silence < 1000) → modemMessages none silence run = [])

/-! ## Invariants that every step keeps -/

/-- The reset state meets every invariant. -/
def Obligations.ResetMeetsInvariants : Prop :=
  State.reset.tablesOk ∧ State.reset.doorsOk ∧ State.reset.proofOk ∧ State.reset.storeOk ∧ State.reset.limitOk
    ∧ State.reset.pinionsOk ∧ State.reset.numberOk ∧ State.reset.permitsOk

/-- The duplicate window, the restriction table, the fault table, the slots and the acknowledgements stay within
their sizes; no sequence number, order id or fault kind is in its table twice; and every fault record is active exactly
while its condition is present. -/
def Obligations.TablesStayBounded : Prop := ∀ s t : State, s.tablesOk → step s = .next t → t.tablesOk

/-- A door is RELEASED, OPENING, OPEN, REOPENING or CLOSING only while the holding brake is applied, and a car side is
released only while its permit holds. -/
def Obligations.DoorsStayShutUnlessHeld : Prop :=
  ∀ s t : State, step s = .next t → (s.doorsOk → t.doorsOk) ∧ (s.permitsOk → t.permitsOk)

/-- A class A condition pulls the loop, a pull sets the latch, and with the latch or a pulled loop every output is
FULL; a proof test runs only in a held car without emergency. -/
def Obligations.EmergencyStaysInForce : Prop :=
  ∀ s t : State, step s = .next t → (s.emergencyOk → t.emergencyOk) ∧ (s.proofOk → t.proofOk)

/-- From the onset of the controlled stop the retained store holds every item as it stands. -/
def Obligations.StoreFollowsItems : Prop := ∀ s t : State, s.storeOk → step s = .next t → t.storeOk

/-- The local limit never exceeds a ceiling that applies, nor the enforced limit a local limit of the consist set. -/
def Obligations.LimitsStayUnderCeilings : Prop := ∀ s t : State, s.limitOk → step s = .next t → t.limitOk

/-- Energies stay in their field, service commands within derated capacities, VALID window records within the bounds
of a VALID result. -/
def Obligations.PinionsStayInBounds : Prop := ∀ s t : State, s.pinionsOk → step s = .next t → t.pinionsOk

/-- The own number is the SELF entry, and once taken it changes only when the part loses its supply or starts. -/
def Obligations.NumberStaysOnceTaken : Prop :=
  ∀ (c : Instr) (s t : State), s.numberOk → exec c s = .next t →
    t.numberOk ∧ (s.line.own.isSome = true → isStart c = false → t.line.own = s.line.own)

/-- The holding brake passes from applied to released only at a brake cycle with a pending request, and then in a
READY station with the latch clear, no class A or B condition, its own doors and those of a FRESH consist closed, and
no proof test running. At a brake cycle that is due it does pass to released when all of that holds, it stays as it is
when any of it fails, and the request is gone in both cases. That the test reads the classes, the doors, the proof test
and the station state as steps 1 to 3 of the same cycle leave them is the model's reading (log entry 34). -/
def Obligations.HoldingFallsOnlyAtBrakeCycle : Prop :=
  (∀ (c : Instr) (s t : State), exec c s = .next t → s.brake.applied = true → t.brake.applied = false →
      c = .brakeCycle c.moment ∧ s.brake.releasePending = true ∧ t.station.life = .ready ∧ t.brake.latch = false
        ∧ t.classA = false ∧ t.classB = false ∧ t.summary = .allClosed ∧ t.allClosed = true
        ∧ t.brake.proof.state ≠ .running)
    ∧ ∀ (m : Moment) (s : State), s.running = true → s.brake.cycleStart + ms 20 ≤ s.instant m →
      ∃ t : State, exec (.brakeCycle m) s = .next t ∧ t.brake.releasePending = false
        ∧ (t.brake.applied = true ↔
          s.brake.applied = true
            ∧ ¬(s.brake.releasePending = true ∧ t.station.life = .ready ∧ t.brake.latch = false ∧ t.classA = false
              ∧ t.classB = false ∧ t.summary = .allClosed ∧ t.allClosed = true ∧ t.brake.proof.state ≠ .running))

/-- The station state changes only along its table: supply at POWER_ON, the straps at STRAPS_READ, a complete consist, a
rejoin, a passed proof test, a loss of supply. -/
def Obligations.StationStateFollowsItsTable : Prop :=
  ∀ (c : Instr) (s t : State), exec c s = .next t → t.station.life ≠ s.station.life →
    (t.station.life = .off ∧ c = .dropOut c.moment)
      ∨ ((∃ levels flips, c = .powerOn c.moment levels flips) ∧ s.station.life = .off ∧ t.station.life = .cold)
      ∨ ((∃ levels flips, c = .powerOn c.moment levels flips) ∧ s.station.life = .off ∧ t.station.life = .resuming
        ∧ s.store.valid = true ∧ t.store.valid = false ∧ s.store.items.own.isSome = true)
      ∨ ((∃ straps levels, c = .strapsRead c.moment straps levels) ∧ s.station.life = .cold ∧ t.station.life = .joining)
      ∨ (s.station.life = .joining ∧ t.station.life = .proving ∧ t.line.phase = .complete ∧ t.brake.autoProof = true)
      ∨ (s.station.life = .resuming ∧ t.station.life = .ready ∧ t.line.phase = .complete
        ∧ s.brake.proof.results = { p1 := .pass, p2 := .pass })
      ∨ (s.station.life = .resuming ∧ t.station.life = .proving ∧ t.line.phase = .complete
        ∧ t.brake.autoProof = true ∧ s.brake.proof.results ≠ { p1 := .pass, p2 := .pass })
      ∨ (s.station.life = .proving ∧ t.station.life = .ready ∧ c = .brakeCycle c.moment
        ∧ (s.brake.autoProof = false →
          t.brake.proof.state = .done ∧ t.brake.proof.results = { p1 := .pass, p2 := .pass }))

/-! ## Rack sensing, odometry and grade -/

/-- TOOTH_EDGE: presence, absence distance, the tooth speed and its reference, the speed evaluation with its timers,
the tooth odometer, a running proof test's abort, and what follows as standstill is left. That an edge at exactly 2
000 000 µs finds the source at rest, and gives speed 0, is the model's reading (log entry 9); the speed over no
interval is a free value (log entry 8). That leaving standstill closes an OPEN door stopped by its third obstruction
whose flag a consist reset has cleared is the model's choice (log entry 35). -/
def Obligations.ToothEdgeMeasuresAndCounts : Prop :=
  ∀ (m : Moment) (sensor : Pinion) (phase : Option (Fin 32)) (s : State), s.running = true →
    ∃ t : State, exec (.toothEdge m sensor phase) s = .next t ∧ t.rack.present = true ∧ t.rack.absence = 0
      ∧ (sensor = .p1 →
        t.rack.toothRef = some (s.instant m)
          ∧ t.rack.toothSpeed
            = match s.rack.toothRef with
              | none => 0
              | some ref =>
                if ref + 2000000 ≤ s.instant m then 0
                else if s.instant m ≤ ref then Config.zeroIntervalSpeed s.freeCount
                else 100000000 / (s.instant m - ref))
      ∧ (sensor = .p1 → t.rack.toothEdgeSpeed = t.rack.toothSpeed)
      ∧ (sensor = .p2 → s.rack.toothDecays (s.instant m) t.rack)
      ∧ s.rack.wheelDecays (s.instant m) (2000 + s.straps.wheelCirc.toNat * 4) t.rack
      ∧ s.rack.evaluated (s.instant m) (s.present .speedDisagree) t.rack
      ∧ t.rack.standstill = (s.rack.standstill && !decide (sensor = .p1 ∧ 56 ≤ t.rack.toothSpeed))
      ∧ (s.rack.standstill = true → t.rack.standstill = false →
        t.rack.movingDir = .none ∧ s.standstillLeft (s.instant m) t)
      ∧ (t.rack.standstill = s.rack.standstill →
        t.rack.movingDir = s.rack.movingDir ∧ t.radio.platform = s.radio.platform)
      ∧ (sensor = .p1 ∧ s.countingTeeth = true →
        t.rack.uncounted = 0 ∧ (s.rack.lastWheelDir = .up → t.rack.travel = clampTravel (s.rack.travel + 10000))
          ∧ (s.rack.lastWheelDir = .down → t.rack.travel = clampTravel (s.rack.travel - 10000))
          ∧ (s.rack.lastWheelDir = .none →
            t.rack.travel = s.rack.travel ∧ t.rack.pendingTeeth = min 65535 (s.rack.pendingTeeth + 1)))
      ∧ (sensor = .p2 ∨ s.countingTeeth = false →
        t.rack.travel = s.rack.travel ∧ t.rack.pendingTeeth = s.rack.pendingTeeth)
      ∧ (s.brake.proof.state = .running → t.brake.proof.state = .aborted)
      ∧ t.rack.lastWheelDir = s.rack.lastWheelDir ∧ t.rack.markBase = s.rack.markBase ∧ t.rack.known = s.rack.known
      ∧ onlyChanges
        (Part.also Part.ofClassA
          [.speedSources, .motion, .presence, .odometer, .monitors, .holdTimers, .platform, .restrictions, .freeCount])
        s t

/-- TOOTH_EDGE at the engagement monitor: the sweeps of a rack entry, the settle teeth, the binning and the result of
a sweep, the check against the band, a climb-out, the hold timer that a failed sweep or a climb-out starts at standstill.
The other pinion's record stands unless the edge is a rack entry. -/
def Obligations.ToothEdgeSweepsAndChecks : Prop :=
  ∀ (m : Moment) (sensor : Pinion) (phase : Option (Fin 32)) (s : State), s.running = true →
    let mon := s.engagement.pinions.get sensor
    ∃ t : State, exec (.toothEdge m sensor phase) s = .next t
      ∧ (s.rack.present = false →
        ∀ p : Pinion,
          (t.engagement.pinions.get p).settle = (if p = sensor then 7 else 8) ∧ (t.engagement.pinions.get p).slip = 0
            ∧ ((s.engagement.pinions.get p).window.status = .valid →
              (t.engagement.pinions.get p).window = (s.engagement.pinions.get p).window)
            ∧ ((s.engagement.pinions.get p).window.status ≠ .valid →
              (t.engagement.pinions.get p).window = Window.cleared .sweeping
                ∧ (t.engagement.pinions.get p).histogram = Vector.replicate 32 0
                ∧ (t.engagement.pinions.get p).counted = 0))
      ∧ (s.rack.present = true →
        (∀ p : Pinion, p ≠ sensor → t.engagement.pinions.get p = s.engagement.pinions.get p)
          ∧ (0 < mon.settle → t.engagement.pinions.get sensor = { mon with settle := mon.settle - 1 })
          ∧ (mon.settle = 0 → phase = none → t.engagement.pinions.get sensor = mon)
          ∧ (mon.settle = 0 → mon.window.status ≠ .valid → mon.window.status ≠ .sweeping →
            t.engagement.pinions.get sensor = mon)
          ∧ ∀ bin ∈ phase, mon.settle = 0 →
            (mon.window.status = .sweeping →
              (mon.counted + 1 ≠ 64 →
                  t.engagement.pinions.get sensor
                    = { mon with histogram := mon.histogram.set bin (mon.histogram[bin] + 1), counted := mon.counted + 1 })
                ∧ (mon.counted + 1 = 64 →
                  t.engagement.pinions.get sensor
                      = { mon with
                          window := sweptWindow (mon.histogram.set bin (mon.histogram[bin] + 1))
                          histogram := Vector.replicate 32 0
                          counted := 0 }
                    ∧ ((t.engagement.pinions.get sensor).window.status ≠ .valid →
                      t.present .calibrationFail = true
                        ∧ t.engagement.calibrationHold
                          = (if t.rack.standstill then some (s.instant m)
                            else if s.rack.standstill then none
                            else s.engagement.calibrationHold))))
              ∧ (mon.window.status = .valid →
                ((∃ k < mon.window.width + 4, (mon.window.lower + 30 + k) % 32 = bin.val) →
                    t.engagement.pinions.get sensor = { mon with slip := mon.slip - 1 }
                      ∧ (t.engagement.pinions.p1.slip = 0 ∧ t.engagement.pinions.p2.slip = 0 →
                        t.present .slipEvent = false))
                  ∧ ((¬∃ k < mon.window.width + 4, (mon.window.lower + 30 + k) % 32 = bin.val) → mon.slip + 4 < 32 →
                    t.engagement.pinions.get sensor = { mon with slip := mon.slip + 4 } ∧ t.present .slipEvent = true)
                  ∧ ((¬∃ k < mon.window.width + 4, (mon.window.lower + 30 + k) % 32 = bin.val) → 32 ≤ mon.slip + 4 →
                    t.engagement.pinions.get sensor
                        = { mon with slip := 0, window := { mon.window with status := .invalid } }
                      ∧ t.present .climbOut = true
                      ∧ t.engagement.climbOutHold
                        = (if t.rack.standstill then some (s.instant m)
                          else if s.rack.standstill then none
                          else s.engagement.climbOutHold)
                      ∧ (s.present .climbOut = false → t.brake.ownPull = true ∧ t.speed.localLimit = 0))))

/-- The arc of a completed sweep holds every bin with two edges or more, no shorter run round the circle does, and of
the shortest it is the one with the lowest lower bin; its count and width decide the result. -/
def Obligations.SweepTakesShortestArc : Prop :=
  ∀ (histogram : Vector Nat 32) (other : Fin 32) (width : Nat), (∃ b : Fin 32, 2 ≤ histogram[b]) →
    let w := sweptWindow histogram
    (∀ b : Fin 32, w.hits.getLsbD b.val = decide (2 ≤ histogram[b]))
      ∧ (∀ b : Fin 32, 2 ≤ histogram[b] → (b.val + 32 - w.lower) % 32 < w.width)
      ∧ ((∀ b : Fin 32, 2 ≤ histogram[b] → (b.val + 32 - other.val) % 32 < width) →
        w.width ≤ width ∧ (width = w.width → w.lower ≤ other.val))
      ∧ w.lower < 32 ∧ 1 ≤ w.width ∧ w.width ≤ 32 ∧ w.upper = (w.lower + w.width - 1) % 32
      ∧ w.inArc = ((List.range w.width).map fun i => histogram.toList.getD ((w.lower + i) % 32) 0).sum
      ∧ w.status = if 12 < w.width then .failWide else if w.inArc < 48 then .failSparse else .valid

/-- WHEEL_PULSE: the direction, the wheel speed and its reference, the speed evaluation with its timers, presence and
absence distance, the odometer in both counting sources, the records at a rack exit, the worst-case grade, a running proof
test's pulses, and what follows as standstill is left. That a pulse at
exactly 2 000 000 µs finds the source at rest, and gives speed 0, is the model's reading (log entry 9); the speed over no
interval is a free value (log entry 8). That leaving standstill closes an OPEN door stopped by its third obstruction whose
flag a consist reset has cleared is the model's choice (log entry 35). -/
def Obligations.WheelPulseMeasuresAndCounts : Prop :=
  ∀ (m : Moment) (channel1Leads : Bool) (s : State), s.running = true →
    let direction := pulseDirection s.straps.orient channel1Leads
    let circumference := 2000 + s.straps.wheelCirc.toNat * 4
    let base :=
      if s.rack.lastWheelDir = .none then
        clampTravel (s.rack.travel + signedDistance direction (s.rack.pendingTeeth * 10000))
      else s.rack.travel
    ∃ t : State, exec (.wheelPulse m channel1Leads) s = .next t ∧ t.rack.lastWheelDir = direction
      ∧ t.rack.absence = s.rack.absence + circumference
      ∧ t.rack.present = (s.rack.present && decide (s.rack.absence + circumference < 30000))
      ∧ t.rack.wheelRef = some (s.instant m)
      ∧ t.rack.wheelSpeed
        = (match s.rack.wheelRef with
          | none => 0
          | some ref =>
            if ref + 2000000 ≤ s.instant m then 0
            else if s.instant m ≤ ref then Config.zeroIntervalSpeed s.freeCount
            else circumference * 10000 / (s.instant m - ref))
      ∧ (t.rack.standstill = false → t.rack.movingDir = direction)
      ∧ (s.rack.standstill = true → t.rack.standstill = decide (t.rack.wheelSpeed < 56))
      ∧ t.rack.wheelEdgeSpeed = t.rack.wheelSpeed ∧ s.rack.toothDecays (s.instant m) t.rack
      ∧ s.rack.evaluated (s.instant m) (s.present .speedDisagree) t.rack
      ∧ (s.rack.standstill = false → t.rack.standstill = false)
      ∧ (s.rack.standstill = true → t.rack.standstill = false → s.standstillLeft (s.instant m) t)
      ∧ (t.rack.standstill = s.rack.standstill → t.radio.platform = s.radio.platform)
      ∧ (s.rack.lastWheelDir = .none → t.rack.pendingTeeth = 0)
      ∧ (s.countingTeeth = false →
        t.rack.travel = clampTravel (base + signedDistance direction circumference)
          ∧ t.rack.uncounted = s.rack.uncounted)
      ∧ (s.countingTeeth = true ∧ t.rack.present = true →
        t.rack.travel = base ∧ t.rack.uncounted = clampTravel (s.rack.uncounted + signedDistance direction circumference))
      ∧ (s.countingTeeth = true ∧ t.rack.present = false →
        t.rack.travel = clampTravel (base + clampTravel (s.rack.uncounted + signedDistance direction circumference))
          ∧ t.rack.uncounted = 0)
      ∧ (s.rack.present = true ∧ t.rack.present = false →
        ∀ p : Pinion,
          (t.engagement.pinions.get p).settle = 0 ∧ (t.engagement.pinions.get p).slip = 0
            ∧ (t.engagement.pinions.get p).window
              = if (s.engagement.pinions.get p).window.status = .sweeping then Window.cleared .invalid
                else (s.engagement.pinions.get p).window)
      ∧ (t.gradeWorst = true → t.rack.grade = if direction = .up then -500 else 500)
      ∧ (s.brake.proof.state = .running →
        (s.brake.proof.pulses < 2 → t.brake.proof = { s.brake.proof with pulses := s.brake.proof.pulses + 1 })
          ∧ (2 ≤ s.brake.proof.pulses →
            t.brake.proof.state = .aborted ∧ t.brake.proof.reason = .motion ∧ t.present .proofFail = true))
      ∧ onlyChanges
        (Part.also Part.ofClassB
          [.speedSources, .motion, .presence, .odometer, .gradeFilter, .monitors, .holdTimers, .platform, .outputs
              , .proof, .restrictions, .freeCount])
        s t

/-- SOURCE_REST, SPEED_DISAGREE_EXPIRY and SPEED_AGREE_EXPIRY, each due: the source at rest, the disagreement with
its transfer of uncounted travel, the agreement. -/
def Obligations.SpeedTimersRunOut : Prop :=
  ∀ (m : Moment) (s : State), s.running = true →
    (timerReached s.rack.toothRef (s.instant m) 2000000 = true →
        ∃ t : State, exec (.sourceRest m .tooth) s = .next t
          ∧ t.rack
            = { s.rack with
                toothRef := none, toothEdgeSpeed := 0, toothSpeed := 0
                reported := s.rack.wheelSpeed }
          ∧ onlyChanges [.speedSources] s t)
      ∧ (timerReached s.rack.wheelRef (s.instant m) 2000000 = true →
        ∃ t : State, exec (.sourceRest m .wheel) s = .next t
          ∧ t.rack
            = { s.rack with
                wheelRef := none, wheelEdgeSpeed := 0, wheelSpeed := 0
                reported := if s.rack.present then s.rack.toothSpeed else 0 }
          ∧ onlyChanges [.speedSources] s t)
      ∧ (timerReached s.rack.disagreeTimer (s.instant m) (ms 1000) = true →
        ∃ t : State, exec (.speedDisagreeExpiry m) s = .next t ∧ t.present .speedDisagree = true
          ∧ (s.present .speedDisagree = false → t.speed.localLimit = 0)
          ∧ t.rack
            = (if s.countingTeeth then
                { s.rack with
                  disagreeTimer := none, travel := clampTravel (s.rack.travel + s.rack.uncounted), uncounted := 0 }
              else { s.rack with disagreeTimer := none })
          ∧ onlyChanges (Part.also Part.ofPosition [.speedSources, .odometer]) s t)
      ∧ (timerReached s.rack.agreeTimer (s.instant m) (ms 1000) = true →
        ∃ t : State, exec (.speedAgreeExpiry m) s = .next t ∧ t.present .speedDisagree = false
          ∧ t.rack
            = (if s.rack.present then { s.rack with agreeTimer := none, uncounted := 0 }
              else { s.rack with agreeTimer := none })
          ∧ onlyChanges (Part.also Part.ofClassB [.speedSources, .odometer]) s t)

/-- STANDSTILL_CONFIRMED and CONDITION_HOLD_EXPIRY, each due: the holding brake, the published pair, the held
conditions. -/
def Obligations.StandstillEndsHeldConditions : Prop :=
  ∀ (m : Moment) (s : State), s.running = true →
    (s.rack.standstill = false → timerReached s.rack.standstillTimer (s.instant m) (ms 2000) = true →
        ∃ t : State, exec (.standstillConfirmed m) s = .next t
          ∧ t.rack = { s.rack with standstill := true, standstillTimer := none } ∧ t.publishedSpeed = 0
          ∧ t.direction = .none ∧ t.brake.applied = true ∧ (s.brake.applied = false → t.brake.outputsFull)
          ∧ t.present .climbOut = false ∧ t.present .calibrationFail = false ∧ t.present .overspeedHard = false
          ∧ t.engagement.climbOutHold = none ∧ t.engagement.calibrationHold = none
          ∧ onlyChanges (Part.also Part.ofPosition [.speedSources, .motion, .holdTimers, .holding, .outputs]) s t)
      ∧ (timerReached s.engagement.climbOutHold (s.instant m) (ms 2000) = true →
        ∃ t : State, exec (.conditionHoldExpiry m .climbOut) s = .next t ∧ t.present .climbOut = false
          ∧ t.engagement = { s.engagement with climbOutHold := none }
          ∧ onlyChanges (Part.also Part.ofClassB [.holdTimers]) s t)
      ∧ (timerReached s.engagement.calibrationHold (s.instant m) (ms 2000) = true →
        ∃ t : State, exec (.conditionHoldExpiry m .calibrationFail) s = .next t ∧ t.present .calibrationFail = false
          ∧ t.engagement = { s.engagement with calibrationHold := none }
          ∧ onlyChanges (Part.also Part.ofClassB [.holdTimers]) s t)

/-- TRACK_MARK: a mark on the line sets the position, ends POSITION_UNKNOWN and has the restrictions follow; a mark
beyond the line is discarded. -/
def Obligations.TrackMarkSetsPosition : Prop :=
  ∀ (m : Moment) (dm : Nat) (s : State), s.running = true →
    ∃ t : State, exec (.trackMark m dm) s = .next t
      ∧ (dm ≤ 1000000 →
        t.rack = { s.rack with markBase := dm, travel := 0, uncounted := 0, pendingTeeth := 0, known := true }
          ∧ t.position = some dm ∧ t.present .positionUnknown = false
          ∧ (s.position = some dm → t.restrictions = s.restrictions)
          ∧ (s.position ≠ some dm →
            (∀ e ∈ t.restrictions.entries,
              e.passed s.direction dm s.straps.carLen.toNat = false
                ∧ e.covering = e.covers dm s.straps.carLen.toNat)
              ∧ (t.restrictions.entries.map fun e => e.orderId)
                = (s.restrictions.entries.filter fun e => !e.passed s.direction dm s.straps.carLen.toNat).map fun e =>
                  e.orderId)
          ∧ onlyChanges (Part.also Part.ofPosition [.odometer]) s t)
      ∧ (1000000 < dm → onlyChanges [] s t)

/-- GRADE_SAMPLE_EXPIRY: the sample in the ring, the counts with GRADE_SENSOR, the published grade, the speed evaluation
with its timers. The sixteenth invalid sample in a row is one occurrence while the condition is absent, and none while it
stands. That a source comes to rest at exactly 2 000 000 µs is the model's reading (log entry 9). -/
def Obligations.GradeSampleFiltersGrade : Prop :=
  ∀ (m : Moment) (reading : Option Int) (s : State), s.running = true → s.rack.sampleStart + ms 10 ≤ s.instant m →
    s.rack.invalidCount ≤ 16 →
    let sample := reading.map fun raw => if s.straps.orient = .endA then raw else -raw
    ∃ t : State, exec (.gradeSampleExpiry m reading) s = .next t ∧ t.rack.sampleStart = s.instant m
      ∧ (∀ g ∈ sample, -600 ≤ g ∧ g ≤ 600 →
        t.rack.lastValid = some g ∧ t.rack.invalidCount = 0 ∧ t.rack.validCount = min 16 (s.rack.validCount + 1)
          ∧ (s.rack.ring.length < 16 → t.rack.ring = s.rack.ring ++ [g])
          ∧ (s.rack.ring.length = 16 → t.rack.ring = s.rack.ring.tail ++ [g])
          ∧ (s.rack.validCount = 15 → t.present .gradeSensor = false))
      ∧ ((∀ g ∈ sample, g < -600 ∨ 600 < g) →
        t.rack.lastValid = s.rack.lastValid ∧ t.rack.validCount = 0
          ∧ t.rack.invalidCount = min 16 (s.rack.invalidCount + 1)
          ∧ (s.rack.lastValid = none → t.rack.ring = s.rack.ring)
          ∧ (∀ g ∈ s.rack.lastValid, s.rack.ring.length = 16 → t.rack.ring = s.rack.ring.tail ++ [g])
          ∧ (∀ g ∈ s.rack.lastValid, s.rack.ring.length < 16 → t.rack.ring = s.rack.ring ++ [g])
          ∧ (s.rack.invalidCount = 15 → t.present .gradeSensor = true)
          ∧ (s.doors.releaseA = false → s.doors.releaseB = false →
            t.faults
              = if s.rack.invalidCount = 15 ∧ s.present .gradeSensor = false then
                s.faults.occur s.straps.strict .gradeSensor
              else s.faults))
      ∧ (t.present .gradeSensor = true ∨ t.rack.ring.length < 16 →
        t.rack.grade = if s.rack.lastWheelDir = .up then -500 else 500)
      ∧ (t.present .gradeSensor = false → t.rack.ring.length = 16 →
        t.rack.grade.natAbs = min 500 ((t.rack.ring.sum.natAbs + 15) / 16)
          ∧ (0 < t.rack.ring.sum → 0 < t.rack.grade) ∧ (t.rack.ring.sum < 0 → t.rack.grade < 0))
      ∧ s.rack.toothDecays (s.instant m) t.rack
      ∧ s.rack.wheelDecays (s.instant m) (2000 + s.straps.wheelCirc.toNat * 4) t.rack
      ∧ s.rack.evaluated (s.instant m) (s.present .speedDisagree) t.rack
      ∧ onlyChanges (Part.also Part.ofClassB [.gradeFilter, .speedSources]) s t

/-! ## The car line and numbering -/

/-- LINE_IDLE, TEN_RECESSIVE_BIT_TIMES and START_BIT_ON_LINE: at an idle the first slot of the order ALERT, ORDER,
STATE, REPLY that holds a frame is offered, the ORDER slot passed over during its hold-off; another station's start
bit makes an idle line busy. That the slots are offered in JOIN_WAITING as in the later phases is the model's choice (log
entry 44). -/
def Obligations.IdleLineOffersChosenSlot : Prop :=
  ∀ (m : Moment) (s : State), s.running = true →
    let chosen : Option Slot :=
      if s.line.alert.isSome then some .alert
      else if s.line.orders ≠ [] ∧ s.line.orderHoldOff = none then some .order
      else if s.line.stateSlot.isSome then some .state
      else if s.line.replies ≠ [] then some .reply
      else none
    (s.line.sending = none → s.line.bus = .busy ∨ s.line.bus = .idle →
        ∃ t : State, exec (.lineIdle m) s = .next t ∧ t.line.sending = chosen
          ∧ t.line.bus = (if chosen.isSome then .busy else .idle) ∧ t.line.orderPassed = false
          ∧ onlyChanges [.transmission] s t)
      ∧ (s.line.sending = none → s.line.bus = .awaitingTen ∨ s.line.bus = .ignoringUntilTen →
        ∃ t : State, exec (.tenRecessiveBitTimes m) s = .next t ∧ t.line.sending = chosen
          ∧ t.line.bus = (if chosen.isSome then .busy else .idle) ∧ t.line.orderPassed = false
          ∧ onlyChanges [.transmission] s t)
      ∧ (∃ t : State, exec (.startBitOnLine m) s = .next t ∧ t.line.sending = s.line.sending
        ∧ t.line.bus = (if s.line.bus = .idle then .busy else s.line.bus) ∧ t.line.orderPassed = s.line.orderPassed
        ∧ onlyChanges [.transmission] s t)
      ∧ (s.line.sending.isSome = true → ∃ t : State, exec (.lineIdle m) s = .next t ∧ onlyChanges [] s t)

/-- FRAME_SENT of an ALERT, an ORDER, a REPLY or a STATE: the frame leaves its slot; an ORDER starts the hold-off, a
STATE ends LINE_CONGESTION. CONTENTION_LOST: the frame waits again with its contents, unless an ALERT or a STATE
placed behind it takes its place; a frame of the STATE slot whose access timeout has run out is discarded. -/
def Obligations.TransmissionEndsMoveSlots : Prop :=
  ∀ (m : Moment) (s : State), s.running = true →
    (s.line.sending = some .alert →
        ∃ t : State, exec (.frameSent m) s = .next t
          ∧ t.line
            = { s.line with sending := none, bus := .busy, alert := s.line.alertBehind, alertBehind := none }
          ∧ onlyChanges [.slots, .transmission] s t)
      ∧ (s.line.sending = some .order →
        ∃ t : State, exec (.frameSent m) s = .next t
          ∧ t.line
            = { s.line with
                sending := none, bus := .busy, orders := s.line.orders.tail, orderHoldOff := some (s.instant m) }
          ∧ onlyChanges [.slots, .transmission, .lineTimers] s t)
      ∧ (s.line.sending = some .reply →
        ∃ t : State, exec (.frameSent m) s = .next t
          ∧ t.line = { s.line with sending := none, bus := .busy, replies := s.line.replies.tail }
          ∧ onlyChanges [.slots, .transmission] s t)
      ∧ (s.line.sending = some .state → (∃ held ∈ s.line.stateSlot, held.kind = .state) →
        ∃ t : State, exec (.frameSent m) s = .next t ∧ t.present .lineCongestion = false
          ∧ t.line
            = { s.line with
                sending := none, bus := .busy, stateSlot := s.line.stateBehind, stateBehind := none, discards := 0 }
          ∧ onlyChanges [.slots, .transmission, .lineTimers, .faults] s t)
      ∧ (s.line.sending = none → ∃ t : State, exec (.frameSent m) s = .next t ∧ onlyChanges [] s t)
      ∧ (s.line.sending = some .order ∨ s.line.sending = some .reply →
        ∃ t : State, exec (.contentionLost m) s = .next t ∧ t.line = { s.line with sending := none, bus := .busy }
          ∧ onlyChanges [.transmission] s t)
      ∧ (s.line.sending = some .alert →
        ∃ t : State, exec (.contentionLost m) s = .next t
          ∧ t.line.alert = (if s.line.alertBehind.isSome then s.line.alertBehind else s.line.alert)
          ∧ t.line.alertBehind = none ∧ t.line.sending = none ∧ t.line.bus = .busy
          ∧ onlyChanges [.slots, .transmission] s t)
      ∧ (∀ held ∈ s.line.stateSlot, s.line.sending = some .state → held.late = false →
        ∃ t : State, exec (.contentionLost m) s = .next t
          ∧ t.line.stateSlot = (if s.line.stateBehind.isSome then s.line.stateBehind else some held)
          ∧ t.line.stateBehind = none ∧ t.line.sending = none ∧ t.line.bus = .busy
          ∧ onlyChanges [.slots, .transmission] s t)
      ∧ (∀ held ∈ s.line.stateSlot, s.line.sending = some .state → held.late = true →
        ∃ t : State, exec (.contentionLost m) s = .next t ∧ t.line.stateSlot = s.line.stateBehind
          ∧ t.line.stateBehind = none ∧ t.line.sending = none ∧ t.line.bus = .busy
          ∧ t.line.discards = s.line.discards + 1 ∧ (3 ≤ t.line.discards → t.present .lineCongestion = true)
          ∧ onlyChanges [.slots, .transmission, .lineTimers, .faults] s t)

/-- FRAME_SENT of the own JOIN, and CHAIN_OUT_ACTIVATE: the STATE period starts, the neighbour references are taken,
the chain-out pin follows 24 µs later; a last JOIN completes the consist, a rejoin JOIN ends RESUMING, any other
waits. -/
def Obligations.OwnJoinSentOpensConsist : Prop :=
  ∀ (m : Moment) (last rejoin : Bool) (s : State), s.running = true →
    (s.line.sending = some .state → (∃ held ∈ s.line.stateSlot, held.kind = .join last rejoin) →
        ∃ t : State, exec (.frameSent m) s = .next t ∧ t.line.statePeriod = some (s.instant m)
          ∧ t.line.chainOutDue = some (s.instant m) ∧ t.line.joinRetry = none ∧ t.line.discards = 0
          ∧ t.line.references = some (s.line.senseA.filtered, s.line.senseB.filtered)
          ∧ t.line.stateSlot = s.line.stateBehind ∧ t.line.own = s.line.own
          ∧ (last = true ∨ rejoin = true → t.line.phase = .complete)
          ∧ (last = false → rejoin = false →
            t.line.phase = .completionWait ∧ t.line.completionTimer = some (s.instant m) ∧ t.station = s.station)
          ∧ (rejoin = false → last = true → s.station.life = .joining →
            t.station.life = .proving ∧ t.brake.autoProof = true)
          ∧ (rejoin = true → s.station.life = .resuming →
            t.station.life = (if s.brake.proof.results = { p1 := .pass, p2 := .pass } then .ready else .proving)
              ∧ t.station.storing = (s.station.storing || s.pins.levels.supplyWarn))
          ∧ onlyChanges
            (Part.also Part.ofClassA [.numbering, .chainOut, .lineTimers, .station, .store]) s t)
      ∧ (timerReached s.line.chainOutDue (s.instant m) 24 = true →
        ∃ t : State, exec (.chainOutActivate m) s = .next t ∧ t.line.chainOut = true ∧ t.line.chainOutDue = none
          ∧ onlyChanges [.chainOut] s t)

/-- STATE_PERIOD_EXPIRY, due, in a station with a number: a STATE of this moment is placed, in its place or behind
one in transmission, with its access timeout started. The fields of the STATE are those of the station at this
moment; that its capacity reads the rack presence of this moment is the model's choice (log entry 39). -/
def Obligations.StatePeriodPlacesState : Prop :=
  ∀ (m : Moment) (n : Fin 8) (s : State), s.running = true → s.line.own = some n →
    timerReached s.line.statePeriod (s.instant m) (ms 50) = true →
    let now := s.atMoment m
    let r := now.stateReport
    ∃ t : State, exec (.statePeriodExpiry m) s = .next t ∧ t.line.statePeriod = some (s.instant m)
      ∧ t.line.nextSequence = s.line.nextSequence + 1
      ∧ (if s.line.sending = some .state then t.line.stateBehind else t.line.stateSlot)
        = some { frame := buildFrame n (.state r), kind := .state, placedAt := s.instant m, late := false }
      ∧ (s.line.sending = some .state → t.line.stateSlot = s.line.stateSlot)
      ∧ (s.line.bus = .idle → s.line.sending = none →
        t.line.bus = .busy
          ∧ t.line.sending
            = if s.line.alert.isSome then some .alert
              else if s.line.orders ≠ [] ∧ s.line.orderHoldOff = none ∧ s.line.orderPassed = false then some .order
              else some .state)
      ∧ r.sequence = s.line.nextSequence ∧ r.stationState = s.station.life.code
      ∧ r.direction = directionCode s.direction ∧ r.known = s.rack.known ∧ r.holding = s.brake.applied
      ∧ r.latch = s.brake.latch ∧ r.speed.toNat = s.publishedSpeed
      ∧ (∀ p ∈ s.position, r.position.toNat = p) ∧ (s.position = none → r.position = 0)
      ∧ r.mass.toNat = min 65535 (s.doors.mass / 100) ∧ r.capacity.toNat = min 65535 (s.serviceCapacity / 100)
      ∧ r.applied.toNat = min 65535 ((m.force1.toNat + m.force2.toNat + s.wheelForce) / 100)
      ∧ r.holdingCapacity.toNat = min 65535 (s.holdingCapacity / 100)
      ∧ r.localLimit.toNat = min 65535 s.speed.localLimit ∧ r.summary = s.summary.code
      ∧ r.faultClass = s.faults.highestClass s.straps.strict ∧ r.valley = s.radio.status.code ∧ r.cabActive = false
      ∧ r.lastSequence = s.radio.window.getLast?.getD 0
      ∧ (-500 ≤ s.rack.grade → s.rack.grade ≤ 500 → r.grade.toInt = s.rack.grade) ∧ s.valuesFormed
      ∧ onlyChanges [.slots, .transmission, .lineTimers] s t

/-- ACCESS_TIMEOUT and JOIN_RETRY: a frame of the STATE slot that has waited 20 ms is discarded and counted, with
LINE_CONGESTION from the third in a row, but one in transmission stays; a discarded JOIN is built anew 50 ms after
its placing. ORDER_HOLD_OFF_EXPIRY, CLASH_TIMER_EXPIRY and LINE_QUALITY_WINDOW_END, each due. -/
def Obligations.LineTimersRunOut : Prop :=
  ∀ (m : Moment) (n : Fin 8) (s : State), s.running = true →
    (∀ held ∈ s.line.stateSlot, held.late = false → held.placedAt + ms 20 ≤ s.instant m →
        ∃ t : State, exec (.accessTimeout m) s = .next t
          ∧ (s.line.sending = some .state →
            t.line = { s.line with stateSlot := some { held with late := true } } ∧ onlyChanges [.slots] s t)
          ∧ (s.line.sending ≠ some .state →
            t.line.stateSlot = s.line.stateBehind ∧ t.line.stateBehind = none
              ∧ t.line.discards = s.line.discards + 1
              ∧ t.line.joinRetry = (if held.kind = .state then s.line.joinRetry else some held.placedAt)
              ∧ (3 ≤ t.line.discards → t.present .lineCongestion = true)
              ∧ onlyChanges [.slots, .lineTimers, .faults] s t))
      ∧ (timerReached s.line.joinRetry (s.instant m) (ms 50) = true → s.line.phase = .joinWaiting →
        s.line.own = some n →
        ∃ t : State, exec (.joinRetry m) s = .next t ∧ t.line.joinRetry = none
          ∧ (if s.line.sending = some .state then t.line.stateBehind else t.line.stateSlot)
            = some
              { frame :=
                  buildFrame n
                    (.join
                      { number := BitVec.ofNat 8 (n.val + 1), kind := 0, last := !s.summitNeighbour
                        rejoin := s.line.rejoin, tare := BitVec.ofNat 16 (100 + s.straps.tare.toNat) })
                kind := .join (!s.summitNeighbour) s.line.rejoin
                placedAt := s.instant m
                late := false }
          ∧ onlyChanges [.slots, .transmission, .lineTimers] s t)
      ∧ (timerReached s.line.orderHoldOff (s.instant m) (ms 5) = true →
        ∃ t : State, exec (.orderHoldOffExpiry m) s = .next t
          ∧ t.line = { s.line with orderHoldOff := none, orderPassed := decide (s.line.bus = .idle) }
          ∧ onlyChanges [.lineTimers, .transmission] s t)
      ∧ (timerReached s.line.clashTimer (s.instant m) (ms 1000) = true →
        ∃ t : State, exec (.clashTimerExpiry m) s = .next t ∧ t.line = { s.line with clashTimer := none }
          ∧ t.present .numberClash = false ∧ onlyChanges (Part.also Part.ofClassB [.quality]) s t)
      ∧ (s.line.qualityStart + ms 1000 ≤ s.instant m →
        ∃ t : State, exec (.lineQualityWindowEnd m) s = .next t
          ∧ t.line = { s.line with qualityStart := s.instant m, badCount := 0 }
          ∧ t.present .lineQuality = (if s.line.badCount ≤ 2 then false else s.present .lineQuality)
          ∧ onlyChanges [.quality, .faults] s t)

/-- BAD_FRAME and UNKNOWN_FRAME_DROPPED: a wrong check, a dominant end bit or a length above 24 makes any frame bad;
a bad frame is counted, the eleventh of a window is LINE_QUALITY, one bad at its length has the line ignored; an
unknown frame is dropped uncounted. That UNKNOWN_FRAME_DROPPED with a frame of another class has no effect of its own
either is the model's choice (log entry 27), and so is that a frame of unknown kind with such a fault is bad (log entry
45). -/
def Obligations.BadFramesAreCounted : Prop :=
  ∀ (m : Moment) (frame : LineFrame) (s : State), s.hears = true →
    (frame.check ≠ crc16 frame.checkedBits ∨ frame.endClean = false ∨ 24 < frame.length.toNat →
        classify frame = .bad)
      ∧ (classify frame = .bad →
        ∃ t : State, exec (.badFrame m frame) s = .next t ∧ t.line.badCount = s.line.badCount + 1
          ∧ (s.line.badCount = 10 → t.present .lineQuality = true)
          ∧ (s.line.badCount ≠ 10 → t.faults = s.faults)
          ∧ (24 < frame.length.toNat → t.line.bus = .ignoringUntilTen)
          ∧ (frame.length.toNat ≤ 24 → t.line.bus = if s.line.bus = .idle then .busy else s.line.bus)
          ∧ t.line.sending = s.line.sending ∧ onlyChanges [.transmission, .quality, .faults] s t)
      ∧ (∃ t : State, exec (.unknownFrameDropped m frame) s = .next t ∧ t.line.badCount = s.line.badCount
        ∧ t.line.sending = s.line.sending ∧ onlyChanges [.transmission] s t)

/-- NEIGHBOUR_SENSE_INPUT and NEIGHBOUR_SENSE_FILTERED: a raw level is timed while it differs from the filtered one;
held for 100 ms it becomes the filtered level, and CONSIST_CHANGED follows the references once the own JOIN has been
sent. -/
def Obligations.NeighbourSenseIsFiltered : Prop :=
  ∀ (m : Moment) (carEnd : CarEnd) (level : Bool) (s : State), s.running = true →
    (∃ t : State, exec (.neighbourSenseInput m carEnd level) s = .next t
        ∧ (carEnd = .endA → t.pins.levels = { s.pins.levels with senseA := level })
        ∧ (carEnd = .endB → t.pins.levels = { s.pins.levels with senseB := level })
        ∧ (t.line.sense carEnd).filtered = (s.line.sense carEnd).filtered
        ∧ (t.line.sense carEnd).changing
          = (if level = (s.line.sense carEnd).filtered then none
            else some ((s.line.sense carEnd).changing.getD (s.instant m)))
        ∧ (carEnd = .endA → t.line.senseB = s.line.senseB) ∧ (carEnd = .endB → t.line.senseA = s.line.senseA)
        ∧ onlyChanges [.levels, .senses] s t)
      ∧ (timerReached (s.line.sense carEnd).changing (s.instant m) (ms 100) = true →
        ∃ t : State, exec (.neighbourSenseFiltered m carEnd) s = .next t
          ∧ t.line.sense carEnd = { filtered := !(s.line.sense carEnd).filtered, changing := none }
          ∧ (carEnd = .endA → t.line.senseB = s.line.senseB) ∧ (carEnd = .endB → t.line.senseA = s.line.senseA)
          ∧ (∀ refs ∈ s.line.references, s.line.phase = .completionWait ∨ s.line.phase = .complete →
            t.present .consistChanged
              = decide (t.line.senseA.filtered ≠ refs.1 ∨ t.line.senseB.filtered ≠ refs.2))
          ∧ (s.line.phase ≠ .completionWait → s.line.phase ≠ .complete → t.faults = s.faults)
          ∧ onlyChanges (Part.also Part.ofClassB [.senses]) s t)

/-- LISTEN_WINDOW_END, CHAIN_IN_CHANGE, CHAIN_WAIT_EXPIRY and COMPLETION_WAIT_EXPIRY: number 1 without a valley-side
neighbour, else the chain wait; with chain-in active and a JOIN heard the next number, at the end of the listen window
too, and none above 8; a chain-in before any JOIN waits; silence after 5 000 ms, CONSIST_INCOMPLETE after 10 000 ms. As
the own entry becomes SELF, CAB_CONFLICT and PEER_LOST follow the claims and the LOST entries left. -/
def Obligations.NumbersAreTakenInChainOrder : Prop :=
  ∀ (m : Moment) (carEnd : CarEnd) (level : Bool) (s : State), s.running = true →
    (timerReached s.line.listenTimer (s.instant m) (ms 300) = true → s.valleyNeighbour = false →
        ∃ t : State, exec (.listenWindowEnd m) s = .next t ∧ t.line.own = some 0 ∧ t.line.phase = .joinWaiting
          ∧ t.line.listenTimer = none ∧ t.peers[0].state = .self ∧ t.claimsFollow s ∧ t.lossesFollow s
          ∧ onlyChanges (Part.also Part.ofPeers [.numbering, .slots, .transmission, .outgoing]) s t)
      ∧ (timerReached s.line.listenTimer (s.instant m) (ms 300) = true → s.valleyNeighbour = true →
        s.chainIn = false ∨ s.line.highestHeard = 0 →
        ∃ t : State, exec (.listenWindowEnd m) s = .next t ∧ t.line.own = s.line.own ∧ t.line.phase = .chainWait
          ∧ t.line.listenTimer = none ∧ t.line.chainWaitTimer = some (s.instant m) ∧ onlyChanges [.numbering] s t)
      ∧ (timerReached s.line.listenTimer (s.instant m) (ms 300) = true → s.valleyNeighbour = true → s.chainIn = true →
        1 ≤ s.line.highestHeard → s.line.highestHeard < 8 →
        ∃ t : State, exec (.listenWindowEnd m) s = .next t
          ∧ (∀ n ∈ t.line.own, n.val = s.line.highestHeard ∧ t.peers[n].state = .self) ∧ t.line.own.isSome = true
          ∧ t.line.phase = .joinWaiting ∧ t.line.listenTimer = none ∧ t.line.chainWaitTimer = none
          ∧ t.claimsFollow s ∧ t.lossesFollow s
          ∧ onlyChanges (Part.also Part.ofPeers [.numbering, .slots, .transmission, .outgoing]) s t)
      ∧ (timerReached s.line.listenTimer (s.instant m) (ms 300) = true → s.valleyNeighbour = true → s.chainIn = true →
        8 ≤ s.line.highestHeard →
        ∃ t : State, exec (.listenWindowEnd m) s = .next t ∧ t.line.phase = .silent ∧ t.line.own = s.line.own
          ∧ t.line.listenTimer = none ∧ t.line.chainWaitTimer = none ∧ t.present .consistIncomplete = true
          ∧ onlyChanges (Part.also Part.ofClassB [.numbering]) s t)
      ∧ ((if carEnd = s.straps.orient then level else s.chainIn) = true → s.line.phase = .chainWait →
        1 ≤ s.line.highestHeard → s.line.highestHeard < 8 →
        ∃ t : State, exec (.chainInChange m carEnd level) s = .next t
          ∧ (∀ n ∈ t.line.own, n.val = s.line.highestHeard ∧ t.peers[n].state = .self) ∧ t.line.own.isSome = true
          ∧ t.line.phase = .joinWaiting ∧ t.line.chainWaitTimer = none ∧ t.claimsFollow s ∧ t.lossesFollow s
          ∧ onlyChanges (Part.also Part.ofPeers [.levels, .numbering, .slots, .transmission, .outgoing]) s t)
      ∧ (s.line.phase ≠ .chainWait ∨ s.line.highestHeard = 0
          ∨ (if carEnd = s.straps.orient then level else s.chainIn) = false →
        ∃ t : State, exec (.chainInChange m carEnd level) s = .next t
          ∧ t.pins.levels
            = (if carEnd = .endA then { s.pins.levels with chainA := level } else { s.pins.levels with chainB := level })
          ∧ onlyChanges [.levels] s t)
      ∧ ((if carEnd = s.straps.orient then level else s.chainIn) = true → s.line.phase = .chainWait →
        8 ≤ s.line.highestHeard →
        ∃ t : State, exec (.chainInChange m carEnd level) s = .next t ∧ t.line.phase = .silent
          ∧ t.line.own = s.line.own ∧ t.present .consistIncomplete = true
          ∧ onlyChanges (Part.also Part.ofClassB [.levels, .numbering]) s t)
      ∧ (timerReached s.line.chainWaitTimer (s.instant m) (ms 5000) = true →
        ∃ t : State, exec (.chainWaitExpiry m) s = .next t ∧ t.line.phase = .silent ∧ t.line.chainWaitTimer = none
          ∧ t.line.own = s.line.own ∧ t.present .consistIncomplete = true
          ∧ onlyChanges (Part.also Part.ofClassB [.numbering]) s t)
      ∧ (timerReached s.line.completionTimer (s.instant m) (ms 10000) = true →
        ∃ t : State, exec (.completionWaitExpiry m) s = .next t ∧ t.line.phase = s.line.phase
          ∧ t.line.completionTimer = none ∧ t.present .consistIncomplete = true
          ∧ onlyChanges (Part.also Part.ofClassB [.numbering]) s t)

/-! ## The peer table -/

/-- RECEIVE_JOIN of a station that is not the own one: the entry is JOINED with the frame's kind and tare and nothing
else, CAB_CONFLICT and PEER_LOST following, unless it clashes with the kind held; before a number is taken the highest
number heard follows; a last JOIN ends the completion wait. One under the own number is an occurrence of NUMBER_CLASH
with the clash timer restarted; it enters no entry, and its last flag is taken as any other's. That a kind clash is
judged without an own number too is the model's reading (log entry 23). -/
def Obligations.JoinEntersTable : Prop :=
  ∀ (m : Moment) (source : Fin 8) (fields : JoinFields) (s : State), s.hears = true → fields.ok source = true →
    (s.line.phase = .chainWait → s.line.own = none) →
    let kind : PeerKind := if fields.kind = 0 then .car else if fields.kind = 1 then .traction else .cab
    let clashes := s.peers[source].state ≠ .empty ∧ s.peers[source].kind ≠ .notKnown ∧ s.peers[source].kind ≠ kind
    (s.line.own ≠ some source → s.peers[source].state ≠ .self →
        ∃ t : State, exec (.receiveJoin m source fields) s = .next t
          ∧ (clashes →
            t.peers[source] = s.peers[source] ∧ t.present .numberClash = true ∧ t.line.clashTimer = some (s.instant m)
              ∧ t.faults.recordOf .numberClash
                = (s.faults.occur s.straps.strict .numberClash).recordOf .numberClash
              ∧ (s.present .numberClash = false → t.speed.localLimit = 0)
              ∧ (s.line.phase ≠ .chainWait → (s.line.phase = .completionWait → fields.last = false) →
                t.faults = s.afterOccurrence m .numberClash t))
          ∧ (¬clashes →
            t.peers[source]
                = { state := .joined, kind := kind, tare := fields.tare.toNat * 100, contents := none
                    ageFrom := some (s.instant m), lastAlert := none }
              ∧ t.line.clashTimer = s.line.clashTimer ∧ t.claimsFollow s ∧ t.lossesFollow s)
          ∧ (s.line.own = none → t.line.highestHeard = max s.line.highestHeard (source.val + 1))
          ∧ (s.line.own.isSome = true → t.line.highestHeard = s.line.highestHeard)
          ∧ (s.line.phase = .completionWait → fields.last = true →
            t.line.phase = .complete ∧ t.line.completionTimer = none ∧ t.present .consistIncomplete = false
              ∧ (s.station.life = .joining → t.station.life = .proving ∧ t.brake.autoProof = true))
          ∧ (s.line.phase = .chainWait → s.chainIn = true → max s.line.highestHeard (source.val + 1) < 8 →
            s.line.own = none → ∃ n ∈ t.line.own, n.val = max s.line.highestHeard (source.val + 1))
          ∧ onlyChanges
            (Part.also Part.ofPeers
              [.transmission, .numbering, .slots, .quality, .outgoing, .station, .proof])
            s t)
      ∧ (s.line.own = some source →
        ∃ t : State, exec (.receiveJoin m source fields) s = .next t ∧ t.present .numberClash = true
          ∧ t.line.clashTimer = some (s.instant m) ∧ (s.present .numberClash = false → t.speed.localLimit = 0)
          ∧ t.faults.recordOf .numberClash = (s.faults.occur s.straps.strict .numberClash).recordOf .numberClash
          ∧ (s.line.phase = .completionWait ∧ fields.last = true →
            t.line.phase = .complete ∧ t.line.completionTimer = none ∧ t.present .consistIncomplete = false
              ∧ (s.permitsOk →
                t.faults
                  = s.latchReports m t ((s.faults.occur s.straps.strict .numberClash).going .consistIncomplete))
              ∧ (s.station.life = .joining → t.station.life = .proving ∧ t.brake.autoProof = true)
              ∧ t.line.own = s.line.own ∧ t.line.highestHeard = s.line.highestHeard
              ∧ onlyChanges (Part.also Part.ofClassB [.transmission, .quality, .numbering, .station, .proof]) s t)
          ∧ (s.line.phase ≠ .completionWait ∨ fields.last = false →
            t.faults = s.afterOccurrence m .numberClash t
              ∧ onlyChanges (Part.also Part.ofClassB [.transmission, .quality]) s t))

/-- RECEIVE_STATE, RECEIVE_ALERT and RECEIVE_INSPECT_REPLY of another station: a STATE makes the entry FRESH with its
contents and age 0, with CAB_CONFLICT and PEER_LOST following the claims and the LOST entries, an ALERT is kept as the
last alert, a reply is not used. A good frame under the own number is one
occurrence of NUMBER_CLASH, class B, with the clash timer restarted, and enters no entry. -/
def Obligations.PeerFramesEnterTable : Prop :=
  ∀ (m : Moment) (source : Fin 8) (report : StateReport) (kind station : Byte) (payload : List Byte) (s : State),
    s.hears = true →
    (s.line.own ≠ some source → s.peers[source].state ≠ .self →
        (report.ok = true →
            ∃ t : State, exec (.receiveState m source report) s = .next t
              ∧ t.peers
                = s.peers.set source
                  { s.peers[source] with state := .fresh, contents := some report, ageFrom := some (s.instant m) }
              ∧ t.speed.enforced ≤ report.localLimit.toNat ∧ t.claimsFollow s ∧ t.lossesFollow s
              ∧ onlyChanges (Part.also Part.ofPeers [.transmission]) s t)
          ∧ (alertOk kind station = true →
            ∃ t : State, exec (.receiveAlert m source kind station) s = .next t
              ∧ t.peers[source].lastAlert.map FaultKind.code = some kind.toNat
              ∧ t.peers = s.peers.set source { s.peers[source] with lastAlert := t.peers[source].lastAlert }
              ∧ onlyChanges [.peers, .transmission] s t)
          ∧ (4 ≤ payload.length → payload.length ≤ 24 →
            ∃ t : State, exec (.receiveInspectReply m source payload) s = .next t ∧ onlyChanges [.transmission] s t)
          ∧ (report.ok = false →
            ∃ t : State, exec (.receiveState m source report) s = .next t ∧ t.line.badCount = s.line.badCount + 1
              ∧ onlyChanges [.transmission, .quality, .faults] s t))
      ∧ (s.line.own = some source →
        (report.ok = true →
            ∃ t : State, exec (.receiveState m source report) s = .next t ∧ t.present .numberClash = true
              ∧ t.line.clashTimer = some (s.instant m) ∧ (s.present .numberClash = false → t.speed.localLimit = 0)
              ∧ t.faults = s.afterOccurrence m .numberClash t
              ∧ onlyChanges (Part.also Part.ofClassB [.transmission, .quality]) s t)
          ∧ (alertOk kind station = true →
            ∃ t : State, exec (.receiveAlert m source kind station) s = .next t ∧ t.present .numberClash = true
              ∧ t.line.clashTimer = some (s.instant m)
              ∧ t.faults = s.afterOccurrence m .numberClash t
              ∧ (s.present .numberClash = false → t.speed.localLimit = 0)
              ∧ onlyChanges (Part.also Part.ofClassB [.transmission, .quality]) s t)
          ∧ (4 ≤ payload.length → payload.length ≤ 24 →
            ∃ t : State, exec (.receiveInspectReply m source payload) s = .next t ∧ t.present .numberClash = true
              ∧ t.line.clashTimer = some (s.instant m)
              ∧ t.faults = s.afterOccurrence m .numberClash t
              ∧ (s.present .numberClash = false → t.speed.localLimit = 0)
              ∧ onlyChanges (Part.also Part.ofClassB [.transmission, .quality]) s t))

/-- PEER_STALE and PEER_LOST, each due: a FRESH entry becomes STALE with its contents, a STALE or JOINED one LOST
with PEER_LOST; an entry of another state stays as it is. CAB_CONFLICT stands with two claims or more, which a STALE or
LOST cab keeps. -/
def Obligations.PeersAge : Prop :=
  ∀ (m : Moment) (station : Fin 8) (s : State), s.running = true →
    (timerReached s.peers[station].ageFrom (s.instant m) (ms 150) = true →
        ∃ t : State, exec (.peerStale m station) s = .next t
          ∧ (s.peers[station].state = .fresh →
            t.peers = s.peers.set station { s.peers[station] with state := .stale } ∧ t.allFresh = false
              ∧ t.claimsFollow s ∧ t.lossesFollow s)
          ∧ (s.peers[station].state ≠ .fresh → onlyChanges [] s t) ∧ onlyChanges Part.ofPeers s t)
      ∧ (timerReached s.peers[station].ageFrom (s.instant m) (ms 500) = true →
        ∃ t : State, exec (.peerLost m station) s = .next t
          ∧ (s.peers[station].state = .stale ∨ s.peers[station].state = .joined →
            t.peers = s.peers.set station { s.peers[station] with state := .lost } ∧ t.present .peerLost = true
              ∧ (s.present .peerLost = false → t.speed.localLimit = 0) ∧ t.claimsFollow s)
          ∧ (s.peers[station].state ≠ .stale → s.peers[station].state ≠ .joined → onlyChanges [] s t)
          ∧ onlyChanges Part.ofPeers s t)

/-- The two tests of the peer table for the release interlocks, and consist-wide standstill. -/
def Obligations.ConsistTestsReadEntries : Prop :=
  ∀ s : State,
    (s.allFresh = true ↔ ∀ i : Fin 8, s.peers[i].state ≠ .stale)
      ∧ (s.allClosed = true ↔
        ∀ i : Fin 8, s.peers[i].state ≠ .stale ∧ (s.peers[i].state = .fresh → s.peers[i].report.summary = 0))
      ∧ (s.consistStandstill = true ↔
        s.rack.standstill = true
          ∧ ∀ i : Fin 8, s.peers[i].state = .fresh ∨ s.peers[i].state = .stale →
            s.peers[i].report.speed = 0 ∧ s.peers[i].report.direction = 0)

/-! ## COMMAND frames -/

/-- A COMMAND frame that the peer table does not accept or the station state does not admit changes nothing; one out
of its ranges is a bad frame. Accepted is what comes from the active cab, to ALL or to the own number; admitted are a
CONSIST_RESET in each state from JOINING on, a PROOF in PROVING and READY, the others in READY alone. One under the own
number, which no active cab has, is an occurrence of NUMBER_CLASH with the clash timer restarted, and changes nothing
else. A COMMAND is out of its ranges with a target above 8, a DOORS_RELEASE side above 1 or an INSPECT record set other
than 1 to 5 (log entry 40). -/
def Obligations.CommandsNotTakenChangeNothing : Prop :=
  ∀ (m : Moment) (sub : Subkind) (source : Fin 8) (target : Byte) (param : BitVec 16) (s : State), s.hears = true →
    (s.accepts source target = true ↔
        s.present .cabConflict = false ∧ s.peers[source].kind = .cab ∧ s.peers[source].state = .fresh
          ∧ s.peers[source].report.cabActive = true
          ∧ (target.toNat = 0 ∨ ∃ n : Fin 8, s.line.own = some n ∧ target.toNat = n.val + 1))
      ∧ (admits sub s.station.life = true ↔
        s.station.life = .ready ∨ s.station.life = .proving ∧ (sub = .proof ∨ sub = .consistReset)
          ∨ (s.station.life = .joining ∨ s.station.life = .resuming) ∧ sub = .consistReset)
      ∧ (commandOk target sub param = false ↔
        8 < target.toNat ∨ sub = .doorsRelease ∧ 1 < param.toNat
          ∨ sub = .inspect ∧ (param.toNat = 0 ∨ 5 < param.toNat))
      ∧ (commandOk target sub param = true → s.line.own ≠ some source →
        s.accepts source target = false ∨ admits sub s.station.life = false →
        ∃ t : State, exec (subkindCommand m source target param sub) s = .next t ∧ onlyChanges [.transmission] s t)
      ∧ (s.line.own = some source → s.peers[source].state = .self → s.accepts source target = false)
      ∧ (commandOk target sub param = true → s.line.own = some source →
        s.accepts source target = false ∨ admits sub s.station.life = false →
        ∃ t : State, exec (subkindCommand m source target param sub) s = .next t ∧ t.present .numberClash = true
          ∧ t.line.clashTimer = some (s.instant m) ∧ (s.present .numberClash = false → t.speed.localLimit = 0)
          ∧ t.faults = s.afterOccurrence m .numberClash t
          ∧ onlyChanges (Part.also Part.ofClassB [.transmission, .quality]) s t)
      ∧ (commandOk target sub param = false →
        ∃ t : State, exec (subkindCommand m source target param sub) s = .next t
          ∧ t.line.badCount = s.line.badCount + 1 ∧ onlyChanges [.transmission, .quality, .faults] s t)

/-- SERVICE, RELEASE and PROOF, accepted and admitted: the cab demand; the release request, ignored while a proof
test runs; the start of a proof test, or its refusal with the first failing condition. -/
def Obligations.BrakeCommandsTakeEffect : Prop :=
  ∀ (m : Moment) (source : Fin 8) (target : Byte) (param : BitVec 16) (s : State),
    (s.takes .service source target param = true →
        ∃ t : State, exec (.service m source target param) s = .next t
          ∧ t.brake = { s.brake with cabDemand := min 2000 param.toNat } ∧ onlyChanges [.transmission, .demand] s t)
      ∧ (s.takes .release source target param = true →
        ∃ t : State, exec (.release m source target param) s = .next t
          ∧ (s.brake.proof.state = .running → t.brake = s.brake)
          ∧ (s.brake.proof.state ≠ .running → t.brake = { s.brake with cabDemand := 0, releasePending := true })
          ∧ onlyChanges [.transmission, .demand, .holding] s t)
      ∧ (s.takes .proof source target param = true →
        let refusal : Option ProofRefusal :=
          if s.brake.proof.state = .running then some .running
          else if s.brake.latch = true ∨ s.loopPulled = true then some .emergency
          else if s.brake.applied = false then some .notHeld
          else if s.consistStandstill = false then some .notStandstill
          else none
        ∃ t : State, exec (.proof m source target param) s = .next t
          ∧ (refusal = none →
            t.brake.proof
                = { s.brake.proof with
                    state := .running, phase := .p1Settle, results := { p1 := .notRun, p2 := .notRun }
                    forces := { p1 := 0, p2 := 0 }, reason := .none, pulses := 0 }
              ∧ t.brake.settleTimer = some (s.instant m) ∧ t.brake.autoProof = false
              ∧ t.brake.pinions.p1.mode = .test ∧ t.brake.pinions.p2.mode = .full ∧ t.brake.wheel = s.brake.wheel)
          ∧ (∀ why ∈ refusal,
            t.brake
              = { s.brake with
                  proof :=
                    { s.brake.proof with lastRefusal := why, refusals := min 255 (s.brake.proof.refusals + 1) } })
          ∧ onlyChanges [.transmission, .proof, .outputs] s t)

/-- DOORS_RELEASE and DOORS_CLOSE, accepted and admitted: with the permit the side is released and its doors are
treated by their states, without it nothing changes; a close clears both sides, locks or closes every door that no
handle releases. An OPEN door that the close withdraws keeps its attempts, any other begins again at 0; that the first
covers a door whose flag a consist reset has cleared, at attempts 3, is the model's choice (log entry 35). A door that
leaves LOCKED sets latch pending. DOOR_OBSTRUCTED goes with the last obstruction flag. In every state the lock release
and the motor of a door are what its state asks for. -/
def Obligations.DoorCommandsTakeEffect : Prop :=
  ∀ (m : Moment) (source : Fin 8) (target : Byte) (param : BitVec 16) (s : State),
    (s.takes .doorsRelease source target param = true →
        let side : LineSide := if param = 0 then .l else .r
        let car := carSideOf s.straps.orient side
        ∃ t : State, exec (.doorsRelease m source target param) s = .next t
          ∧ (s.permit side = false → onlyChanges [.transmission] s t)
          ∧ (s.permit side = true →
            t.doors.sideRelease car = true
              ∧ (∀ other : CarSide, other ≠ car → t.doors.sideRelease other = s.doors.sideRelease other)
              ∧ (∀ d : DoorId, doorSide d ≠ car → t.doors.doors.get d = s.doors.doors.get d)
              ∧ ∀ d : DoorId, doorSide d = car →
                t.doors.doors.get d
                  = match (s.doors.doors.get d).state with
                    | .locked => { s.doors.doors.get d with state := .released }
                    | .opened => { s.doors.doors.get d with attempts := 0, obstructionFlag := false }
                    | .closing =>
                      { s.doors.doors.get d with state := .opening, attempts := 0, timer := some (s.instant m) }
                    | .reopening =>
                      { s.doors.doors.get d with state := .opening, attempts := 0, timer := some (s.instant m) }
                    | .released => s.doors.doors.get d
                    | .opening => s.doors.doors.get d
                    | .forced => s.doors.doors.get d
                    | .isolated => s.doors.doors.get d)
          ∧ (s.permit side = true →
            t.doors.mass = s.doors.mass
              ∧ (t.doors.latchPending = true ↔
                s.doors.latchPending = true
                  ∨ ∃ d : DoorId, doorSide d = car ∧ (s.doors.doors.get d).state = .locked)
              ∧ t.obstructionsFollow s)
          ∧ onlyChanges [.transmission, .doors, .sideReleases, .mass, .faults] s t)
      ∧ (∀ d : DoorId,
        let state := (s.doors.doors.get d).state
        (state.lockRelease = true ↔ state = .opening ∨ state = .opened ∨ state = .reopening)
          ∧ (state.motor = .opens ↔ state = .opening ∨ state = .reopening)
          ∧ (state.motor = .closes ↔ state = .closing))
      ∧ (s.takes .doorsClose source target param = true →
        ∃ t : State, exec (.doorsClose m source target param) s = .next t ∧ t.doors.releaseA = false
          ∧ t.doors.releaseB = false ∧ t.obstructionsFollow s
          ∧ (∀ d : DoorId, (s.doors.doors.get d).handleRelease = true → t.doors.doors.get d = s.doors.doors.get d)
          ∧ (∀ d : DoorId, (s.doors.doors.get d).handleRelease = false → (s.doors.doors.get d).state = .opened →
            t.doors.doors.get d
              = { s.doors.doors.get d with
                  state := .closing
                  attempts :=
                    if s.doors.sideRelease (doorSide d) = true ∧ (s.doors.doors.get d).obstructionFlag = false then
                      (s.doors.doors.get d).attempts
                    else 0
                  obstructionFlag := false
                  timer := some (s.instant m) })
          ∧ (∀ d : DoorId, s.doors.sideRelease (doorSide d) = true → (s.doors.doors.get d).handleRelease = false →
            ((s.doors.doors.get d).state = .released → (t.doors.doors.get d).state = .locked)
              ∧ ((s.doors.doors.get d).state = .opening → (t.doors.doors.get d).state = .closing))
          ∧ (∀ d : DoorId,
            (s.doors.doors.get d).state = .locked ∨ (s.doors.doors.get d).state = .closing
                ∨ (s.doors.doors.get d).state = .reopening ∨ (s.doors.doors.get d).state = .forced
                ∨ (s.doors.doors.get d).state = .isolated →
              t.doors.doors.get d = s.doors.doors.get d)
          ∧ onlyChanges [.transmission, .doors, .sideReleases, .mass, .faults] s t)

/-- CONSIST_RESET, accepted and admitted: the own pull and the latch go only at consist-wide standstill without a
class A condition, the latch also needs the loop released; the conditions that blocks end, the flags, the platform
record, the last alerts; and every record whose condition is absent, a class A one only at standstill. A record that stays
keeps its count and its place. The doors keep their handle releases, alarms and attempts, and on a side whose release
stands their states; a side loses its release only with its permit. -/
def Obligations.ConsistResetClears : Prop :=
  ∀ (m : Moment) (source : Fin 8) (target : Byte) (param : BitVec 16) (s : State),
    s.takes .consistReset source target param = true →
    ∃ t : State, exec (.consistReset m source target param) s = .next t
      ∧ t.brake.ownPull = (s.brake.ownPull && !(s.consistStandstill && !s.classA))
      ∧ t.brake.latch
        = (s.brake.latch && !(s.consistStandstill && !s.classA && !t.brake.ownPull && !s.pins.levels.loopOthers))
      ∧ t.brake.cabDemand = 0 ∧ t.brake.releasePending = false ∧ t.brake.applied = s.brake.applied
      ∧ t.engagement.pinions.p1 = { s.engagement.pinions.p1 with slip := 0 }
      ∧ t.engagement.pinions.p2 = { s.engagement.pinions.p2 with slip := 0 } ∧ t.speed.arithLimit = false
      ∧ t.restrictions = { s.restrictions with overflow := none } ∧ t.radio.platform = none
      ∧ (∀ i : Fin 8, t.peers[i] = { s.peers[i] with lastAlert := none })
      ∧ (∀ d : DoorId,
        (t.doors.doors.get d).timeoutFlag = false ∧ (t.doors.doors.get d).obstructionFlag = false)
      ∧ t.present .slipEvent = false ∧ t.present .arithLimit = false ∧ t.present .doorTimeout = false
      ∧ t.present .doorObstructed = false ∧ t.present .restrictionOverflow = false
      ∧ (∀ r ∈ t.faults.table, t.present r.kind = true ∨ r.cls = .a ∧ s.consistStandstill = false)
      ∧ (s.tablesOk → ∀ r ∈ s.faults.table,
        t.present r.kind = true ∨ r.cls = .a ∧ s.consistStandstill = false → ∃ q ∈ t.faults.table, q.kind = r.kind)
      ∧ (t.doors.releaseA = s.doors.releaseA → t.doors.releaseB = s.doors.releaseB →
        (t.faults.table.map fun r => (r.kind, r.cls, r.count))
          = (s.faults.table.filter fun r => t.present r.kind || (r.cls == .a && !s.consistStandstill)).map fun r =>
            (r.kind, r.cls, r.count))
      ∧ (∀ d : DoorId,
        (t.doors.doors.get d).handleRelease = (s.doors.doors.get d).handleRelease
          ∧ (t.doors.doors.get d).handleAlarm = (s.doors.doors.get d).handleAlarm
          ∧ (t.doors.doors.get d).attempts = (s.doors.doors.get d).attempts
          ∧ (t.doors.sideRelease (doorSide d) = s.doors.sideRelease (doorSide d) →
            t.doors.doors.get d = { s.doors.doors.get d with timeoutFlag := false, obstructionFlag := false }))
      ∧ (∀ side : CarSide, t.doors.sideRelease side ≠ s.doors.sideRelease side →
        t.doors.sideRelease side = false ∧ t.permit (lineSideOf s.straps.orient side) = false)
      ∧ onlyChanges
        [.transmission, .monitors, .arith, .doors, .sideReleases, .mass, .restrictions, .peers, .platform, .demand
          , .holding, .emergency, .faults]
        s t

/-- INSPECT, accepted and admitted: for the own number and a record set 1 to 5 the records of this moment are placed
while the REPLY slot has room, the last one placed marked as truncated if any is left out; one to ALL changes nothing.
Every field of every record is named: two and three bytes most significant first, a value beyond its bytes as
the greatest they hold. The model's own: the phase byte without a running test is free (log entry 19), an active flag
that is set reads 0 (20), energies in kJ, forces and capacities in 100 N are floors (38). One with a record set of 0
or above 5 is a bad frame, which CommandsNotTakenChangeNothing states. -/
def Obligations.InspectAnswersOwnNumber : Prop :=
  ∀ (m : Moment) (source n : Fin 8) (target : Byte) (param : BitVec 16) (k : Fin 4) (s : State),
    s.takes .inspect source target param = true → s.line.own = some n → s.line.replies.length ≤ 4 →
    let room := 4 - s.line.replies.length
    let flag : Bool → Byte := fun b => if b then 1 else 0
    let one : Nat → Byte := fun x => BitVec.ofNat 8 (min 255 x)
    let two : Nat → List Byte := fun x => [BitVec.ofNat 8 (min 65535 x / 256), BitVec.ofNat 8 (min 65535 x)]
    let three : Nat → List Byte := fun x =>
      [BitVec.ofNat 8 (min 16777215 x / 65536), BitVec.ofNat 8 (min 16777215 x / 256), BitVec.ofNat 8 (min 16777215 x)]
    let faultBytes : FaultRecord → List Byte := fun r =>
      [one r.kind.code, match r.cls with | .a => 3 | .b => 2 | .c => 1, if r.active then 0 else 1, one r.count]
    let table := s.faults.table
    let pinion : Pinion := if k = 1 then .p1 else .p2
    let monitor := s.engagement.pinions.get (if k = 0 then .p1 else .p2)
    let brake := s.brake.pinions.get pinion
    let proof := s.brake.proof
    let ceiling : List Byte :=
      [one s.restrictions.entries.length, flag s.restrictions.overflow.isSome] ++ two (s.restrictions.overflow.getD 0)
    ∃ t : State, exec (.inspect m source target param) s = .next t
      ∧ (target.toNat ≠ n.val + 1 → onlyChanges [.transmission] s t)
      ∧ (∀ which ∈ recordSetOf param, target.toNat = n.val + 1 →
        (param.toNat = 2 → (s.records which).length = 2) ∧ (param.toNat = 3 → (s.records which).length = 4)
          ∧ (param.toNat = 4 → (s.records which).length = max 1 s.restrictions.entries.length)
          ∧ (param.toNat = 5 → (s.records which).length = 2)
          ∧ (param.toNat = 1 → s.faults.table.length ≤ 16 →
            (s.records which).length = 1 + (s.faults.table.length - 2 + 4) / 5)
          ∧ t.line.replies.length = min 4 (s.line.replies.length + (s.records which).length)
          ∧ t.line.replies.take s.line.replies.length = s.line.replies
          ∧ (∀ contents ∈ (s.records which)[k.val]?,
            (param.toNat = 1 → k = 0 →
                contents
                  = [one table.length
                      , if s.classA then 3 else if s.classB then 2 else if s.faults.classActive s.straps.strict .c then 1 else 0]
                    ++ (s.peers.toList.map fun e => match e.lastAlert with | some kind => one kind.code | none => 0)
                    ++ (table.take 2).flatMap faultBytes)
              ∧ (param.toNat = 1 → k ≠ 0 → contents = ((table.drop (5 * k.val - 3)).take 5).flatMap faultBytes)
              ∧ (param.toNat = 2 →
                contents
                  = [BitVec.ofNat 8 (k.val + 1), one monitor.window.status.code
                      , BitVec.ofNat 8 (monitor.window.hits.toNat / 16777216)
                      , BitVec.ofNat 8 (monitor.window.hits.toNat / 65536)
                      , BitVec.ofNat 8 (monitor.window.hits.toNat / 256), BitVec.ofNat 8 monitor.window.hits.toNat
                      , one monitor.window.lower, one monitor.window.upper, one monitor.window.width
                      , one monitor.window.inArc, one monitor.slip, one monitor.settle])
              ∧ (param.toNat = 3 → k = 0 →
                contents
                  = [flag (!s.brake.applied), flag s.brake.latch, flag s.brake.ownPull, flag s.loopPulled]
                    ++ two s.brake.cabDemand ++ two (if s.speed.intervening then 600 else 0) ++ two s.speed.localLimit
                    ++ two s.speed.enforced ++ two s.speed.hardRef ++ [one s.speed.buildUp])
              ∧ (param.toNat = 3 → k = 1 ∨ k = 2 →
                contents
                  = [BitVec.ofNat 8 k.val, flag brake.failed, flag brake.fade] ++ two (brake.energy / 1000)
                    ++ two (brake.derated / 100)
                    ++ [(match proof.results.get pinion with | .notRun => 0 | .pass => 1 | .fail => 2 : Byte)]
                    ++ two (proof.forces.get pinion / 100))
              ∧ (param.toNat = 3 → k = 3 →
                ∃ phase ∈ contents[1]?,
                  contents
                      = [one proof.state.code, phase, one proof.reason.code, one proof.pulses, one proof.lastRefusal.code
                          , one proof.refusals, flag s.brake.autoProof]
                    ∧ (proof.state = .running → phase = one proof.phase.code))
              ∧ (param.toNat = 4 → s.restrictions.entries = [] → contents = ceiling)
              ∧ (∀ e ∈ s.restrictions.entries[k.val]?, param.toNat = 4 →
                contents
                  = ceiling ++ two e.orderId.toNat ++ three e.start ++ three e.stop ++ two e.limit ++ [flag e.covering])
              ∧ (param.toNat = 5 → k = 0 →
                contents
                  = [match s.radio.status with | .notFitted => 0 | .alive => 1 | .lost => 2, flag s.radio.lostWide
                      , s.radio.lastLink, one s.radio.acks.length]
                    ++ (match s.radio.platform with
                      | none => List.replicate 6 0
                      | some r => [1, match r.side with | .l => 0 | .r => 1] ++ three r.stop ++ [r.sequence])
                    ++ [one s.radio.window.length])
              ∧ (param.toNat = 5 → k = 1 → contents = one s.radio.window.length :: s.radio.window))
          ∧ ∀ contents ∈ (s.records which)[k.val]?, k.val < room →
            t.line.replies[s.line.replies.length + k.val]?
              = some
                (buildFrame n
                  (.inspectReply
                    ([BitVec.ofNat 8 param.toNat, BitVec.ofNat 8 k.val, one (s.records which).length
                        , if room < (s.records which).length ∧ k.val + 1 = room then 1 else 0]
                      ++ contents))))
      ∧ onlyChanges [.transmission, .slots, .freeCount] s t

/-! ## Gradient speed supervision -/

/-- The gravity component of a grade is read from the table and interpolated, with the sign of the grade. -/
def Obligations.GravityInterpolatesTable : Prop :=
  ∀ (k : Fin 50) (j : Fin 10),
    let magnitude : Nat :=
      gravityEntry k.val + (gravityEntry (k.val + 1) - gravityEntry k.val) * j.val / 10
    gravity (10 * k.val + j.val : Nat) = magnitude ∧ gravity (-(10 * k.val + j.val : Nat)) = -(magnitude : Int)
      ∧ gravity 500 = gravityEntry 50 ∧ gravity (-500) = -(gravityEntry 50 : Int) ∧ gravity 0 = 0 ∧ gravity 353 = 3265

/-- Stage 4 finds the highest speed from which the consist stops within S, without a saturation: with b the speed
lost over the build-up time, v is the largest speed with (v + b)² ≤ b² + 2 · a_net · S. -/
def Obligations.StageFourFindsStoppingSpeed : Prop :=
  ∀ net buildUp distance : Nat, net ≤ 2500 → buildUp ≤ 1500 → distance ≤ 80000 →
    let b := net * buildUp / 1000
    let v := stoppingSpeed net buildUp distance
    b ≤ 3750 ∧ b * b + 2 * net * distance ≤ 414062500 ∧ v.hits = 0 ∧ 0 ≤ v.val
      ∧ (v.val.toNat + b) * (v.val.toNat + b) ≤ b * b + 2 * net * distance
      ∧ b * b + 2 * net * distance < (v.val.toNat + b + 1) * (v.val.toNat + b + 1)

/-- SUPERVISION_COMPUTATION, due: the local limit takes the result by the raise hold, the enforced limit is the least
of the consist, HOLD_INADEQUATE and HOLD_MARGIN follow their tests, the intervention demand, the hard reference, its
build-up count and its descent follow the enforced limit, with or without a stop; an OVERSPEED_HARD that then arises
takes the enforced limit to 0. The clauses on the local limit hold when no class A or B condition stands after it. A
saturation of its arithmetic, of M × |a_g| × 6 beyond the accumulator for one, sets the arithmetic-limit flag with
ARITH_LIMIT; without one both stand. The net deceleration, the stage values, the result and the holding products are
those of the rules, for masses and capacities in their ranges. That the own capacity in the net deceleration reads the
rack presence of this moment is the model's choice (log entry 39). -/
def Obligations.SupervisionTakesResult : Prop :=
  ∀ (m : Moment) (s : State), s.running = true → s.speed.superStart + ms 100 ≤ s.instant m →
    let net := s.netDecel.val
    let result := s.stageSix (s.stageFive net).val.toNat
    let speed := s.rack.reported * 36 / 1000
    let saturates :=
      0 < s.netDecel.hits + (s.stageFive net).hits
        ∨ s.rack.standstill = true ∧ 0 < s.holdingProducts.1.hits + s.holdingProducts.2.hits
    let mass := s.doors.mass + (s.consistPeers.map fun e => e.countedMass).sum
    let capacity := s.serviceCapacity + (s.consistPeers.map fun e => e.countedCapacity).sum
    let holding := s.holdingCapacity + (s.consistPeers.map fun e => e.countedHolding).sum
    let lineClass := s.straps.lineClass.toNat
    let ceiling : Nat :=
      if s.rack.present then match lineClass with | 0 => 120 | 1 => 160 | 2 => 200 | _ => 250
      else match lineClass with | 0 => 250 | 1 => 300 | 2 => 350 | _ => 400
    let buildUp : Nat := if lineClass ≤ 1 then 1500 else 1200
    let distance : Nat := match lineClass with | 0 => 40000 | 1 => 50000 | 2 => 60000 | _ => 80000
    let five := (s.stageFive net).val
    let valleyLost := s.radio.status ≠ .alive ∧ ∀ i : Fin 8, s.peers[i].state = .fresh → s.peers[i].report.valley ≠ 1
    let stopped := s.classA = true ∨ s.classB = true ∨ s.brake.latch = true
    let unheld := s.rack.standstill = true ∧ s.holdingProducts.1.val < s.holdingProducts.2.val
    let taken : Nat :=
      if result ≤ s.speed.localLimit then result
      else
        match s.speed.raiseHold with
        | none => s.speed.localLimit
        | some (candidate, start) => if start + ms 2000 ≤ s.instant m then min candidate result else s.speed.localLimit
    let enforced : Nat :=
      if unheld then 0 else (s.consistPeers.map fun e => e.report.localLimit.toNat).foldl min taken
    ∃ t : State, exec (.supervisionComputation m) s = .next t ∧ t.speed.superStart = s.instant m ∧ s.valuesFormed
      ∧ (s.measuresOk →
        net = min 2500 (((capacity * 1000 / mass : Nat) : Int) - s.gravityTerm) ∧ s.netDecel.hits = 0
          ∧ s.holdingProducts.1 = { val := holding * 5000, hits := 0 }
          ∧ s.holdingProducts.2.val = min 549755813887 (mass * (gravity s.rack.grade).natAbs * 6 : Nat))
      ∧ (net ≤ 0 → five = 0)
      ∧ (0 < net → net ≤ 2500 →
        five
          = min ((stoppingSpeed net buildUp distance).val * 36 / 1000) (if s.sweeping then (min ceiling 50 : Nat) else ceiling))
      ∧ (0 ≤ five →
        (result : Int) ≤ five ∧ (∀ e ∈ s.restrictions.entries, e.covering = true ∨ s.rack.known = false → result ≤ e.limit)
          ∧ (∀ c ∈ s.restrictions.overflow, result ≤ c) ∧ (valleyLost → result ≤ 60) ∧ (stopped → result = 0)
          ∧ ((result : Int) = five
            ∨ (∃ e ∈ s.restrictions.entries, (e.covering = true ∨ s.rack.known = false) ∧ result = e.limit)
            ∨ s.restrictions.overflow = some result ∨ (valleyLost ∧ result = 60) ∨ (stopped ∧ result = 0)))
      ∧ (saturates → t.speed.arithLimit = true ∧ t.present .arithLimit = true)
      ∧ (¬saturates →
        t.speed.arithLimit = s.speed.arithLimit ∧ t.present .arithLimit = s.present .arithLimit)
      ∧ (s.rack.standstill = true → 549755813887 < s.totalMass.val * s.gravityHere.natAbs * 6 → saturates)
      ∧ (t.classA = false ∧ t.classB = false →
        (result < s.speed.localLimit → t.speed.localLimit = result ∧ t.speed.raiseHold = none)
          ∧ (result = s.speed.localLimit → t.speed.localLimit = result ∧ t.speed.raiseHold = none)
          ∧ (s.speed.localLimit < result → s.speed.raiseHold = none →
            t.speed.localLimit = s.speed.localLimit ∧ t.speed.raiseHold = some (result, s.instant m))
          ∧ (∀ hold ∈ s.speed.raiseHold, s.speed.localLimit < result → s.instant m < hold.2 + ms 2000 →
            t.speed.localLimit = s.speed.localLimit ∧ t.speed.raiseHold = some (min hold.1 result, hold.2))
          ∧ (∀ hold ∈ s.speed.raiseHold, s.speed.localLimit < result → hold.2 + ms 2000 ≤ s.instant m →
            t.speed.localLimit = min hold.1 result ∧ t.speed.raiseHold = none)
          ∧ t.speed.enforced = (s.consistPeers.map fun e => e.report.localLimit.toNat).foldl min t.speed.localLimit)
      ∧ t.speed.enforced = (if s.present .overspeedHard = false ∧ t.present .overspeedHard = true then 0 else enforced)
      ∧ (s.speed.intervening = false → t.speed.intervening = decide (enforced < speed))
      ∧ (s.speed.intervening = true → 10 ≤ enforced → t.speed.intervening = decide (enforced < speed + 10))
      ∧ (s.speed.intervening = true → enforced < 10 → t.speed.intervening = decide (speed ≠ 0))
      ∧ (s.speed.hardRef ≤ enforced →
        t.speed.hardRef = enforced ∧ t.speed.buildUp = 0 ∧ t.speed.descending = false)
      ∧ (enforced < s.speed.hardRef → s.speed.descending = false →
        t.speed.hardRef = s.speed.hardRef ∧ t.speed.buildUp = buildUp / 100 ∧ t.speed.descending = true)
      ∧ (enforced < s.speed.hardRef → s.speed.descending = true → 0 < s.speed.buildUp →
        t.speed.hardRef = s.speed.hardRef ∧ t.speed.buildUp = s.speed.buildUp - 1 ∧ t.speed.descending = true)
      ∧ (enforced < s.speed.hardRef → s.speed.descending = true → s.speed.buildUp = 0 →
        t.speed.hardRef = max enforced (s.speed.hardRef - 2) ∧ t.speed.buildUp = 0
          ∧ t.speed.descending = decide (t.speed.hardRef ≠ enforced))
      ∧ t.present .holdInadequate = decide (net ≤ 0 ∧ s.rack.standstill = false)
      ∧ (s.rack.standstill = true →
        t.present .holdMargin = decide (s.holdingProducts.1.val < s.holdingProducts.2.val))
      ∧ (s.rack.standstill = false → t.present .holdMargin = s.present .holdMargin)
      ∧ t.present .overspeedHard = (s.present .overspeedHard || decide (t.speed.hardRef + 20 < speed))
      ∧ (t.classA = true ∧ s.classA = false → t.speed.localLimit = 0 ∧ t.brake.ownPull = true)
      ∧ onlyChanges (Part.also Part.ofClassA [.supervision, .arith]) s t

/-! ## Braking -/

/-- BRAKE_CYCLE, due: the energies cool and heat, the derated capacities and fade flags follow, each pinion's failure
check starts, keeps or discards its timer or marks the pinion, the target is the largest demand, the own force is the own
requirement with the own share of the consist's shortfall, within the own capacity, and is split in proportion to the
pinions' capacities, the outputs take the modes of the table, and a saturation sets the arithmetic-limit flag with
ARITH_LIMIT. Capacities, counted values and the gravity term are those of the rules. The model's readings: class A brings
the 800 mm/s² of class B (log entry 42), class B counts in the target as the cycle's own steps leave it (log entry 34), and
a derated capacity formed at the cycle's step 1 stands when a later step changes the mark (log entry 41). -/
def Obligations.BrakeCycleSharesAndCommands : Prop :=
  ∀ (m : Moment) (s : State), s.running = true → s.brake.cycleStart + ms 20 ≤ s.instant m →
    let nominal := 20000 + s.straps.pinionNom.toNat * 5000
    let read : Pinion → Nat := fun p => match p with | .p1 => m.force1.toNat | .p2 => m.force2.toNat
    let cooled : Pinion → Nat := fun p => (s.brake.pinions.get p).energy - (s.brake.pinions.get p).energy / 4096
    let heat : Pinion → Nat := fun p => min 549755813887 (read p * s.rack.reported) / 50000
    let heatSaturates :=
      s.rack.present = true ∧ ∃ p ∈ [Pinion.p1, Pinion.p2],
        549755813887 < read p ∨ 549755813887 < read p * s.rack.reported ∨ 2147483647 < cooled p + heat p
    ∃ t : State, exec (.brakeCycle m) s = .next t ∧ t.brake.cycleStart = s.instant m ∧ t.valuesFormed
      ∧ (∀ p : Pinion, (s.brake.pinions.get p).energy ≤ 2147483647 →
        let old := s.brake.pinions.get p
        let new := t.brake.pinions.get p
        (s.rack.present = false → new.energy = cooled p)
          ∧ (s.rack.present = true → new.energy = min 2147483647 (cooled p + heat p))
          ∧ (old.failed = true → new.derated = 0)
          ∧ (old.failed = false →
            (new.energy ≤ 4000000 → new.derated = nominal)
              ∧ (4000000 < new.energy → new.energy < 12000000 →
                new.derated = nominal - nominal * (new.energy - 4000000) / 16000000)
              ∧ (12000000 ≤ new.energy → new.derated = nominal / 2))
          ∧ (12000000 ≤ new.energy → new.fade = true ∧ (old.fade = false → t.present .brakeFade = true))
          ∧ (new.energy < 10000000 → new.fade = false)
          ∧ (10000000 ≤ new.energy → new.energy < 12000000 → new.fade = old.fade)
          ∧ (s.brake.proof.state ≠ .running → new.failed = true → old.failed = true ∨ t.present .pinionFailed = true))
      ∧ (∀ p : Pinion,
        let old := s.brake.pinions.get p
        let new := t.brake.pinions.get p
        let fails := old.failed = false ∧ 5000 ≤ old.mode.command ∧ 2 * read p < old.mode.command
        (fails → old.failTimer = none → new.failTimer = some (s.instant m) ∧ new.failed = false)
          ∧ (∀ start ∈ old.failTimer, fails → s.instant m < start + ms 1000 →
            new.failTimer = some start ∧ new.failed = false)
          ∧ (∀ start ∈ old.failTimer, fails → start + ms 1000 ≤ s.instant m →
            new.failTimer = none
              ∧ (s.brake.proof.state ≠ .running → new.failed = true ∧ t.present .pinionFailed = true))
          ∧ (¬fails → new.failTimer = none ∧ (s.brake.proof.state ≠ .running → new.failed = old.failed)))
      ∧ (t.brake.pinions.p1.fade = false ∧ t.brake.pinions.p2.fade = false → t.present .brakeFade = false)
      ∧ t.brake.target
        = max s.brake.cabDemand
          (max (if s.speed.intervening then 600 else 0) (if t.classA || t.classB then 800 else 0))
      ∧ t.brake.cabDemand = s.brake.cabDemand ∧ t.brake.force ≤ t.serviceCapacity
      ∧ (s.brake.cabDemand ≤ 2000 → t.doors.mass ≤ 65535 → t.serviceCapacity ≤ 1000000 →
        (∀ e ∈ s.consistPeers, e.tare ≤ 6553500) →
        let need : Nat → Int := fun mass =>
          max 0 ((mass : Int) * (t.brake.target + t.gravityTerm) / 1000)
        let own : Int := max 0 (t.serviceCapacity - need t.doors.mass)
        let short : Int :=
          max 0 (need t.doors.mass - t.serviceCapacity)
            + (s.consistPeers.map fun e => max 0 (need e.countedMass - e.countedCapacity)).sum
        let spare : Int := own + (s.consistPeers.map fun e => max 0 (e.countedCapacity - need e.countedMass)).sum
        let shareSaturates := 549755813887 < min short spare * own
        (¬shareSaturates →
            (t.brake.force : Int)
              = min (t.serviceCapacity : Int) (need t.doors.mass + if 0 < spare then min short spare * own / spare else 0))
          ∧ (shareSaturates → t.speed.arithLimit = true ∧ t.present .arithLimit = true)
          ∧ ((∀ p : Pinion, (s.brake.pinions.get p).energy ≤ 2147483647) → ¬shareSaturates → ¬heatSaturates →
            t.speed.arithLimit = s.speed.arithLimit ∧ t.present .arithLimit = s.present .arithLimit))
      ∧ ((∀ p : Pinion, (s.brake.pinions.get p).energy ≤ 2147483647) → heatSaturates →
        t.speed.arithLimit = true ∧ t.present .arithLimit = true)
      ∧ (t.rack.present = true →
        let c1 := t.brake.pinions.p1.capacity
        let c2 := t.brake.pinions.p2.capacity
        let f1 := t.brake.force * c1 / (c1 + c2)
        let f2 := t.brake.force * c2 / (c1 + c2)
        let rest := t.brake.force - f1 - f2
        t.brake.pinions.p1.split = (if c1 + c2 = 0 then 0 else if f1 + rest ≤ c1 then f1 + rest else f1)
          ∧ t.brake.pinions.p2.split = (if c1 + c2 = 0 then 0 else f2)
          ∧ t.brake.pinions.p1.split ≤ c1 ∧ t.brake.pinions.p2.split ≤ c2
          ∧ t.brake.pinions.p1.split + t.brake.pinions.p2.split ≤ t.brake.force
          ∧ t.brake.force ≤ t.brake.pinions.p1.split + t.brake.pinions.p2.split + 1)
      ∧ (t.rack.present = false → t.brake.pinions.p1.split = 0 ∧ t.brake.pinions.p2.split = 0)
      ∧ (t.brake.latch = true ∨ t.loopPulled = true → t.brake.outputsFull)
      ∧ (t.brake.latch = false → t.loopPulled = false → t.brake.proof.state = .running →
        t.brake.wheel = .full
          ∧ (t.brake.proof.phase.tested = .p1 → t.brake.pinions.p1.mode = .test ∧ t.brake.pinions.p2.mode = .full)
          ∧ (t.brake.proof.phase.tested = .p2 → t.brake.pinions.p1.mode = .full ∧ t.brake.pinions.p2.mode = .test))
      ∧ (t.brake.latch = false → t.loopPulled = false → t.brake.proof.state ≠ .running → t.brake.applied = true →
        t.brake.outputsFull)
      ∧ (t.brake.latch = false → t.loopPulled = false → t.brake.proof.state ≠ .running → t.brake.applied = false →
        (t.rack.present = true →
            t.brake.pinions.p1.mode = .service t.brake.pinions.p1.split
              ∧ t.brake.pinions.p2.mode = .service t.brake.pinions.p2.split ∧ t.brake.wheel = .service 0)
          ∧ (t.rack.present = false →
            t.brake.pinions.p1.mode = .service 0 ∧ t.brake.pinions.p2.mode = .service 0
              ∧ t.brake.wheel = .service t.brake.force))
      ∧ onlyChanges
        (Part.also Part.ofClassB [.arith, .sharing, .holding, .pinions, .outputs, .proof, .station]) s t

/-- A proof test at a brake cycle and at its settle timer: the 50th reading of pinion 1 hands over to pinion 2, that
of pinion 2 completes the test, a reading before it is added to the sum, and none is taken while the brakes settle; a
pinion passes within 15 % of the test force, and two passes take a PROVING station to READY. A pinion that passes is no
longer FAILED, and PINION_FAILED goes with the last mark. Without a running test a cycle starts a pending automatic test
when its conditions hold and leaves record and request otherwise. That the measured force is
written without a bound is the model's choice (log entry 21). -/
def Obligations.ProofTestMeasuresPinions : Prop :=
  ∀ (m : Moment) (s : State), s.running = true →
    let test := (20000 + s.straps.pinionNom.toNat * 5000) / 2
    let verdict : Nat → ProofResult := fun force =>
      if 100 * (force - test) ≤ 15 * test ∧ 100 * (test - force) ≤ 15 * test then .pass else .fail
    let force1 := (s.brake.sampleSum + m.force1.toNat) / 50
    let force2 := (s.brake.sampleSum + m.force2.toNat) / 50
    let starts :=
      s.brake.autoProof = true ∧ s.brake.latch = false ∧ s.loopPulled = false ∧ s.brake.applied = true
        ∧ s.consistStandstill = true
    (s.brake.proof.state ≠ .running → s.brake.cycleStart + ms 20 ≤ s.instant m →
        ∃ t : State, exec (.brakeCycle m) s = .next t
          ∧ (starts →
            t.brake.proof
                = { s.brake.proof with
                    state := .running, phase := .p1Settle, results := { p1 := .notRun, p2 := .notRun }
                    forces := { p1 := 0, p2 := 0 }, reason := .none, pulses := 0 }
              ∧ t.brake.settleTimer = some (s.instant m) ∧ t.brake.autoProof = false
              ∧ t.brake.pinions.p1.mode = .test ∧ t.brake.pinions.p2.mode = .full)
          ∧ (¬starts →
            t.brake.proof = s.brake.proof ∧ t.brake.settleTimer = s.brake.settleTimer
              ∧ t.brake.autoProof = s.brake.autoProof ∧ t.brake.sampleSum = s.brake.sampleSum
              ∧ t.brake.sampleCount = s.brake.sampleCount))
      ∧ (s.brake.proof.state = .running →
        (s.brake.cycleStart + ms 20 ≤ s.instant m → s.brake.proof.phase = .p1Sample → s.brake.sampleCount = 49 →
          ∃ t : State, exec (.brakeCycle m) s = .next t ∧ t.brake.proof.state = .running
            ∧ t.brake.proof.phase = .p2Settle ∧ t.brake.settleTimer = some (s.instant m)
            ∧ t.brake.proof.forces = { s.brake.proof.forces with p1 := force1 }
            ∧ t.brake.proof.results = { s.brake.proof.results with p1 := verdict force1 })
        ∧ (s.brake.cycleStart + ms 20 ≤ s.instant m → s.brake.proof.phase = .p2Sample → s.brake.sampleCount = 49 →
          s.brake.autoProof = false →
          ∃ t : State, exec (.brakeCycle m) s = .next t ∧ t.brake.proof.state = .done
            ∧ t.brake.proof.forces = { s.brake.proof.forces with p2 := force2 }
            ∧ t.brake.proof.results = { s.brake.proof.results with p2 := verdict force2 }
            ∧ (∀ p : Pinion,
              (t.brake.proof.results.get p = .pass → (t.brake.pinions.get p).failed = false)
                ∧ (t.brake.proof.results.get p ≠ .pass → (s.brake.pinions.get p).failed = true →
                  (t.brake.pinions.get p).failed = true))
            ∧ (t.brake.pinions.p1.failed = false ∧ t.brake.pinions.p2.failed = false → t.present .pinionFailed = false)
            ∧ (t.brake.pinions.p1.failed = true ∨ t.brake.pinions.p2.failed = true → s.present .pinionFailed = true →
              t.present .pinionFailed = true)
            ∧ (s.brake.proof.results.p1 = .pass ∧ verdict force2 = .pass →
              t.present .proofFail = false ∧ (s.station.life = .proving → t.station.life = .ready))
            ∧ (s.brake.proof.results.p1 ≠ .pass ∨ verdict force2 ≠ .pass →
              t.present .proofFail = true ∧ t.station.life = s.station.life))
        ∧ (s.brake.cycleStart + ms 20 ≤ s.instant m → s.brake.proof.phase = .p1Sample → s.brake.sampleCount < 49 →
          ∃ t : State, exec (.brakeCycle m) s = .next t ∧ t.brake.proof = s.brake.proof
            ∧ t.brake.sampleSum = s.brake.sampleSum + m.force1.toNat ∧ t.brake.sampleCount = s.brake.sampleCount + 1)
        ∧ (s.brake.cycleStart + ms 20 ≤ s.instant m → s.brake.proof.phase = .p2Sample → s.brake.sampleCount < 49 →
          ∃ t : State, exec (.brakeCycle m) s = .next t ∧ t.brake.proof = s.brake.proof
            ∧ t.brake.sampleSum = s.brake.sampleSum + m.force2.toNat ∧ t.brake.sampleCount = s.brake.sampleCount + 1)
        ∧ (s.brake.cycleStart + ms 20 ≤ s.instant m →
          s.brake.proof.phase = .p1Settle ∨ s.brake.proof.phase = .p2Settle →
          ∃ t : State, exec (.brakeCycle m) s = .next t ∧ t.brake.proof = s.brake.proof
            ∧ t.brake.sampleSum = s.brake.sampleSum ∧ t.brake.sampleCount = s.brake.sampleCount)
        ∧ (timerReached s.brake.settleTimer (s.instant m) (ms 500) = true →
          ∃ t : State, exec (.proofSettleExpiry m) s = .next t
            ∧ t.brake
              = { s.brake with
                  proof :=
                    { s.brake.proof with
                      phase := if s.brake.proof.phase.tested = .p1 then .p1Sample else .p2Sample }
                  sampleSum := 0, sampleCount := 0, settleTimer := none }
            ∧ onlyChanges [.proof] s t))

/-- PINION_FAILURE_TIMEOUT, due with the pinion still below half its command, marks it FAILED; LOOP_PULLED sets the
latch with everything that follows it, LOOP_RELEASED leaves the latch as it is. The model's choices: the timeout marks the
pinion as a brake cycle that finds the timer at its limit does (log entry 26), the derated capacity stands after the mark
until the next cycle (log entry 41), the two loop commands are the pull of the other stations (log entry 14), and
LOOP_PULLED is the event itself also where the loop is sensed pulled before it (log entry 27). -/
def Obligations.PinionFailsAndLoopLatches : Prop :=
  ∀ (m : Moment) (pinion : Pinion) (s : State), s.running = true →
    (timerReached (s.brake.pinions.get pinion).failTimer (s.instant m) (ms 1000) = true →
        (s.brake.pinions.get pinion).failed = false → 5000 ≤ (s.brake.pinions.get pinion).mode.command →
        2 * (match pinion with | .p1 => m.force1.toNat | .p2 => m.force2.toNat)
          < (s.brake.pinions.get pinion).mode.command →
        ∃ t : State, exec (.pinionFailureTimeout m pinion) s = .next t
          ∧ t.brake.pinions = s.brake.pinions.set pinion { s.brake.pinions.get pinion with failed := true, failTimer := none }
          ∧ t.present .pinionFailed = true ∧ (s.present .pinionFailed = false → t.speed.localLimit = 0)
          ∧ onlyChanges (Part.also Part.ofClassB [.pinions]) s t)
      ∧ (∃ t : State, exec (.loopPulled m) s = .next t ∧ t.pins.levels = { s.pins.levels with loopOthers := true }
        ∧ t.brake.latch = true ∧ t.brake.ownPull = s.brake.ownPull ∧ t.brake.outputsFull
        ∧ t.brake.proof.state ≠ .running
        ∧ (s.brake.proof.state = .running →
          t.brake.proof = { s.brake.proof with state := .aborted, reason := .emergency })
        ∧ (s.brake.latch = false →
          t.brake.releasePending = false ∧ t.speed.localLimit = 0
            ∧ (s.rack.standstill = true → t.brake.applied = true))
        ∧ onlyChanges (Part.also Part.ofClassB [.levels, .emergency, .holding, .outputs, .proof]) s t)
      ∧ (∃ t : State, exec (.loopReleased m) s = .next t ∧ t.pins.levels = { s.pins.levels with loopOthers := false }
        ∧ onlyChanges [.levels] s t)

/-! ## Passenger doors -/

/-- The door summary. -/
def Obligations.DoorSummaryReadsFourDoors : Prop :=
  ∀ s : State,
    (s.summary = .allClosed ↔
        ∀ d : DoorId, (s.doors.doors.get d).state = .locked ∨ (s.doors.doors.get d).state = .isolated)
      ∧ (s.summary = .released ↔
        (∃ d : DoorId, (s.doors.doors.get d).state = .released)
          ∧ ∀ d : DoorId, (s.doors.doors.get d).state = .released ∨ (s.doors.doors.get d).state = .locked
            ∨ (s.doors.doors.get d).state = .isolated)

/-- LOCK_SWITCH_MADE, LOCK_SWITCH_LOST, FULLY_OPEN_SWITCH, OPEN_BUTTON and OBSTRUCTION_EDGE on one door: what each
makes of the switch's level and of the door's state, and that it leaves a door of any other state and the other doors as
they are. As a switch is made, DOOR_TIMEOUT, DOOR_OBSTRUCTED and DOOR_FORCED go with their last flag, FORCED door or handle
alarm, before the report of the mass latch (an order of the model's choice, log entry 47); the clauses on the doors then
hold where every released side has its permit. A LOCKED door whose switch is lost is FORCED, one occurrence of
DOOR_FORCED; as that condition becomes present, it fails the permit of both sides, and each door that only the release of
its side held is withdrawn by R135 (log entry 35), while every other door stands. That an obstruction of a CLOSING door
whose attempts stand at 3 already stops it as a third one does is the model's choice (log entry 36). -/
def Obligations.DoorEventsMoveOneDoor : Prop :=
  ∀ (m : Moment) (door : DoorId) (s : State), s.running = true →
    let r := s.doors.doors.get door
    let released := s.doors.sideRelease (doorSide door) || r.handleRelease
    let strict := s.straps.strict
    (∃ t : State, exec (.lockSwitchMade m door) s = .next t
        ∧ t.pins.levels = Levels.mapDoor door (fun v => { v with lockMade := true }) s.pins.levels
        ∧ (s.permitsOk → ∀ other : DoorId, other ≠ door → t.doors.doors.get other = s.doors.doors.get other)
        ∧ (r.state = .closing ∨ r.state = .reopening ∨ r.state = .forced →
          t.timeoutsFollow s ∧ t.obstructionsFollow s ∧ t.forcedFollow s
            ∧ (let f1 :=
                if t.doors.doors.toList.any fun d => d.timeoutFlag then s.faults else s.faults.going .doorTimeout
              let f2 := if t.doors.doors.toList.any fun d => d.obstructionFlag then f1 else f1.going .doorObstructed
              let f3 :=
                if t.doors.doors.toList.any fun d => d.state == .forced || d.handleAlarm then f2
                else f2.going .doorForced
              t.faults = s.latchReports m t f3)
            ∧ (s.permitsOk →
              t.doors.doors.get door
                = { r with
                    state := if released then .released else .locked
                    attempts := 0, timeoutFlag := false, obstructionFlag := false, timer := none })
            ∧ (s.summary ≠ .allClosed → t.summary = .allClosed → s.doors.latchPending = true →
              s.rack.standstill = true →
              t.doors.latchPending = false
                ∧ (∀ x ∈ m.load, -1000 ≤ x → x ≤ 10000 →
                  t.doors.mass = 10000 + s.straps.tare.toNat * 100 + (min 8000 (max 0 x)).toNat
                    ∧ t.present .loadSensor = false)
                ∧ ((∀ x ∈ m.load, x < -1000 ∨ 10000 < x) →
                  t.doors.mass = 18000 + s.straps.tare.toNat * 100 ∧ t.present .loadSensor = true)))
        ∧ (r.state = .locked ∨ r.state = .released ∨ r.state = .opening ∨ r.state = .opened ∨ r.state = .isolated →
          onlyChanges [.levels] s t)
        ∧ onlyChanges [.levels, .doors, .sideReleases, .mass, .faults] s t)
      ∧ (∃ t : State, exec (.lockSwitchLost m door) s = .next t
        ∧ t.pins.levels = Levels.mapDoor door (fun v => { v with lockMade := false }) s.pins.levels
        ∧ (r.state = .locked →
          let forced := s.doors.doors.set door { r with state := .forced }
          t.present .doorForced = true ∧ t.faults = s.faults.occur strict .doorForced
            ∧ t.doors.latchPending = true ∧ t.doors.mass = s.doors.mass
            ∧ (s.present .doorForced = false →
              t.doors.doors = s.permitFailed (s.instant m) forced ∧ t.doors.releaseA = false
                ∧ t.doors.releaseB = false ∧ t.speed.localLimit = 0)
            ∧ (s.present .doorForced = true →
              t.doors.doors = forced ∧ onlyChanges [.levels, .doors, .mass, .faults] s t))
        ∧ (r.state = .released →
          t.doors.doors = s.doors.doors.set door { r with state := .opening, timer := some (s.instant m) }
            ∧ onlyChanges [.levels, .doors] s t)
        ∧ (r.state ≠ .locked → r.state ≠ .released → onlyChanges [.levels] s t)
        ∧ onlyChanges (Part.also Part.ofClassB [.levels]) s t)
      ∧ (∃ t : State, exec (.fullyOpenSwitch m door) s = .next t
        ∧ t.pins.levels = Levels.mapDoor door (fun v => { v with openMade := true }) s.pins.levels
        ∧ t.doors.doors = s.doors.doors.set door (if r.state = .opening then { r with state := .opened, timer := none } else r)
        ∧ onlyChanges [.levels, .doors] s t)
      ∧ (∃ t : State, exec (.openButton m door) s = .next t
        ∧ t.doors.doors
          = s.doors.doors.set door
            (if r.state = .released then { r with state := .opening, timer := some (s.instant m) } else r)
        ∧ onlyChanges [.doors] s t)
      ∧ (∃ t : State, exec (.obstructionEdge m door) s = .next t
        ∧ t.doors.doors
          = s.doors.doors.set door
            (if r.state ≠ .closing then r
            else if r.attempts < 2 then
              { r with state := .reopening, attempts := r.attempts + 1, timer := some (s.instant m) }
            else { r with state := .opened, attempts := 3, obstructionFlag := true, timer := none })
        ∧ t.faults = (if r.state = .closing ∧ 2 ≤ r.attempts then s.faults.occur strict .doorObstructed else s.faults)
        ∧ (r.state = .closing → 2 ≤ r.attempts → t.present .doorObstructed = true)
        ∧ onlyChanges [.doors, .faults] s t)

/-- DOOR_OPENING_TIMEOUT, DOOR_CLOSING_TIMEOUT and DOOR_REOPEN_EXPIRY, each due in its state. HANDLE_ACTIVE and
HANDLE_INACTIVE: the handle releases the door of a car that stands held and alarms otherwise; its return takes both
back, and DOOR_FORCED with the last alarm and FORCED door, and closes a door that no release is left to; an ISOLATED
door takes neither. A new alarm is one occurrence of DOOR_FORCED, which as it becomes present fails the permit of both
sides: each door that only the release of its side held is withdrawn by R135. But for that the other doors stand, at a
return where every released side has its permit. The model's choices: a closing timeout with the attempts at 3 already is a third obstruction (log
entry 36), and an OPEN door stopped by its third obstruction whose flag a consist reset has cleared is closed (log
entry 35). -/
def Obligations.DoorTimersAndHandlesAct : Prop :=
  ∀ (m : Moment) (door : DoorId) (s : State), s.running = true →
    let r := s.doors.doors.get door
    (timerReached r.timer (s.instant m) (ms 6000) = true → r.state = .opening →
        ∃ t : State, exec (.doorOpeningTimeout m door) s = .next t
          ∧ t.doors.doors = s.doors.doors.set door { r with state := .opened, timer := none, timeoutFlag := true }
          ∧ t.present .doorTimeout = true ∧ t.faults = s.faults.occur s.straps.strict .doorTimeout
          ∧ onlyChanges [.doors, .faults] s t)
      ∧ (timerReached r.timer (s.instant m) (ms 8000) = true → r.state = .closing →
        ∃ t : State, exec (.doorClosingTimeout m door) s = .next t
          ∧ t.doors.doors
            = s.doors.doors.set door
              (if r.attempts < 2 then
                { r with state := .reopening, attempts := r.attempts + 1, timer := some (s.instant m) }
              else { r with state := .opened, attempts := 3, obstructionFlag := true, timer := none })
          ∧ (2 ≤ r.attempts → t.present .doorObstructed = true)
          ∧ t.faults = (if 2 ≤ r.attempts then s.faults.occur s.straps.strict .doorObstructed else s.faults)
          ∧ onlyChanges [.doors, .faults] s t)
      ∧ (timerReached r.timer (s.instant m) (ms 1000) = true → r.state = .reopening →
        ∃ t : State, exec (.doorReopenExpiry m door) s = .next t
          ∧ t.doors.doors = s.doors.doors.set door { r with state := .closing, timer := some (s.instant m) }
          ∧ onlyChanges [.doors] s t)
      ∧ (r.state ≠ .isolated →
        (s.rack.standstill = true → s.brake.applied = true →
            ∃ t : State, exec (.handleActive m door) s = .next t
              ∧ (t.pins.levels.doors.get door).handle = true
              ∧ t.doors.doors
                = s.doors.doors.set door
                  (match r.state with
                  | .locked => { r with handleRelease := true, state := .released }
                  | .closing =>
                    { r with handleRelease := true, state := .opening, attempts := 0, timer := some (s.instant m) }
                  | .released => { r with handleRelease := true }
                  | .opening => { r with handleRelease := true }
                  | .opened => { r with handleRelease := true }
                  | .reopening => { r with handleRelease := true }
                  | .forced => { r with handleRelease := true }
                  | .isolated => { r with handleRelease := true })
              ∧ (r.state = .locked → t.doors.latchPending = true) ∧ onlyChanges [.levels, .doors, .mass] s t)
          ∧ (s.rack.standstill = false ∨ s.brake.applied = false →
            ∃ t : State, exec (.handleActive m door) s = .next t ∧ (t.pins.levels.doors.get door).handle = true
              ∧ (t.doors.doors.get door).handleAlarm = true
              ∧ (let alarmed := s.doors.doors.set door { r with handleAlarm := true }
                (r.handleAlarm = true → t.doors.doors = alarmed ∧ onlyChanges [.levels, .doors] s t)
                  ∧ (r.handleAlarm = false →
                    t.present .doorForced = true ∧ t.faults = s.afterOccurrence m .doorForced t
                      ∧ (s.present .doorForced = false →
                        t.doors.doors = s.permitFailed (s.instant m) alarmed ∧ t.doors.releaseA = false
                          ∧ t.doors.releaseB = false ∧ t.speed.localLimit = 0)
                      ∧ (s.present .doorForced = true →
                        t.doors.doors = alarmed ∧ onlyChanges [.levels, .doors, .faults] s t)))
              ∧ onlyChanges (Part.also Part.ofClassB [.levels]) s t)
          ∧ (∃ t : State, exec (.handleInactive m door) s = .next t ∧ (t.pins.levels.doors.get door).handle = false
            ∧ (t.doors.doors.get door).handleAlarm = false ∧ (t.doors.doors.get door).handleRelease = false
            ∧ t.forcedFollow s
            ∧ t.faults
              = s.latchReports m t
                  (if t.doors.doors.toList.any fun d => d.state == .forced || d.handleAlarm then s.faults
                  else s.faults.going .doorForced)
            ∧ (s.permitsOk →
              t.doors.doors
                = s.doors.doors.set door
                  (let returned : Door := { r with handleAlarm := false, handleRelease := false }
                  if r.handleRelease = true ∧ s.doors.sideRelease (doorSide door) = false then
                    returned.withoutRelease (s.instant m)
                  else returned))
            ∧ (r.handleRelease = true → s.doors.sideRelease (doorSide door) = false →
              (r.state = .released → (t.doors.doors.get door).state = .locked)
                ∧ (r.state = .opening → (t.doors.doors.get door).state = .closing)
                ∧ (r.state = .opened → r.obstructionFlag = false → (t.doors.doors.get door).state = .closing)
                ∧ (r.state = .opened → r.obstructionFlag = true → (t.doors.doors.get door).state = .opened))
            ∧ onlyChanges (Part.also Part.ofClassB [.levels]) s t))
      ∧ (r.state = .isolated →
        (∃ t : State, exec (.handleActive m door) s = .next t ∧ (t.pins.levels.doors.get door).handle = true
            ∧ onlyChanges [.levels] s t)
          ∧ ∃ t : State, exec (.handleInactive m door) s = .next t ∧ (t.pins.levels.doors.get door).handle = false
            ∧ onlyChanges [.levels] s t)

/-! ## Valley radio and restrictions -/

/-- LINK_STATUS, MODEM_MESSAGE_DISCARDED, CHANNEL_BUSY_CHANGE, SEND_MESSAGE_START and SEND_MESSAGE_DONE: the link
timer and level; no effect; the level; the oldest acknowledgement before the report, on a free channel; the frame's
leaving. -/
def Obligations.ModemPortSendsAndReceives : Prop :=
  ∀ (m : Moment) (level : Byte) (bytes : List Byte) (busy : Bool) (s : State), s.running = true →
    (s.straps.radioFitted = true →
        ∃ t : State, exec (.linkStatus m level) s = .next t
          ∧ t.radio = { s.radio with linkTimer := some (s.instant m), lastLink := level } ∧ onlyChanges [.valley] s t)
      ∧ (s.straps.radioFitted = false → ∃ t : State, exec (.linkStatus m level) s = .next t ∧ onlyChanges [] s t)
      ∧ (∃ t : State, exec (.modemMessageDiscarded m bytes) s = .next t ∧ onlyChanges [] s t)
      ∧ (∃ t : State, exec (.channelBusyChange m busy) s = .next t
        ∧ t.pins.levels = { s.pins.levels with channelBusy := busy } ∧ onlyChanges [.levels] s t)
      ∧ (s.straps.radioFitted = true → s.radio.sending = none → s.pins.levels.channelBusy = false →
        ∃ t : State, exec (.sendMessageStart m) s = .next t
          ∧ t.radio
            = { s.radio with
                sending :=
                  if s.radio.acks ≠ [] then some .ack else if s.radio.report.isSome then some .report else none }
          ∧ onlyChanges [.outgoing] s t)
      ∧ (s.straps.radioFitted = false ∨ s.radio.sending.isSome = true ∨ s.pins.levels.channelBusy = true →
        ∃ t : State, exec (.sendMessageStart m) s = .next t ∧ onlyChanges [] s t)
      ∧ (s.radio.sending = some .ack →
        ∃ t : State, exec (.sendMessageDone m) s = .next t
          ∧ t.radio = { s.radio with sending := none, acks := s.radio.acks.tail } ∧ onlyChanges [.outgoing] s t)
      ∧ (s.radio.sending = some .report →
        ∃ t : State, exec (.sendMessageDone m) s = .next t
          ∧ t.radio = { s.radio with sending := none, report := s.radio.reportBehind, reportBehind := none }
          ∧ onlyChanges [.outgoing] s t)

/-- LINK_STATUS_TIMEOUT, RADIO_SUPERVISION_EXPIRY and POSITION_REPORT_EXPIRY, each due: valley contact is lost with
VALLEY_LOST and the ceiling of 60 where no peer has it; a position report of this moment is built. -/
def Obligations.RadioTimersRunOut : Prop :=
  ∀ (m : Moment) (s : State), s.running = true →
    (timerReached s.radio.linkTimer (s.instant m) (ms 3000) = true →
        ∃ t : State, exec (.linkStatusTimeout m) s = .next t ∧ t.radio.status = .lost ∧ t.radio.linkTimer = none
          ∧ t.radio.supervision = s.radio.supervision ∧ t.present .valleyLost = true
          ∧ (t.radio.lostWide = true ↔
            ∀ i : Fin 8, s.peers[i].state = .fresh → s.peers[i].report.valley ≠ 1)
          ∧ (s.radio.lostWide = false → t.radio.lostWide = true → t.speed.localLimit = min s.speed.localLimit 60)
          ∧ onlyChanges [.valley, .limit, .faults] s t)
      ∧ (timerReached s.radio.supervision (s.instant m) (ms 8000) = true →
        ∃ t : State, exec (.radioSupervisionExpiry m) s = .next t ∧ t.radio.status = .lost
          ∧ t.radio.supervision = none ∧ t.radio.linkTimer = s.radio.linkTimer ∧ t.present .valleyLost = true
          ∧ (s.radio.lostWide = false → t.radio.lostWide = true → t.speed.localLimit = min s.speed.localLimit 60)
          ∧ onlyChanges [.valley, .limit, .faults] s t)
      ∧ (timerReached s.radio.reportTimer (s.instant m) (ms 2000) = true →
        ∃ t : State, exec (.positionReportExpiry m) s = .next t ∧ t.radio.reportTimer = some (s.instant m)
          ∧ t.radio.radioSequence = s.radio.radioSequence + 1
          ∧ (if s.radio.sending = some .report then t.radio.reportBehind else t.radio.report)
            = some
              { address := s.straps.radioAddr
                sequence := s.radio.radioSequence
                payload :=
                  .report s.stationByte s.rack.known (directionCode s.direction) s.brake.latch s.radio.lostWide
                    (narrow 24 (s.position.getD 0)) (narrow 16 s.publishedSpeed) (narrow 16 s.speed.enforced)
                    s.summary.code (s.faults.highestClass s.straps.strict)
                    (narrow 8 s.restrictions.entries.length) }
          ∧ t.radio.acks = s.radio.acks ∧ t.radio.sending = s.radio.sending ∧ onlyChanges [.outgoing] s t)

/-- Any valley order that the own radio accepts: supervision restarts and the status is ALIVE; a new sequence number
enters the window, the order is relayed under the own number while the ORDER slot has room, and every copy is
acknowledged, with ACCEPTED for a duplicate and the order's own result for a new one; of three acknowledgements that
wait, the oldest not in transmission goes for it. A duplicate does nothing else. -/
def Obligations.RadioOrdersAreTakenOnce : Prop :=
  ∀ (m : Moment) (address sequence : Byte) (order : ValleyOrder) (s : State), s.running = true →
    s.straps.radioFitted = true → address = s.straps.radioAddr ∨ address = 255 → order.ok = true →
    let c := orderCommand m (.radio address) sequence order
    let result : OrderResult :=
      if sequence ∈ s.radio.window then .accepted
      else match order with
        | .restrict orderId start _ _ =>
          if 1000000 < start.toNat then .refusedRange
          else if s.restrictions.entries.length < 8 ∨ ∃ e ∈ s.restrictions.entries, e.orderId = orderId then .accepted
          else .acceptedCeiling
        | .platformRelease _ stop => if 1000000 < stop.toNat then .refusedRange else .accepted
        | .lift _ => .accepted
        | .halt => .accepted
        | .proceed => .accepted
        | .supervise => .accepted
        | .allHalt => .accepted
    let kept :=
      if s.radio.acks.length < 3 then s.radio.acks
      else if s.radio.sending = some .ack then s.radio.acks.take 1 ++ s.radio.acks.drop 2
      else s.radio.acks.tail
    ∃ t : State, exec c s = .next t ∧ t.radio.supervision = some (s.instant m) ∧ t.radio.status = .alive
      ∧ t.present .valleyLost = false ∧ t.radio.radioSequence = s.radio.radioSequence + 1
      ∧ t.radio.acks
        = kept
          ++ [{ address := s.straps.radioAddr, sequence := s.radio.radioSequence
                payload := .ack s.stationByte sequence result }]
      ∧ (∀ ack ∈ t.radio.acks.getLast?,
        ack.payload.wire.1 = 17
          ∧ ack.payload.wire.2
            = [s.stationByte, sequence
                , match result with | .accepted => 0 | .acceptedCeiling => 1 | .refusedRange => 2])
      ∧ t.radio.sending = s.radio.sending
      ∧ (sequence ∈ s.radio.window →
        t.radio.window = s.radio.window ∧ t.line = s.line ∧ onlyChanges [.valley, .faults, .outgoing] s t)
      ∧ (sequence ∉ s.radio.window →
        t.radio.window = (if s.radio.window.length < 16 then s.radio.window else s.radio.window.tail) ++ [sequence]
          ∧ (∀ n ∈ s.line.own, s.line.orders.length < 4 →
            t.line.orders = s.line.orders ++ [buildFrame n (.order sequence order.code order.payload)])
          ∧ (s.line.own.isSome = true → 4 ≤ s.line.orders.length →
            t.line.orders = s.line.orders ∧ t.present .lineCongestion = true)
          ∧ (s.line.own = none → t.line.orders = s.line.orders))

/-- Any valley order in an ORDER frame of another station ends the ORDER hold-off and enters the window if it is new;
it is neither acknowledged nor relayed and does not touch the supervision; a duplicate, an order of undefined
contents and an ORDER_FRAME_DISCARDED do nothing else. A frame under the own number is taken in the same way, and is an
occurrence of NUMBER_CLASH with the clash timer restarted. -/
def Obligations.LineOrdersAreTakenOnce : Prop :=
  ∀ (m : Moment) (source : Fin 8) (sequence valleyKind : Byte) (payload : List Byte) (order : ValleyOrder) (s : State),
    s.hears = true →
    let clash : State → Prop := fun t =>
      t.present .numberClash = true ∧ t.line.clashTimer = some (s.instant m)
        ∧ (s.present .numberClash = false → t.speed.localLimit = 0)
        ∧ t.faults.recordOf .numberClash = (s.faults.occur s.straps.strict .numberClash).recordOf .numberClash
    (∃ t : State, exec (orderCommand m (.line source) sequence order) s = .next t ∧ t.line.orderHoldOff = none
        ∧ t.radio.supervision = s.radio.supervision ∧ t.radio.status = s.radio.status ∧ t.radio.acks = s.radio.acks
        ∧ t.line.orders = s.line.orders
        ∧ (sequence ∉ s.radio.window → order.ok = true →
          t.radio.window = (if s.radio.window.length < 16 then s.radio.window else s.radio.window.tail) ++ [sequence])
        ∧ (s.line.own ≠ some source →
          t.line.clashTimer = s.line.clashTimer
            ∧ (sequence ∈ s.radio.window ∨ order.ok = false → onlyChanges [.transmission, .lineTimers] s t))
        ∧ (s.line.own = some source →
          clash t
            ∧ (sequence ∈ s.radio.window ∨ order.ok = false →
              t.faults = s.afterOccurrence m .numberClash t
                ∧ onlyChanges (Part.also Part.ofClassB [.transmission, .lineTimers, .quality]) s t)))
      ∧ (payload.length ≤ 16 → valleyOrder? valleyKind payload = none →
        ∃ t : State, exec (.orderFrameDiscarded m source sequence valleyKind payload) s = .next t
          ∧ t.line.orderHoldOff = none ∧ t.line.statePeriod = s.line.statePeriod
          ∧ t.line.joinRetry = s.line.joinRetry ∧ t.line.discards = s.line.discards
          ∧ (s.line.own ≠ some source → onlyChanges [.transmission, .lineTimers] s t)
          ∧ (s.line.own = some source →
            clash t ∧ t.faults = s.afterOccurrence m .numberClash t
              ∧ onlyChanges (Part.also Part.ofClassB [.transmission, .lineTimers, .quality]) s t))

/-- RESTRICT, new by either path: refused beyond the line; otherwise the entry of its id takes the new stretch and
limit in its place, or a new entry joins the list, unless it is passed; a full table lowers the overflow ceiling. The
local limit falls to the limit of an entry placed as covering or, for a replaced one that covered before, made lower, and
to an overflow ceiling that is set or lowered, and stands otherwise. LIFT, new, removes the entry of its id alone. -/
def Obligations.RestrictAndLiftChangeTable : Prop :=
  ∀ (m : Moment) (via : Via) (sequence : Byte) (orderId : BitVec 16) (start length : BitVec 24) (limit : BitVec 16)
    (s : State), s.takesOrder via = true → sequence ∉ s.radio.window →
    let stop := if length.toNat = 0 then 1000000 else min (start.toNat + length.toNat) 1000000
    let car := s.straps.carLen.toNat
    let placed : Restriction :=
      { orderId := orderId, start := start.toNat, stop := stop, limit := min 400 limit.toNat
        covering :=
          match s.position with
          | none => true
          | some pos => decide ((pos < stop ∨ stop = 1000000 ∧ pos ≤ 1000000) ∧ start.toNat ≤ pos + car) }
    let isPassed : Bool :=
      match s.position with
      | none => false
      | some pos =>
        decide (s.direction = .up ∧ stop < 1000000 ∧ stop ≤ pos ∨ s.direction = .down ∧ pos + car < start.toNat)
    (∃ t : State, exec (.restrict m via sequence orderId start length limit) s = .next t
        ∧ (1000000 < start.toNat → t.restrictions = s.restrictions ∧ t.speed.localLimit = s.speed.localLimit)
        ∧ (start.toNat ≤ 1000000 →
          ((∃ e ∈ s.restrictions.entries, e.orderId = orderId) →
              t.restrictions.overflow = s.restrictions.overflow
                ∧ (isPassed = false →
                  t.restrictions.entries
                    = s.restrictions.entries.map fun e => if e.orderId = orderId then placed else e)
                ∧ (isPassed = true →
                  t.restrictions.entries = s.restrictions.entries.filter fun e => e.orderId != orderId)
                ∧ (∀ old ∈ s.restrictions.entries.find? fun e => e.orderId == orderId,
                  t.speed.localLimit
                    = if isPassed = false ∧ placed.covering = true
                        ∧ (old.covering = false ∨ placed.limit < old.limit ∨ s.position = none) then
                      min s.speed.localLimit placed.limit
                    else s.speed.localLimit))
            ∧ ((∀ e ∈ s.restrictions.entries, e.orderId ≠ orderId) → s.restrictions.entries.length < 8 →
              t.restrictions
                  = { s.restrictions with
                      entries := s.restrictions.entries ++ (if isPassed then [] else [placed]) }
                ∧ t.speed.localLimit
                  = (if isPassed = false ∧ placed.covering = true then min s.speed.localLimit placed.limit
                    else s.speed.localLimit))
            ∧ ((∀ e ∈ s.restrictions.entries, e.orderId ≠ orderId) → 8 ≤ s.restrictions.entries.length →
              t.restrictions
                  = { s.restrictions with
                      overflow :=
                        some
                          (match s.restrictions.overflow with
                          | none => min 400 limit.toNat
                          | some c => min c (min 400 limit.toNat)) }
                ∧ t.present .restrictionOverflow = true
                ∧ (s.restrictions.overflow = none →
                  t.speed.localLimit = min s.speed.localLimit (min 400 limit.toNat))
                ∧ (∀ c ∈ s.restrictions.overflow,
                  t.speed.localLimit
                    = if min 400 limit.toNat < c then min s.speed.localLimit (min 400 limit.toNat)
                    else s.speed.localLimit)))
        ∧ onlyChanges (Part.also (Part.ofVia via) [.restrictions, .limit, .faults]) s t)
      ∧ (∃ t : State, exec (.lift m via sequence orderId) s = .next t
        ∧ t.restrictions
          = { s.restrictions with entries := s.restrictions.entries.filter fun e => e.orderId != orderId }
        ∧ onlyChanges (Part.also (Part.ofVia via) [.restrictions]) s t)

/-- HALT, ALL_HALT, PROCEED, PLATFORM_RELEASE and SUPERVISE, new by either path: the halts are occurrences of a class
B and a class A condition, counted in their records. PROCEED ends both where one is present and removes the VALLEY_HALT
record alone: every other record stays with its count and place. With neither present it has no effect in the fault
manager, also on a VALLEY_HALT record whose condition has gone before: that R161 governs this case is the model's reading
(log entry 33). By radio, the accepted frame first ends VALLEY_LOST, and a relay refused for a full ORDER slot is an
occurrence of LINE_CONGESTION. A platform release replaces the record or is refused beyond the line, SUPERVISE has no
consumer. -/
def Obligations.HaltsAndReleasesTakeEffect : Prop :=
  ∀ (m : Moment) (via : Via) (sequence side : Byte) (stop : BitVec 24) (s : State), s.takesOrder via = true →
    sequence ∉ s.radio.window →
    let accepted : Faults :=
      match via with
      | .radio _ => s.faults.going .valleyLost
      | .line _ => s.faults
    let relayed : Faults → Faults := fun f =>
      match via with
      | .radio _ =>
        if s.line.own.isSome = true ∧ 4 ≤ s.line.orders.length then f.occur s.straps.strict .lineCongestion else f
      | .line _ => f
    let halted : Bool := s.present .valleyHalt || s.present .valleyAllHalt
    (∃ t : State, exec (.halt m via sequence) s = .next t ∧ t.present .valleyHalt = true
        ∧ t.faults = relayed (s.latchReports m t (accepted.occur s.straps.strict .valleyHalt))
        ∧ (s.present .valleyHalt = false → t.speed.localLimit = 0)
        ∧ onlyChanges (Part.also (Part.ofVia via) Part.ofClassB) s t)
      ∧ (∃ t : State, exec (.allHalt m via sequence) s = .next t ∧ t.present .valleyAllHalt = true
        ∧ t.faults = relayed (s.latchReports m t (accepted.occur s.straps.strict .valleyAllHalt))
        ∧ (s.present .valleyAllHalt = false → t.brake.ownPull = true ∧ t.speed.localLimit = 0
          ∧ (s.brake.ownPull = false → t.brake.latch = true
            ∧ (s.brake.latch = false → t.brake.outputsFull ∧ t.brake.releasePending = false)
            ∧ (∀ n ∈ s.line.own,
              (if s.line.sending = some .alert then t.line.alertBehind else t.line.alert)
                = some (buildFrame n (.alert 4 (BitVec.ofNat 8 (n.val + 1)))))))
        ∧ onlyChanges (Part.also (Part.ofVia via) Part.ofClassA) s t)
      ∧ (∃ t : State, exec (.proceed m via sequence) s = .next t ∧ t.present .valleyHalt = false
        ∧ t.present .valleyAllHalt = false ∧ t.brake = s.brake
        ∧ (halted = true → ∀ r ∈ t.faults.table, r.kind ≠ .valleyHalt)
        ∧ (halted = true → s.permitsOk →
          t.faults
            = relayed
                { (accepted.going .valleyHalt).going .valleyAllHalt with
                  table :=
                    ((accepted.going .valleyHalt).going .valleyAllHalt).table.filter fun r => r.kind != .valleyHalt })
        ∧ (halted = false → t.faults = relayed accepted ∧ onlyChanges (Part.ofVia via) s t)
        ∧ onlyChanges (Part.also (Part.ofVia via) Part.ofClassB) s t)
      ∧ (side.toNat ≤ 1 →
        ∃ t : State, exec (.platformRelease m via sequence side stop) s = .next t
          ∧ (stop.toNat ≤ 1000000 →
            t.radio.platform
              = some { side := if side = 0 then .l else .r, stop := stop.toNat, sequence := sequence })
          ∧ (1000000 < stop.toNat → onlyChanges (Part.ofVia via) s t)
          ∧ onlyChanges (Part.also (Part.ofVia via) [.platform, .doors, .sideReleases, .mass, .faults]) s t)
      ∧ (∃ t : State, exec (.supervise m via sequence) s = .next t
        ∧ onlyChanges (Part.ofVia via) s t)

/-! ## Faults, supply and starts -/

/-- One occurrence of a kind in the fault manager: its flag alone becomes set; its record counts to 255 and keeps its
place, or joins as the newest, in a full table in the place of the oldest inactive class C record, and not at all
where there is none. A presence without occurrence counts nothing and is recorded in the same way with count 0. A
going clears the flag and the record's active flag, and nothing if the condition is absent. No kind ever has two
records. -/
def Obligations.OccurrencesMakeRecords : Prop :=
  ∀ (strict : Bool) (k other : FaultKind) (f : Faults), faultTableOk f.table →
    ((f.occur strict k).present k = true ∧ (other ≠ k → (f.occur strict k).present other = f.present other))
      ∧ ((∃ r ∈ f.table, r.kind = k) →
        (f.occur strict k).table
          = f.table.map fun r => if r.kind = k then { r with active := true, count := min 255 (r.count + 1) } else r)
      ∧ ((∀ r ∈ f.table, r.kind ≠ k) → f.table.length < 16 →
        (f.occur strict k).table
          = f.table ++ [{ kind := k, cls := faultClassOf strict k, active := true, count := 1 }])
      ∧ ((∀ r ∈ f.table, r.kind ≠ k) → f.table.length = 16 → (∀ r ∈ f.table, r.cls = .c → r.active = true) →
        (f.occur strict k).table = f.table)
      ∧ ((∀ r ∈ f.table, r.kind ≠ k) → f.table.length = 16 →
        ∀ r ∈ f.table.find? fun r => r.cls == .c && !r.active,
          (f.occur strict k).table
            = (f.table.filter fun q => q.kind != r.kind)
              ++ [{ kind := k, cls := faultClassOf strict k, active := true, count := 1 }])
      ∧ ((f.note strict k).present k = true ∧ (other ≠ k → (f.note strict k).present other = f.present other)
        ∧ ((∃ r ∈ f.table, r.kind = k) →
          (f.note strict k).table = f.table.map fun r => if r.kind = k then { r with active := true } else r)
        ∧ ((∀ r ∈ f.table, r.kind ≠ k) → f.table.length < 16 →
          (f.note strict k).table
            = f.table ++ [{ kind := k, cls := faultClassOf strict k, active := true, count := 0 }])
        ∧ ((∀ r ∈ f.table, r.kind ≠ k) → f.table.length = 16 → (∀ r ∈ f.table, r.cls = .c → r.active = true) →
          (f.note strict k).table = f.table)
        ∧ ((∀ r ∈ f.table, r.kind ≠ k) → f.table.length = 16 →
          ∀ r ∈ f.table.find? fun r => r.cls == .c && !r.active,
            (f.note strict k).table
              = (f.table.filter fun q => q.kind != r.kind)
                ++ [{ kind := k, cls := faultClassOf strict k, active := true, count := 0 }]))
      ∧ ((f.going k).present k = false ∧ (other ≠ k → (f.going k).present other = f.present other)
        ∧ (f.present k = false → f.going k = f)
        ∧ (f.present k = true →
          (f.going k).table = f.table.map fun r => if r.kind = k then { r with active := false } else r))
      ∧ faultTableOk (f.occur strict k).table ∧ faultTableOk (f.note strict k).table ∧ faultTableOk (f.going k).table

/-- SUPPLY_WARN from GOOD, SUPPLY_GOOD, DROP_OUT and STORE_HOLDUP_EXPIRY: the controlled stop with SUPPLY_FAIL and a
valid store; its end; the loss of everything but the store, with every output FULL; the end of the store's validity.
The model's own: a warning in RESUMING changes the level alone (log entry 22), a second warning too (27), the onset write
is whole at the warning (30), and after the loss the part reads no own number and no chain-out (7). -/
def Obligations.SupplyRunsAndEndsStop : Prop :=
  ∀ (m : Moment) (s : State),
    (s.running = true → s.pins.levels.supplyWarn = false → s.station.life ≠ .resuming →
        ∃ t : State, exec (.supplyWarn m) s = .next t ∧ t.pins.levels = { s.pins.levels with supplyWarn := true }
          ∧ t.present .supplyFail = true ∧ t.station = { s.station with storing := true } ∧ t.store.valid = true
          ∧ t.store.items = t.capture ∧ t.store.check = storeCheck t.straps t.capture
          ∧ (s.present .supplyFail = false → t.brake.ownPull = true ∧ t.speed.localLimit = 0
            ∧ (s.brake.ownPull = false → t.brake.latch = true))
          ∧ onlyChanges (Part.also Part.ofClassA [.levels, .station, .store]) s t)
      ∧ (s.running = true → s.pins.levels.supplyWarn = true ∨ s.station.life = .resuming →
        ∃ t : State, exec (.supplyWarn m) s = .next t ∧ t.pins.levels = { s.pins.levels with supplyWarn := true }
          ∧ onlyChanges [.levels] s t)
      ∧ (s.running = true →
        ∃ t : State, exec (.supplyGood m) s = .next t ∧ t.pins.levels = { s.pins.levels with supplyWarn := false }
          ∧ t.present .supplyFail = false ∧ t.station = { s.station with storing := false }
          ∧ t.store = { s.store with valid := false } ∧ t.brake.latch = s.brake.latch
          ∧ t.brake.ownPull = s.brake.ownPull
          ∧ onlyChanges (Part.also Part.ofClassB [.levels, .station, .store]) s t)
      ∧ (s.station.life ≠ .off →
        ∃ t : State, exec (.dropOut m) s = .next t
          ∧ t.station = { life := .off, storing := false, droppedAt := some (s.instant m) } ∧ t.store = s.store
          ∧ t.brake.outputsFull ∧ t.running = false ∧ t.line.own = none ∧ t.line.chainOut = false)
      ∧ (s.station.life = .off → timerReached s.station.droppedAt (s.instant m) (ms 30000) = true →
        ∃ t : State, exec (.storeHoldupExpiry m) s = .next t ∧ t.store = { s.store with valid := false }
          ∧ onlyChanges [.store] s t)

/-- POWER_ON and STRAPS_READ: with a valid store under its check and a retained number the station resumes with every
retained item, the fault table with its active flags cleared and then the conditions of the start reported, else it is
COLD; the straps are copied and a cold start begins JOINING, or with a warned supply stops. At both starts the doors are
those that the isolation inputs, the switches and the handles ask for, with latch pending. The model's own: the derated
capacities before the first brake cycle are those of R115's table (log entry 5), the write of the strap copy leaves the
store's items, which count in the rewritten check as they stand (log entry 37), the conditions of a warm restart are
reported in the order POSITION_UNKNOWN, BRAKE_FADE, PINION_FAILED, RESTRICTION_OVERFLOW (log entry 15), the operand flips
stands for what the store lost (log entry 17), the store that a warned supply begins is valid at once (log entry 30), and
a loop pulled since before the start sets no latch (log entry 32). -/
def Obligations.StartsTakeStoreOrStraps : Prop :=
  ∀ (m : Moment) (straps : Straps) (levels : Levels) (flips : BitVec 16) (s : State),
    (s.station.life = .off →
        ∃ t : State, exec (.powerOn m levels flips) s = .next t ∧ t.pins.levels = levels ∧ t.store.valid = false
          ∧ t.straps = s.straps ∧ t.store.items = s.store.items ∧ t.brake.outputsFull ∧ t.brake.applied = true
          ∧ t.rack.standstill = true ∧ t.rack.known = false ∧ t.speed.localLimit = 0
          ∧ (s.store.valid = false ∨ s.store.items.own = none
              ∨ storeCheck s.straps s.store.items ≠ s.store.check ^^^ flips →
            t.station.life = .cold ∧ t.faults.table = [] ∧ t.line.own = none)
          ∧ (∀ n ∈ s.store.items.own, s.store.valid = true →
            storeCheck s.straps s.store.items = s.store.check ^^^ flips →
            t.station.life = .resuming ∧ t.line.own = some n ∧ t.line.phase = .joinWaiting ∧ t.line.rejoin = true
              ∧ t.line.stateSlot.isSome = true ∧ t.peers[n] = { PeerEntry.blank with state := .self }
              ∧ (∀ i : Fin 8, i ≠ n →
                t.peers[i]
                  = match s.store.items.peers.getD i.val none with
                    | some (kind, tare) =>
                      { state := .joined, kind := kind, tare := tare, contents := none, ageFrom := some (s.instant m)
                        lastAlert := none }
                    | none => PeerEntry.blank)
              ∧ (∀ p : Pinion,
                (t.brake.pinions.get p).energy = s.store.items.energies.get p
                  ∧ (t.brake.pinions.get p).failed = s.store.items.failed.get p
                  ∧ (s.store.items.failed.get p = true → (t.brake.pinions.get p).derated = 0)
                  ∧ (s.store.items.failed.get p = false →
                    let energy := s.store.items.energies.get p
                    let nominal := 20000 + s.straps.pinionNom.toNat * 5000
                    (energy ≤ 4000000 → (t.brake.pinions.get p).derated = nominal)
                      ∧ (4000000 < energy → energy < 12000000 →
                        (t.brake.pinions.get p).derated = nominal - nominal * (energy - 4000000) / 16000000)
                      ∧ (12000000 ≤ energy → (t.brake.pinions.get p).derated = nominal / 2)))
              ∧ t.brake.latch = s.store.items.latch
              ∧ t.brake.proof = { s.store.items.proof with lastRefusal := .none, refusals := 0 }
              ∧ (s.store.items.windows.p1.status ≠ .sweeping →
                t.engagement.pinions.p1.window = s.store.items.windows.p1)
              ∧ (s.store.items.windows.p2.status ≠ .sweeping →
                t.engagement.pinions.p2.window = s.store.items.windows.p2)
              ∧ (∀ p : Pinion, (s.store.items.windows.get p).status = .sweeping →
                (t.engagement.pinions.get p).window = { s.store.items.windows.get p with status := .invalid })
              ∧ t.restrictions
                = { entries := s.store.items.restrictions.entries.map fun e => { e with covering := true }
                    overflow := s.store.items.restrictions.overflow }
              ∧ t.radio.window = s.store.items.window ∧ t.doors.mass = s.store.items.mass ∧ t.doorsBegun levels (s.instant m)
              ∧ t.present .positionUnknown = true
              ∧ t.present .pinionFailed = (s.store.items.failed.p1 || s.store.items.failed.p2)
              ∧ t.present .restrictionOverflow = s.store.items.restrictions.overflow.isSome
              ∧ t.present .brakeFade
                = decide (12000000 ≤ s.store.items.energies.p1 ∨ 12000000 ≤ s.store.items.energies.p2)
              ∧ (∀ k : FaultKind, k ≠ .positionUnknown → k ≠ .pinionFailed → k ≠ .restrictionOverflow → k ≠ .brakeFade →
                t.present k = false)
              ∧ (let strict := s.straps.strict
                let begun : Faults :=
                  { flags := Vector.replicate 29 false
                    table := s.store.items.faults.map fun r => { r with active := false } }
                let known := begun.occur strict .positionUnknown
                let faded := if t.present .brakeFade then known.note strict .brakeFade else known
                let failed := if t.present .pinionFailed then faded.note strict .pinionFailed else faded
                t.faults = if t.present .restrictionOverflow then failed.note strict .restrictionOverflow else failed)
              ∧ (∀ r ∈ s.store.items.faults, r.cls ≠ .c → r.kind ≠ .positionUnknown →
                ∃ q ∈ t.faults.table, q.kind = r.kind ∧ q.cls = r.cls ∧ q.count = r.count
                  ∧ (faultTableOk s.store.items.faults → q.active = t.present r.kind))))
      ∧ (s.station.life = .cold →
        ∃ t : State, exec (.strapsRead m straps levels) s = .next t ∧ t.pins.levels = levels ∧ t.straps = straps
          ∧ t.station.life = .joining ∧ t.line.phase = .listening ∧ t.line.listenTimer = some (s.instant m)
          ∧ t.line.senseA.filtered = levels.senseA ∧ t.line.senseB.filtered = levels.senseB ∧ t.line.own = none
          ∧ t.brake.outputsFull ∧ t.brake.applied = true ∧ t.rack.standstill = true
          ∧ t.doors.mass = 18000 + straps.tare.toNat * 100 ∧ t.speed.localLimit = 0
          ∧ (∀ p : Pinion, (t.brake.pinions.get p).derated = 20000 + straps.pinionNom.toNat * 5000)
          ∧ t.present .positionUnknown = true
          ∧ t.radio.status = (if straps.radio = true ∧ straps.radioAddr ≠ 0 ∧ straps.radioAddr ≠ 255 then .lost else .notFitted)
          ∧ t.doorsBegun levels (s.instant m) ∧ t.present .doorTimeout = false ∧ t.present .doorObstructed = false
          ∧ t.present .doorForced = false ∧ t.present .loadSensor = false
          ∧ t.store.check = storeCheck straps t.store.items
          ∧ (levels.supplyWarn = true → t.present .supplyFail = true ∧ t.brake.latch = true ∧ t.store.valid = true)
          ∧ (levels.supplyWarn = false → t.brake.latch = false ∧ t.station.storing = false
            ∧ t.store = { s.store with straps := straps, check := storeCheck straps s.store.items }))
end

