-- ==== Sys2Proof/Laws/State.lean ====
section
/-! SUPPORT. One lemma per field per named update of the state, each true by unfolding. -/

namespace Sys2Proof.Machine

variable (s : State)

/-! ### setPending -/

@[simp] theorem State.setPending_pending (v : List Instr) : (s.setPending v).pending = v := rfl
@[simp] theorem State.setPending_clock (v : List Instr) : (s.setPending v).clock = s.clock := rfl
@[simp] theorem State.setPending_freeCount (v : List Instr) : (s.setPending v).freeCount = s.freeCount := rfl
@[simp] theorem State.setPending_pins (v : List Instr) : (s.setPending v).pins = s.pins := rfl
@[simp] theorem State.setPending_rack (v : List Instr) : (s.setPending v).rack = s.rack := rfl
@[simp] theorem State.setPending_engagement (v : List Instr) : (s.setPending v).engagement = s.engagement := rfl
@[simp] theorem State.setPending_line (v : List Instr) : (s.setPending v).line = s.line := rfl
@[simp] theorem State.setPending_peers (v : List Instr) : (s.setPending v).peers = s.peers := rfl
@[simp] theorem State.setPending_speed (v : List Instr) : (s.setPending v).speed = s.speed := rfl
@[simp] theorem State.setPending_brake (v : List Instr) : (s.setPending v).brake = s.brake := rfl
@[simp] theorem State.setPending_doors (v : List Instr) : (s.setPending v).doors = s.doors := rfl
@[simp] theorem State.setPending_radio (v : List Instr) : (s.setPending v).radio = s.radio := rfl
@[simp] theorem State.setPending_restrictions (v : List Instr) : (s.setPending v).restrictions = s.restrictions := rfl
@[simp] theorem State.setPending_faults (v : List Instr) : (s.setPending v).faults = s.faults := rfl
@[simp] theorem State.setPending_station (v : List Instr) : (s.setPending v).station = s.station := rfl
@[simp] theorem State.setPending_store (v : List Instr) : (s.setPending v).store = s.store := rfl

/-! ### setClock -/

@[simp] theorem State.setClock_pending (v : Nat) : (s.setClock v).pending = s.pending := rfl
@[simp] theorem State.setClock_clock (v : Nat) : (s.setClock v).clock = v := rfl
@[simp] theorem State.setClock_freeCount (v : Nat) : (s.setClock v).freeCount = s.freeCount := rfl
@[simp] theorem State.setClock_pins (v : Nat) : (s.setClock v).pins = s.pins := rfl
@[simp] theorem State.setClock_rack (v : Nat) : (s.setClock v).rack = s.rack := rfl
@[simp] theorem State.setClock_engagement (v : Nat) : (s.setClock v).engagement = s.engagement := rfl
@[simp] theorem State.setClock_line (v : Nat) : (s.setClock v).line = s.line := rfl
@[simp] theorem State.setClock_peers (v : Nat) : (s.setClock v).peers = s.peers := rfl
@[simp] theorem State.setClock_speed (v : Nat) : (s.setClock v).speed = s.speed := rfl
@[simp] theorem State.setClock_brake (v : Nat) : (s.setClock v).brake = s.brake := rfl
@[simp] theorem State.setClock_doors (v : Nat) : (s.setClock v).doors = s.doors := rfl
@[simp] theorem State.setClock_radio (v : Nat) : (s.setClock v).radio = s.radio := rfl
@[simp] theorem State.setClock_restrictions (v : Nat) : (s.setClock v).restrictions = s.restrictions := rfl
@[simp] theorem State.setClock_faults (v : Nat) : (s.setClock v).faults = s.faults := rfl
@[simp] theorem State.setClock_station (v : Nat) : (s.setClock v).station = s.station := rfl
@[simp] theorem State.setClock_store (v : Nat) : (s.setClock v).store = s.store := rfl

/-! ### setFreeCount -/

@[simp] theorem State.setFreeCount_pending (v : Nat) : (s.setFreeCount v).pending = s.pending := rfl
@[simp] theorem State.setFreeCount_clock (v : Nat) : (s.setFreeCount v).clock = s.clock := rfl
@[simp] theorem State.setFreeCount_freeCount (v : Nat) : (s.setFreeCount v).freeCount = v := rfl
@[simp] theorem State.setFreeCount_pins (v : Nat) : (s.setFreeCount v).pins = s.pins := rfl
@[simp] theorem State.setFreeCount_rack (v : Nat) : (s.setFreeCount v).rack = s.rack := rfl
@[simp] theorem State.setFreeCount_engagement (v : Nat) : (s.setFreeCount v).engagement = s.engagement := rfl
@[simp] theorem State.setFreeCount_line (v : Nat) : (s.setFreeCount v).line = s.line := rfl
@[simp] theorem State.setFreeCount_peers (v : Nat) : (s.setFreeCount v).peers = s.peers := rfl
@[simp] theorem State.setFreeCount_speed (v : Nat) : (s.setFreeCount v).speed = s.speed := rfl
@[simp] theorem State.setFreeCount_brake (v : Nat) : (s.setFreeCount v).brake = s.brake := rfl
@[simp] theorem State.setFreeCount_doors (v : Nat) : (s.setFreeCount v).doors = s.doors := rfl
@[simp] theorem State.setFreeCount_radio (v : Nat) : (s.setFreeCount v).radio = s.radio := rfl
@[simp] theorem State.setFreeCount_restrictions (v : Nat) : (s.setFreeCount v).restrictions = s.restrictions := rfl
@[simp] theorem State.setFreeCount_faults (v : Nat) : (s.setFreeCount v).faults = s.faults := rfl
@[simp] theorem State.setFreeCount_station (v : Nat) : (s.setFreeCount v).station = s.station := rfl
@[simp] theorem State.setFreeCount_store (v : Nat) : (s.setFreeCount v).store = s.store := rfl

/-! ### setPins -/

@[simp] theorem State.setPins_pending (v : Pins) : (s.setPins v).pending = s.pending := rfl
@[simp] theorem State.setPins_clock (v : Pins) : (s.setPins v).clock = s.clock := rfl
@[simp] theorem State.setPins_freeCount (v : Pins) : (s.setPins v).freeCount = s.freeCount := rfl
@[simp] theorem State.setPins_pins (v : Pins) : (s.setPins v).pins = v := rfl
@[simp] theorem State.setPins_rack (v : Pins) : (s.setPins v).rack = s.rack := rfl
@[simp] theorem State.setPins_engagement (v : Pins) : (s.setPins v).engagement = s.engagement := rfl
@[simp] theorem State.setPins_line (v : Pins) : (s.setPins v).line = s.line := rfl
@[simp] theorem State.setPins_peers (v : Pins) : (s.setPins v).peers = s.peers := rfl
@[simp] theorem State.setPins_speed (v : Pins) : (s.setPins v).speed = s.speed := rfl
@[simp] theorem State.setPins_brake (v : Pins) : (s.setPins v).brake = s.brake := rfl
@[simp] theorem State.setPins_doors (v : Pins) : (s.setPins v).doors = s.doors := rfl
@[simp] theorem State.setPins_radio (v : Pins) : (s.setPins v).radio = s.radio := rfl
@[simp] theorem State.setPins_restrictions (v : Pins) : (s.setPins v).restrictions = s.restrictions := rfl
@[simp] theorem State.setPins_faults (v : Pins) : (s.setPins v).faults = s.faults := rfl
@[simp] theorem State.setPins_station (v : Pins) : (s.setPins v).station = s.station := rfl
@[simp] theorem State.setPins_store (v : Pins) : (s.setPins v).store = s.store := rfl

/-! ### setRack -/

@[simp] theorem State.setRack_pending (v : Rack) : (s.setRack v).pending = s.pending := rfl
@[simp] theorem State.setRack_clock (v : Rack) : (s.setRack v).clock = s.clock := rfl
@[simp] theorem State.setRack_freeCount (v : Rack) : (s.setRack v).freeCount = s.freeCount := rfl
@[simp] theorem State.setRack_pins (v : Rack) : (s.setRack v).pins = s.pins := rfl
@[simp] theorem State.setRack_rack (v : Rack) : (s.setRack v).rack = v := rfl
@[simp] theorem State.setRack_engagement (v : Rack) : (s.setRack v).engagement = s.engagement := rfl
@[simp] theorem State.setRack_line (v : Rack) : (s.setRack v).line = s.line := rfl
@[simp] theorem State.setRack_peers (v : Rack) : (s.setRack v).peers = s.peers := rfl
@[simp] theorem State.setRack_speed (v : Rack) : (s.setRack v).speed = s.speed := rfl
@[simp] theorem State.setRack_brake (v : Rack) : (s.setRack v).brake = s.brake := rfl
@[simp] theorem State.setRack_doors (v : Rack) : (s.setRack v).doors = s.doors := rfl
@[simp] theorem State.setRack_radio (v : Rack) : (s.setRack v).radio = s.radio := rfl
@[simp] theorem State.setRack_restrictions (v : Rack) : (s.setRack v).restrictions = s.restrictions := rfl
@[simp] theorem State.setRack_faults (v : Rack) : (s.setRack v).faults = s.faults := rfl
@[simp] theorem State.setRack_station (v : Rack) : (s.setRack v).station = s.station := rfl
@[simp] theorem State.setRack_store (v : Rack) : (s.setRack v).store = s.store := rfl

/-! ### setEngagement -/

@[simp] theorem State.setEngagement_pending (v : Engagement) : (s.setEngagement v).pending = s.pending := rfl
@[simp] theorem State.setEngagement_clock (v : Engagement) : (s.setEngagement v).clock = s.clock := rfl
@[simp] theorem State.setEngagement_freeCount (v : Engagement) : (s.setEngagement v).freeCount = s.freeCount := rfl
@[simp] theorem State.setEngagement_pins (v : Engagement) : (s.setEngagement v).pins = s.pins := rfl
@[simp] theorem State.setEngagement_rack (v : Engagement) : (s.setEngagement v).rack = s.rack := rfl
@[simp] theorem State.setEngagement_engagement (v : Engagement) : (s.setEngagement v).engagement = v := rfl
@[simp] theorem State.setEngagement_line (v : Engagement) : (s.setEngagement v).line = s.line := rfl
@[simp] theorem State.setEngagement_peers (v : Engagement) : (s.setEngagement v).peers = s.peers := rfl
@[simp] theorem State.setEngagement_speed (v : Engagement) : (s.setEngagement v).speed = s.speed := rfl
@[simp] theorem State.setEngagement_brake (v : Engagement) : (s.setEngagement v).brake = s.brake := rfl
@[simp] theorem State.setEngagement_doors (v : Engagement) : (s.setEngagement v).doors = s.doors := rfl
@[simp] theorem State.setEngagement_radio (v : Engagement) : (s.setEngagement v).radio = s.radio := rfl
@[simp] theorem State.setEngagement_restrictions (v : Engagement) : (s.setEngagement v).restrictions = s.restrictions := rfl
@[simp] theorem State.setEngagement_faults (v : Engagement) : (s.setEngagement v).faults = s.faults := rfl
@[simp] theorem State.setEngagement_station (v : Engagement) : (s.setEngagement v).station = s.station := rfl
@[simp] theorem State.setEngagement_store (v : Engagement) : (s.setEngagement v).store = s.store := rfl

/-! ### setLine -/

@[simp] theorem State.setLine_pending (v : Line) : (s.setLine v).pending = s.pending := rfl
@[simp] theorem State.setLine_clock (v : Line) : (s.setLine v).clock = s.clock := rfl
@[simp] theorem State.setLine_freeCount (v : Line) : (s.setLine v).freeCount = s.freeCount := rfl
@[simp] theorem State.setLine_pins (v : Line) : (s.setLine v).pins = s.pins := rfl
@[simp] theorem State.setLine_rack (v : Line) : (s.setLine v).rack = s.rack := rfl
@[simp] theorem State.setLine_engagement (v : Line) : (s.setLine v).engagement = s.engagement := rfl
@[simp] theorem State.setLine_line (v : Line) : (s.setLine v).line = v := rfl
@[simp] theorem State.setLine_peers (v : Line) : (s.setLine v).peers = s.peers := rfl
@[simp] theorem State.setLine_speed (v : Line) : (s.setLine v).speed = s.speed := rfl
@[simp] theorem State.setLine_brake (v : Line) : (s.setLine v).brake = s.brake := rfl
@[simp] theorem State.setLine_doors (v : Line) : (s.setLine v).doors = s.doors := rfl
@[simp] theorem State.setLine_radio (v : Line) : (s.setLine v).radio = s.radio := rfl
@[simp] theorem State.setLine_restrictions (v : Line) : (s.setLine v).restrictions = s.restrictions := rfl
@[simp] theorem State.setLine_faults (v : Line) : (s.setLine v).faults = s.faults := rfl
@[simp] theorem State.setLine_station (v : Line) : (s.setLine v).station = s.station := rfl
@[simp] theorem State.setLine_store (v : Line) : (s.setLine v).store = s.store := rfl

/-! ### setPeers -/

@[simp] theorem State.setPeers_pending (v : Vector PeerEntry 8) : (s.setPeers v).pending = s.pending := rfl
@[simp] theorem State.setPeers_clock (v : Vector PeerEntry 8) : (s.setPeers v).clock = s.clock := rfl
@[simp] theorem State.setPeers_freeCount (v : Vector PeerEntry 8) : (s.setPeers v).freeCount = s.freeCount := rfl
@[simp] theorem State.setPeers_pins (v : Vector PeerEntry 8) : (s.setPeers v).pins = s.pins := rfl
@[simp] theorem State.setPeers_rack (v : Vector PeerEntry 8) : (s.setPeers v).rack = s.rack := rfl
@[simp] theorem State.setPeers_engagement (v : Vector PeerEntry 8) : (s.setPeers v).engagement = s.engagement := rfl
@[simp] theorem State.setPeers_line (v : Vector PeerEntry 8) : (s.setPeers v).line = s.line := rfl
@[simp] theorem State.setPeers_peers (v : Vector PeerEntry 8) : (s.setPeers v).peers = v := rfl
@[simp] theorem State.setPeers_speed (v : Vector PeerEntry 8) : (s.setPeers v).speed = s.speed := rfl
@[simp] theorem State.setPeers_brake (v : Vector PeerEntry 8) : (s.setPeers v).brake = s.brake := rfl
@[simp] theorem State.setPeers_doors (v : Vector PeerEntry 8) : (s.setPeers v).doors = s.doors := rfl
@[simp] theorem State.setPeers_radio (v : Vector PeerEntry 8) : (s.setPeers v).radio = s.radio := rfl
@[simp] theorem State.setPeers_restrictions (v : Vector PeerEntry 8) : (s.setPeers v).restrictions = s.restrictions := rfl
@[simp] theorem State.setPeers_faults (v : Vector PeerEntry 8) : (s.setPeers v).faults = s.faults := rfl
@[simp] theorem State.setPeers_station (v : Vector PeerEntry 8) : (s.setPeers v).station = s.station := rfl
@[simp] theorem State.setPeers_store (v : Vector PeerEntry 8) : (s.setPeers v).store = s.store := rfl

/-! ### setSpeed -/

@[simp] theorem State.setSpeed_pending (v : Speed) : (s.setSpeed v).pending = s.pending := rfl
@[simp] theorem State.setSpeed_clock (v : Speed) : (s.setSpeed v).clock = s.clock := rfl
@[simp] theorem State.setSpeed_freeCount (v : Speed) : (s.setSpeed v).freeCount = s.freeCount := rfl
@[simp] theorem State.setSpeed_pins (v : Speed) : (s.setSpeed v).pins = s.pins := rfl
@[simp] theorem State.setSpeed_rack (v : Speed) : (s.setSpeed v).rack = s.rack := rfl
@[simp] theorem State.setSpeed_engagement (v : Speed) : (s.setSpeed v).engagement = s.engagement := rfl
@[simp] theorem State.setSpeed_line (v : Speed) : (s.setSpeed v).line = s.line := rfl
@[simp] theorem State.setSpeed_peers (v : Speed) : (s.setSpeed v).peers = s.peers := rfl
@[simp] theorem State.setSpeed_speed (v : Speed) : (s.setSpeed v).speed = v := rfl
@[simp] theorem State.setSpeed_brake (v : Speed) : (s.setSpeed v).brake = s.brake := rfl
@[simp] theorem State.setSpeed_doors (v : Speed) : (s.setSpeed v).doors = s.doors := rfl
@[simp] theorem State.setSpeed_radio (v : Speed) : (s.setSpeed v).radio = s.radio := rfl
@[simp] theorem State.setSpeed_restrictions (v : Speed) : (s.setSpeed v).restrictions = s.restrictions := rfl
@[simp] theorem State.setSpeed_faults (v : Speed) : (s.setSpeed v).faults = s.faults := rfl
@[simp] theorem State.setSpeed_station (v : Speed) : (s.setSpeed v).station = s.station := rfl
@[simp] theorem State.setSpeed_store (v : Speed) : (s.setSpeed v).store = s.store := rfl

/-! ### setBrake -/

@[simp] theorem State.setBrake_pending (v : Brake) : (s.setBrake v).pending = s.pending := rfl
@[simp] theorem State.setBrake_clock (v : Brake) : (s.setBrake v).clock = s.clock := rfl
@[simp] theorem State.setBrake_freeCount (v : Brake) : (s.setBrake v).freeCount = s.freeCount := rfl
@[simp] theorem State.setBrake_pins (v : Brake) : (s.setBrake v).pins = s.pins := rfl
@[simp] theorem State.setBrake_rack (v : Brake) : (s.setBrake v).rack = s.rack := rfl
@[simp] theorem State.setBrake_engagement (v : Brake) : (s.setBrake v).engagement = s.engagement := rfl
@[simp] theorem State.setBrake_line (v : Brake) : (s.setBrake v).line = s.line := rfl
@[simp] theorem State.setBrake_peers (v : Brake) : (s.setBrake v).peers = s.peers := rfl
@[simp] theorem State.setBrake_speed (v : Brake) : (s.setBrake v).speed = s.speed := rfl
@[simp] theorem State.setBrake_brake (v : Brake) : (s.setBrake v).brake = v := rfl
@[simp] theorem State.setBrake_doors (v : Brake) : (s.setBrake v).doors = s.doors := rfl
@[simp] theorem State.setBrake_radio (v : Brake) : (s.setBrake v).radio = s.radio := rfl
@[simp] theorem State.setBrake_restrictions (v : Brake) : (s.setBrake v).restrictions = s.restrictions := rfl
@[simp] theorem State.setBrake_faults (v : Brake) : (s.setBrake v).faults = s.faults := rfl
@[simp] theorem State.setBrake_station (v : Brake) : (s.setBrake v).station = s.station := rfl
@[simp] theorem State.setBrake_store (v : Brake) : (s.setBrake v).store = s.store := rfl

/-! ### setDoors -/

@[simp] theorem State.setDoors_pending (v : DoorControl) : (s.setDoors v).pending = s.pending := rfl
@[simp] theorem State.setDoors_clock (v : DoorControl) : (s.setDoors v).clock = s.clock := rfl
@[simp] theorem State.setDoors_freeCount (v : DoorControl) : (s.setDoors v).freeCount = s.freeCount := rfl
@[simp] theorem State.setDoors_pins (v : DoorControl) : (s.setDoors v).pins = s.pins := rfl
@[simp] theorem State.setDoors_rack (v : DoorControl) : (s.setDoors v).rack = s.rack := rfl
@[simp] theorem State.setDoors_engagement (v : DoorControl) : (s.setDoors v).engagement = s.engagement := rfl
@[simp] theorem State.setDoors_line (v : DoorControl) : (s.setDoors v).line = s.line := rfl
@[simp] theorem State.setDoors_peers (v : DoorControl) : (s.setDoors v).peers = s.peers := rfl
@[simp] theorem State.setDoors_speed (v : DoorControl) : (s.setDoors v).speed = s.speed := rfl
@[simp] theorem State.setDoors_brake (v : DoorControl) : (s.setDoors v).brake = s.brake := rfl
@[simp] theorem State.setDoors_doors (v : DoorControl) : (s.setDoors v).doors = v := rfl
@[simp] theorem State.setDoors_radio (v : DoorControl) : (s.setDoors v).radio = s.radio := rfl
@[simp] theorem State.setDoors_restrictions (v : DoorControl) : (s.setDoors v).restrictions = s.restrictions := rfl
@[simp] theorem State.setDoors_faults (v : DoorControl) : (s.setDoors v).faults = s.faults := rfl
@[simp] theorem State.setDoors_station (v : DoorControl) : (s.setDoors v).station = s.station := rfl
@[simp] theorem State.setDoors_store (v : DoorControl) : (s.setDoors v).store = s.store := rfl

/-! ### setRadio -/

@[simp] theorem State.setRadio_pending (v : Radio) : (s.setRadio v).pending = s.pending := rfl
@[simp] theorem State.setRadio_clock (v : Radio) : (s.setRadio v).clock = s.clock := rfl
@[simp] theorem State.setRadio_freeCount (v : Radio) : (s.setRadio v).freeCount = s.freeCount := rfl
@[simp] theorem State.setRadio_pins (v : Radio) : (s.setRadio v).pins = s.pins := rfl
@[simp] theorem State.setRadio_rack (v : Radio) : (s.setRadio v).rack = s.rack := rfl
@[simp] theorem State.setRadio_engagement (v : Radio) : (s.setRadio v).engagement = s.engagement := rfl
@[simp] theorem State.setRadio_line (v : Radio) : (s.setRadio v).line = s.line := rfl
@[simp] theorem State.setRadio_peers (v : Radio) : (s.setRadio v).peers = s.peers := rfl
@[simp] theorem State.setRadio_speed (v : Radio) : (s.setRadio v).speed = s.speed := rfl
@[simp] theorem State.setRadio_brake (v : Radio) : (s.setRadio v).brake = s.brake := rfl
@[simp] theorem State.setRadio_doors (v : Radio) : (s.setRadio v).doors = s.doors := rfl
@[simp] theorem State.setRadio_radio (v : Radio) : (s.setRadio v).radio = v := rfl
@[simp] theorem State.setRadio_restrictions (v : Radio) : (s.setRadio v).restrictions = s.restrictions := rfl
@[simp] theorem State.setRadio_faults (v : Radio) : (s.setRadio v).faults = s.faults := rfl
@[simp] theorem State.setRadio_station (v : Radio) : (s.setRadio v).station = s.station := rfl
@[simp] theorem State.setRadio_store (v : Radio) : (s.setRadio v).store = s.store := rfl

/-! ### setRestrictions -/

@[simp] theorem State.setRestrictions_pending (v : Restrictions) : (s.setRestrictions v).pending = s.pending := rfl
@[simp] theorem State.setRestrictions_clock (v : Restrictions) : (s.setRestrictions v).clock = s.clock := rfl
@[simp] theorem State.setRestrictions_freeCount (v : Restrictions) : (s.setRestrictions v).freeCount = s.freeCount := rfl
@[simp] theorem State.setRestrictions_pins (v : Restrictions) : (s.setRestrictions v).pins = s.pins := rfl
@[simp] theorem State.setRestrictions_rack (v : Restrictions) : (s.setRestrictions v).rack = s.rack := rfl
@[simp] theorem State.setRestrictions_engagement (v : Restrictions) : (s.setRestrictions v).engagement = s.engagement := rfl
@[simp] theorem State.setRestrictions_line (v : Restrictions) : (s.setRestrictions v).line = s.line := rfl
@[simp] theorem State.setRestrictions_peers (v : Restrictions) : (s.setRestrictions v).peers = s.peers := rfl
@[simp] theorem State.setRestrictions_speed (v : Restrictions) : (s.setRestrictions v).speed = s.speed := rfl
@[simp] theorem State.setRestrictions_brake (v : Restrictions) : (s.setRestrictions v).brake = s.brake := rfl
@[simp] theorem State.setRestrictions_doors (v : Restrictions) : (s.setRestrictions v).doors = s.doors := rfl
@[simp] theorem State.setRestrictions_radio (v : Restrictions) : (s.setRestrictions v).radio = s.radio := rfl
@[simp] theorem State.setRestrictions_restrictions (v : Restrictions) : (s.setRestrictions v).restrictions = v := rfl
@[simp] theorem State.setRestrictions_faults (v : Restrictions) : (s.setRestrictions v).faults = s.faults := rfl
@[simp] theorem State.setRestrictions_station (v : Restrictions) : (s.setRestrictions v).station = s.station := rfl
@[simp] theorem State.setRestrictions_store (v : Restrictions) : (s.setRestrictions v).store = s.store := rfl

/-! ### setFaults -/

@[simp] theorem State.setFaults_pending (v : Faults) : (s.setFaults v).pending = s.pending := rfl
@[simp] theorem State.setFaults_clock (v : Faults) : (s.setFaults v).clock = s.clock := rfl
@[simp] theorem State.setFaults_freeCount (v : Faults) : (s.setFaults v).freeCount = s.freeCount := rfl
@[simp] theorem State.setFaults_pins (v : Faults) : (s.setFaults v).pins = s.pins := rfl
@[simp] theorem State.setFaults_rack (v : Faults) : (s.setFaults v).rack = s.rack := rfl
@[simp] theorem State.setFaults_engagement (v : Faults) : (s.setFaults v).engagement = s.engagement := rfl
@[simp] theorem State.setFaults_line (v : Faults) : (s.setFaults v).line = s.line := rfl
@[simp] theorem State.setFaults_peers (v : Faults) : (s.setFaults v).peers = s.peers := rfl
@[simp] theorem State.setFaults_speed (v : Faults) : (s.setFaults v).speed = s.speed := rfl
@[simp] theorem State.setFaults_brake (v : Faults) : (s.setFaults v).brake = s.brake := rfl
@[simp] theorem State.setFaults_doors (v : Faults) : (s.setFaults v).doors = s.doors := rfl
@[simp] theorem State.setFaults_radio (v : Faults) : (s.setFaults v).radio = s.radio := rfl
@[simp] theorem State.setFaults_restrictions (v : Faults) : (s.setFaults v).restrictions = s.restrictions := rfl
@[simp] theorem State.setFaults_faults (v : Faults) : (s.setFaults v).faults = v := rfl
@[simp] theorem State.setFaults_station (v : Faults) : (s.setFaults v).station = s.station := rfl
@[simp] theorem State.setFaults_store (v : Faults) : (s.setFaults v).store = s.store := rfl

/-! ### setStation -/

@[simp] theorem State.setStation_pending (v : Station) : (s.setStation v).pending = s.pending := rfl
@[simp] theorem State.setStation_clock (v : Station) : (s.setStation v).clock = s.clock := rfl
@[simp] theorem State.setStation_freeCount (v : Station) : (s.setStation v).freeCount = s.freeCount := rfl
@[simp] theorem State.setStation_pins (v : Station) : (s.setStation v).pins = s.pins := rfl
@[simp] theorem State.setStation_rack (v : Station) : (s.setStation v).rack = s.rack := rfl
@[simp] theorem State.setStation_engagement (v : Station) : (s.setStation v).engagement = s.engagement := rfl
@[simp] theorem State.setStation_line (v : Station) : (s.setStation v).line = s.line := rfl
@[simp] theorem State.setStation_peers (v : Station) : (s.setStation v).peers = s.peers := rfl
@[simp] theorem State.setStation_speed (v : Station) : (s.setStation v).speed = s.speed := rfl
@[simp] theorem State.setStation_brake (v : Station) : (s.setStation v).brake = s.brake := rfl
@[simp] theorem State.setStation_doors (v : Station) : (s.setStation v).doors = s.doors := rfl
@[simp] theorem State.setStation_radio (v : Station) : (s.setStation v).radio = s.radio := rfl
@[simp] theorem State.setStation_restrictions (v : Station) : (s.setStation v).restrictions = s.restrictions := rfl
@[simp] theorem State.setStation_faults (v : Station) : (s.setStation v).faults = s.faults := rfl
@[simp] theorem State.setStation_station (v : Station) : (s.setStation v).station = v := rfl
@[simp] theorem State.setStation_store (v : Station) : (s.setStation v).store = s.store := rfl

/-! ### setStore -/

@[simp] theorem State.setStore_pending (v : Store) : (s.setStore v).pending = s.pending := rfl
@[simp] theorem State.setStore_clock (v : Store) : (s.setStore v).clock = s.clock := rfl
@[simp] theorem State.setStore_freeCount (v : Store) : (s.setStore v).freeCount = s.freeCount := rfl
@[simp] theorem State.setStore_pins (v : Store) : (s.setStore v).pins = s.pins := rfl
@[simp] theorem State.setStore_rack (v : Store) : (s.setStore v).rack = s.rack := rfl
@[simp] theorem State.setStore_engagement (v : Store) : (s.setStore v).engagement = s.engagement := rfl
@[simp] theorem State.setStore_line (v : Store) : (s.setStore v).line = s.line := rfl
@[simp] theorem State.setStore_peers (v : Store) : (s.setStore v).peers = s.peers := rfl
@[simp] theorem State.setStore_speed (v : Store) : (s.setStore v).speed = s.speed := rfl
@[simp] theorem State.setStore_brake (v : Store) : (s.setStore v).brake = s.brake := rfl
@[simp] theorem State.setStore_doors (v : Store) : (s.setStore v).doors = s.doors := rfl
@[simp] theorem State.setStore_radio (v : Store) : (s.setStore v).radio = s.radio := rfl
@[simp] theorem State.setStore_restrictions (v : Store) : (s.setStore v).restrictions = s.restrictions := rfl
@[simp] theorem State.setStore_faults (v : Store) : (s.setStore v).faults = s.faults := rfl
@[simp] theorem State.setStore_station (v : Store) : (s.setStore v).station = s.station := rfl
@[simp] theorem State.setStore_store (v : Store) : (s.setStore v).store = v := rfl

end Sys2Proof.Machine
end

