-- ==== Sys2Proof/Laws/Ops.lean ====
section
/-! SUPPORT. What each shared operation leaves unchanged: one lemma per operation of Machine/Ops.lean. -/

namespace Sys2Proof.Machine

variable (s : State)

/-- A field of a conditional state. -/
theorem State.ite_frame (c : Prop) [Decidable c] (a b : State) :
    (if c then a else b).pending = (if c then a.pending else b.pending)
    ∧ (if c then a else b).clock = (if c then a.clock else b.clock)
    ∧ (if c then a else b).freeCount = (if c then a.freeCount else b.freeCount)
    ∧ (if c then a else b).pins = (if c then a.pins else b.pins)
    ∧ (if c then a else b).rack = (if c then a.rack else b.rack)
    ∧ (if c then a else b).engagement = (if c then a.engagement else b.engagement)
    ∧ (if c then a else b).line = (if c then a.line else b.line)
    ∧ (if c then a else b).peers = (if c then a.peers else b.peers)
    ∧ (if c then a else b).speed = (if c then a.speed else b.speed)
    ∧ (if c then a else b).brake = (if c then a.brake else b.brake)
    ∧ (if c then a else b).doors = (if c then a.doors else b.doors)
    ∧ (if c then a else b).radio = (if c then a.radio else b.radio)
    ∧ (if c then a else b).restrictions = (if c then a.restrictions else b.restrictions)
    ∧ (if c then a else b).faults = (if c then a.faults else b.faults)
    ∧ (if c then a else b).station = (if c then a.station else b.station)
    ∧ (if c then a else b).store = (if c then a.store else b.store) := by
  split <;> simp

/-- `recordOccurrence` changes no field but faults. -/
@[simp] theorem State.recordOccurrence_frame (k : FaultKind) :
    (s.recordOccurrence k).pending = s.pending ∧ (s.recordOccurrence k).clock = s.clock
    ∧ (s.recordOccurrence k).freeCount = s.freeCount ∧ (s.recordOccurrence k).pins = s.pins
    ∧ (s.recordOccurrence k).rack = s.rack ∧ (s.recordOccurrence k).engagement = s.engagement
    ∧ (s.recordOccurrence k).line = s.line ∧ (s.recordOccurrence k).peers = s.peers
    ∧ (s.recordOccurrence k).speed = s.speed ∧ (s.recordOccurrence k).brake = s.brake
    ∧ (s.recordOccurrence k).doors = s.doors ∧ (s.recordOccurrence k).radio = s.radio
    ∧ (s.recordOccurrence k).restrictions = s.restrictions ∧ (s.recordOccurrence k).station = s.station
    ∧ (s.recordOccurrence k).store = s.store := by
  simp [State.recordOccurrence]

/-- `recordGoing` changes no field but faults. -/
@[simp] theorem State.recordGoing_frame (k : FaultKind) :
    (s.recordGoing k).pending = s.pending ∧ (s.recordGoing k).clock = s.clock
    ∧ (s.recordGoing k).freeCount = s.freeCount ∧ (s.recordGoing k).pins = s.pins
    ∧ (s.recordGoing k).rack = s.rack ∧ (s.recordGoing k).engagement = s.engagement
    ∧ (s.recordGoing k).line = s.line ∧ (s.recordGoing k).peers = s.peers ∧ (s.recordGoing k).speed = s.speed
    ∧ (s.recordGoing k).brake = s.brake ∧ (s.recordGoing k).doors = s.doors ∧ (s.recordGoing k).radio = s.radio
    ∧ (s.recordGoing k).restrictions = s.restrictions ∧ (s.recordGoing k).station = s.station
    ∧ (s.recordGoing k).store = s.store := by
  simp [State.recordGoing]

/-- `recordNote` changes no field but faults. -/
@[simp] theorem State.recordNote_frame (k : FaultKind) :
    (s.recordNote k).pending = s.pending ∧ (s.recordNote k).clock = s.clock
    ∧ (s.recordNote k).freeCount = s.freeCount ∧ (s.recordNote k).pins = s.pins ∧ (s.recordNote k).rack = s.rack
    ∧ (s.recordNote k).engagement = s.engagement ∧ (s.recordNote k).line = s.line
    ∧ (s.recordNote k).peers = s.peers ∧ (s.recordNote k).speed = s.speed ∧ (s.recordNote k).brake = s.brake
    ∧ (s.recordNote k).doors = s.doors ∧ (s.recordNote k).radio = s.radio
    ∧ (s.recordNote k).restrictions = s.restrictions ∧ (s.recordNote k).station = s.station
    ∧ (s.recordNote k).store = s.store := by
  simp [State.recordNote]

/-- `reformEnforced` changes no field but speed. -/
@[simp] theorem State.reformEnforced_frame :
    (s.reformEnforced).pending = s.pending ∧ (s.reformEnforced).clock = s.clock
    ∧ (s.reformEnforced).freeCount = s.freeCount ∧ (s.reformEnforced).pins = s.pins
    ∧ (s.reformEnforced).rack = s.rack ∧ (s.reformEnforced).engagement = s.engagement
    ∧ (s.reformEnforced).line = s.line ∧ (s.reformEnforced).peers = s.peers ∧ (s.reformEnforced).brake = s.brake
    ∧ (s.reformEnforced).doors = s.doors ∧ (s.reformEnforced).radio = s.radio
    ∧ (s.reformEnforced).restrictions = s.restrictions ∧ (s.reformEnforced).faults = s.faults
    ∧ (s.reformEnforced).station = s.station ∧ (s.reformEnforced).store = s.store := by
  simp [State.reformEnforced]

/-- `lowerLimit` changes no field but speed. -/
@[simp] theorem State.lowerLimit_frame (ceiling : Nat) :
    (s.lowerLimit ceiling).pending = s.pending ∧ (s.lowerLimit ceiling).clock = s.clock
    ∧ (s.lowerLimit ceiling).freeCount = s.freeCount ∧ (s.lowerLimit ceiling).pins = s.pins
    ∧ (s.lowerLimit ceiling).rack = s.rack ∧ (s.lowerLimit ceiling).engagement = s.engagement
    ∧ (s.lowerLimit ceiling).line = s.line ∧ (s.lowerLimit ceiling).peers = s.peers
    ∧ (s.lowerLimit ceiling).brake = s.brake ∧ (s.lowerLimit ceiling).doors = s.doors
    ∧ (s.lowerLimit ceiling).radio = s.radio ∧ (s.lowerLimit ceiling).restrictions = s.restrictions
    ∧ (s.lowerLimit ceiling).faults = s.faults ∧ (s.lowerLimit ceiling).station = s.station
    ∧ (s.lowerLimit ceiling).store = s.store := by
  simp [State.lowerLimit]

/-- `latchPayload` changes no field but doors. -/
@[simp] theorem State.latchPayload_frame (payload : Nat) :
    (s.latchPayload payload).pending = s.pending ∧ (s.latchPayload payload).clock = s.clock
    ∧ (s.latchPayload payload).freeCount = s.freeCount ∧ (s.latchPayload payload).pins = s.pins
    ∧ (s.latchPayload payload).rack = s.rack ∧ (s.latchPayload payload).engagement = s.engagement
    ∧ (s.latchPayload payload).line = s.line ∧ (s.latchPayload payload).peers = s.peers
    ∧ (s.latchPayload payload).speed = s.speed ∧ (s.latchPayload payload).brake = s.brake
    ∧ (s.latchPayload payload).radio = s.radio ∧ (s.latchPayload payload).restrictions = s.restrictions
    ∧ (s.latchPayload payload).faults = s.faults ∧ (s.latchPayload payload).station = s.station
    ∧ (s.latchPayload payload).store = s.store := by
  simp [State.latchPayload]

/-- `latchMass` changes no field but doors, faults. -/
@[simp] theorem State.latchMass_frame :
    (s.latchMass).pending = s.pending ∧ (s.latchMass).clock = s.clock ∧ (s.latchMass).freeCount = s.freeCount
    ∧ (s.latchMass).pins = s.pins ∧ (s.latchMass).rack = s.rack ∧ (s.latchMass).engagement = s.engagement
    ∧ (s.latchMass).line = s.line ∧ (s.latchMass).peers = s.peers ∧ (s.latchMass).speed = s.speed
    ∧ (s.latchMass).brake = s.brake ∧ (s.latchMass).radio = s.radio
    ∧ (s.latchMass).restrictions = s.restrictions ∧ (s.latchMass).station = s.station
    ∧ (s.latchMass).store = s.store := by
  unfold State.latchMass
  split <;> simp [State.ite_frame]

/-- `latchIfClosed` changes no field but doors, faults. -/
@[simp] theorem State.latchIfClosed_frame (was : DoorSummary) :
    (s.latchIfClosed was).pending = s.pending ∧ (s.latchIfClosed was).clock = s.clock
    ∧ (s.latchIfClosed was).freeCount = s.freeCount ∧ (s.latchIfClosed was).pins = s.pins
    ∧ (s.latchIfClosed was).rack = s.rack ∧ (s.latchIfClosed was).engagement = s.engagement
    ∧ (s.latchIfClosed was).line = s.line ∧ (s.latchIfClosed was).peers = s.peers
    ∧ (s.latchIfClosed was).speed = s.speed ∧ (s.latchIfClosed was).brake = s.brake
    ∧ (s.latchIfClosed was).radio = s.radio ∧ (s.latchIfClosed was).restrictions = s.restrictions
    ∧ (s.latchIfClosed was).station = s.station ∧ (s.latchIfClosed was).store = s.store := by
  unfold State.latchIfClosed
  split <;> simp

/-- `clearSide` changes no field but doors. -/
@[simp] theorem State.clearSide_frame (side : CarSide) :
    (s.clearSide side).pending = s.pending ∧ (s.clearSide side).clock = s.clock
    ∧ (s.clearSide side).freeCount = s.freeCount ∧ (s.clearSide side).pins = s.pins
    ∧ (s.clearSide side).rack = s.rack ∧ (s.clearSide side).engagement = s.engagement
    ∧ (s.clearSide side).line = s.line ∧ (s.clearSide side).peers = s.peers ∧ (s.clearSide side).speed = s.speed
    ∧ (s.clearSide side).brake = s.brake ∧ (s.clearSide side).radio = s.radio
    ∧ (s.clearSide side).restrictions = s.restrictions ∧ (s.clearSide side).faults = s.faults
    ∧ (s.clearSide side).station = s.station ∧ (s.clearSide side).store = s.store := by
  unfold State.clearSide
  split <;> simp

/-- `retestSide` changes no field but doors. -/
@[simp] theorem State.retestSide_frame (side : CarSide) :
    (s.retestSide side).pending = s.pending ∧ (s.retestSide side).clock = s.clock
    ∧ (s.retestSide side).freeCount = s.freeCount ∧ (s.retestSide side).pins = s.pins
    ∧ (s.retestSide side).rack = s.rack ∧ (s.retestSide side).engagement = s.engagement
    ∧ (s.retestSide side).line = s.line ∧ (s.retestSide side).peers = s.peers
    ∧ (s.retestSide side).speed = s.speed ∧ (s.retestSide side).brake = s.brake
    ∧ (s.retestSide side).radio = s.radio ∧ (s.retestSide side).restrictions = s.restrictions
    ∧ (s.retestSide side).faults = s.faults ∧ (s.retestSide side).station = s.station
    ∧ (s.retestSide side).store = s.store := by
  unfold State.retestSide
  split <;> simp

/-- `retestPermits` changes no field but doors, faults. -/
@[simp] theorem State.retestPermits_frame :
    (s.retestPermits).pending = s.pending ∧ (s.retestPermits).clock = s.clock
    ∧ (s.retestPermits).freeCount = s.freeCount ∧ (s.retestPermits).pins = s.pins
    ∧ (s.retestPermits).rack = s.rack ∧ (s.retestPermits).engagement = s.engagement
    ∧ (s.retestPermits).line = s.line ∧ (s.retestPermits).peers = s.peers ∧ (s.retestPermits).speed = s.speed
    ∧ (s.retestPermits).brake = s.brake ∧ (s.retestPermits).radio = s.radio
    ∧ (s.retestPermits).restrictions = s.restrictions ∧ (s.retestPermits).station = s.station
    ∧ (s.retestPermits).store = s.store := by
  simp [State.retestPermits]

/-- `releaseByHandle` changes no field but doors. -/
@[simp] theorem State.releaseByHandle_frame (d : DoorId) :
    (s.releaseByHandle d).pending = s.pending ∧ (s.releaseByHandle d).clock = s.clock
    ∧ (s.releaseByHandle d).freeCount = s.freeCount ∧ (s.releaseByHandle d).pins = s.pins
    ∧ (s.releaseByHandle d).rack = s.rack ∧ (s.releaseByHandle d).engagement = s.engagement
    ∧ (s.releaseByHandle d).line = s.line ∧ (s.releaseByHandle d).peers = s.peers
    ∧ (s.releaseByHandle d).speed = s.speed ∧ (s.releaseByHandle d).brake = s.brake
    ∧ (s.releaseByHandle d).radio = s.radio ∧ (s.releaseByHandle d).restrictions = s.restrictions
    ∧ (s.releaseByHandle d).faults = s.faults ∧ (s.releaseByHandle d).station = s.station
    ∧ (s.releaseByHandle d).store = s.store := by
  unfold State.releaseByHandle
  split <;> simp

/-- `releaseByHandles` changes no field but doors. -/
@[simp] theorem State.releaseByHandles_frame :
    (s.releaseByHandles).pending = s.pending ∧ (s.releaseByHandles).clock = s.clock
    ∧ (s.releaseByHandles).freeCount = s.freeCount ∧ (s.releaseByHandles).pins = s.pins
    ∧ (s.releaseByHandles).rack = s.rack ∧ (s.releaseByHandles).engagement = s.engagement
    ∧ (s.releaseByHandles).line = s.line ∧ (s.releaseByHandles).peers = s.peers
    ∧ (s.releaseByHandles).speed = s.speed ∧ (s.releaseByHandles).brake = s.brake
    ∧ (s.releaseByHandles).radio = s.radio ∧ (s.releaseByHandles).restrictions = s.restrictions
    ∧ (s.releaseByHandles).faults = s.faults ∧ (s.releaseByHandles).station = s.station
    ∧ (s.releaseByHandles).store = s.store := by
  simp [State.releaseByHandles]

/-- `applyHolding` changes no field but brake, doors, faults. -/
@[simp] theorem State.applyHolding_frame :
    (s.applyHolding).pending = s.pending ∧ (s.applyHolding).clock = s.clock
    ∧ (s.applyHolding).freeCount = s.freeCount ∧ (s.applyHolding).pins = s.pins ∧ (s.applyHolding).rack = s.rack
    ∧ (s.applyHolding).engagement = s.engagement ∧ (s.applyHolding).line = s.line
    ∧ (s.applyHolding).peers = s.peers ∧ (s.applyHolding).speed = s.speed ∧ (s.applyHolding).radio = s.radio
    ∧ (s.applyHolding).restrictions = s.restrictions ∧ (s.applyHolding).station = s.station
    ∧ (s.applyHolding).store = s.store := by
  unfold State.applyHolding
  split <;> simp

/-- `setLatch` changes no field but brake, speed, doors, faults. -/
@[simp] theorem State.setLatch_frame :
    (s.setLatch).pending = s.pending ∧ (s.setLatch).clock = s.clock ∧ (s.setLatch).freeCount = s.freeCount
    ∧ (s.setLatch).pins = s.pins ∧ (s.setLatch).rack = s.rack ∧ (s.setLatch).engagement = s.engagement
    ∧ (s.setLatch).line = s.line ∧ (s.setLatch).peers = s.peers ∧ (s.setLatch).radio = s.radio
    ∧ (s.setLatch).restrictions = s.restrictions ∧ (s.setLatch).station = s.station
    ∧ (s.setLatch).store = s.store := by
  unfold State.setLatch
  dsimp only
  (repeat' split) <;> simp [State.ite_frame]

/-- All that `offer` can do: begin the chosen slot's frame on an idle line, or nothing (R39, R48). -/
theorem Line.offer_cases (l : Line) :
    (∃ slot, l.bus = .idle ∧ l.sending = none ∧ l.choice = some slot
        ∧ l.offer = { l with sending := some slot, bus := .busy })
      ∨ l.offer = l ∧ (l.bus = .idle → l.sending = none → l.choice = none) := by
  unfold Line.offer
  split
  · rename_i h
    split
    · rename_i slot hc
      exact .inl ⟨slot, h.1, h.2, hc, rfl⟩
    · rename_i hc
      exact .inr ⟨rfl, fun _ _ => hc⟩
  · rename_i h
    exact .inr ⟨rfl, fun hb hs => absurd ⟨hb, hs⟩ h⟩

/-- `beginIdle` leaves the slots as they are, and the ORDER slot is passed over no longer. -/
@[simp] theorem Line.beginIdle_frame (l : Line) :
    l.beginIdle.alert = l.alert ∧ l.beginIdle.orders = l.orders ∧ l.beginIdle.stateSlot = l.stateSlot
    ∧ l.beginIdle.replies = l.replies ∧ l.beginIdle.orderHoldOff = l.orderHoldOff ∧ l.beginIdle.orderPassed = false := by
  unfold Line.beginIdle
  obtain ⟨slot, -, -, -, h⟩ | ⟨h, -⟩ := Line.offer_cases { l with bus := .idle, orderPassed := false } <;> simp [h]

/-- `placeAlert` changes no field but line. -/
@[simp] theorem State.placeAlert_frame (k : FaultKind) :
    (s.placeAlert k).pending = s.pending ∧ (s.placeAlert k).clock = s.clock
    ∧ (s.placeAlert k).freeCount = s.freeCount ∧ (s.placeAlert k).pins = s.pins ∧ (s.placeAlert k).rack = s.rack
    ∧ (s.placeAlert k).engagement = s.engagement ∧ (s.placeAlert k).peers = s.peers
    ∧ (s.placeAlert k).speed = s.speed ∧ (s.placeAlert k).brake = s.brake ∧ (s.placeAlert k).doors = s.doors
    ∧ (s.placeAlert k).radio = s.radio ∧ (s.placeAlert k).restrictions = s.restrictions
    ∧ (s.placeAlert k).faults = s.faults ∧ (s.placeAlert k).station = s.station
    ∧ (s.placeAlert k).store = s.store := by
  unfold State.placeAlert
  split <;> simp [State.ite_frame]

/-- `assertPull` changes no field but brake, doors, faults, speed, line. -/
@[simp] theorem State.assertPull_frame (k : FaultKind) :
    (s.assertPull k).pending = s.pending ∧ (s.assertPull k).clock = s.clock
    ∧ (s.assertPull k).freeCount = s.freeCount ∧ (s.assertPull k).pins = s.pins ∧ (s.assertPull k).rack = s.rack
    ∧ (s.assertPull k).engagement = s.engagement ∧ (s.assertPull k).peers = s.peers
    ∧ (s.assertPull k).radio = s.radio ∧ (s.assertPull k).restrictions = s.restrictions
    ∧ (s.assertPull k).station = s.station ∧ (s.assertPull k).store = s.store := by
  unfold State.assertPull
  split <;> simp

/-- `react` changes no field but brake, doors, faults, speed, line. -/
@[simp] theorem State.react_frame (k : FaultKind) :
    (s.react k).pending = s.pending ∧ (s.react k).clock = s.clock ∧ (s.react k).freeCount = s.freeCount
    ∧ (s.react k).pins = s.pins ∧ (s.react k).rack = s.rack ∧ (s.react k).engagement = s.engagement
    ∧ (s.react k).peers = s.peers ∧ (s.react k).radio = s.radio ∧ (s.react k).restrictions = s.restrictions
    ∧ (s.react k).station = s.station ∧ (s.react k).store = s.store := by
  unfold State.react
  split <;> simp

/-- `raise` changes no field but brake, doors, faults, speed, line. -/
@[simp] theorem State.raise_frame (k : FaultKind) :
    (s.raise k).pending = s.pending ∧ (s.raise k).clock = s.clock ∧ (s.raise k).freeCount = s.freeCount
    ∧ (s.raise k).pins = s.pins ∧ (s.raise k).rack = s.rack ∧ (s.raise k).engagement = s.engagement
    ∧ (s.raise k).peers = s.peers ∧ (s.raise k).radio = s.radio ∧ (s.raise k).restrictions = s.restrictions
    ∧ (s.raise k).station = s.station ∧ (s.raise k).store = s.store := by
  unfold State.raise
  split <;> simp

/-- `note` changes no field but brake, doors, faults, speed, line. -/
@[simp] theorem State.note_frame (k : FaultKind) :
    (s.note k).pending = s.pending ∧ (s.note k).clock = s.clock ∧ (s.note k).freeCount = s.freeCount
    ∧ (s.note k).pins = s.pins ∧ (s.note k).rack = s.rack ∧ (s.note k).engagement = s.engagement
    ∧ (s.note k).peers = s.peers ∧ (s.note k).radio = s.radio ∧ (s.note k).restrictions = s.restrictions
    ∧ (s.note k).station = s.station ∧ (s.note k).store = s.store := by
  unfold State.note
  split <;> simp

/-- `clear` changes no field but doors, faults. -/
@[simp] theorem State.clear_frame (k : FaultKind) :
    (s.clear k).pending = s.pending ∧ (s.clear k).clock = s.clock ∧ (s.clear k).freeCount = s.freeCount
    ∧ (s.clear k).pins = s.pins ∧ (s.clear k).rack = s.rack ∧ (s.clear k).engagement = s.engagement
    ∧ (s.clear k).line = s.line ∧ (s.clear k).peers = s.peers ∧ (s.clear k).speed = s.speed
    ∧ (s.clear k).brake = s.brake ∧ (s.clear k).radio = s.radio ∧ (s.clear k).restrictions = s.restrictions
    ∧ (s.clear k).station = s.station ∧ (s.clear k).store = s.store := by
  unfold State.clear
  (repeat' split)
  all_goals simp [State.ite_frame]

/-- `raiseTimes` changes no field but brake, doors, faults, speed, line. -/
@[simp] theorem State.raiseTimes_frame (k : FaultKind) (n : Nat) :
    (s.raiseTimes k n).pending = s.pending ∧ (s.raiseTimes k n).clock = s.clock
    ∧ (s.raiseTimes k n).freeCount = s.freeCount ∧ (s.raiseTimes k n).pins = s.pins
    ∧ (s.raiseTimes k n).rack = s.rack ∧ (s.raiseTimes k n).engagement = s.engagement
    ∧ (s.raiseTimes k n).peers = s.peers ∧ (s.raiseTimes k n).radio = s.radio
    ∧ (s.raiseTimes k n).restrictions = s.restrictions ∧ (s.raiseTimes k n).station = s.station
    ∧ (s.raiseTimes k n).store = s.store := by
  induction n generalizing s with
  | zero => simp [State.raiseTimes]
  | succ n ih => simp [State.raiseTimes, ih]

/-- `saturations` changes no field but brake, doors, faults, speed, line. -/
@[simp] theorem State.saturations_frame (hits : Nat) :
    (s.saturations hits).pending = s.pending ∧ (s.saturations hits).clock = s.clock
    ∧ (s.saturations hits).freeCount = s.freeCount ∧ (s.saturations hits).pins = s.pins
    ∧ (s.saturations hits).rack = s.rack ∧ (s.saturations hits).engagement = s.engagement
    ∧ (s.saturations hits).peers = s.peers ∧ (s.saturations hits).radio = s.radio
    ∧ (s.saturations hits).restrictions = s.restrictions ∧ (s.saturations hits).station = s.station
    ∧ (s.saturations hits).store = s.store := by
  unfold State.saturations
  split <;> simp

/-- `setPeer` changes no field but peers. -/
@[simp] theorem State.setPeer_frame (i : Fin 8) (e : PeerEntry) :
    (s.setPeer i e).pending = s.pending ∧ (s.setPeer i e).clock = s.clock
    ∧ (s.setPeer i e).freeCount = s.freeCount ∧ (s.setPeer i e).pins = s.pins ∧ (s.setPeer i e).rack = s.rack
    ∧ (s.setPeer i e).engagement = s.engagement ∧ (s.setPeer i e).line = s.line
    ∧ (s.setPeer i e).speed = s.speed ∧ (s.setPeer i e).brake = s.brake ∧ (s.setPeer i e).doors = s.doors
    ∧ (s.setPeer i e).radio = s.radio ∧ (s.setPeer i e).restrictions = s.restrictions
    ∧ (s.setPeer i e).faults = s.faults ∧ (s.setPeer i e).station = s.station ∧ (s.setPeer i e).store = s.store := by
  simp [State.setPeer]

/-- `reformValley` changes no field but radio, speed. -/
@[simp] theorem State.reformValley_frame :
    (s.reformValley).pending = s.pending ∧ (s.reformValley).clock = s.clock
    ∧ (s.reformValley).freeCount = s.freeCount ∧ (s.reformValley).pins = s.pins ∧ (s.reformValley).rack = s.rack
    ∧ (s.reformValley).engagement = s.engagement ∧ (s.reformValley).line = s.line
    ∧ (s.reformValley).peers = s.peers ∧ (s.reformValley).brake = s.brake ∧ (s.reformValley).doors = s.doors
    ∧ (s.reformValley).restrictions = s.restrictions ∧ (s.reformValley).faults = s.faults
    ∧ (s.reformValley).station = s.station ∧ (s.reformValley).store = s.store := by
  simp [State.reformValley, State.ite_frame]

/-- `reformCabConflict` changes no field but brake, doors, faults, speed, line. -/
@[simp] theorem State.reformCabConflict_frame :
    (s.reformCabConflict).pending = s.pending ∧ (s.reformCabConflict).clock = s.clock
    ∧ (s.reformCabConflict).freeCount = s.freeCount ∧ (s.reformCabConflict).pins = s.pins
    ∧ (s.reformCabConflict).rack = s.rack ∧ (s.reformCabConflict).engagement = s.engagement
    ∧ (s.reformCabConflict).peers = s.peers ∧ (s.reformCabConflict).radio = s.radio
    ∧ (s.reformCabConflict).restrictions = s.restrictions ∧ (s.reformCabConflict).station = s.station
    ∧ (s.reformCabConflict).store = s.store := by
  simp [State.reformCabConflict, State.ite_frame]

/-- `reformPeerLost` changes no field but doors, faults. -/
@[simp] theorem State.reformPeerLost_frame :
    (s.reformPeerLost).pending = s.pending ∧ (s.reformPeerLost).clock = s.clock
    ∧ (s.reformPeerLost).freeCount = s.freeCount ∧ (s.reformPeerLost).pins = s.pins
    ∧ (s.reformPeerLost).rack = s.rack ∧ (s.reformPeerLost).engagement = s.engagement
    ∧ (s.reformPeerLost).line = s.line ∧ (s.reformPeerLost).peers = s.peers ∧ (s.reformPeerLost).speed = s.speed
    ∧ (s.reformPeerLost).brake = s.brake ∧ (s.reformPeerLost).radio = s.radio
    ∧ (s.reformPeerLost).restrictions = s.restrictions ∧ (s.reformPeerLost).station = s.station
    ∧ (s.reformPeerLost).store = s.store := by
  unfold State.reformPeerLost
  split <;> simp

/-- `peersChanged` changes no field but brake, doors, faults, speed, line, radio. -/
@[simp] theorem State.peersChanged_frame :
    (s.peersChanged).pending = s.pending ∧ (s.peersChanged).clock = s.clock
    ∧ (s.peersChanged).freeCount = s.freeCount ∧ (s.peersChanged).pins = s.pins ∧ (s.peersChanged).rack = s.rack
    ∧ (s.peersChanged).engagement = s.engagement ∧ (s.peersChanged).peers = s.peers
    ∧ (s.peersChanged).restrictions = s.restrictions ∧ (s.peersChanged).station = s.station
    ∧ (s.peersChanged).store = s.store := by
  simp [State.peersChanged]

/-- `evaluateRestrictions` changes no field but restrictions, speed. -/
@[simp] theorem State.evaluateRestrictions_frame :
    (s.evaluateRestrictions).pending = s.pending ∧ (s.evaluateRestrictions).clock = s.clock
    ∧ (s.evaluateRestrictions).freeCount = s.freeCount ∧ (s.evaluateRestrictions).pins = s.pins
    ∧ (s.evaluateRestrictions).rack = s.rack ∧ (s.evaluateRestrictions).engagement = s.engagement
    ∧ (s.evaluateRestrictions).line = s.line ∧ (s.evaluateRestrictions).peers = s.peers
    ∧ (s.evaluateRestrictions).brake = s.brake ∧ (s.evaluateRestrictions).doors = s.doors
    ∧ (s.evaluateRestrictions).radio = s.radio ∧ (s.evaluateRestrictions).faults = s.faults
    ∧ (s.evaluateRestrictions).station = s.station ∧ (s.evaluateRestrictions).store = s.store := by
  have h : ∀ (xs : List Nat) (t : State), (xs.foldl (fun u limit => u.lowerLimit limit) t).pending = t.pending
        ∧ (xs.foldl (fun u limit => u.lowerLimit limit) t).clock = t.clock
        ∧ (xs.foldl (fun u limit => u.lowerLimit limit) t).freeCount = t.freeCount
        ∧ (xs.foldl (fun u limit => u.lowerLimit limit) t).pins = t.pins
        ∧ (xs.foldl (fun u limit => u.lowerLimit limit) t).rack = t.rack
        ∧ (xs.foldl (fun u limit => u.lowerLimit limit) t).engagement = t.engagement
        ∧ (xs.foldl (fun u limit => u.lowerLimit limit) t).line = t.line
        ∧ (xs.foldl (fun u limit => u.lowerLimit limit) t).peers = t.peers
        ∧ (xs.foldl (fun u limit => u.lowerLimit limit) t).brake = t.brake
        ∧ (xs.foldl (fun u limit => u.lowerLimit limit) t).doors = t.doors
        ∧ (xs.foldl (fun u limit => u.lowerLimit limit) t).radio = t.radio
        ∧ (xs.foldl (fun u limit => u.lowerLimit limit) t).restrictions = t.restrictions
        ∧ (xs.foldl (fun u limit => u.lowerLimit limit) t).faults = t.faults
        ∧ (xs.foldl (fun u limit => u.lowerLimit limit) t).station = t.station
        ∧ (xs.foldl (fun u limit => u.lowerLimit limit) t).store = t.store := by
    intro xs
    induction xs with
    | nil => intro t; simp
    | cons x xs ih => intro t; simp [ih]
  simp [State.evaluateRestrictions, h]

/-- `afterMove` changes no field but restrictions, speed, doors, faults. -/
@[simp] theorem State.afterMove_frame (before : State) :
    (s.afterMove before).pending = s.pending ∧ (s.afterMove before).clock = s.clock
    ∧ (s.afterMove before).freeCount = s.freeCount ∧ (s.afterMove before).pins = s.pins
    ∧ (s.afterMove before).rack = s.rack ∧ (s.afterMove before).engagement = s.engagement
    ∧ (s.afterMove before).line = s.line ∧ (s.afterMove before).peers = s.peers
    ∧ (s.afterMove before).brake = s.brake ∧ (s.afterMove before).radio = s.radio
    ∧ (s.afterMove before).station = s.station ∧ (s.afterMove before).store = s.store := by
  simp [State.afterMove, State.ite_frame]

/-- `writeStraps` writes the strap copy and the check, and leaves the validity mark and the items. -/
@[simp] theorem Store.writeStraps_fields (straps : Straps) (v : Store) :
    (v.writeStraps straps).straps = straps ∧ (v.writeStraps straps).valid = v.valid
    ∧ (v.writeStraps straps).check = storeCheck straps v.items ∧ (v.writeStraps straps).items = v.items :=
  ⟨rfl, rfl, rfl, rfl⟩

/-- `keepStore` changes no field but store. -/
@[simp] theorem State.keepStore_frame :
    (s.keepStore).pending = s.pending ∧ (s.keepStore).clock = s.clock ∧ (s.keepStore).freeCount = s.freeCount
    ∧ (s.keepStore).pins = s.pins ∧ (s.keepStore).rack = s.rack ∧ (s.keepStore).engagement = s.engagement
    ∧ (s.keepStore).line = s.line ∧ (s.keepStore).peers = s.peers ∧ (s.keepStore).speed = s.speed
    ∧ (s.keepStore).brake = s.brake ∧ (s.keepStore).doors = s.doors ∧ (s.keepStore).radio = s.radio
    ∧ (s.keepStore).restrictions = s.restrictions ∧ (s.keepStore).faults = s.faults
    ∧ (s.keepStore).station = s.station := by
  unfold State.keepStore
  split <;> simp

/-- `atMoment` changes no field but clock, pins. -/
@[simp] theorem State.atMoment_frame (m : Moment) :
    (s.atMoment m).pending = s.pending ∧ (s.atMoment m).freeCount = s.freeCount ∧ (s.atMoment m).rack = s.rack
    ∧ (s.atMoment m).engagement = s.engagement ∧ (s.atMoment m).line = s.line ∧ (s.atMoment m).peers = s.peers
    ∧ (s.atMoment m).speed = s.speed ∧ (s.atMoment m).brake = s.brake ∧ (s.atMoment m).doors = s.doors
    ∧ (s.atMoment m).radio = s.radio ∧ (s.atMoment m).restrictions = s.restrictions
    ∧ (s.atMoment m).faults = s.faults ∧ (s.atMoment m).station = s.station ∧ (s.atMoment m).store = s.store := by
  simp [State.atMoment]

/-- `enterProving` changes no field but station, brake. -/
@[simp] theorem State.enterProving_frame :
    (s.enterProving).pending = s.pending ∧ (s.enterProving).clock = s.clock
    ∧ (s.enterProving).freeCount = s.freeCount ∧ (s.enterProving).pins = s.pins ∧ (s.enterProving).rack = s.rack
    ∧ (s.enterProving).engagement = s.engagement ∧ (s.enterProving).line = s.line
    ∧ (s.enterProving).peers = s.peers ∧ (s.enterProving).speed = s.speed ∧ (s.enterProving).doors = s.doors
    ∧ (s.enterProving).radio = s.radio ∧ (s.enterProving).restrictions = s.restrictions
    ∧ (s.enterProving).faults = s.faults ∧ (s.enterProving).store = s.store := by
  simp [State.enterProving]

/-- `consistComplete` changes no field but station, brake. -/
@[simp] theorem State.consistComplete_frame :
    (s.consistComplete).pending = s.pending ∧ (s.consistComplete).clock = s.clock
    ∧ (s.consistComplete).freeCount = s.freeCount ∧ (s.consistComplete).pins = s.pins
    ∧ (s.consistComplete).rack = s.rack ∧ (s.consistComplete).engagement = s.engagement
    ∧ (s.consistComplete).line = s.line ∧ (s.consistComplete).peers = s.peers
    ∧ (s.consistComplete).speed = s.speed ∧ (s.consistComplete).doors = s.doors
    ∧ (s.consistComplete).radio = s.radio ∧ (s.consistComplete).restrictions = s.restrictions
    ∧ (s.consistComplete).faults = s.faults ∧ (s.consistComplete).store = s.store := by
  unfold State.consistComplete
  split <;> simp

/-- `beginStop` changes no field but brake, doors, faults, speed, line, station, store. -/
@[simp] theorem State.beginStop_frame :
    (s.beginStop).pending = s.pending ∧ (s.beginStop).clock = s.clock ∧ (s.beginStop).freeCount = s.freeCount
    ∧ (s.beginStop).pins = s.pins ∧ (s.beginStop).rack = s.rack ∧ (s.beginStop).engagement = s.engagement
    ∧ (s.beginStop).peers = s.peers ∧ (s.beginStop).radio = s.radio
    ∧ (s.beginStop).restrictions = s.restrictions := by
  simp [State.beginStop]

/-- `rejoinDone` changes no field but brake, doors, faults, speed, line, station, store. -/
@[simp] theorem State.rejoinDone_frame :
    (s.rejoinDone).pending = s.pending ∧ (s.rejoinDone).clock = s.clock ∧ (s.rejoinDone).freeCount = s.freeCount
    ∧ (s.rejoinDone).pins = s.pins ∧ (s.rejoinDone).rack = s.rack ∧ (s.rejoinDone).engagement = s.engagement
    ∧ (s.rejoinDone).peers = s.peers ∧ (s.rejoinDone).radio = s.radio
    ∧ (s.rejoinDone).restrictions = s.restrictions := by
  simp [State.rejoinDone, State.ite_frame]

end Sys2Proof.Machine
end

