-- ==== Sys2Proof/Laws/Families.lean ====
section
/-! SUPPORT. What each operation of a family file leaves unchanged. -/

namespace Sys2Proof.Machine

variable (s : State)

/-- `setMonitor` changes no field but engagement. -/
@[simp] theorem State.setMonitor_frame (p : Pinion) (mon : PinionMonitor) :
    (s.setMonitor p mon).pending = s.pending ∧ (s.setMonitor p mon).clock = s.clock
    ∧ (s.setMonitor p mon).freeCount = s.freeCount ∧ (s.setMonitor p mon).pins = s.pins
    ∧ (s.setMonitor p mon).rack = s.rack ∧ (s.setMonitor p mon).line = s.line
    ∧ (s.setMonitor p mon).peers = s.peers ∧ (s.setMonitor p mon).speed = s.speed
    ∧ (s.setMonitor p mon).brake = s.brake ∧ (s.setMonitor p mon).doors = s.doors
    ∧ (s.setMonitor p mon).radio = s.radio ∧ (s.setMonitor p mon).restrictions = s.restrictions
    ∧ (s.setMonitor p mon).faults = s.faults ∧ (s.setMonitor p mon).station = s.station
    ∧ (s.setMonitor p mon).store = s.store := by
  simp [State.setMonitor]

/-- `raiseClimbOut` changes no field but brake, doors, faults, speed, line, engagement. -/
@[simp] theorem State.raiseClimbOut_frame :
    (s.raiseClimbOut).pending = s.pending ∧ (s.raiseClimbOut).clock = s.clock
    ∧ (s.raiseClimbOut).freeCount = s.freeCount ∧ (s.raiseClimbOut).pins = s.pins
    ∧ (s.raiseClimbOut).rack = s.rack ∧ (s.raiseClimbOut).peers = s.peers ∧ (s.raiseClimbOut).radio = s.radio
    ∧ (s.raiseClimbOut).restrictions = s.restrictions ∧ (s.raiseClimbOut).station = s.station
    ∧ (s.raiseClimbOut).store = s.store := by
  unfold State.raiseClimbOut
  split <;> simp

/-- `raiseCalibrationFail` changes no field but brake, doors, faults, speed, line, engagement. -/
@[simp] theorem State.raiseCalibrationFail_frame :
    (s.raiseCalibrationFail).pending = s.pending ∧ (s.raiseCalibrationFail).clock = s.clock
    ∧ (s.raiseCalibrationFail).freeCount = s.freeCount ∧ (s.raiseCalibrationFail).pins = s.pins
    ∧ (s.raiseCalibrationFail).rack = s.rack ∧ (s.raiseCalibrationFail).peers = s.peers
    ∧ (s.raiseCalibrationFail).radio = s.radio ∧ (s.raiseCalibrationFail).restrictions = s.restrictions
    ∧ (s.raiseCalibrationFail).station = s.station ∧ (s.raiseCalibrationFail).store = s.store := by
  unfold State.raiseCalibrationFail
  split <;> simp

/-- `reformSlip` changes no field but doors, faults. -/
@[simp] theorem State.reformSlip_frame :
    (s.reformSlip).pending = s.pending ∧ (s.reformSlip).clock = s.clock ∧ (s.reformSlip).freeCount = s.freeCount
    ∧ (s.reformSlip).pins = s.pins ∧ (s.reformSlip).rack = s.rack ∧ (s.reformSlip).engagement = s.engagement
    ∧ (s.reformSlip).line = s.line ∧ (s.reformSlip).peers = s.peers ∧ (s.reformSlip).speed = s.speed
    ∧ (s.reformSlip).brake = s.brake ∧ (s.reformSlip).radio = s.radio
    ∧ (s.reformSlip).restrictions = s.restrictions ∧ (s.reformSlip).station = s.station
    ∧ (s.reformSlip).store = s.store := by
  unfold State.reformSlip
  split <;> simp

/-- `monitorConfirmed` changes no field but doors, faults, engagement. -/
@[simp] theorem State.monitorConfirmed_frame :
    (s.monitorConfirmed).pending = s.pending ∧ (s.monitorConfirmed).clock = s.clock
    ∧ (s.monitorConfirmed).freeCount = s.freeCount ∧ (s.monitorConfirmed).pins = s.pins
    ∧ (s.monitorConfirmed).rack = s.rack ∧ (s.monitorConfirmed).line = s.line
    ∧ (s.monitorConfirmed).peers = s.peers ∧ (s.monitorConfirmed).speed = s.speed
    ∧ (s.monitorConfirmed).brake = s.brake ∧ (s.monitorConfirmed).radio = s.radio
    ∧ (s.monitorConfirmed).restrictions = s.restrictions ∧ (s.monitorConfirmed).station = s.station
    ∧ (s.monitorConfirmed).store = s.store := by
  simp [State.monitorConfirmed]

/-- `monitorLeft` changes no field but engagement. -/
@[simp] theorem State.monitorLeft_frame :
    (s.monitorLeft).pending = s.pending ∧ (s.monitorLeft).clock = s.clock
    ∧ (s.monitorLeft).freeCount = s.freeCount ∧ (s.monitorLeft).pins = s.pins ∧ (s.monitorLeft).rack = s.rack
    ∧ (s.monitorLeft).line = s.line ∧ (s.monitorLeft).peers = s.peers ∧ (s.monitorLeft).speed = s.speed
    ∧ (s.monitorLeft).brake = s.brake ∧ (s.monitorLeft).doors = s.doors ∧ (s.monitorLeft).radio = s.radio
    ∧ (s.monitorLeft).restrictions = s.restrictions ∧ (s.monitorLeft).faults = s.faults
    ∧ (s.monitorLeft).station = s.station ∧ (s.monitorLeft).store = s.store := by
  simp [State.monitorLeft]

/-- `monitorEntry` changes no field but doors, faults, engagement, speed. -/
@[simp] theorem State.monitorEntry_frame :
    (s.monitorEntry).pending = s.pending ∧ (s.monitorEntry).clock = s.clock
    ∧ (s.monitorEntry).freeCount = s.freeCount ∧ (s.monitorEntry).pins = s.pins ∧ (s.monitorEntry).rack = s.rack
    ∧ (s.monitorEntry).line = s.line ∧ (s.monitorEntry).peers = s.peers ∧ (s.monitorEntry).brake = s.brake
    ∧ (s.monitorEntry).radio = s.radio ∧ (s.monitorEntry).restrictions = s.restrictions
    ∧ (s.monitorEntry).station = s.station ∧ (s.monitorEntry).store = s.store := by
  simp [State.monitorEntry, State.ite_frame]

/-- `monitorExit` changes no field but doors, faults, engagement. -/
@[simp] theorem State.monitorExit_frame :
    (s.monitorExit).pending = s.pending ∧ (s.monitorExit).clock = s.clock
    ∧ (s.monitorExit).freeCount = s.freeCount ∧ (s.monitorExit).pins = s.pins ∧ (s.monitorExit).rack = s.rack
    ∧ (s.monitorExit).line = s.line ∧ (s.monitorExit).peers = s.peers ∧ (s.monitorExit).speed = s.speed
    ∧ (s.monitorExit).brake = s.brake ∧ (s.monitorExit).radio = s.radio
    ∧ (s.monitorExit).restrictions = s.restrictions ∧ (s.monitorExit).station = s.station
    ∧ (s.monitorExit).store = s.store := by
  simp [State.monitorExit]

/-- `completeSweep` changes no field but brake, doors, faults, speed, line, engagement. -/
@[simp] theorem State.completeSweep_frame (p : Pinion) (histogram : Vector Nat 32) :
    (s.completeSweep p histogram).pending = s.pending ∧ (s.completeSweep p histogram).clock = s.clock
    ∧ (s.completeSweep p histogram).freeCount = s.freeCount ∧ (s.completeSweep p histogram).pins = s.pins
    ∧ (s.completeSweep p histogram).rack = s.rack ∧ (s.completeSweep p histogram).peers = s.peers
    ∧ (s.completeSweep p histogram).radio = s.radio
    ∧ (s.completeSweep p histogram).restrictions = s.restrictions
    ∧ (s.completeSweep p histogram).station = s.station ∧ (s.completeSweep p histogram).store = s.store := by
  simp [State.completeSweep, State.ite_frame]

/-- `sweepEdge` changes no field but brake, doors, faults, speed, line, engagement. -/
@[simp] theorem State.sweepEdge_frame (p : Pinion) (bin : Fin 32) :
    (s.sweepEdge p bin).pending = s.pending ∧ (s.sweepEdge p bin).clock = s.clock
    ∧ (s.sweepEdge p bin).freeCount = s.freeCount ∧ (s.sweepEdge p bin).pins = s.pins
    ∧ (s.sweepEdge p bin).rack = s.rack ∧ (s.sweepEdge p bin).peers = s.peers
    ∧ (s.sweepEdge p bin).radio = s.radio ∧ (s.sweepEdge p bin).restrictions = s.restrictions
    ∧ (s.sweepEdge p bin).station = s.station ∧ (s.sweepEdge p bin).store = s.store := by
  simp [State.sweepEdge, State.ite_frame]

/-- `checkEdge` changes no field but brake, doors, faults, speed, line, engagement. -/
@[simp] theorem State.checkEdge_frame (p : Pinion) (bin : Fin 32) :
    (s.checkEdge p bin).pending = s.pending ∧ (s.checkEdge p bin).clock = s.clock
    ∧ (s.checkEdge p bin).freeCount = s.freeCount ∧ (s.checkEdge p bin).pins = s.pins
    ∧ (s.checkEdge p bin).rack = s.rack ∧ (s.checkEdge p bin).peers = s.peers
    ∧ (s.checkEdge p bin).radio = s.radio ∧ (s.checkEdge p bin).restrictions = s.restrictions
    ∧ (s.checkEdge p bin).station = s.station ∧ (s.checkEdge p bin).store = s.store := by
  simp [State.checkEdge, State.ite_frame]

/-- `toothEvent` changes no field but brake, doors, faults, speed, line, engagement. -/
@[simp] theorem State.toothEvent_frame (p : Pinion) (phase : Option (Fin 32)) :
    (s.toothEvent p phase).pending = s.pending ∧ (s.toothEvent p phase).clock = s.clock
    ∧ (s.toothEvent p phase).freeCount = s.freeCount ∧ (s.toothEvent p phase).pins = s.pins
    ∧ (s.toothEvent p phase).rack = s.rack ∧ (s.toothEvent p phase).peers = s.peers
    ∧ (s.toothEvent p phase).radio = s.radio ∧ (s.toothEvent p phase).restrictions = s.restrictions
    ∧ (s.toothEvent p phase).station = s.station ∧ (s.toothEvent p phase).store = s.store := by
  unfold State.toothEvent
  dsimp only
  (repeat' split) <;> simp [State.ite_frame]

/-- `evaluateSpeed` changes no field but rack. -/
@[simp] theorem State.evaluateSpeed_frame :
    (s.evaluateSpeed).pending = s.pending ∧ (s.evaluateSpeed).clock = s.clock
    ∧ (s.evaluateSpeed).freeCount = s.freeCount ∧ (s.evaluateSpeed).pins = s.pins
    ∧ (s.evaluateSpeed).engagement = s.engagement ∧ (s.evaluateSpeed).line = s.line
    ∧ (s.evaluateSpeed).peers = s.peers ∧ (s.evaluateSpeed).speed = s.speed ∧ (s.evaluateSpeed).brake = s.brake
    ∧ (s.evaluateSpeed).doors = s.doors ∧ (s.evaluateSpeed).radio = s.radio
    ∧ (s.evaluateSpeed).restrictions = s.restrictions ∧ (s.evaluateSpeed).faults = s.faults
    ∧ (s.evaluateSpeed).station = s.station ∧ (s.evaluateSpeed).store = s.store := by
  simp [State.evaluateSpeed]

/-- `dropHandleReleases` changes no field but doors, faults. -/
@[simp] theorem State.dropHandleReleases_frame :
    (s.dropHandleReleases).pending = s.pending ∧ (s.dropHandleReleases).clock = s.clock
    ∧ (s.dropHandleReleases).freeCount = s.freeCount ∧ (s.dropHandleReleases).pins = s.pins
    ∧ (s.dropHandleReleases).rack = s.rack ∧ (s.dropHandleReleases).engagement = s.engagement
    ∧ (s.dropHandleReleases).line = s.line ∧ (s.dropHandleReleases).peers = s.peers
    ∧ (s.dropHandleReleases).speed = s.speed ∧ (s.dropHandleReleases).brake = s.brake
    ∧ (s.dropHandleReleases).radio = s.radio ∧ (s.dropHandleReleases).restrictions = s.restrictions
    ∧ (s.dropHandleReleases).station = s.station ∧ (s.dropHandleReleases).store = s.store := by
  simp [State.dropHandleReleases]

/-- `leaveStandstill` changes no field but doors, faults, rack, engagement, radio. -/
@[simp] theorem State.leaveStandstill_frame (direction : Direction) :
    (s.leaveStandstill direction).pending = s.pending ∧ (s.leaveStandstill direction).clock = s.clock
    ∧ (s.leaveStandstill direction).freeCount = s.freeCount ∧ (s.leaveStandstill direction).pins = s.pins
    ∧ (s.leaveStandstill direction).line = s.line ∧ (s.leaveStandstill direction).peers = s.peers
    ∧ (s.leaveStandstill direction).speed = s.speed ∧ (s.leaveStandstill direction).brake = s.brake
    ∧ (s.leaveStandstill direction).restrictions = s.restrictions
    ∧ (s.leaveStandstill direction).station = s.station ∧ (s.leaveStandstill direction).store = s.store := by
  simp [State.leaveStandstill]

/-- `abortForMotion` changes no field but brake, doors, faults, speed, line. -/
@[simp] theorem State.abortForMotion_frame :
    (s.abortForMotion).pending = s.pending ∧ (s.abortForMotion).clock = s.clock
    ∧ (s.abortForMotion).freeCount = s.freeCount ∧ (s.abortForMotion).pins = s.pins
    ∧ (s.abortForMotion).rack = s.rack ∧ (s.abortForMotion).engagement = s.engagement
    ∧ (s.abortForMotion).peers = s.peers ∧ (s.abortForMotion).radio = s.radio
    ∧ (s.abortForMotion).restrictions = s.restrictions ∧ (s.abortForMotion).station = s.station
    ∧ (s.abortForMotion).store = s.store := by
  unfold State.abortForMotion
  split <;> simp

/-- `wheelMotion` changes no field but brake, doors, faults, speed, line. -/
@[simp] theorem State.wheelMotion_frame :
    (s.wheelMotion).pending = s.pending ∧ (s.wheelMotion).clock = s.clock
    ∧ (s.wheelMotion).freeCount = s.freeCount ∧ (s.wheelMotion).pins = s.pins ∧ (s.wheelMotion).rack = s.rack
    ∧ (s.wheelMotion).engagement = s.engagement ∧ (s.wheelMotion).peers = s.peers
    ∧ (s.wheelMotion).radio = s.radio ∧ (s.wheelMotion).restrictions = s.restrictions
    ∧ (s.wheelMotion).station = s.station ∧ (s.wheelMotion).store = s.store := by
  simp [State.wheelMotion, State.ite_frame]

/-- `setGrade` changes no field but doors, faults, rack. -/
@[simp] theorem State.setGrade_frame (g : Int) :
    (s.setGrade g).pending = s.pending ∧ (s.setGrade g).clock = s.clock ∧ (s.setGrade g).freeCount = s.freeCount
    ∧ (s.setGrade g).pins = s.pins ∧ (s.setGrade g).engagement = s.engagement ∧ (s.setGrade g).line = s.line
    ∧ (s.setGrade g).peers = s.peers ∧ (s.setGrade g).speed = s.speed ∧ (s.setGrade g).brake = s.brake
    ∧ (s.setGrade g).radio = s.radio ∧ (s.setGrade g).restrictions = s.restrictions
    ∧ (s.setGrade g).station = s.station ∧ (s.setGrade g).store = s.store := by
  unfold State.setGrade
  split <;> simp

/-- `publishGrade` changes no field but doors, faults, rack. -/
@[simp] theorem State.publishGrade_frame :
    (s.publishGrade).pending = s.pending ∧ (s.publishGrade).clock = s.clock
    ∧ (s.publishGrade).freeCount = s.freeCount ∧ (s.publishGrade).pins = s.pins
    ∧ (s.publishGrade).engagement = s.engagement ∧ (s.publishGrade).line = s.line
    ∧ (s.publishGrade).peers = s.peers ∧ (s.publishGrade).speed = s.speed ∧ (s.publishGrade).brake = s.brake
    ∧ (s.publishGrade).radio = s.radio ∧ (s.publishGrade).restrictions = s.restrictions
    ∧ (s.publishGrade).station = s.station ∧ (s.publishGrade).store = s.store := by
  simp [State.publishGrade]

/-- `followWorstGrade` changes no field but doors, faults, rack. -/
@[simp] theorem State.followWorstGrade_frame :
    (s.followWorstGrade).pending = s.pending ∧ (s.followWorstGrade).clock = s.clock
    ∧ (s.followWorstGrade).freeCount = s.freeCount ∧ (s.followWorstGrade).pins = s.pins
    ∧ (s.followWorstGrade).engagement = s.engagement ∧ (s.followWorstGrade).line = s.line
    ∧ (s.followWorstGrade).peers = s.peers ∧ (s.followWorstGrade).speed = s.speed
    ∧ (s.followWorstGrade).brake = s.brake ∧ (s.followWorstGrade).radio = s.radio
    ∧ (s.followWorstGrade).restrictions = s.restrictions ∧ (s.followWorstGrade).station = s.station
    ∧ (s.followWorstGrade).store = s.store := by
  unfold State.followWorstGrade
  split <;> simp

/-- `reformGradeSensor` changes no field but brake, doors, faults, speed, line. -/
@[simp] theorem State.reformGradeSensor_frame (before : Rack) :
    (s.reformGradeSensor before).pending = s.pending ∧ (s.reformGradeSensor before).clock = s.clock
    ∧ (s.reformGradeSensor before).freeCount = s.freeCount ∧ (s.reformGradeSensor before).pins = s.pins
    ∧ (s.reformGradeSensor before).rack = s.rack ∧ (s.reformGradeSensor before).engagement = s.engagement
    ∧ (s.reformGradeSensor before).peers = s.peers ∧ (s.reformGradeSensor before).radio = s.radio
    ∧ (s.reformGradeSensor before).restrictions = s.restrictions
    ∧ (s.reformGradeSensor before).station = s.station ∧ (s.reformGradeSensor before).store = s.store := by
  simp [State.reformGradeSensor, State.ite_frame]

/-- `toothSource` changes no field but rack, freeCount. -/
@[simp] theorem State.toothSource_frame (sensor : Pinion) :
    (s.toothSource sensor).pending = s.pending ∧ (s.toothSource sensor).clock = s.clock
    ∧ (s.toothSource sensor).pins = s.pins ∧ (s.toothSource sensor).engagement = s.engagement
    ∧ (s.toothSource sensor).line = s.line ∧ (s.toothSource sensor).peers = s.peers
    ∧ (s.toothSource sensor).speed = s.speed ∧ (s.toothSource sensor).brake = s.brake
    ∧ (s.toothSource sensor).doors = s.doors ∧ (s.toothSource sensor).radio = s.radio
    ∧ (s.toothSource sensor).restrictions = s.restrictions ∧ (s.toothSource sensor).faults = s.faults
    ∧ (s.toothSource sensor).station = s.station ∧ (s.toothSource sensor).store = s.store := by
  unfold State.toothSource
  split <;> simp

/-- `wheelSource` changes no field but rack, freeCount. -/
@[simp] theorem State.wheelSource_frame :
    (s.wheelSource).pending = s.pending ∧ (s.wheelSource).clock = s.clock ∧ (s.wheelSource).pins = s.pins
    ∧ (s.wheelSource).engagement = s.engagement ∧ (s.wheelSource).line = s.line
    ∧ (s.wheelSource).peers = s.peers ∧ (s.wheelSource).speed = s.speed ∧ (s.wheelSource).brake = s.brake
    ∧ (s.wheelSource).doors = s.doors ∧ (s.wheelSource).radio = s.radio
    ∧ (s.wheelSource).restrictions = s.restrictions ∧ (s.wheelSource).faults = s.faults
    ∧ (s.wheelSource).station = s.station ∧ (s.wheelSource).store = s.store := by
  simp [State.wheelSource]

/-- `leaveAtTooth` changes no field but doors, faults, rack, engagement, radio. -/
@[simp] theorem State.leaveAtTooth_frame (sensor : Pinion) :
    (s.leaveAtTooth sensor).pending = s.pending ∧ (s.leaveAtTooth sensor).clock = s.clock
    ∧ (s.leaveAtTooth sensor).freeCount = s.freeCount ∧ (s.leaveAtTooth sensor).pins = s.pins
    ∧ (s.leaveAtTooth sensor).line = s.line ∧ (s.leaveAtTooth sensor).peers = s.peers
    ∧ (s.leaveAtTooth sensor).speed = s.speed ∧ (s.leaveAtTooth sensor).brake = s.brake
    ∧ (s.leaveAtTooth sensor).restrictions = s.restrictions ∧ (s.leaveAtTooth sensor).station = s.station
    ∧ (s.leaveAtTooth sensor).store = s.store := by
  unfold State.leaveAtTooth
  split <;> simp [State.ite_frame]

/-- `announceEntry` changes no field but doors, faults, engagement, speed. -/
@[simp] theorem State.announceEntry_frame :
    (s.announceEntry).pending = s.pending ∧ (s.announceEntry).clock = s.clock
    ∧ (s.announceEntry).freeCount = s.freeCount ∧ (s.announceEntry).pins = s.pins
    ∧ (s.announceEntry).rack = s.rack ∧ (s.announceEntry).line = s.line ∧ (s.announceEntry).peers = s.peers
    ∧ (s.announceEntry).brake = s.brake ∧ (s.announceEntry).radio = s.radio
    ∧ (s.announceEntry).restrictions = s.restrictions ∧ (s.announceEntry).station = s.station
    ∧ (s.announceEntry).store = s.store := by
  simp [State.announceEntry]

/-- `toothEdge` changes no field but brake, doors, faults, speed, line, rack, freeCount, engagement, radio, restrictions. -/
@[simp] theorem State.toothEdge_frame (sensor : Pinion) (phase : Option (Fin 32)) :
    (s.toothEdge sensor phase).pending = s.pending ∧ (s.toothEdge sensor phase).clock = s.clock
    ∧ (s.toothEdge sensor phase).pins = s.pins ∧ (s.toothEdge sensor phase).peers = s.peers
    ∧ (s.toothEdge sensor phase).station = s.station ∧ (s.toothEdge sensor phase).store = s.store := by
  unfold State.toothEdge
  split <;> simp

/-- `leaveAtPulse` changes no field but doors, faults, rack, engagement, radio. -/
@[simp] theorem State.leaveAtPulse_frame (direction : Direction) :
    (s.leaveAtPulse direction).pending = s.pending ∧ (s.leaveAtPulse direction).clock = s.clock
    ∧ (s.leaveAtPulse direction).freeCount = s.freeCount ∧ (s.leaveAtPulse direction).pins = s.pins
    ∧ (s.leaveAtPulse direction).line = s.line ∧ (s.leaveAtPulse direction).peers = s.peers
    ∧ (s.leaveAtPulse direction).speed = s.speed ∧ (s.leaveAtPulse direction).brake = s.brake
    ∧ (s.leaveAtPulse direction).restrictions = s.restrictions ∧ (s.leaveAtPulse direction).station = s.station
    ∧ (s.leaveAtPulse direction).store = s.store := by
  unfold State.leaveAtPulse
  split <;> simp

/-- `wheelPulse` changes no field but brake, doors, faults, speed, line, rack, freeCount, engagement, radio, restrictions. -/
@[simp] theorem State.wheelPulse_frame (channel1Leads : Bool) :
    (s.wheelPulse channel1Leads).pending = s.pending ∧ (s.wheelPulse channel1Leads).clock = s.clock
    ∧ (s.wheelPulse channel1Leads).pins = s.pins ∧ (s.wheelPulse channel1Leads).peers = s.peers
    ∧ (s.wheelPulse channel1Leads).station = s.station ∧ (s.wheelPulse channel1Leads).store = s.store := by
  simp [State.wheelPulse, State.ite_frame]

/-- `confirmStandstill` changes no field but doors, faults, rack, engagement, brake, restrictions, speed. -/
@[simp] theorem State.confirmStandstill_frame :
    (s.confirmStandstill).pending = s.pending ∧ (s.confirmStandstill).clock = s.clock
    ∧ (s.confirmStandstill).freeCount = s.freeCount ∧ (s.confirmStandstill).pins = s.pins
    ∧ (s.confirmStandstill).line = s.line ∧ (s.confirmStandstill).peers = s.peers
    ∧ (s.confirmStandstill).radio = s.radio ∧ (s.confirmStandstill).station = s.station
    ∧ (s.confirmStandstill).store = s.store := by
  simp [State.confirmStandstill]

/-- `placeHeld` changes no field but line. -/
@[simp] theorem State.placeHeld_frame (f : LineFrame) (kind : StateSlotKind) :
    (s.placeHeld f kind).pending = s.pending ∧ (s.placeHeld f kind).clock = s.clock
    ∧ (s.placeHeld f kind).freeCount = s.freeCount ∧ (s.placeHeld f kind).pins = s.pins
    ∧ (s.placeHeld f kind).rack = s.rack ∧ (s.placeHeld f kind).engagement = s.engagement
    ∧ (s.placeHeld f kind).peers = s.peers ∧ (s.placeHeld f kind).speed = s.speed
    ∧ (s.placeHeld f kind).brake = s.brake ∧ (s.placeHeld f kind).doors = s.doors
    ∧ (s.placeHeld f kind).radio = s.radio ∧ (s.placeHeld f kind).restrictions = s.restrictions
    ∧ (s.placeHeld f kind).faults = s.faults ∧ (s.placeHeld f kind).station = s.station
    ∧ (s.placeHeld f kind).store = s.store := by
  unfold State.placeHeld
  split <;> simp

/-- `placeState` changes no field but line. -/
@[simp] theorem State.placeState_frame (n : Fin 8) :
    (s.placeState n).pending = s.pending ∧ (s.placeState n).clock = s.clock
    ∧ (s.placeState n).freeCount = s.freeCount ∧ (s.placeState n).pins = s.pins ∧ (s.placeState n).rack = s.rack
    ∧ (s.placeState n).engagement = s.engagement ∧ (s.placeState n).peers = s.peers
    ∧ (s.placeState n).speed = s.speed ∧ (s.placeState n).brake = s.brake ∧ (s.placeState n).doors = s.doors
    ∧ (s.placeState n).radio = s.radio ∧ (s.placeState n).restrictions = s.restrictions
    ∧ (s.placeState n).faults = s.faults ∧ (s.placeState n).station = s.station
    ∧ (s.placeState n).store = s.store := by
  simp [State.placeState]

/-- `placeJoin` changes no field but line. -/
@[simp] theorem State.placeJoin_frame (n : Fin 8) :
    (s.placeJoin n).pending = s.pending ∧ (s.placeJoin n).clock = s.clock
    ∧ (s.placeJoin n).freeCount = s.freeCount ∧ (s.placeJoin n).pins = s.pins ∧ (s.placeJoin n).rack = s.rack
    ∧ (s.placeJoin n).engagement = s.engagement ∧ (s.placeJoin n).peers = s.peers
    ∧ (s.placeJoin n).speed = s.speed ∧ (s.placeJoin n).brake = s.brake ∧ (s.placeJoin n).doors = s.doors
    ∧ (s.placeJoin n).radio = s.radio ∧ (s.placeJoin n).restrictions = s.restrictions
    ∧ (s.placeJoin n).faults = s.faults ∧ (s.placeJoin n).station = s.station ∧ (s.placeJoin n).store = s.store := by
  simp [State.placeJoin]

/-- `discarded` changes no field but brake, doors, faults, speed, line. -/
@[simp] theorem State.discarded_frame (f : HeldFrame) :
    (s.discarded f).pending = s.pending ∧ (s.discarded f).clock = s.clock
    ∧ (s.discarded f).freeCount = s.freeCount ∧ (s.discarded f).pins = s.pins ∧ (s.discarded f).rack = s.rack
    ∧ (s.discarded f).engagement = s.engagement ∧ (s.discarded f).peers = s.peers
    ∧ (s.discarded f).radio = s.radio ∧ (s.discarded f).restrictions = s.restrictions
    ∧ (s.discarded f).station = s.station ∧ (s.discarded f).store = s.store := by
  simp [State.discarded, State.ite_frame]

/-- `markSelf` changes no field but brake, doors, faults, speed, line, radio, peers. -/
@[simp] theorem State.markSelf_frame (n : Fin 8) :
    (s.markSelf n).pending = s.pending ∧ (s.markSelf n).clock = s.clock ∧ (s.markSelf n).freeCount = s.freeCount
    ∧ (s.markSelf n).pins = s.pins ∧ (s.markSelf n).rack = s.rack ∧ (s.markSelf n).engagement = s.engagement
    ∧ (s.markSelf n).restrictions = s.restrictions ∧ (s.markSelf n).station = s.station
    ∧ (s.markSelf n).store = s.store := by
  simp [State.markSelf]

/-- `startReports` changes no field but radio. -/
@[simp] theorem State.startReports_frame :
    (s.startReports).pending = s.pending ∧ (s.startReports).clock = s.clock
    ∧ (s.startReports).freeCount = s.freeCount ∧ (s.startReports).pins = s.pins ∧ (s.startReports).rack = s.rack
    ∧ (s.startReports).engagement = s.engagement ∧ (s.startReports).line = s.line
    ∧ (s.startReports).peers = s.peers ∧ (s.startReports).speed = s.speed ∧ (s.startReports).brake = s.brake
    ∧ (s.startReports).doors = s.doors ∧ (s.startReports).restrictions = s.restrictions
    ∧ (s.startReports).faults = s.faults ∧ (s.startReports).station = s.station
    ∧ (s.startReports).store = s.store := by
  unfold State.startReports
  split <;> simp

/-- `takeNumber` changes no field but brake, doors, faults, speed, line, radio, peers. -/
@[simp] theorem State.takeNumber_frame (n : Fin 8) :
    (s.takeNumber n).pending = s.pending ∧ (s.takeNumber n).clock = s.clock
    ∧ (s.takeNumber n).freeCount = s.freeCount ∧ (s.takeNumber n).pins = s.pins ∧ (s.takeNumber n).rack = s.rack
    ∧ (s.takeNumber n).engagement = s.engagement ∧ (s.takeNumber n).restrictions = s.restrictions
    ∧ (s.takeNumber n).station = s.station ∧ (s.takeNumber n).store = s.store := by
  simp [State.takeNumber]

/-- `goSilent` changes no field but brake, doors, faults, speed, line. -/
@[simp] theorem State.goSilent_frame :
    (s.goSilent).pending = s.pending ∧ (s.goSilent).clock = s.clock ∧ (s.goSilent).freeCount = s.freeCount
    ∧ (s.goSilent).pins = s.pins ∧ (s.goSilent).rack = s.rack ∧ (s.goSilent).engagement = s.engagement
    ∧ (s.goSilent).peers = s.peers ∧ (s.goSilent).radio = s.radio ∧ (s.goSilent).restrictions = s.restrictions
    ∧ (s.goSilent).station = s.station ∧ (s.goSilent).store = s.store := by
  simp [State.goSilent]

/-- `tryTakeNumber` changes no field but brake, doors, faults, speed, line, radio, peers. -/
@[simp] theorem State.tryTakeNumber_frame :
    (s.tryTakeNumber).pending = s.pending ∧ (s.tryTakeNumber).clock = s.clock
    ∧ (s.tryTakeNumber).freeCount = s.freeCount ∧ (s.tryTakeNumber).pins = s.pins
    ∧ (s.tryTakeNumber).rack = s.rack ∧ (s.tryTakeNumber).engagement = s.engagement
    ∧ (s.tryTakeNumber).restrictions = s.restrictions ∧ (s.tryTakeNumber).station = s.station
    ∧ (s.tryTakeNumber).store = s.store := by
  unfold State.tryTakeNumber
  (repeat' split)
  all_goals simp [State.ite_frame]

/-- `countBad` changes no field but brake, doors, faults, speed, line. -/
@[simp] theorem State.countBad_frame :
    (s.countBad).pending = s.pending ∧ (s.countBad).clock = s.clock ∧ (s.countBad).freeCount = s.freeCount
    ∧ (s.countBad).pins = s.pins ∧ (s.countBad).rack = s.rack ∧ (s.countBad).engagement = s.engagement
    ∧ (s.countBad).peers = s.peers ∧ (s.countBad).radio = s.radio ∧ (s.countBad).restrictions = s.restrictions
    ∧ (s.countBad).station = s.station ∧ (s.countBad).store = s.store := by
  simp [State.countBad, State.ite_frame]

/-- `clash` changes no field but brake, doors, faults, speed, line. -/
@[simp] theorem State.clash_frame :
    (s.clash).pending = s.pending ∧ (s.clash).clock = s.clock ∧ (s.clash).freeCount = s.freeCount
    ∧ (s.clash).pins = s.pins ∧ (s.clash).rack = s.rack ∧ (s.clash).engagement = s.engagement
    ∧ (s.clash).peers = s.peers ∧ (s.clash).radio = s.radio ∧ (s.clash).restrictions = s.restrictions
    ∧ (s.clash).station = s.station ∧ (s.clash).store = s.store := by
  simp [State.clash]

/-- `clashTest` changes no field but brake, doors, faults, speed, line. -/
@[simp] theorem State.clashTest_frame (source : Fin 8) :
    (s.clashTest source).pending = s.pending ∧ (s.clashTest source).clock = s.clock
    ∧ (s.clashTest source).freeCount = s.freeCount ∧ (s.clashTest source).pins = s.pins
    ∧ (s.clashTest source).rack = s.rack ∧ (s.clashTest source).engagement = s.engagement
    ∧ (s.clashTest source).peers = s.peers ∧ (s.clashTest source).radio = s.radio
    ∧ (s.clashTest source).restrictions = s.restrictions ∧ (s.clashTest source).station = s.station
    ∧ (s.clashTest source).store = s.store := by
  unfold State.clashTest
  split <;> simp

/-- `endHoldOff` changes no field but line. -/
@[simp] theorem State.endHoldOff_frame :
    (s.endHoldOff).pending = s.pending ∧ (s.endHoldOff).clock = s.clock ∧ (s.endHoldOff).freeCount = s.freeCount
    ∧ (s.endHoldOff).pins = s.pins ∧ (s.endHoldOff).rack = s.rack ∧ (s.endHoldOff).engagement = s.engagement
    ∧ (s.endHoldOff).peers = s.peers ∧ (s.endHoldOff).speed = s.speed ∧ (s.endHoldOff).brake = s.brake
    ∧ (s.endHoldOff).doors = s.doors ∧ (s.endHoldOff).radio = s.radio
    ∧ (s.endHoldOff).restrictions = s.restrictions ∧ (s.endHoldOff).faults = s.faults
    ∧ (s.endHoldOff).station = s.station ∧ (s.endHoldOff).store = s.store := by
  simp [State.endHoldOff]

/-- `reformConsistChanged` changes no field but brake, doors, faults, speed, line. -/
@[simp] theorem State.reformConsistChanged_frame :
    (s.reformConsistChanged).pending = s.pending ∧ (s.reformConsistChanged).clock = s.clock
    ∧ (s.reformConsistChanged).freeCount = s.freeCount ∧ (s.reformConsistChanged).pins = s.pins
    ∧ (s.reformConsistChanged).rack = s.rack ∧ (s.reformConsistChanged).engagement = s.engagement
    ∧ (s.reformConsistChanged).peers = s.peers ∧ (s.reformConsistChanged).radio = s.radio
    ∧ (s.reformConsistChanged).restrictions = s.restrictions ∧ (s.reformConsistChanged).station = s.station
    ∧ (s.reformConsistChanged).store = s.store := by
  simp [State.reformConsistChanged, State.ite_frame]

/-- `joinSent` changes no field but brake, doors, faults, speed, line, station, store. -/
@[simp] theorem State.joinSent_frame (last rejoin : Bool) :
    (s.joinSent last rejoin).pending = s.pending ∧ (s.joinSent last rejoin).clock = s.clock
    ∧ (s.joinSent last rejoin).freeCount = s.freeCount ∧ (s.joinSent last rejoin).pins = s.pins
    ∧ (s.joinSent last rejoin).rack = s.rack ∧ (s.joinSent last rejoin).engagement = s.engagement
    ∧ (s.joinSent last rejoin).peers = s.peers ∧ (s.joinSent last rejoin).radio = s.radio
    ∧ (s.joinSent last rejoin).restrictions = s.restrictions := by
  simp [State.joinSent, State.ite_frame]

/-- `heldSent` changes no field but brake, doors, faults, speed, line, station, store. -/
@[simp] theorem State.heldSent_frame :
    (s.heldSent).pending = s.pending ∧ (s.heldSent).clock = s.clock ∧ (s.heldSent).freeCount = s.freeCount
    ∧ (s.heldSent).pins = s.pins ∧ (s.heldSent).rack = s.rack ∧ (s.heldSent).engagement = s.engagement
    ∧ (s.heldSent).peers = s.peers ∧ (s.heldSent).radio = s.radio ∧ (s.heldSent).restrictions = s.restrictions := by
  unfold State.heldSent
  dsimp only
  (repeat' split) <;> simp [State.ite_frame]

/-- `frameSent` changes no field but brake, doors, faults, speed, line, station, store. -/
@[simp] theorem State.frameSent_frame :
    (s.frameSent).pending = s.pending ∧ (s.frameSent).clock = s.clock ∧ (s.frameSent).freeCount = s.freeCount
    ∧ (s.frameSent).pins = s.pins ∧ (s.frameSent).rack = s.rack ∧ (s.frameSent).engagement = s.engagement
    ∧ (s.frameSent).peers = s.peers ∧ (s.frameSent).radio = s.radio
    ∧ (s.frameSent).restrictions = s.restrictions := by
  unfold State.frameSent
  split <;> simp

/-- `contentionLost` changes no field but brake, doors, faults, speed, line. -/
@[simp] theorem State.contentionLost_frame :
    (s.contentionLost).pending = s.pending ∧ (s.contentionLost).clock = s.clock
    ∧ (s.contentionLost).freeCount = s.freeCount ∧ (s.contentionLost).pins = s.pins
    ∧ (s.contentionLost).rack = s.rack ∧ (s.contentionLost).engagement = s.engagement
    ∧ (s.contentionLost).peers = s.peers ∧ (s.contentionLost).radio = s.radio
    ∧ (s.contentionLost).restrictions = s.restrictions ∧ (s.contentionLost).station = s.station
    ∧ (s.contentionLost).store = s.store := by
  unfold State.contentionLost
  dsimp only
  (repeat' split) <;> simp [State.ite_frame]

/-- `accessTimeout` changes no field but brake, doors, faults, speed, line. -/
@[simp] theorem State.accessTimeout_frame :
    (s.accessTimeout).pending = s.pending ∧ (s.accessTimeout).clock = s.clock
    ∧ (s.accessTimeout).freeCount = s.freeCount ∧ (s.accessTimeout).pins = s.pins
    ∧ (s.accessTimeout).rack = s.rack ∧ (s.accessTimeout).engagement = s.engagement
    ∧ (s.accessTimeout).peers = s.peers ∧ (s.accessTimeout).radio = s.radio
    ∧ (s.accessTimeout).restrictions = s.restrictions ∧ (s.accessTimeout).station = s.station
    ∧ (s.accessTimeout).store = s.store := by
  unfold State.accessTimeout
  dsimp only
  (repeat' split) <;> simp [State.ite_frame]

/-- `peerJoin` changes no field but brake, doors, faults, speed, line, radio, peers. -/
@[simp] theorem State.peerJoin_frame (source : Fin 8) (fields : JoinFields) :
    (s.peerJoin source fields).pending = s.pending ∧ (s.peerJoin source fields).clock = s.clock
    ∧ (s.peerJoin source fields).freeCount = s.freeCount ∧ (s.peerJoin source fields).pins = s.pins
    ∧ (s.peerJoin source fields).rack = s.rack ∧ (s.peerJoin source fields).engagement = s.engagement
    ∧ (s.peerJoin source fields).restrictions = s.restrictions ∧ (s.peerJoin source fields).station = s.station
    ∧ (s.peerJoin source fields).store = s.store := by
  simp [State.peerJoin, State.ite_frame]

/-- `completeByJoin` changes no field but line, station, brake, doors, faults. -/
@[simp] theorem State.completeByJoin_frame (last : Bool) :
    (s.completeByJoin last).pending = s.pending ∧ (s.completeByJoin last).clock = s.clock
    ∧ (s.completeByJoin last).freeCount = s.freeCount ∧ (s.completeByJoin last).pins = s.pins
    ∧ (s.completeByJoin last).rack = s.rack ∧ (s.completeByJoin last).engagement = s.engagement
    ∧ (s.completeByJoin last).peers = s.peers ∧ (s.completeByJoin last).speed = s.speed
    ∧ (s.completeByJoin last).radio = s.radio ∧ (s.completeByJoin last).restrictions = s.restrictions
    ∧ (s.completeByJoin last).store = s.store := by
  unfold State.completeByJoin
  split <;> simp

/-- `numberByJoin` changes no field but brake, doors, faults, speed, line, radio, peers, station. -/
@[simp] theorem State.numberByJoin_frame (fields : JoinFields) :
    (s.numberByJoin fields).pending = s.pending ∧ (s.numberByJoin fields).clock = s.clock
    ∧ (s.numberByJoin fields).freeCount = s.freeCount ∧ (s.numberByJoin fields).pins = s.pins
    ∧ (s.numberByJoin fields).rack = s.rack ∧ (s.numberByJoin fields).engagement = s.engagement
    ∧ (s.numberByJoin fields).restrictions = s.restrictions ∧ (s.numberByJoin fields).store = s.store := by
  unfold State.numberByJoin
  split <;> simp

/-- `peerState` changes no field but brake, doors, faults, speed, line, radio, peers. -/
@[simp] theorem State.peerState_frame (source : Fin 8) (report : StateReport) :
    (s.peerState source report).pending = s.pending ∧ (s.peerState source report).clock = s.clock
    ∧ (s.peerState source report).freeCount = s.freeCount ∧ (s.peerState source report).pins = s.pins
    ∧ (s.peerState source report).rack = s.rack ∧ (s.peerState source report).engagement = s.engagement
    ∧ (s.peerState source report).restrictions = s.restrictions
    ∧ (s.peerState source report).station = s.station ∧ (s.peerState source report).store = s.store := by
  unfold State.peerState
  split <;> simp

/-- `peerAlert` changes no field but peers. -/
@[simp] theorem State.peerAlert_frame (source : Fin 8) (kind : Byte) :
    (s.peerAlert source kind).pending = s.pending ∧ (s.peerAlert source kind).clock = s.clock
    ∧ (s.peerAlert source kind).freeCount = s.freeCount ∧ (s.peerAlert source kind).pins = s.pins
    ∧ (s.peerAlert source kind).rack = s.rack ∧ (s.peerAlert source kind).engagement = s.engagement
    ∧ (s.peerAlert source kind).line = s.line ∧ (s.peerAlert source kind).speed = s.speed
    ∧ (s.peerAlert source kind).brake = s.brake ∧ (s.peerAlert source kind).doors = s.doors
    ∧ (s.peerAlert source kind).radio = s.radio ∧ (s.peerAlert source kind).restrictions = s.restrictions
    ∧ (s.peerAlert source kind).faults = s.faults ∧ (s.peerAlert source kind).station = s.station
    ∧ (s.peerAlert source kind).store = s.store := by
  unfold State.peerAlert
  split <;> simp

/-- `peerStale` changes no field but brake, doors, faults, speed, line, radio, peers. -/
@[simp] theorem State.peerStale_frame (station : Fin 8) :
    (s.peerStale station).pending = s.pending ∧ (s.peerStale station).clock = s.clock
    ∧ (s.peerStale station).freeCount = s.freeCount ∧ (s.peerStale station).pins = s.pins
    ∧ (s.peerStale station).rack = s.rack ∧ (s.peerStale station).engagement = s.engagement
    ∧ (s.peerStale station).restrictions = s.restrictions ∧ (s.peerStale station).station = s.station
    ∧ (s.peerStale station).store = s.store := by
  unfold State.peerStale
  split <;> simp

/-- `peerLost` changes no field but brake, doors, faults, speed, line, radio, peers. -/
@[simp] theorem State.peerLost_frame (station : Fin 8) :
    (s.peerLost station).pending = s.pending ∧ (s.peerLost station).clock = s.clock
    ∧ (s.peerLost station).freeCount = s.freeCount ∧ (s.peerLost station).pins = s.pins
    ∧ (s.peerLost station).rack = s.rack ∧ (s.peerLost station).engagement = s.engagement
    ∧ (s.peerLost station).restrictions = s.restrictions ∧ (s.peerLost station).station = s.station
    ∧ (s.peerLost station).store = s.store := by
  unfold State.peerLost
  split <;> simp

/-- `judgeHoldInadequate` changes no field but brake, doors, faults, speed, line. -/
@[simp] theorem State.judgeHoldInadequate_frame (net : Int) :
    (s.judgeHoldInadequate net).pending = s.pending ∧ (s.judgeHoldInadequate net).clock = s.clock
    ∧ (s.judgeHoldInadequate net).freeCount = s.freeCount ∧ (s.judgeHoldInadequate net).pins = s.pins
    ∧ (s.judgeHoldInadequate net).rack = s.rack ∧ (s.judgeHoldInadequate net).engagement = s.engagement
    ∧ (s.judgeHoldInadequate net).peers = s.peers ∧ (s.judgeHoldInadequate net).radio = s.radio
    ∧ (s.judgeHoldInadequate net).restrictions = s.restrictions
    ∧ (s.judgeHoldInadequate net).station = s.station ∧ (s.judgeHoldInadequate net).store = s.store := by
  simp [State.judgeHoldInadequate, State.ite_frame]

/-- `judgeHoldMargin` changes no field but brake, doors, faults, speed, line. -/
@[simp] theorem State.judgeHoldMargin_frame (inputs : State) :
    (s.judgeHoldMargin inputs).pending = s.pending ∧ (s.judgeHoldMargin inputs).clock = s.clock
    ∧ (s.judgeHoldMargin inputs).freeCount = s.freeCount ∧ (s.judgeHoldMargin inputs).pins = s.pins
    ∧ (s.judgeHoldMargin inputs).rack = s.rack ∧ (s.judgeHoldMargin inputs).engagement = s.engagement
    ∧ (s.judgeHoldMargin inputs).peers = s.peers ∧ (s.judgeHoldMargin inputs).radio = s.radio
    ∧ (s.judgeHoldMargin inputs).restrictions = s.restrictions ∧ (s.judgeHoldMargin inputs).station = s.station
    ∧ (s.judgeHoldMargin inputs).store = s.store := by
  simp [State.judgeHoldMargin, State.ite_frame]

/-- `judgeOverspeed` changes no field but brake, doors, faults, speed, line. -/
@[simp] theorem State.judgeOverspeed_frame (speed : Nat) :
    (s.judgeOverspeed speed).pending = s.pending ∧ (s.judgeOverspeed speed).clock = s.clock
    ∧ (s.judgeOverspeed speed).freeCount = s.freeCount ∧ (s.judgeOverspeed speed).pins = s.pins
    ∧ (s.judgeOverspeed speed).rack = s.rack ∧ (s.judgeOverspeed speed).engagement = s.engagement
    ∧ (s.judgeOverspeed speed).peers = s.peers ∧ (s.judgeOverspeed speed).radio = s.radio
    ∧ (s.judgeOverspeed speed).restrictions = s.restrictions ∧ (s.judgeOverspeed speed).station = s.station
    ∧ (s.judgeOverspeed speed).store = s.store := by
  unfold State.judgeOverspeed
  split <;> simp

/-- `supervise` changes no field but brake, doors, faults, speed, line. -/
@[simp] theorem State.supervise_frame :
    (s.supervise).pending = s.pending ∧ (s.supervise).clock = s.clock ∧ (s.supervise).freeCount = s.freeCount
    ∧ (s.supervise).pins = s.pins ∧ (s.supervise).rack = s.rack ∧ (s.supervise).engagement = s.engagement
    ∧ (s.supervise).peers = s.peers ∧ (s.supervise).radio = s.radio
    ∧ (s.supervise).restrictions = s.restrictions ∧ (s.supervise).station = s.station
    ∧ (s.supervise).store = s.store := by
  simp [State.supervise]

/-- `setPinion` changes no field but brake. -/
@[simp] theorem State.setPinion_frame (p : Pinion) (b : PinionBrake) :
    (s.setPinion p b).pending = s.pending ∧ (s.setPinion p b).clock = s.clock
    ∧ (s.setPinion p b).freeCount = s.freeCount ∧ (s.setPinion p b).pins = s.pins
    ∧ (s.setPinion p b).rack = s.rack ∧ (s.setPinion p b).engagement = s.engagement
    ∧ (s.setPinion p b).line = s.line ∧ (s.setPinion p b).peers = s.peers ∧ (s.setPinion p b).speed = s.speed
    ∧ (s.setPinion p b).doors = s.doors ∧ (s.setPinion p b).radio = s.radio
    ∧ (s.setPinion p b).restrictions = s.restrictions ∧ (s.setPinion p b).faults = s.faults
    ∧ (s.setPinion p b).station = s.station ∧ (s.setPinion p b).store = s.store := by
  simp [State.setPinion]

/-- `heatPinion` changes no field but brake, doors, faults, speed, line. -/
@[simp] theorem State.heatPinion_frame (p : Pinion) :
    (s.heatPinion p).pending = s.pending ∧ (s.heatPinion p).clock = s.clock
    ∧ (s.heatPinion p).freeCount = s.freeCount ∧ (s.heatPinion p).pins = s.pins ∧ (s.heatPinion p).rack = s.rack
    ∧ (s.heatPinion p).engagement = s.engagement ∧ (s.heatPinion p).peers = s.peers
    ∧ (s.heatPinion p).radio = s.radio ∧ (s.heatPinion p).restrictions = s.restrictions
    ∧ (s.heatPinion p).station = s.station ∧ (s.heatPinion p).store = s.store := by
  simp [State.heatPinion]

/-- `raiseFade` changes no field but brake, doors, faults, speed, line. -/
@[simp] theorem State.raiseFade_frame (before : State) (p : Pinion) :
    (s.raiseFade before p).pending = s.pending ∧ (s.raiseFade before p).clock = s.clock
    ∧ (s.raiseFade before p).freeCount = s.freeCount ∧ (s.raiseFade before p).pins = s.pins
    ∧ (s.raiseFade before p).rack = s.rack ∧ (s.raiseFade before p).engagement = s.engagement
    ∧ (s.raiseFade before p).peers = s.peers ∧ (s.raiseFade before p).radio = s.radio
    ∧ (s.raiseFade before p).restrictions = s.restrictions ∧ (s.raiseFade before p).station = s.station
    ∧ (s.raiseFade before p).store = s.store := by
  unfold State.raiseFade
  split <;> simp

/-- `energyStep` changes no field but brake, doors, faults, speed, line. -/
@[simp] theorem State.energyStep_frame :
    (s.energyStep).pending = s.pending ∧ (s.energyStep).clock = s.clock ∧ (s.energyStep).freeCount = s.freeCount
    ∧ (s.energyStep).pins = s.pins ∧ (s.energyStep).rack = s.rack ∧ (s.energyStep).engagement = s.engagement
    ∧ (s.energyStep).peers = s.peers ∧ (s.energyStep).radio = s.radio
    ∧ (s.energyStep).restrictions = s.restrictions ∧ (s.energyStep).station = s.station
    ∧ (s.energyStep).store = s.store := by
  simp [State.energyStep, State.ite_frame]

/-- `markFailed` changes no field but brake, doors, faults, speed, line. -/
@[simp] theorem State.markFailed_frame (p : Pinion) :
    (s.markFailed p).pending = s.pending ∧ (s.markFailed p).clock = s.clock
    ∧ (s.markFailed p).freeCount = s.freeCount ∧ (s.markFailed p).pins = s.pins ∧ (s.markFailed p).rack = s.rack
    ∧ (s.markFailed p).engagement = s.engagement ∧ (s.markFailed p).peers = s.peers
    ∧ (s.markFailed p).radio = s.radio ∧ (s.markFailed p).restrictions = s.restrictions
    ∧ (s.markFailed p).station = s.station ∧ (s.markFailed p).store = s.store := by
  simp [State.markFailed]

/-- `checkPinion` changes no field but brake, doors, faults, speed, line. -/
@[simp] theorem State.checkPinion_frame (p : Pinion) :
    (s.checkPinion p).pending = s.pending ∧ (s.checkPinion p).clock = s.clock
    ∧ (s.checkPinion p).freeCount = s.freeCount ∧ (s.checkPinion p).pins = s.pins
    ∧ (s.checkPinion p).rack = s.rack ∧ (s.checkPinion p).engagement = s.engagement
    ∧ (s.checkPinion p).peers = s.peers ∧ (s.checkPinion p).radio = s.radio
    ∧ (s.checkPinion p).restrictions = s.restrictions ∧ (s.checkPinion p).station = s.station
    ∧ (s.checkPinion p).store = s.store := by
  unfold State.checkPinion
  dsimp only
  (repeat' split) <;> simp [State.ite_frame]

/-- `failureStep` changes no field but brake, doors, faults, speed, line. -/
@[simp] theorem State.failureStep_frame :
    (s.failureStep).pending = s.pending ∧ (s.failureStep).clock = s.clock
    ∧ (s.failureStep).freeCount = s.freeCount ∧ (s.failureStep).pins = s.pins ∧ (s.failureStep).rack = s.rack
    ∧ (s.failureStep).engagement = s.engagement ∧ (s.failureStep).peers = s.peers
    ∧ (s.failureStep).radio = s.radio ∧ (s.failureStep).restrictions = s.restrictions
    ∧ (s.failureStep).station = s.station ∧ (s.failureStep).store = s.store := by
  simp [State.failureStep]

/-- `proof` changes no field but brake. -/
@[simp] theorem State.proof_frame :
    (s.proof).pending = s.pending ∧ (s.proof).clock = s.clock ∧ (s.proof).freeCount = s.freeCount
    ∧ (s.proof).pins = s.pins ∧ (s.proof).rack = s.rack ∧ (s.proof).engagement = s.engagement
    ∧ (s.proof).line = s.line ∧ (s.proof).peers = s.peers ∧ (s.proof).speed = s.speed
    ∧ (s.proof).doors = s.doors ∧ (s.proof).radio = s.radio ∧ (s.proof).restrictions = s.restrictions
    ∧ (s.proof).faults = s.faults ∧ (s.proof).station = s.station ∧ (s.proof).store = s.store := by
  unfold State.proof
  split <;> simp

/-- `completeProof` changes no field but brake, doors, faults, speed, line, station. -/
@[simp] theorem State.completeProof_frame :
    (s.completeProof).pending = s.pending ∧ (s.completeProof).clock = s.clock
    ∧ (s.completeProof).freeCount = s.freeCount ∧ (s.completeProof).pins = s.pins
    ∧ (s.completeProof).rack = s.rack ∧ (s.completeProof).engagement = s.engagement
    ∧ (s.completeProof).peers = s.peers ∧ (s.completeProof).radio = s.radio
    ∧ (s.completeProof).restrictions = s.restrictions ∧ (s.completeProof).store = s.store := by
  simp [State.completeProof, State.ite_frame]

/-- `endSample` changes no field but brake, doors, faults, speed, line, station. -/
@[simp] theorem State.endSample_frame (p : Pinion) :
    (s.endSample p).pending = s.pending ∧ (s.endSample p).clock = s.clock
    ∧ (s.endSample p).freeCount = s.freeCount ∧ (s.endSample p).pins = s.pins ∧ (s.endSample p).rack = s.rack
    ∧ (s.endSample p).engagement = s.engagement ∧ (s.endSample p).peers = s.peers
    ∧ (s.endSample p).radio = s.radio ∧ (s.endSample p).restrictions = s.restrictions
    ∧ (s.endSample p).store = s.store := by
  unfold State.endSample
  split <;> simp

/-- `takeReading` changes no field but brake, doors, faults, speed, line, station. -/
@[simp] theorem State.takeReading_frame (p : Pinion) :
    (s.takeReading p).pending = s.pending ∧ (s.takeReading p).clock = s.clock
    ∧ (s.takeReading p).freeCount = s.freeCount ∧ (s.takeReading p).pins = s.pins
    ∧ (s.takeReading p).rack = s.rack ∧ (s.takeReading p).engagement = s.engagement
    ∧ (s.takeReading p).peers = s.peers ∧ (s.takeReading p).radio = s.radio
    ∧ (s.takeReading p).restrictions = s.restrictions ∧ (s.takeReading p).store = s.store := by
  simp [State.takeReading, State.ite_frame]

/-- `sampleStep` changes no field but brake, doors, faults, speed, line, station. -/
@[simp] theorem State.sampleStep_frame :
    (s.sampleStep).pending = s.pending ∧ (s.sampleStep).clock = s.clock ∧ (s.sampleStep).freeCount = s.freeCount
    ∧ (s.sampleStep).pins = s.pins ∧ (s.sampleStep).rack = s.rack ∧ (s.sampleStep).engagement = s.engagement
    ∧ (s.sampleStep).peers = s.peers ∧ (s.sampleStep).radio = s.radio
    ∧ (s.sampleStep).restrictions = s.restrictions ∧ (s.sampleStep).store = s.store := by
  unfold State.sampleStep
  (repeat' split)
  all_goals simp [State.ite_frame]

/-- `automaticStep` changes no field but brake. -/
@[simp] theorem State.automaticStep_frame :
    (s.automaticStep).pending = s.pending ∧ (s.automaticStep).clock = s.clock
    ∧ (s.automaticStep).freeCount = s.freeCount ∧ (s.automaticStep).pins = s.pins
    ∧ (s.automaticStep).rack = s.rack ∧ (s.automaticStep).engagement = s.engagement
    ∧ (s.automaticStep).line = s.line ∧ (s.automaticStep).peers = s.peers ∧ (s.automaticStep).speed = s.speed
    ∧ (s.automaticStep).doors = s.doors ∧ (s.automaticStep).radio = s.radio
    ∧ (s.automaticStep).restrictions = s.restrictions ∧ (s.automaticStep).faults = s.faults
    ∧ (s.automaticStep).station = s.station ∧ (s.automaticStep).store = s.store := by
  unfold State.automaticStep
  split <;> simp

/-- `releaseStep` changes no field but doors, faults, brake. -/
@[simp] theorem State.releaseStep_frame :
    (s.releaseStep).pending = s.pending ∧ (s.releaseStep).clock = s.clock
    ∧ (s.releaseStep).freeCount = s.freeCount ∧ (s.releaseStep).pins = s.pins ∧ (s.releaseStep).rack = s.rack
    ∧ (s.releaseStep).engagement = s.engagement ∧ (s.releaseStep).line = s.line
    ∧ (s.releaseStep).peers = s.peers ∧ (s.releaseStep).speed = s.speed ∧ (s.releaseStep).radio = s.radio
    ∧ (s.releaseStep).restrictions = s.restrictions ∧ (s.releaseStep).station = s.station
    ∧ (s.releaseStep).store = s.store := by
  simp [State.releaseStep, State.ite_frame]

/-- `sharingStep` changes no field but brake, doors, faults, speed, line. -/
@[simp] theorem State.sharingStep_frame :
    (s.sharingStep).pending = s.pending ∧ (s.sharingStep).clock = s.clock
    ∧ (s.sharingStep).freeCount = s.freeCount ∧ (s.sharingStep).pins = s.pins ∧ (s.sharingStep).rack = s.rack
    ∧ (s.sharingStep).engagement = s.engagement ∧ (s.sharingStep).peers = s.peers
    ∧ (s.sharingStep).radio = s.radio ∧ (s.sharingStep).restrictions = s.restrictions
    ∧ (s.sharingStep).station = s.station ∧ (s.sharingStep).store = s.store := by
  simp [State.sharingStep]

/-- `modesStep` changes no field but brake. -/
@[simp] theorem State.modesStep_frame :
    (s.modesStep).pending = s.pending ∧ (s.modesStep).clock = s.clock ∧ (s.modesStep).freeCount = s.freeCount
    ∧ (s.modesStep).pins = s.pins ∧ (s.modesStep).rack = s.rack ∧ (s.modesStep).engagement = s.engagement
    ∧ (s.modesStep).line = s.line ∧ (s.modesStep).peers = s.peers ∧ (s.modesStep).speed = s.speed
    ∧ (s.modesStep).doors = s.doors ∧ (s.modesStep).radio = s.radio
    ∧ (s.modesStep).restrictions = s.restrictions ∧ (s.modesStep).faults = s.faults
    ∧ (s.modesStep).station = s.station ∧ (s.modesStep).store = s.store := by
  simp [State.modesStep, State.ite_frame]

/-- `brakeCycle` changes no field but brake, doors, faults, speed, line, station. -/
@[simp] theorem State.brakeCycle_frame :
    (s.brakeCycle).pending = s.pending ∧ (s.brakeCycle).clock = s.clock ∧ (s.brakeCycle).freeCount = s.freeCount
    ∧ (s.brakeCycle).pins = s.pins ∧ (s.brakeCycle).rack = s.rack ∧ (s.brakeCycle).engagement = s.engagement
    ∧ (s.brakeCycle).peers = s.peers ∧ (s.brakeCycle).radio = s.radio
    ∧ (s.brakeCycle).restrictions = s.restrictions ∧ (s.brakeCycle).store = s.store := by
  simp [State.brakeCycle]

/-- `senseLoop` changes no field but doors, faults, brake, speed. -/
@[simp] theorem State.senseLoop_frame :
    (s.senseLoop).pending = s.pending ∧ (s.senseLoop).clock = s.clock ∧ (s.senseLoop).freeCount = s.freeCount
    ∧ (s.senseLoop).pins = s.pins ∧ (s.senseLoop).rack = s.rack ∧ (s.senseLoop).engagement = s.engagement
    ∧ (s.senseLoop).line = s.line ∧ (s.senseLoop).peers = s.peers ∧ (s.senseLoop).radio = s.radio
    ∧ (s.senseLoop).restrictions = s.restrictions ∧ (s.senseLoop).station = s.station
    ∧ (s.senseLoop).store = s.store := by
  simp [State.senseLoop]

/-- `setDoor` changes no field but doors. -/
@[simp] theorem State.setDoor_frame (d : DoorId) (r : Door) :
    (s.setDoor d r).pending = s.pending ∧ (s.setDoor d r).clock = s.clock
    ∧ (s.setDoor d r).freeCount = s.freeCount ∧ (s.setDoor d r).pins = s.pins ∧ (s.setDoor d r).rack = s.rack
    ∧ (s.setDoor d r).engagement = s.engagement ∧ (s.setDoor d r).line = s.line
    ∧ (s.setDoor d r).peers = s.peers ∧ (s.setDoor d r).speed = s.speed ∧ (s.setDoor d r).brake = s.brake
    ∧ (s.setDoor d r).radio = s.radio ∧ (s.setDoor d r).restrictions = s.restrictions
    ∧ (s.setDoor d r).faults = s.faults ∧ (s.setDoor d r).station = s.station ∧ (s.setDoor d r).store = s.store := by
  simp [State.setDoor]

/-- `reformTimeout` changes no field but doors, faults. -/
@[simp] theorem State.reformTimeout_frame :
    (s.reformTimeout).pending = s.pending ∧ (s.reformTimeout).clock = s.clock
    ∧ (s.reformTimeout).freeCount = s.freeCount ∧ (s.reformTimeout).pins = s.pins
    ∧ (s.reformTimeout).rack = s.rack ∧ (s.reformTimeout).engagement = s.engagement
    ∧ (s.reformTimeout).line = s.line ∧ (s.reformTimeout).peers = s.peers ∧ (s.reformTimeout).speed = s.speed
    ∧ (s.reformTimeout).brake = s.brake ∧ (s.reformTimeout).radio = s.radio
    ∧ (s.reformTimeout).restrictions = s.restrictions ∧ (s.reformTimeout).station = s.station
    ∧ (s.reformTimeout).store = s.store := by
  unfold State.reformTimeout
  split <;> simp

/-- `reformObstructed` changes no field but doors, faults. -/
@[simp] theorem State.reformObstructed_frame :
    (s.reformObstructed).pending = s.pending ∧ (s.reformObstructed).clock = s.clock
    ∧ (s.reformObstructed).freeCount = s.freeCount ∧ (s.reformObstructed).pins = s.pins
    ∧ (s.reformObstructed).rack = s.rack ∧ (s.reformObstructed).engagement = s.engagement
    ∧ (s.reformObstructed).line = s.line ∧ (s.reformObstructed).peers = s.peers
    ∧ (s.reformObstructed).speed = s.speed ∧ (s.reformObstructed).brake = s.brake
    ∧ (s.reformObstructed).radio = s.radio ∧ (s.reformObstructed).restrictions = s.restrictions
    ∧ (s.reformObstructed).station = s.station ∧ (s.reformObstructed).store = s.store := by
  unfold State.reformObstructed
  split <;> simp

/-- `reformForced` changes no field but doors, faults. -/
@[simp] theorem State.reformForced_frame :
    (s.reformForced).pending = s.pending ∧ (s.reformForced).clock = s.clock
    ∧ (s.reformForced).freeCount = s.freeCount ∧ (s.reformForced).pins = s.pins ∧ (s.reformForced).rack = s.rack
    ∧ (s.reformForced).engagement = s.engagement ∧ (s.reformForced).line = s.line
    ∧ (s.reformForced).peers = s.peers ∧ (s.reformForced).speed = s.speed ∧ (s.reformForced).brake = s.brake
    ∧ (s.reformForced).radio = s.radio ∧ (s.reformForced).restrictions = s.restrictions
    ∧ (s.reformForced).station = s.station ∧ (s.reformForced).store = s.store := by
  unfold State.reformForced
  split <;> simp

/-- `releaseDoor` changes no field but doors. -/
@[simp] theorem State.releaseDoor_frame (side : CarSide) (d : DoorId) :
    (s.releaseDoor side d).pending = s.pending ∧ (s.releaseDoor side d).clock = s.clock
    ∧ (s.releaseDoor side d).freeCount = s.freeCount ∧ (s.releaseDoor side d).pins = s.pins
    ∧ (s.releaseDoor side d).rack = s.rack ∧ (s.releaseDoor side d).engagement = s.engagement
    ∧ (s.releaseDoor side d).line = s.line ∧ (s.releaseDoor side d).peers = s.peers
    ∧ (s.releaseDoor side d).speed = s.speed ∧ (s.releaseDoor side d).brake = s.brake
    ∧ (s.releaseDoor side d).radio = s.radio ∧ (s.releaseDoor side d).restrictions = s.restrictions
    ∧ (s.releaseDoor side d).faults = s.faults ∧ (s.releaseDoor side d).station = s.station
    ∧ (s.releaseDoor side d).store = s.store := by
  unfold State.releaseDoor
  split <;> simp

/-- `releaseSide` changes no field but doors, faults. -/
@[simp] theorem State.releaseSide_frame (side : CarSide) :
    (s.releaseSide side).pending = s.pending ∧ (s.releaseSide side).clock = s.clock
    ∧ (s.releaseSide side).freeCount = s.freeCount ∧ (s.releaseSide side).pins = s.pins
    ∧ (s.releaseSide side).rack = s.rack ∧ (s.releaseSide side).engagement = s.engagement
    ∧ (s.releaseSide side).line = s.line ∧ (s.releaseSide side).peers = s.peers
    ∧ (s.releaseSide side).speed = s.speed ∧ (s.releaseSide side).brake = s.brake
    ∧ (s.releaseSide side).radio = s.radio ∧ (s.releaseSide side).restrictions = s.restrictions
    ∧ (s.releaseSide side).station = s.station ∧ (s.releaseSide side).store = s.store := by
  simp [State.releaseSide]

/-- `doorsRelease` changes no field but doors, faults. -/
@[simp] theorem State.doorsRelease_frame (side : LineSide) :
    (s.doorsRelease side).pending = s.pending ∧ (s.doorsRelease side).clock = s.clock
    ∧ (s.doorsRelease side).freeCount = s.freeCount ∧ (s.doorsRelease side).pins = s.pins
    ∧ (s.doorsRelease side).rack = s.rack ∧ (s.doorsRelease side).engagement = s.engagement
    ∧ (s.doorsRelease side).line = s.line ∧ (s.doorsRelease side).peers = s.peers
    ∧ (s.doorsRelease side).speed = s.speed ∧ (s.doorsRelease side).brake = s.brake
    ∧ (s.doorsRelease side).radio = s.radio ∧ (s.doorsRelease side).restrictions = s.restrictions
    ∧ (s.doorsRelease side).station = s.station ∧ (s.doorsRelease side).store = s.store := by
  unfold State.doorsRelease
  split <;> simp

/-- `doorsClose` changes no field but doors, faults. -/
@[simp] theorem State.doorsClose_frame :
    (s.doorsClose).pending = s.pending ∧ (s.doorsClose).clock = s.clock ∧ (s.doorsClose).freeCount = s.freeCount
    ∧ (s.doorsClose).pins = s.pins ∧ (s.doorsClose).rack = s.rack ∧ (s.doorsClose).engagement = s.engagement
    ∧ (s.doorsClose).line = s.line ∧ (s.doorsClose).peers = s.peers ∧ (s.doorsClose).speed = s.speed
    ∧ (s.doorsClose).brake = s.brake ∧ (s.doorsClose).radio = s.radio
    ∧ (s.doorsClose).restrictions = s.restrictions ∧ (s.doorsClose).station = s.station
    ∧ (s.doorsClose).store = s.store := by
  simp [State.doorsClose]

/-- `lockMade` changes no field but doors, faults. -/
@[simp] theorem State.lockMade_frame (d : DoorId) :
    (s.lockMade d).pending = s.pending ∧ (s.lockMade d).clock = s.clock ∧ (s.lockMade d).freeCount = s.freeCount
    ∧ (s.lockMade d).pins = s.pins ∧ (s.lockMade d).rack = s.rack ∧ (s.lockMade d).engagement = s.engagement
    ∧ (s.lockMade d).line = s.line ∧ (s.lockMade d).peers = s.peers ∧ (s.lockMade d).speed = s.speed
    ∧ (s.lockMade d).brake = s.brake ∧ (s.lockMade d).radio = s.radio
    ∧ (s.lockMade d).restrictions = s.restrictions ∧ (s.lockMade d).station = s.station
    ∧ (s.lockMade d).store = s.store := by
  unfold State.lockMade
  dsimp only
  (repeat' split) <;> simp [State.ite_frame]

/-- `lockLost` changes no field but brake, doors, faults, speed, line. -/
@[simp] theorem State.lockLost_frame (d : DoorId) :
    (s.lockLost d).pending = s.pending ∧ (s.lockLost d).clock = s.clock ∧ (s.lockLost d).freeCount = s.freeCount
    ∧ (s.lockLost d).pins = s.pins ∧ (s.lockLost d).rack = s.rack ∧ (s.lockLost d).engagement = s.engagement
    ∧ (s.lockLost d).peers = s.peers ∧ (s.lockLost d).radio = s.radio
    ∧ (s.lockLost d).restrictions = s.restrictions ∧ (s.lockLost d).station = s.station
    ∧ (s.lockLost d).store = s.store := by
  unfold State.lockLost
  dsimp only
  (repeat' split) <;> simp [State.ite_frame]

/-- `obstruct` changes no field but brake, doors, faults, speed, line. -/
@[simp] theorem State.obstruct_frame (d : DoorId) :
    (s.obstruct d).pending = s.pending ∧ (s.obstruct d).clock = s.clock ∧ (s.obstruct d).freeCount = s.freeCount
    ∧ (s.obstruct d).pins = s.pins ∧ (s.obstruct d).rack = s.rack ∧ (s.obstruct d).engagement = s.engagement
    ∧ (s.obstruct d).peers = s.peers ∧ (s.obstruct d).radio = s.radio
    ∧ (s.obstruct d).restrictions = s.restrictions ∧ (s.obstruct d).station = s.station
    ∧ (s.obstruct d).store = s.store := by
  simp [State.obstruct, State.ite_frame]

/-- `handleActive` changes no field but brake, doors, faults, speed, line. -/
@[simp] theorem State.handleActive_frame (d : DoorId) :
    (s.handleActive d).pending = s.pending ∧ (s.handleActive d).clock = s.clock
    ∧ (s.handleActive d).freeCount = s.freeCount ∧ (s.handleActive d).pins = s.pins
    ∧ (s.handleActive d).rack = s.rack ∧ (s.handleActive d).engagement = s.engagement
    ∧ (s.handleActive d).peers = s.peers ∧ (s.handleActive d).radio = s.radio
    ∧ (s.handleActive d).restrictions = s.restrictions ∧ (s.handleActive d).station = s.station
    ∧ (s.handleActive d).store = s.store := by
  simp [State.handleActive, State.ite_frame]

/-- `handleInactive` changes no field but doors, faults. -/
@[simp] theorem State.handleInactive_frame (d : DoorId) :
    (s.handleInactive d).pending = s.pending ∧ (s.handleInactive d).clock = s.clock
    ∧ (s.handleInactive d).freeCount = s.freeCount ∧ (s.handleInactive d).pins = s.pins
    ∧ (s.handleInactive d).rack = s.rack ∧ (s.handleInactive d).engagement = s.engagement
    ∧ (s.handleInactive d).line = s.line ∧ (s.handleInactive d).peers = s.peers
    ∧ (s.handleInactive d).speed = s.speed ∧ (s.handleInactive d).brake = s.brake
    ∧ (s.handleInactive d).radio = s.radio ∧ (s.handleInactive d).restrictions = s.restrictions
    ∧ (s.handleInactive d).station = s.station ∧ (s.handleInactive d).store = s.store := by
  simp [State.handleInactive, State.ite_frame]

/-- `placeEntry` changes no field but restrictions, speed. -/
@[simp] theorem State.placeEntry_frame (old : Option Restriction) (e : Restriction) :
    (s.placeEntry old e).pending = s.pending ∧ (s.placeEntry old e).clock = s.clock
    ∧ (s.placeEntry old e).freeCount = s.freeCount ∧ (s.placeEntry old e).pins = s.pins
    ∧ (s.placeEntry old e).rack = s.rack ∧ (s.placeEntry old e).engagement = s.engagement
    ∧ (s.placeEntry old e).line = s.line ∧ (s.placeEntry old e).peers = s.peers
    ∧ (s.placeEntry old e).brake = s.brake ∧ (s.placeEntry old e).doors = s.doors
    ∧ (s.placeEntry old e).radio = s.radio ∧ (s.placeEntry old e).faults = s.faults
    ∧ (s.placeEntry old e).station = s.station ∧ (s.placeEntry old e).store = s.store := by
  unfold State.placeEntry
  dsimp only
  (repeat' split) <;> simp [State.ite_frame]

/-- `overflow` changes no field but brake, doors, faults, speed, line, restrictions. -/
@[simp] theorem State.overflow_frame (limit : Nat) :
    (s.overflow limit).pending = s.pending ∧ (s.overflow limit).clock = s.clock
    ∧ (s.overflow limit).freeCount = s.freeCount ∧ (s.overflow limit).pins = s.pins
    ∧ (s.overflow limit).rack = s.rack ∧ (s.overflow limit).engagement = s.engagement
    ∧ (s.overflow limit).peers = s.peers ∧ (s.overflow limit).radio = s.radio
    ∧ (s.overflow limit).station = s.station ∧ (s.overflow limit).store = s.store := by
  simp [State.overflow, State.ite_frame]

/-- `endHalts` changes no field but doors, faults. -/
@[simp] theorem State.endHalts_frame :
    s.endHalts.pending = s.pending ∧ s.endHalts.clock = s.clock ∧ s.endHalts.freeCount = s.freeCount
    ∧ s.endHalts.pins = s.pins ∧ s.endHalts.rack = s.rack ∧ s.endHalts.engagement = s.engagement
    ∧ s.endHalts.line = s.line ∧ s.endHalts.peers = s.peers ∧ s.endHalts.speed = s.speed
    ∧ s.endHalts.brake = s.brake ∧ s.endHalts.radio = s.radio ∧ s.endHalts.restrictions = s.restrictions
    ∧ s.endHalts.station = s.station ∧ s.endHalts.store = s.store := by
  simp [State.endHalts]

/-- `frameAccepted` changes no field but doors, faults, radio, speed. -/
@[simp] theorem State.frameAccepted_frame :
    (s.frameAccepted).pending = s.pending ∧ (s.frameAccepted).clock = s.clock
    ∧ (s.frameAccepted).freeCount = s.freeCount ∧ (s.frameAccepted).pins = s.pins
    ∧ (s.frameAccepted).rack = s.rack ∧ (s.frameAccepted).engagement = s.engagement
    ∧ (s.frameAccepted).line = s.line ∧ (s.frameAccepted).peers = s.peers ∧ (s.frameAccepted).brake = s.brake
    ∧ (s.frameAccepted).restrictions = s.restrictions ∧ (s.frameAccepted).station = s.station
    ∧ (s.frameAccepted).store = s.store := by
  simp [State.frameAccepted]

/-- `valleyGone` changes no field but brake, doors, faults, speed, line, radio. -/
@[simp] theorem State.valleyGone_frame :
    (s.valleyGone).pending = s.pending ∧ (s.valleyGone).clock = s.clock ∧ (s.valleyGone).freeCount = s.freeCount
    ∧ (s.valleyGone).pins = s.pins ∧ (s.valleyGone).rack = s.rack ∧ (s.valleyGone).engagement = s.engagement
    ∧ (s.valleyGone).peers = s.peers ∧ (s.valleyGone).restrictions = s.restrictions
    ∧ (s.valleyGone).station = s.station ∧ (s.valleyGone).store = s.store := by
  simp [State.valleyGone, State.ite_frame]

/-- `queueAck` changes no field but radio. -/
@[simp] theorem State.queueAck_frame (sequence : Byte) (result : OrderResult) :
    (s.queueAck sequence result).pending = s.pending ∧ (s.queueAck sequence result).clock = s.clock
    ∧ (s.queueAck sequence result).freeCount = s.freeCount ∧ (s.queueAck sequence result).pins = s.pins
    ∧ (s.queueAck sequence result).rack = s.rack ∧ (s.queueAck sequence result).engagement = s.engagement
    ∧ (s.queueAck sequence result).line = s.line ∧ (s.queueAck sequence result).peers = s.peers
    ∧ (s.queueAck sequence result).speed = s.speed ∧ (s.queueAck sequence result).brake = s.brake
    ∧ (s.queueAck sequence result).doors = s.doors ∧ (s.queueAck sequence result).restrictions = s.restrictions
    ∧ (s.queueAck sequence result).faults = s.faults ∧ (s.queueAck sequence result).station = s.station
    ∧ (s.queueAck sequence result).store = s.store := by
  simp [State.queueAck]

/-- `buildReport` changes no field but radio. -/
@[simp] theorem State.buildReport_frame :
    (s.buildReport).pending = s.pending ∧ (s.buildReport).clock = s.clock
    ∧ (s.buildReport).freeCount = s.freeCount ∧ (s.buildReport).pins = s.pins ∧ (s.buildReport).rack = s.rack
    ∧ (s.buildReport).engagement = s.engagement ∧ (s.buildReport).line = s.line
    ∧ (s.buildReport).peers = s.peers ∧ (s.buildReport).speed = s.speed ∧ (s.buildReport).brake = s.brake
    ∧ (s.buildReport).doors = s.doors ∧ (s.buildReport).restrictions = s.restrictions
    ∧ (s.buildReport).faults = s.faults ∧ (s.buildReport).station = s.station ∧ (s.buildReport).store = s.store := by
  simp [State.buildReport]

/-- `noteSequence` changes no field but radio. -/
@[simp] theorem State.noteSequence_frame (sequence : Byte) :
    (s.noteSequence sequence).pending = s.pending ∧ (s.noteSequence sequence).clock = s.clock
    ∧ (s.noteSequence sequence).freeCount = s.freeCount ∧ (s.noteSequence sequence).pins = s.pins
    ∧ (s.noteSequence sequence).rack = s.rack ∧ (s.noteSequence sequence).engagement = s.engagement
    ∧ (s.noteSequence sequence).line = s.line ∧ (s.noteSequence sequence).peers = s.peers
    ∧ (s.noteSequence sequence).speed = s.speed ∧ (s.noteSequence sequence).brake = s.brake
    ∧ (s.noteSequence sequence).doors = s.doors ∧ (s.noteSequence sequence).restrictions = s.restrictions
    ∧ (s.noteSequence sequence).faults = s.faults ∧ (s.noteSequence sequence).station = s.station
    ∧ (s.noteSequence sequence).store = s.store := by
  simp [State.noteSequence]

/-- `relay` changes no field but brake, doors, faults, speed, line. -/
@[simp] theorem State.relay_frame (sequence : Byte) (order : ValleyOrder) :
    (s.relay sequence order).pending = s.pending ∧ (s.relay sequence order).clock = s.clock
    ∧ (s.relay sequence order).freeCount = s.freeCount ∧ (s.relay sequence order).pins = s.pins
    ∧ (s.relay sequence order).rack = s.rack ∧ (s.relay sequence order).engagement = s.engagement
    ∧ (s.relay sequence order).peers = s.peers ∧ (s.relay sequence order).radio = s.radio
    ∧ (s.relay sequence order).restrictions = s.restrictions ∧ (s.relay sequence order).station = s.station
    ∧ (s.relay sequence order).store = s.store := by
  unfold State.relay
  split <;> simp [State.ite_frame]

/-- `stopIfWarned` changes no field but brake, doors, faults, speed, line, station, store. -/
@[simp] theorem State.stopIfWarned_frame :
    (s.stopIfWarned).pending = s.pending ∧ (s.stopIfWarned).clock = s.clock
    ∧ (s.stopIfWarned).freeCount = s.freeCount ∧ (s.stopIfWarned).pins = s.pins ∧ (s.stopIfWarned).rack = s.rack
    ∧ (s.stopIfWarned).engagement = s.engagement ∧ (s.stopIfWarned).peers = s.peers
    ∧ (s.stopIfWarned).radio = s.radio ∧ (s.stopIfWarned).restrictions = s.restrictions := by
  unfold State.stopIfWarned
  split <;> simp

/-- `restartReports` changes no field but brake, doors, faults, speed, line. -/
@[simp] theorem State.restartReports_frame :
    (s.restartReports).pending = s.pending ∧ (s.restartReports).clock = s.clock
    ∧ (s.restartReports).freeCount = s.freeCount ∧ (s.restartReports).pins = s.pins
    ∧ (s.restartReports).rack = s.rack ∧ (s.restartReports).engagement = s.engagement
    ∧ (s.restartReports).peers = s.peers ∧ (s.restartReports).radio = s.radio
    ∧ (s.restartReports).restrictions = s.restrictions ∧ (s.restartReports).station = s.station
    ∧ (s.restartReports).store = s.store := by
  simp [State.restartReports, State.ite_frame]

/-- `resetPull` changes no field but brake. -/
@[simp] theorem State.resetPull_frame :
    (s.resetPull).pending = s.pending ∧ (s.resetPull).clock = s.clock ∧ (s.resetPull).freeCount = s.freeCount
    ∧ (s.resetPull).pins = s.pins ∧ (s.resetPull).rack = s.rack ∧ (s.resetPull).engagement = s.engagement
    ∧ (s.resetPull).line = s.line ∧ (s.resetPull).peers = s.peers ∧ (s.resetPull).speed = s.speed
    ∧ (s.resetPull).doors = s.doors ∧ (s.resetPull).radio = s.radio
    ∧ (s.resetPull).restrictions = s.restrictions ∧ (s.resetPull).faults = s.faults
    ∧ (s.resetPull).station = s.station ∧ (s.resetPull).store = s.store := by
  unfold State.resetPull
  split <;> simp

/-- `resetLatch` changes no field but brake. -/
@[simp] theorem State.resetLatch_frame :
    (s.resetLatch).pending = s.pending ∧ (s.resetLatch).clock = s.clock ∧ (s.resetLatch).freeCount = s.freeCount
    ∧ (s.resetLatch).pins = s.pins ∧ (s.resetLatch).rack = s.rack ∧ (s.resetLatch).engagement = s.engagement
    ∧ (s.resetLatch).line = s.line ∧ (s.resetLatch).peers = s.peers ∧ (s.resetLatch).speed = s.speed
    ∧ (s.resetLatch).doors = s.doors ∧ (s.resetLatch).radio = s.radio
    ∧ (s.resetLatch).restrictions = s.restrictions ∧ (s.resetLatch).faults = s.faults
    ∧ (s.resetLatch).station = s.station ∧ (s.resetLatch).store = s.store := by
  unfold State.resetLatch
  split <;> simp

/-- `resetBrake` changes no field but brake. -/
@[simp] theorem State.resetBrake_frame :
    (s.resetBrake).pending = s.pending ∧ (s.resetBrake).clock = s.clock ∧ (s.resetBrake).freeCount = s.freeCount
    ∧ (s.resetBrake).pins = s.pins ∧ (s.resetBrake).rack = s.rack ∧ (s.resetBrake).engagement = s.engagement
    ∧ (s.resetBrake).line = s.line ∧ (s.resetBrake).peers = s.peers ∧ (s.resetBrake).speed = s.speed
    ∧ (s.resetBrake).doors = s.doors ∧ (s.resetBrake).radio = s.radio
    ∧ (s.resetBrake).restrictions = s.restrictions ∧ (s.resetBrake).faults = s.faults
    ∧ (s.resetBrake).station = s.station ∧ (s.resetBrake).store = s.store := by
  simp [State.resetBrake]

/-- `resetSlips` changes no field but doors, faults, engagement. -/
@[simp] theorem State.resetSlips_frame :
    (s.resetSlips).pending = s.pending ∧ (s.resetSlips).clock = s.clock ∧ (s.resetSlips).freeCount = s.freeCount
    ∧ (s.resetSlips).pins = s.pins ∧ (s.resetSlips).rack = s.rack ∧ (s.resetSlips).line = s.line
    ∧ (s.resetSlips).peers = s.peers ∧ (s.resetSlips).speed = s.speed ∧ (s.resetSlips).brake = s.brake
    ∧ (s.resetSlips).radio = s.radio ∧ (s.resetSlips).restrictions = s.restrictions
    ∧ (s.resetSlips).station = s.station ∧ (s.resetSlips).store = s.store := by
  simp [State.resetSlips]

/-- `resetArith` changes no field but doors, faults, speed. -/
@[simp] theorem State.resetArith_frame :
    (s.resetArith).pending = s.pending ∧ (s.resetArith).clock = s.clock ∧ (s.resetArith).freeCount = s.freeCount
    ∧ (s.resetArith).pins = s.pins ∧ (s.resetArith).rack = s.rack ∧ (s.resetArith).engagement = s.engagement
    ∧ (s.resetArith).line = s.line ∧ (s.resetArith).peers = s.peers ∧ (s.resetArith).brake = s.brake
    ∧ (s.resetArith).radio = s.radio ∧ (s.resetArith).restrictions = s.restrictions
    ∧ (s.resetArith).station = s.station ∧ (s.resetArith).store = s.store := by
  simp [State.resetArith]

/-- `resetDoorFlags` changes no field but doors, faults. -/
@[simp] theorem State.resetDoorFlags_frame :
    (s.resetDoorFlags).pending = s.pending ∧ (s.resetDoorFlags).clock = s.clock
    ∧ (s.resetDoorFlags).freeCount = s.freeCount ∧ (s.resetDoorFlags).pins = s.pins
    ∧ (s.resetDoorFlags).rack = s.rack ∧ (s.resetDoorFlags).engagement = s.engagement
    ∧ (s.resetDoorFlags).line = s.line ∧ (s.resetDoorFlags).peers = s.peers ∧ (s.resetDoorFlags).speed = s.speed
    ∧ (s.resetDoorFlags).brake = s.brake ∧ (s.resetDoorFlags).radio = s.radio
    ∧ (s.resetDoorFlags).restrictions = s.restrictions ∧ (s.resetDoorFlags).station = s.station
    ∧ (s.resetDoorFlags).store = s.store := by
  simp [State.resetDoorFlags]

/-- `resetOverflow` changes no field but doors, faults, restrictions. -/
@[simp] theorem State.resetOverflow_frame :
    (s.resetOverflow).pending = s.pending ∧ (s.resetOverflow).clock = s.clock
    ∧ (s.resetOverflow).freeCount = s.freeCount ∧ (s.resetOverflow).pins = s.pins
    ∧ (s.resetOverflow).rack = s.rack ∧ (s.resetOverflow).engagement = s.engagement
    ∧ (s.resetOverflow).line = s.line ∧ (s.resetOverflow).peers = s.peers ∧ (s.resetOverflow).speed = s.speed
    ∧ (s.resetOverflow).brake = s.brake ∧ (s.resetOverflow).radio = s.radio
    ∧ (s.resetOverflow).station = s.station ∧ (s.resetOverflow).store = s.store := by
  simp [State.resetOverflow]

/-- `resetPlatform` changes no field but doors, faults, radio. -/
@[simp] theorem State.resetPlatform_frame :
    (s.resetPlatform).pending = s.pending ∧ (s.resetPlatform).clock = s.clock
    ∧ (s.resetPlatform).freeCount = s.freeCount ∧ (s.resetPlatform).pins = s.pins
    ∧ (s.resetPlatform).rack = s.rack ∧ (s.resetPlatform).engagement = s.engagement
    ∧ (s.resetPlatform).line = s.line ∧ (s.resetPlatform).peers = s.peers ∧ (s.resetPlatform).speed = s.speed
    ∧ (s.resetPlatform).brake = s.brake ∧ (s.resetPlatform).restrictions = s.restrictions
    ∧ (s.resetPlatform).station = s.station ∧ (s.resetPlatform).store = s.store := by
  simp [State.resetPlatform]

/-- `resetAlerts` changes no field but peers. -/
@[simp] theorem State.resetAlerts_frame :
    (s.resetAlerts).pending = s.pending ∧ (s.resetAlerts).clock = s.clock
    ∧ (s.resetAlerts).freeCount = s.freeCount ∧ (s.resetAlerts).pins = s.pins ∧ (s.resetAlerts).rack = s.rack
    ∧ (s.resetAlerts).engagement = s.engagement ∧ (s.resetAlerts).line = s.line
    ∧ (s.resetAlerts).speed = s.speed ∧ (s.resetAlerts).brake = s.brake ∧ (s.resetAlerts).doors = s.doors
    ∧ (s.resetAlerts).radio = s.radio ∧ (s.resetAlerts).restrictions = s.restrictions
    ∧ (s.resetAlerts).faults = s.faults ∧ (s.resetAlerts).station = s.station ∧ (s.resetAlerts).store = s.store := by
  simp [State.resetAlerts]

/-- `consistReset` changes no field but doors, faults, brake, engagement, speed, restrictions, peers, radio. -/
@[simp] theorem State.consistReset_frame :
    (s.consistReset).pending = s.pending ∧ (s.consistReset).clock = s.clock
    ∧ (s.consistReset).freeCount = s.freeCount ∧ (s.consistReset).pins = s.pins ∧ (s.consistReset).rack = s.rack
    ∧ (s.consistReset).line = s.line ∧ (s.consistReset).station = s.station ∧ (s.consistReset).store = s.store := by
  simp [State.consistReset]

/-- `placeReplies` changes no field but line. -/
@[simp] theorem State.placeReplies_frame (n : Fin 8) (param : BitVec 16) (records : List (List Byte)) :
    (s.placeReplies n param records).pending = s.pending ∧ (s.placeReplies n param records).clock = s.clock
    ∧ (s.placeReplies n param records).freeCount = s.freeCount ∧ (s.placeReplies n param records).pins = s.pins
    ∧ (s.placeReplies n param records).rack = s.rack
    ∧ (s.placeReplies n param records).engagement = s.engagement
    ∧ (s.placeReplies n param records).peers = s.peers ∧ (s.placeReplies n param records).speed = s.speed
    ∧ (s.placeReplies n param records).brake = s.brake ∧ (s.placeReplies n param records).doors = s.doors
    ∧ (s.placeReplies n param records).radio = s.radio
    ∧ (s.placeReplies n param records).restrictions = s.restrictions
    ∧ (s.placeReplies n param records).faults = s.faults ∧ (s.placeReplies n param records).station = s.station
    ∧ (s.placeReplies n param records).store = s.store := by
  simp [State.placeReplies]

/-- `drawPhase` changes no field but freeCount. -/
@[simp] theorem State.drawPhase_frame (which : RecordSet) :
    (s.drawPhase which).pending = s.pending ∧ (s.drawPhase which).clock = s.clock
    ∧ (s.drawPhase which).pins = s.pins ∧ (s.drawPhase which).rack = s.rack
    ∧ (s.drawPhase which).engagement = s.engagement ∧ (s.drawPhase which).line = s.line
    ∧ (s.drawPhase which).peers = s.peers ∧ (s.drawPhase which).speed = s.speed
    ∧ (s.drawPhase which).brake = s.brake ∧ (s.drawPhase which).doors = s.doors
    ∧ (s.drawPhase which).radio = s.radio ∧ (s.drawPhase which).restrictions = s.restrictions
    ∧ (s.drawPhase which).faults = s.faults ∧ (s.drawPhase which).station = s.station
    ∧ (s.drawPhase which).store = s.store := by
  unfold State.drawPhase
  split <;> simp

/-- `inspect` changes no field but line, freeCount. -/
@[simp] theorem State.inspect_frame (target : Byte) (param : BitVec 16) :
    (s.inspect target param).pending = s.pending ∧ (s.inspect target param).clock = s.clock
    ∧ (s.inspect target param).pins = s.pins ∧ (s.inspect target param).rack = s.rack
    ∧ (s.inspect target param).engagement = s.engagement ∧ (s.inspect target param).peers = s.peers
    ∧ (s.inspect target param).speed = s.speed ∧ (s.inspect target param).brake = s.brake
    ∧ (s.inspect target param).doors = s.doors ∧ (s.inspect target param).radio = s.radio
    ∧ (s.inspect target param).restrictions = s.restrictions ∧ (s.inspect target param).faults = s.faults
    ∧ (s.inspect target param).station = s.station ∧ (s.inspect target param).store = s.store := by
  unfold State.inspect
  split <;> simp [State.ite_frame]

end Sys2Proof.Machine
end

