-- ==== Sys2Proof/Laws/Frames.lean ====
section
/-! SUPPORT. The bits of a field: as many as its width, and read back as the field; the characters of a message. -/

namespace Sys2Proof

/-- A field takes as many bits as its width. -/
@[simp] theorem bitsMsb_length {w : Nat} (x : BitVec w) : (bitsMsb x).length = w := by
  simp [bitsMsb]

/-- The first bits of a field spell its upper part. -/
theorem foldl_bitsMsb_prefix {w : Nat} (x : BitVec w) (k : Nat) (h : k ≤ w) :
    ((List.range k).map fun i => x.getMsbD i).foldl (fun n b => 2 * n + b.toNat) 0 = x.toNat >>> (w - k) := by
  induction k with
  | zero => simp [Nat.shiftRight_eq_div_pow, Nat.div_eq_of_lt x.isLt]
  | succ k ih =>
    have hk : w - k = w - (k + 1) + 1 := by omega
    have hi : k < w := by omega
    rw [List.range_succ, List.map_append, List.foldl_append, ih (by omega)]
    have hb : x.getMsbD k = x.toNat.testBit (w - (k + 1)) := by
      simp only [BitVec.getMsbD, hi, decide_true, Bool.true_and, BitVec.getLsbD]
      congr 1
      omega
    simp only [List.map_cons, List.map_nil, List.foldl_cons, List.foldl_nil, hb]
    rw [hk, Nat.shiftRight_succ, Nat.testBit, Nat.one_and_eq_mod_two]
    have := Nat.mod_two_eq_zero_or_one (x.toNat >>> (w - (k + 1)))
    rcases this with h0 | h1
    · simp [h0]; omega
    · simp [h1]; omega

/-- A field is read back from its bits. -/
@[simp] theorem ofBitsMsb_bitsMsb {w : Nat} (x : BitVec w) : ofBitsMsb w (bitsMsb x) = x := by
  simp [ofBitsMsb, bitsMsb, foldl_bitsMsb_prefix x w (Nat.le_refl w)]

/-- Payload bytes are read back from their bits, whatever follows. -/
@[simp] theorem readBytes_flatMap_bitsMsb (payload : List Byte) (rest : List Bool) :
    readBytes payload.length (payload.flatMap bitsMsb ++ rest) = payload := by
  induction payload with
  | nil => rfl
  | cons b bs ih =>
    have h : (bitsMsb b).length = 8 := bitsMsb_length b
    simp only [List.length_cons, readBytes, List.flatMap_cons, List.append_assoc]
    rw [List.take_left' h, List.drop_left' h, ofBitsMsb_bitsMsb, ih]

/-- Characters without a delimiting silence go on with the message begun, if one has. -/
theorem modemMessages_append (begun : Option (List Byte)) (after : Nat) (run more : List ModemCharacter)
    (h : ∀ c ∈ run, c.silence < modemSilence) :
    modemMessages begun after (run ++ more)
      = modemMessages (begun.map fun bytes => bytes ++ run.map (·.byte)) after more := by
  induction run generalizing begun with
  | nil => cases begun <;> simp
  | cons c cs ih =>
    have hc : ¬ modemSilence ≤ c.silence := Nat.not_le.mpr (h c (List.mem_cons_self ..))
    rw [List.cons_append, modemMessages, if_neg hc, ih _ fun d hd => h d (List.mem_cons_of_mem _ hd)]
    cases begun <;> simp

end Sys2Proof
end

