-- ==== Sys2Proof/Tests/Slice0.lean ====
section
/-! SUPPORT. Tests on small states: worked figures of the spec, one step for each, by the section they are taken from
or worked by hand from the rule named; ill-formed commands that WellFormed refuses; and for the statements' hypotheses
states and operands that meet them, at the ends of their ranges. -/

namespace Sys2Proof.Tests

open Sys2Proof Sys2Proof.Machine

set_option Elab.async false

/-! ## States and commands to test with -/

/-- A moment after a time, with a load of 4 230 kg and two force readings. -/
def at_ (elapsed : Nat) (force1 force2 : Int := 0) : Moment :=
  { elapsed := elapsed, load := some 4230, force1 := force1, force2 := force2 }

/-- The state a command leaves. -/
def after (s : State) (c : Instr) : State :=
  match exec c s with
  | .next t => t
  | .fault _ => s
  | .refused _ => s

/-- The straps of the worked cases: PINION_NOM 0, line class 2, WHEEL_CIRC 1 (section 1.8). -/
def straps : Straps :=
  { tare := 60, pinionNom := 0, wheelNom := 0, orient := .endA, carLen := 150, wheelCirc := 1, lineClass := 2
    strict := false, radio := true, radioAddr := 41 }

/-- The STATE of a peer: 17 000 kg, 90 000 N, holding 110 000 N, limit 190 (sections 5.8, 6.5). -/
def report (cabActive : Bool) : StateReport :=
  { StateReport.zero with
    stationState := 3, mass := 170, capacity := 900, holdingCapacity := 1100, localLimit := 190, valley := 1
    cabActive := cabActive }

/-- A FRESH entry heard at reset. -/
def freshEntry (kind : PeerKind) (r : StateReport) : PeerEntry :=
  { state := .fresh, kind := kind, tare := 16000, contents := some r, ageFrom := some 0, lastAlert := none }

/-- A READY station 2 at rest on the rack with a known position, between a traction car and the active cab at
station 4. -/
def ready : State :=
  { State.reset with
    station := { life := .ready, storing := false, droppedAt := none }
    store := { Store.initial with straps := straps }
    rack := { Rack.initial with present := true, lastWheelDir := .up, known := true, markBase := 412300 }
    line := { Line.initial with own := some 1, phase := .complete, bus := .idle }
    peers :=
      ((initialPeers.set 0 (freshEntry .traction (report false))).set 1 { PeerEntry.blank with state := .self }).set 3
        (freshEntry .cab (report true))
    radio := { Radio.initial with status := .alive, supervision := some 0, lostWide := false } }

/-- The same station running: released, moving up at 4 964 mm/s, all limits at 190. -/
def moving : State :=
  { ready with
    rack :=
      { ready.rack with
        standstill := false, movingDir := .up, wheelRef := some 0, toothRef := some 0, wheelSpeed := 4964
        toothSpeed := 4964, reported := 4964 }
    brake := { ready.brake with applied := false }
    speed := { ready.speed with localLimit := 190, enforced := 190, hardRef := 190 } }

/-! ## Codecs and arithmetic -/

/-- The published check value of this polynomial, start value and bit order over the ASCII digits 1 to 9. -/
theorem test_crc_check_value : valleyCheck [0x31, 0x32, 0x33, 0x34, 0x35, 0x36, 0x37, 0x38, 0x39] = 0x29B1 := by
  decide +kernel

/-- Section 3.9: an ALERT of station 5 contends with 00 100, an ORDER of station 2 with 10 001, a STATE of station 3
with 11 010. -/
theorem test_contention_bits :
    (buildFrame 4 (.alert 1 5)).contention = 0b00100 ∧ (buildFrame 1 (.order 0 3 [])).contention = 0b10001
      ∧ (buildFrame 2 (.state StateReport.zero)).contention = 0b11010 := by
  decide +kernel

/-- Section 3.9: stations 2 and 3 stop at the first priority bit of station 5's ALERT, station 3 at the second one of station
2's ORDER, which is sent; station 3 loses its STATE and receives the ALERT. -/
theorem test_contention_readBack :
    let alert := buildFrame 4 (.alert 1 5)
    let order := buildFrame 1 (.order 0 3 [])
    let state := buildFrame 2 (.state StateReport.zero)
    order.readBack alert.wireBits = .lost 1 ∧ state.readBack alert.wireBits = .lost 1
      ∧ state.readBack order.wireBits = .lost 2 ∧ order.readBack (lineOfTwo 0 order.wireBits state.wireBits) = .sent
      ∧ commandsOfTransmission (at_ 16) (at_ 416) state alert.wireBits
        = [.contentionLost (at_ 16), .receiveAlert (at_ 416) 4 1 5] := by
  decide +kernel

/-- Section 3.2: a STATE takes 206 bit times and a JOIN 70; an ALERT of station 5 begins with the start bit, priority 00,
source 100, kind 0101 and length 00010, and ends in seven recessive bits. -/
theorem test_wireBits :
    (buildFrame 2 (.state StateReport.zero)).wireBits.length = 206
      ∧ (buildFrame 0 (.join { number := 1, kind := 0, last := true, rejoin := false, tare := 160 })).wireBits.length = 70
      ∧ (buildFrame 4 (.alert 1 5)).wireBits.take 15
        = [false, false, false, true, false, false, false, true, false, true, false, false, false, true, false]
      ∧ (buildFrame 4 (.alert 1 5)).wireBits.drop 47 = List.replicate 7 true := by
  decide +kernel

/-- R40: a payload of recessive bits alone is read by its length; a length of 25 is bad at the length field, and the line
is then ignored until ten recessive bits in a row. -/
theorem test_readFrame :
    let f := buildFrame 4 (.inspectReply (List.replicate 24 255))
    readFrame (f.wireBits ++ gapBits) = .whole f gapBits
      ∧ readFrame (false :: List.replicate 2 false ++ List.replicate 3 false ++ List.replicate 4 false
          ++ [true, true, false, false, true, false, true])
        = .badLength { f with priority := 0, source := 0, kind := 0, length := 25, payload := [], check := 0 } [false, true]
      ∧ afterTenRecessive 0 (List.replicate 9 true ++ [false] ++ List.replicate 10 true ++ [false]) = some [false] := by
  decide +kernel

/-- A JOIN written out from R45: number 2, kind 1 with the last flag, tare 160. -/
theorem test_join_bytes :
    JoinFields.ofBytes [0x02, 0x60, 0x00, 0xA0]
      = some { number := 2, kind := 1, last := true, rejoin := false, tare := 160 } := by
  decide +kernel

/-- Chapter 5: T[35] = 3 241, T[36] = 3 323; the grade sign is the sign of the component. -/
theorem test_gravity : gravity 350 = 3241 ∧ gravity 360 = 3323 ∧ gravity (-350) = -3241 := by decide +kernel

/-- Section 5.8: v for a_net 228, 330 and 248 at 1 200 ms and 60 m. -/
theorem test_stoppingSpeed :
    stoppingSpeed 228 1200 60000 = { val := 4964, hits := 0 } ∧ stoppingSpeed 330 1200 60000 = { val := 5909, hits := 0 }
      ∧ stoppingSpeed 248 1200 60000 = { val := 5166, hits := 0 } := by
  decide +kernel

/-- A histogram with counts at some bins. -/
def histogramOf (l : List (Fin 32 × Nat)) : Vector Nat 32 :=
  l.foldl (fun h e => h.set e.1 e.2) (Vector.replicate 32 0)

/-- Section 2.8: the wrapping arc. -/
def wrapping : Vector Nat 32 :=
  histogramOf [(27, 1), (29, 3), (30, 9), (31, 14), (0, 16), (1, 12), (2, 5), (3, 2), (8, 1), (14, 1)]

/-- Section 2.8: VALID from 29 to 3, width 7, 61 edges. -/
theorem test_sweep_wraps :
    (sweptWindow wrapping).status = .valid ∧ (sweptWindow wrapping).lower = 29 ∧ (sweptWindow wrapping).upper = 3
      ∧ (sweptWindow wrapping).width = 7 ∧ (sweptWindow wrapping).inArc = 61 := by
  decide +kernel

/-- Section 2.8: with two edges in bin 14 and fifteen in bin 0 the arc runs from 29 to 14 and is too wide. -/
theorem test_sweep_wide :
    let w := sweptWindow ((wrapping.set 14 2).set 0 15)
    w.status = .failWide ∧ w.lower = 29 ∧ w.upper = 14 ∧ w.width = 18 := by
  decide +kernel

/-! ## The queue -/

/-- The state a step leaves. -/
def stepped (s : State) : State :=
  match step s with
  | .next t => t
  | .fault _ => s
  | .refused _ => s

/-- A step takes the front command; an empty queue idles (log entry 2). -/
theorem test_step_takes_front :
    let t := stepped { moving with pending := [.trackMark (at_ 0) 500000, .lineIdle (at_ 0)] }
    t.position = some 500000 ∧ t.pending = [.lineIdle (at_ 0)] ∧ stepped moving = moving := by
  decide +kernel

/-- A word spells no command, since the table gives no row bits. -/
theorem test_words_spell_nothing : decodeTableWord 16 5 = none ∧ State.reset.withFetchWord 16 5 = State.reset := by
  decide +kernel

/-! ## Rack sensing -/

/-- Section 1.8: the fifth tooth gives 50 000 of travel, position 412 305, and clears the uncounted travel. -/
theorem test_toothEdge_counts :
    let t := after { moving with rack := { moving.rack with travel := 40000, uncounted := 8016 } } (.toothEdge (at_ 20000) .p1 none)
    t.rack.travel = 50000 ∧ t.rack.uncounted = 0 ∧ t.position = some 412305 := by
  decide +kernel

/-- The window of section 2.8 with a slip count. -/
def checking (slip : Nat) : State :=
  { moving with
    engagement :=
      { moving.engagement with
        pinions :=
          { moving.engagement.pinions with
            p1 := { PinionMonitor.initial with window := sweptWindow wrapping, slip := slip } } } }

/-- Section 2.9: bin 18 at slip count 31 is a climb-out, class A, and the record keeps its arc. -/
theorem test_toothEdge_climbs_out :
    let t := after (checking 31) (.toothEdge (at_ 20000) .p1 (some 18))
    t.present .climbOut = true ∧ t.brake.latch = true ∧ t.engagement.pinions.p1.slip = 0
      ∧ t.engagement.pinions.p1.window.status = .invalid ∧ t.engagement.pinions.p1.window.lower = 29 := by
  decide +kernel

/-- Section 1.8: the fifteenth pulse after the last edge ends the presence and takes 36 072 of uncounted travel. -/
theorem test_wheelPulse_leaves_rack :
    let t :=
      after { moving with rack := { moving.rack with travel := 50000, uncounted := 34068, absence := 28056 } }
        (.wheelPulse (at_ 4000) true)
    t.rack.present = false ∧ t.rack.travel = 86072 ∧ t.rack.uncounted = 0 ∧ t.position = some 412308 := by
  decide +kernel

/-- R3: pulses of 2 000 mm, 3 600 µs apart, are 5 555 mm/s. -/
theorem test_wheelPulse_measures :
    (after { moving with store := { Store.initial with straps := { straps with wheelCirc := 0 } } }
      (.wheelPulse (at_ 3600) true)).rack.wheelSpeed = 5555 := by
  decide +kernel

/-- R3: a source without an edge for 2 s is at rest. -/
theorem test_sourceRest : (after moving (.sourceRest (at_ 2000000) .tooth)).rack.toothSpeed = 0 := by decide +kernel

/-- R7, R12: sources apart for 1 000 ms disagree, and the travel is counted by the wheel. -/
theorem test_speedDisagree :
    let t :=
      after { moving with rack := { moving.rack with disagreeTimer := some 0, uncounted := 2004 } }
        (.speedDisagreeExpiry (at_ 1000000))
    t.present .speedDisagree = true ∧ t.rack.travel = 2004 ∧ t.speed.localLimit = 0 := by
  decide +kernel

/-- A state with one condition present. -/
def present (s : State) (k : FaultKind) : State := s.setFaults (s.faults.occur false k)

/-- R8: sources together for 1 000 ms agree again. -/
theorem test_speedAgree :
    (after (present { moving with rack := { moving.rack with agreeTimer := some 0 } } .speedDisagree)
      (.speedAgreeExpiry (at_ 1000000))).present .speedDisagree = false := by
  decide +kernel

/-- R9, R109: standstill is confirmed after 2 000 ms and the holding brake goes on. -/
theorem test_standstillConfirmed :
    let t := after { moving with rack := { moving.rack with standstillTimer := some 0 } } (.standstillConfirmed (at_ 2000000))
    t.rack.standstill = true ∧ t.brake.applied = true := by
  decide +kernel

/-- Section 1.8: the mark at 412 310 replaces the counted position. -/
theorem test_trackMark : (after moving (.trackMark (at_ 0) 412310)).position = some 412310 := by decide +kernel

/-- The filter of section 1.9 at its start. -/
def filtering : State :=
  { moving with
    rack :=
      { moving.rack with
        ring := List.replicate 12 (-348) ++ List.replicate 4 (-352), lastValid := some (-352), validCount := 16
        lastWheelDir := .down, movingDir := .down, grade := -349 } }

/-- Section 1.9, expiry k: an invalid 640 has the last valid sample held; −350. -/
theorem test_gradeSample_holds :
    let t := after filtering (.gradeSampleExpiry (at_ 10000) (some 640))
    t.rack.grade = -350 ∧ t.rack.invalidCount = 1 ∧ t.rack.validCount = 0 := by
  decide +kernel

/-- R16, R183: sixteen invalid samples in a row again, while GRADE_SENSOR stands, are no further occurrence. -/
theorem test_gradeSensor_once :
    let s := present { filtering with rack := { filtering.rack with invalidCount := 15 } } .gradeSensor
    (after s (.gradeSampleExpiry (at_ 10000) none)).faults = s.faults
      ∧ ((after (present filtering .climbOut) (.gradeSampleExpiry (at_ 10000) none)).faults.table.map fun r => r.count) = [1] := by
  decide +kernel

/-- R34: a held CLIMB_OUT goes when its hold ends. -/
theorem test_conditionHold :
    (after (present { moving with engagement := { moving.engagement with climbOutHold := some 0 } } .climbOut)
      (.conditionHoldExpiry (at_ 2000000) .climbOut)).present .climbOut = false := by
  decide +kernel

/-! ## The car line -/

/-- A STATE held in its slot since reset. -/
def heldState : HeldFrame := { frame := buildFrame 1 (.state (report false)), kind := .state, placedAt := 0, late := false }

/-- Every slot holds a frame, and the line is busy. -/
def waiting : State :=
  { ready with
    line :=
      { ready.line with
        bus := .busy, alert := some (buildFrame 1 (.alert 1 2)), orders := [buildFrame 1 (.order 0 3 [])]
        stateSlot := some heldState, replies := [buildFrame 1 (.inspectReply [1, 0, 1, 0])] } }

/-- The same with one frame in transmission. -/
def sending (slot : Slot) : State := { waiting with line := { waiting.line with sending := some slot } }

/-- R48: the ALERT first. -/
theorem test_lineIdle : (after waiting (.lineIdle (at_ 0))).line.sending = some .alert := by decide +kernel

/-- Section 3.9: the loser keeps its frame waiting. -/
theorem test_contentionLost :
    let t := after (sending .state) (.contentionLost (at_ 16))
    t.line.sending = none ∧ t.line.stateSlot = some heldState := by
  decide +kernel

/-- R51: an ORDER sent starts the hold-off. -/
theorem test_frameSent_order :
    let t := after (sending .order) (.frameSent (at_ 944))
    t.line.orders = [] ∧ t.line.orderHoldOff = some 944 := by
  decide +kernel

/-- R51: the hold-off runs 5 ms. -/
theorem test_orderHoldOff :
    (after { ready with line := { ready.line with orderHoldOff := some 0 } } (.orderHoldOffExpiry (at_ 5000))).line.orderHoldOff
      = none := by
  decide +kernel

/-- R51: a hold-off that ends on an idle line leaves the ORDER to the next idle; a STATE placed in the same idle is begun
alone. -/
theorem test_orderHoldOff_idle :
    let s := (sending .order).setLine { (sending .order).line with sending := none, bus := .idle, orderHoldOff := some 0, stateSlot := none, alert := none, statePeriod := some 0 }
    let t := after s (.orderHoldOffExpiry (at_ 5000))
    t.line.sending = none ∧ (after t (.lineIdle (at_ 0))).line.sending = some .order
      ∧ (after t (.statePeriodExpiry (at_ 45000))).line.sending = some .state := by
  decide +kernel

/-- Section 3.10: chain-out is active 24 µs after the JOIN. -/
theorem test_chainOut :
    (after { ready with line := { ready.line with chainOutDue := some 0 } } (.chainOutActivate (at_ 24))).line.chainOut
      = true := by
  decide +kernel

/-- Section 3.10: 50 ms after the JOIN the first STATE is placed, with sequence 0. -/
theorem test_statePeriod :
    let t := after { ready with line := { ready.line with statePeriod := some 0, bus := .busy } } (.statePeriodExpiry (at_ 50000))
    t.line.stateSlot.isSome = true ∧ t.line.nextSequence = 1
      ∧ (t.line.stateSlot.map fun h => h.frame.payload[0]?) = some (some 0) := by
  decide +kernel

/-- R52: a STATE that has waited 20 ms is discarded. -/
theorem test_accessTimeout : (after waiting (.accessTimeout (at_ 20000))).line.stateSlot = none := by decide +kernel

/-- R61: a JOIN is placed anew. -/
theorem test_joinRetry :
    (after { ready with line := { ready.line with phase := .joinWaiting, joinRetry := some 0 } }
      (.joinRetry (at_ 50000))).line.sending = some .state := by
  decide +kernel

/-- A frame whose check is wrong. -/
def badCheck : LineFrame := { buildFrame 4 (.alert 1 5) with check := 0 }

/-- R56: the eleventh bad frame of a window is LINE_QUALITY. -/
theorem test_badFrame :
    (after { ready with line := { ready.line with badCount := 10 } } (.badFrame (at_ 0) badCheck)).present .lineQuality
      = true := by
  decide +kernel

/-- R56: the next window begins at 0. -/
theorem test_qualityWindow :
    (after { ready with line := { ready.line with badCount := 12 } } (.lineQualityWindowEnd (at_ 1000000))).line.badCount
      = 0 := by
  decide +kernel

/-- R57: NUMBER_CLASH goes 1 000 ms after the last clash. -/
theorem test_clashTimer :
    (after (present { ready with line := { ready.line with clashTimer := some 0 } } .numberClash)
      (.clashTimerExpiry (at_ 1000000))).present .numberClash = false := by
  decide +kernel

/-- R58: a raw level that differs is timed. -/
theorem test_neighbourSense :
    (after ready (.neighbourSenseInput (at_ 7) .endB true)).line.senseB.changing = some 7 := by
  decide +kernel

/-- R58: after 100 ms it is the filtered level. -/
theorem test_neighbourFiltered :
    (after { ready with line := { ready.line with senseB := { filtered := false, changing := some 0 } } }
      (.neighbourSenseFiltered (at_ 100000) .endB)).line.senseB = { filtered := true, changing := none } := by
  decide +kernel

/-- A station that listens, with or without a neighbour on its valley side. -/
def listening (neighbour : Bool) : State :=
  { ready with
    station := { ready.station with life := .joining }
    peers := initialPeers
    line := { Line.initial with senseA := { filtered := neighbour, changing := none }, listenTimer := some 0, bus := .idle } }

/-- Section 3.10: without a valley-side neighbour number 1 at 300 ms, with one the chain wait. -/
theorem test_listenWindow :
    (after (listening false) (.listenWindowEnd (at_ 300000))).line.own = some 0
      ∧ (after (listening true) (.listenWindowEnd (at_ 300000))).line.phase = .chainWait := by
  decide +kernel

/-- A station in the chain wait that has heard numbers up to one. -/
def chained (heard : Nat) : State :=
  { listening true with
    line := { (listening true).line with listenTimer := none, chainWaitTimer := some 0, phase := .chainWait, highestHeard := heard } }

/-- Section 3.10: chain-in active after station 1's JOIN gives number 2. -/
theorem test_chainIn : (after (chained 1) (.chainInChange (at_ 24) .endA true)).line.own = some 1 := by decide +kernel

/-- Section 3.10: silent after 5 000 ms. -/
theorem test_chainWait :
    let t := after (chained 0) (.chainWaitExpiry (at_ 5000000))
    t.line.phase = .silent ∧ t.present .consistIncomplete = true := by
  decide +kernel

/-- Section 3.10: CONSIST_INCOMPLETE after 10 000 ms, and the wait goes on. -/
theorem test_completionWait :
    let t :=
      after { ready with line := { ready.line with phase := .completionWait, completionTimer := some 0 } }
        (.completionWaitExpiry (at_ 10000000))
    t.line.phase = .completionWait ∧ t.present .consistIncomplete = true := by
  decide +kernel

/-- R39 and R40: ten recessive bit times make the line idle. -/
theorem test_tenRecessive :
    (after { ready with line := { ready.line with bus := .ignoringUntilTen } } (.tenRecessiveBitTimes (at_ 80))).line.bus
      = .idle := by
  decide +kernel

/-- R39: another station's start bit makes it busy. -/
theorem test_startBit : (after ready (.startBitOnLine (at_ 0))).line.bus = .busy := by decide +kernel

/-- R55: an unknown frame is dropped uncounted. -/
theorem test_unknownFrame :
    (after ready (.unknownFrameDropped (at_ 0) { buildFrame 4 (.alert 1 5) with kind := 15 })).line.badCount = 0 := by
  decide +kernel

/-! ## The peer table -/

/-- A JOIN of station 3, a car. -/
def join3 (last : Bool) : JoinFields := { number := 3, kind := 0, last := last, rejoin := false, tare := 160 }

/-- R67: a JOIN makes the entry JOINED, with its kind and its tare in kg. -/
theorem test_receiveJoin :
    let e := (after ready (.receiveJoin (at_ 0) 2 (join3 true))).peers[2]
    e.state = .joined ∧ e.kind = .car ∧ e.tare = 16000 := by
  decide +kernel

/-- Section 4.7: a second claim is CAB_CONFLICT, and neither cab is active. -/
theorem test_receiveState_conflict :
    let s := { ready with peers := ready.peers.set 4 (freshEntry .cab (report false)) }
    let t := after s (.receiveState (at_ 0) 4 (report true))
    t.present .cabConflict = true ∧ t.activeCab 3 = false ∧ t.activeCab 4 = false := by
  decide +kernel

/-- R72: the last alert is kept. -/
theorem test_receiveAlert :
    (after ready (.receiveAlert (at_ 0) 0 2 1)).peers[0].lastAlert = some .overspeedHard := by
  decide +kernel

/-- R55: another station's reply is not used. -/
theorem test_receiveReply : (after ready (.receiveInspectReply (at_ 0) 0 [1, 0, 1, 0])).peers = ready.peers := by
  decide +kernel

/-- Section 4.6: STALE at 150 ms. -/
theorem test_peerStale :
    let t := after ready (.peerStale (at_ 150000) 0)
    t.peers[0].state = .stale ∧ t.allFresh = false := by
  decide +kernel

/-- Section 4.6: LOST at 500 ms, and the interlock tests hold again. -/
theorem test_peerLost :
    let t := after (after ready (.peerStale (at_ 150000) 0)) (.peerLost (at_ 350000) 0)
    t.peers[0].state = .lost ∧ t.present .peerLost = true ∧ t.allFresh = true := by
  decide +kernel

/-! ## COMMAND frames -/

/-- Section 6.5: the cab asks for 200 mm/s². -/
theorem test_service : (after ready (.service (at_ 0) 3 0 200)).brake.cabDemand = 200 := by decide +kernel

/-- R78: only the active cab is accepted. -/
theorem test_service_from_car : (after ready (.service (at_ 0) 0 0 200)).brake.cabDemand = 0 := by decide +kernel

/-- R110: a release makes the request pending. -/
theorem test_release : (after ready (.release (at_ 0) 3 0 0)).brake.releasePending = true := by decide +kernel

/-- R120: a proof test starts with pinion 1 in TEST. -/
theorem test_proof :
    let t := after ready (.proof (at_ 0) 3 0 0)
    t.brake.proof.state = .running ∧ t.brake.pinions.p1.mode = .test := by
  decide +kernel

/-- Section 7.10: the station at 412 512 dm on +300, with a release for side R at 412 500 dm. -/
def platform : State :=
  { ready with
    rack := { ready.rack with ring := List.replicate 16 300, grade := 300, markBase := 412512 }
    radio := { ready.radio with platform := some { side := .r, stop := 412500, sequence := 3 } } }

/-- Section 7.10, 0.4 s: side R is car side B, whose doors become RELEASED. -/
theorem test_doorsRelease :
    let t := after platform (.doorsRelease (at_ 0) 3 0 1)
    t.doors.doors.d3.state = .released ∧ t.doors.doors.d4.state = .released ∧ t.doors.doors.d1.state = .locked
      ∧ t.summary = .released ∧ t.doors.latchPending = true := by
  decide +kernel

/-- Section 7.10: the same order for side L is refused. -/
theorem test_doorsRelease_other_side : (after platform (.doorsRelease (at_ 0) 3 0 0)).doors = platform.doors := by
  decide +kernel

/-- Door 3 in a state, door 4 RELEASED with side B, a phase timer running since reset. -/
def doorAt (state : DoorState) (attempts : Nat := 0) : State :=
  { platform with
    doors :=
      { platform.doors with
        releaseB := true, latchPending := true
        doors :=
          { platform.doors.doors with
            d3 := { Door.initial with state := state, attempts := attempts, timer := some 0 }
            d4 := { Door.initial with state := .released } } } }

/-- Section 7.10, 41.0 s: the open door closes, the released one locks. -/
theorem test_doorsClose :
    let t := after (doorAt .opened) (.doorsClose (at_ 0) 3 0 0)
    t.doors.doors.d3.state = .closing ∧ t.doors.doors.d4.state = .locked ∧ t.doors.releaseB = false := by
  decide +kernel

/-- Section 9.7: a reset clears the overflow ceiling. -/
theorem test_consistReset :
    (after { ready with restrictions := { entries := [], overflow := some 80 } }
      (.consistReset (at_ 0) 3 0 0)).restrictions.overflow = none := by
  decide +kernel

/-- Section 11.4: an INSPECT of the peer table to station 2 places four replies. -/
theorem test_inspect : (after ready (.inspect (at_ 0) 3 2 3)).line.replies.length = 4 := by decide +kernel

/-- R55: an INSPECT of record set 6 is a bad frame, counted and not answered. -/
theorem test_inspect_undefined :
    (after ready (.inspect (at_ 0) 3 2 6)).line.badCount = 1 ∧ (after ready (.inspect (at_ 0) 3 2 6)).line.replies = [] := by
  decide +kernel

/-! ## Speed supervision and braking -/

/-- The computation of section 5.8: station 3 descends on +350, pinion 2 derated, a limit of 200 to fall. -/
def descending : State :=
  { moving with
    rack := { moving.rack with ring := List.replicate 16 350, grade := 350, movingDir := .down, lastWheelDir := .down }
    line := { moving.line with own := some 2 }
    peers :=
      ((initialPeers.set 0 (freshEntry .traction (report false))).set 1
        (freshEntry .car { report false with mass := 160, capacity := 450, localLimit := 160 })).set 2
          { PeerEntry.blank with state := .self }
    doors := { moving.doors with mass := 16000 }
    speed := { moving.speed with localLimit := 200, enforced := 160, hardRef := 178 }
    brake :=
      { moving.brake with
        pinions :=
          { p1 := { PinionBrake.initial with derated := 20000 }
            p2 := { PinionBrake.initial with derated := 15000, energy := 8000000 } } } }

/-- Section 5.8: the local limit is 178, the enforced limit 160. -/
theorem test_supervision :
    let t := after descending (.supervisionComputation (at_ 100000))
    t.speed.localLimit = 178 ∧ t.speed.enforced = 160 := by
  decide +kernel

/-- Section 5.9: with V = 175 above 160 the demand is raised and the build-up count starts at 12. -/
theorem test_supervision_intervenes :
    let t := after { descending with rack := { descending.rack with reported := 4870 } } (.supervisionComputation (at_ 100000))
    t.speed.intervening = true ∧ t.speed.buildUp = 12 ∧ t.speed.hardRef = 178 := by
  decide +kernel

/-- Section 6.5: with a demand of 200 this car commands all of its force. -/
theorem test_brakeCycle_shares :
    let s := { descending with brake := { descending.brake with cabDemand := 200 } }
    let t := after s (.brakeCycle (at_ 20000 0 0))
    t.brake.target = 200 ∧ t.brake.pinions.p1.mode = .service 20000 := by
  decide +kernel

/-- Section 6.10: cooling of 1 953 J and heating of 1 489 J leave 7 999 536 J and 15 001 N. -/
theorem test_brakeCycle_cools :
    let t := after descending (.brakeCycle (at_ 20000 0 15000))
    t.brake.pinions.p2.energy = 7999536 ∧ t.brake.pinions.p2.derated = 15001 := by
  decide +kernel

/-- R117: a pinion below half its command for 1 000 ms is FAILED. -/
theorem test_pinionFailure :
    let s :=
      { descending with
        brake :=
          { descending.brake with
            pinions :=
              { descending.brake.pinions with
                p1 := { descending.brake.pinions.p1 with mode := .service 20000, failTimer := some 0 } } } }
    (after s (.pinionFailureTimeout (at_ 1000000 9999 0) .p1)).brake.pinions.p1.failed = true := by
  decide +kernel

/-- A proof test in a phase, its settle timer running since reset. -/
def proving (phase : ProofPhase) (sum count : Nat) : State :=
  { ready with
    station := { ready.station with life := .proving }
    brake :=
      { ready.brake with
        proof := { ProofRecord.initial with state := .running, phase := phase, results := { p1 := .pass, p2 := .notRun } }
        settleTimer := some 0, sampleSum := sum, sampleCount := count } }

/-- Section 6.13: the settle timer ends after 500 ms. -/
theorem test_proofSettle :
    (after (proving .p1Settle 0 0) (.proofSettleExpiry (at_ 500000))).brake.proof.phase = .p1Sample := by
  decide +kernel

/-- R111: a pulled loop sets the latch. -/
theorem test_loopPulled : (after moving (.loopPulled (at_ 0))).brake.latch = true := by decide +kernel

/-- R111: the loop's release leaves it SET. -/
theorem test_loopReleased :
    (after (after moving (.loopPulled (at_ 0))) (.loopReleased (at_ 0))).brake.latch = true := by
  decide +kernel

/-! ## Doors -/

/-- Section 7.10, 47.0 s: the door locks, and the mass of 20 230 kg is latched. -/
theorem test_lockMade :
    let s := doorAt .closing 1
    let t :=
      after { s with doors := { s.doors with releaseB := false, doors := { s.doors.doors with d4 := Door.initial } } }
        (.lockSwitchMade (at_ 0) .d3)
    t.doors.doors.d3.state = .locked ∧ t.doors.doors.d3.attempts = 0 ∧ t.doors.mass = 20230 := by
  decide +kernel

/-- R139: a LOCKED door whose switch is lost is FORCED. -/
theorem test_lockLost :
    let t := after ready (.lockSwitchLost (at_ 0) .d1)
    t.doors.doors.d1.state = .forced ∧ t.present .doorForced = true := by
  decide +kernel

/-- Section 7.10, 5.6 s: the opening door is OPEN. -/
theorem test_fullyOpen : (after (doorAt .opening) (.fullyOpenSwitch (at_ 0) .d3)).doors.doors.d3.state = .opened := by
  decide +kernel

/-- Section 7.10, 43.2 s: an obstruction reopens the door, attempts 1. -/
theorem test_obstruction :
    let d := (after (doorAt .closing) (.obstructionEdge (at_ 0) .d3)).doors.doors.d3
    d.state = .reopening ∧ d.attempts = 1 := by
  decide +kernel

/-- Section 7.10, 3.1 s: the button of a RELEASED door. -/
theorem test_openButton : (after (doorAt .released) (.openButton (at_ 0) .d3)).doors.doors.d3.state = .opening := by
  decide +kernel

/-- R131: at standstill a handle releases its door. -/
theorem test_handleActive :
    let d := (after ready (.handleActive (at_ 0) .d2)).doors.doors.d2
    d.state = .released ∧ d.handleRelease = true := by
  decide +kernel

/-- R140: in a moving car it alarms. -/
theorem test_handleActive_alarms : (after moving (.handleActive (at_ 0) .d2)).present .doorForced = true := by
  decide +kernel

/-- R131: the handle's return locks a RELEASED door. -/
theorem test_handleInactive :
    (after (after ready (.handleActive (at_ 0) .d2)) (.handleInactive (at_ 0) .d2)).doors.doors.d2.state = .locked := by
  decide +kernel

/-- R133: an opening of 6 000 ms is a DOOR_TIMEOUT. -/
theorem test_openingTimeout :
    (after (doorAt .opening) (.doorOpeningTimeout (at_ 6000000) .d3)).present .doorTimeout = true := by
  decide +kernel

/-- R137, R138: the third obstruction leaves the door OPEN. -/
theorem test_closingTimeout :
    let t := after (doorAt .closing 2) (.doorClosingTimeout (at_ 8000000) .d3)
    t.doors.doors.d3.state = .opened ∧ t.present .doorObstructed = true := by
  decide +kernel

/-- Section 7.10, 44.2 s: the reopened door closes after 1 000 ms. -/
theorem test_reopen :
    (after (doorAt .reopening 1) (.doorReopenExpiry (at_ 1000000) .d3)).doors.doors.d3.state = .closing := by
  decide +kernel

/-! ## Valley radio and restrictions -/

/-- R152: a LINK_STATUS stores its level. -/
theorem test_linkStatus : (after ready (.linkStatus (at_ 5) 77)).radio.lastLink = 77 := by decide +kernel

/-- R151: a discarded message has no effect. -/
theorem test_modemDiscarded : (after ready (.modemMessageDiscarded (at_ 0) [9])).radio = ready.radio := by decide +kernel

/-- Eight entries with ids 301 to 308, none covering (section 9.7). -/
def eight : List Restriction :=
  [301, 302, 303, 304, 305, 306, 307, 308].map fun id =>
    { orderId := BitVec.ofNat 16 id, start := 900000, stop := 901000, limit := 120, covering := false }

/-- The station of section 9.7. -/
def full : State := { moving with restrictions := { entries := eight, overflow := none } }

/-- Section 9.7: an order with id 320 and limit 80 sets the ceiling and lowers the limit. -/
theorem test_restrict_overflows :
    let t := after full (.restrict (at_ 0) (.radio 41) 7 320 500000 0 80)
    t.restrictions.overflow = some 80 ∧ t.speed.localLimit = 80 ∧ t.present .restrictionOverflow = true := by
  decide +kernel

/-- Section 9.7: an order with id 305 replaces its entry in its place. -/
theorem test_restrict_replaces :
    let t := after full (.restrict (at_ 0) (.radio 41) 8 305 900000 1000 90)
    (t.restrictions.entries.map fun e => e.limit) = [120, 120, 120, 120, 90, 120, 120, 120] := by
  decide +kernel

/-- Section 9.7: the LIFT of id 302. -/
theorem test_lift :
    ((after full (.lift (at_ 0) (.radio 41) 9 302)).restrictions.entries.map fun e => e.orderId.toNat)
      = [301, 303, 304, 305, 306, 307, 308] := by
  decide +kernel

/-- R161: a HALT is VALLEY_HALT, and the radio acknowledges it. -/
theorem test_halt :
    let t := after moving (.halt (at_ 0) (.radio 41) 5)
    t.present .valleyHalt = true ∧ t.radio.acks.length = 1 := by
  decide +kernel

/-- R161: ALL_HALT pulls the loop. -/
theorem test_allHalt : (after moving (.allHalt (at_ 0) (.line 3) 5)).brake.ownPull = true := by decide +kernel

/-- R161: PROCEED ends a halt. -/
theorem test_proceed :
    (after (after moving (.halt (at_ 0) (.line 3) 5)) (.proceed (at_ 0) (.line 3) 6)).present .valleyHalt = false := by
  decide +kernel

/-- R161, R190: a PROCEED with neither condition present leaves an old VALLEY_HALT record; with one present it removes the
record, and leaves the others. -/
theorem test_proceed_old_record :
    let record (k : FaultKind) : FaultRecord := { kind := k, cls := .b, active := false, count := 2 }
    let s := { moving with faults := { Faults.initial with table := [record .valleyHalt, record .brakeFade] } }
    (after s (.proceed (at_ 0) (.line 3) 6)).faults.table = [record .valleyHalt, record .brakeFade]
      ∧ (after (after s (.halt (at_ 0) (.line 3) 5)) (.proceed (at_ 0) (.line 3) 6)).faults.table = [record .brakeFade] := by
  decide +kernel

/-- R163: a platform release is recorded. -/
theorem test_platformRelease :
    (after ready (.platformRelease (at_ 0) (.line 3) 5 1 412500)).radio.platform
      = some { side := .r, stop := 412500, sequence := 5 } := by
  decide +kernel

/-- R154: SUPERVISE restarts the supervision. -/
theorem test_supervise : (after ready (.supervise (at_ 9) (.radio 41) 5)).radio.supervision = some 9 := by decide +kernel

/-- R158: an ORDER of another station ends the hold-off. -/
theorem test_orderDiscarded :
    (after { ready with line := { ready.line with orderHoldOff := some 0 } }
      (.orderFrameDiscarded (at_ 0) 3 1 99 [])).line.orderHoldOff = none := by
  decide +kernel

/-- R152: without LINK_STATUS for 3 000 ms the contact is lost. -/
theorem test_linkTimeout :
    (after { ready with radio := { ready.radio with linkTimer := some 0 } } (.linkStatusTimeout (at_ 3000000))).radio.status
      = .lost := by
  decide +kernel

/-- R154: without an order for 8 000 ms the contact is lost, and R94 caps the limit at 60 with no peer ALIVE. -/
theorem test_radioSupervision :
    let t := after { moving with peers := initialPeers } (.radioSupervisionExpiry (at_ 8000000))
    t.radio.status = .lost ∧ t.speed.localLimit = 60 := by
  decide +kernel

/-- R168: a report every 2 000 ms. -/
theorem test_positionReport :
    (after { ready with radio := { ready.radio with reportTimer := some 0 } } (.positionReportExpiry (at_ 2000000))).radio.report.isSome
      = true := by
  decide +kernel

/-- A radio with an acknowledgement and a report to send. -/
def outgoing (sent : Option RadioSending) : State :=
  { ready with
    radio :=
      { ready.radio with
        acks := [{ address := 41, sequence := 0, payload := .ack 2 7 .accepted }]
        report := some { address := 41, sequence := 1, payload := .ack 2 8 .accepted }
        sending := sent } }

/-- R169: the acknowledgement goes first. -/
theorem test_sendStart : (after (outgoing none) (.sendMessageStart (at_ 0))).radio.sending = some .ack := by decide +kernel

/-- R169: sent, it leaves its queue. -/
theorem test_sendDone : (after (outgoing (some .ack)) (.sendMessageDone (at_ 0))).radio.acks = [] := by decide +kernel

/-- R169: the channel-busy level. -/
theorem test_channelBusy : (after ready (.channelBusyChange (at_ 0) true)).pins.levels.channelBusy = true := by
  decide +kernel

/-! ## Supply and starts -/

/-- R192: a warning begins the controlled stop. -/
theorem test_supplyWarn :
    let t := after moving (.supplyWarn (at_ 0))
    t.present .supplyFail = true ∧ t.station.storing = true ∧ t.store.valid = true ∧ t.brake.latch = true := by
  decide +kernel

/-- R194: a good supply ends it; the latch stays SET. -/
theorem test_supplyGood :
    let t := after (after moving (.supplyWarn (at_ 0))) (.supplyGood (at_ 0))
    t.present .supplyFail = false ∧ t.store.valid = false ∧ t.brake.latch = true := by
  decide +kernel

/-- R198: without supply nothing runs and every output is FULL. -/
theorem test_dropOut :
    let t := after moving (.dropOut (at_ 0))
    t.running = false ∧ t.brake.wheel = .full := by
  decide +kernel

/-- A part without supply since reset, its store valid, with a retained number. -/
def dropped : State :=
  { after moving (.dropOut (at_ 0)) with
    store :=
      { straps := straps, valid := true, check := storeCheck straps { Retained.initial with own := some 1 }
        items := { Retained.initial with own := some 1 } } }

/-- R198: the store's validity ends after 30 s. -/
theorem test_storeHoldup : (after dropped (.storeHoldupExpiry (at_ 30000000))).store.valid = false := by decide +kernel

/-- R198: no valid store, a cold start. -/
theorem test_powerOn_cold :
    (after (after moving (.dropOut (at_ 0))) (.powerOn (at_ 0) Levels.quiet 0)).station.life = .cold := by
  decide +kernel

/-- R197: the straps are copied and JOINING begins. -/
theorem test_strapsRead :
    let t := after State.reset (.strapsRead (at_ 0) straps Levels.quiet)
    t.straps = straps ∧ t.station.life = .joining ∧ t.line.listenTimer = some 0 := by
  decide +kernel

/-- R198: the write of the strap copy rewrites the check over the copy and the items. -/
theorem test_strapsRead_check :
    (after State.reset (.strapsRead (at_ 0) straps Levels.quiet)).store
      = { Store.initial with straps := straps, check := storeCheck straps Store.initial.items } :=
  rfl

/-! ## Ill-formed commands are refused -/

/-- A JOIN whose number is not that of its source. -/
theorem test_illFormed_join : (Instr.receiveJoin (at_ 0) 0 (join3 false)).wellFormed = false := by decide +kernel

/-- A STATE with a local limit above 400. -/
theorem test_illFormed_state :
    (Instr.receiveState (at_ 0) 0 { report false with localLimit := 401 }).wellFormed = false := by
  decide +kernel

/-- An ALERT of an unknown kind, and one of no station. -/
theorem test_illFormed_alert :
    (Instr.receiveAlert (at_ 0) 0 30 1).wellFormed = false ∧ (Instr.receiveAlert (at_ 0) 0 1 0).wellFormed = false := by
  decide +kernel

/-- A reply shorter than its header, and one longer than a frame. -/
theorem test_illFormed_reply :
    (Instr.receiveInspectReply (at_ 0) 0 [1, 2, 3]).wellFormed = false
      ∧ (Instr.receiveInspectReply (at_ 0) 0 (List.replicate 25 0)).wellFormed = false := by
  decide +kernel

/-- A good frame is neither bad nor unknown. -/
theorem test_illFormed_frames :
    (Instr.badFrame (at_ 0) (buildFrame 4 (.alert 1 5))).wellFormed = false
      ∧ (Instr.unknownFrameDropped (at_ 0) (buildFrame 4 (.alert 1 5))).wellFormed = false := by
  decide +kernel

/-- COMMAND frames to target 9, and a release of side 2. -/
theorem test_illFormed_commands :
    (Instr.service (at_ 0) 3 9 0).wellFormed = false ∧ (Instr.release (at_ 0) 3 9 0).wellFormed = false
      ∧ (Instr.proof (at_ 0) 3 9 0).wellFormed = false ∧ (Instr.doorsRelease (at_ 0) 3 0 2).wellFormed = false
      ∧ (Instr.doorsClose (at_ 0) 3 9 0).wellFormed = false ∧ (Instr.consistReset (at_ 0) 3 9 0).wellFormed = false
      ∧ (Instr.inspect (at_ 0) 3 9 1).wellFormed = false := by
  decide +kernel

/-- A platform release of side 2; an ORDER frame of defined contents that is not discarded; a LINK_STATUS. -/
theorem test_illFormed_radio :
    (Instr.platformRelease (at_ 0) (.line 0) 1 2 0).wellFormed = false
      ∧ (Instr.orderFrameDiscarded (at_ 0) 0 1 3 []).wellFormed = false
      ∧ (Instr.modemMessageDiscarded (at_ 0) [1, 5]).wellFormed = false := by
  decide +kernel

/-! ## The statements' hypotheses are met

For each statement of Obligations.lean with hypotheses: states and operands that meet them, clause by clause, at the ends
of the ranges where a range is named. -/

/-- The station at rest with every timer and period started at reset. -/
def timed : State :=
  { ready with
    rack :=
      { ready.rack with
        toothRef := some 0, wheelRef := some 0, disagreeTimer := some 0, agreeTimer := some 0, standstillTimer := some 0 }
    engagement := { ready.engagement with climbOutHold := some 0, calibrationHold := some 0 }
    line :=
      { ready.line with
        senseB := { filtered := false, changing := some 0 }, listenTimer := some 0, chainWaitTimer := some 0
        completionTimer := some 0, joinRetry := some 0, statePeriod := some 0, orderHoldOff := some 0, clashTimer := some 0
        chainOutDue := some 0 }
    brake :=
      { ready.brake with
        settleTimer := some 0
        pinions :=
          { ready.brake.pinions with p1 := { PinionBrake.initial with failTimer := some 0, mode := .service 5000 } } }
    doors := { ready.doors with doors := { ready.doors.doors with d1 := { Door.initial with timer := some 0 } } }
    radio := { ready.radio with linkTimer := some 0, reportTimer := some 0 } }

/-- The same not at standstill. -/
def timedMoving : State := { timed with rack := { timed.rack with standstill := false } }

theorem witness_StepRunsFrontCommand :
    { ready with pending := [.lineIdle (at_ 0), .frameSent (at_ 1)] }.pending = .lineIdle (at_ 0) :: [.frameSent (at_ 1)] := by
  decide +kernel

theorem witness_StoppedPartTakesNoCommand :
    State.reset.running = false ∧ (after moving (.dropOut (at_ 0))).running = false
      ∧ isStart (.trackMark (at_ 0) 5) = false := by
  decide +kernel

/-- Each timer one microsecond before its limit. -/
theorem witness_ExpiryNotDueHasNoEffect :
    timerReached timed.rack.toothRef (timed.instant (at_ 1999999)) 2000000 = false
      ∧ timerReached timed.rack.wheelRef (timed.instant (at_ 1999999)) 2000000 = false
      ∧ timerReached timed.rack.disagreeTimer (timed.instant (at_ 999999)) (ms 1000) = false
      ∧ timerReached timed.rack.agreeTimer (timed.instant (at_ 999999)) (ms 1000) = false
      ∧ timerReached timed.rack.standstillTimer (timed.instant (at_ 1999999)) (ms 2000) = false
      ∧ timed.instant (at_ 9999) < timed.rack.sampleStart + ms 10
      ∧ timerReached (timed.line.sense .endB).changing (timed.instant (at_ 99999)) (ms 100) = false
      ∧ timerReached timed.line.statePeriod (timed.instant (at_ 49999)) (ms 50) = false
      ∧ timerReached timed.peers[(0 : Fin 8)].ageFrom (timed.instant (at_ 149999)) (ms 150) = false
      ∧ timerReached timed.peers[(0 : Fin 8)].ageFrom (timed.instant (at_ 499999)) (ms 500) = false
      ∧ timed.instant (at_ 99999) < timed.speed.superStart + ms 100
      ∧ timed.instant (at_ 19999) < timed.brake.cycleStart + ms 20
      ∧ timerReached (timed.brake.pinions.get .p1).failTimer (timed.instant (at_ 999999)) (ms 1000) = false
      ∧ timerReached (timed.doors.doors.get .d1).timer (timed.instant (at_ 5999999)) (ms 6000) = false
      ∧ timerReached timed.radio.linkTimer (timed.instant (at_ 2999999)) (ms 3000) = false
      ∧ timerReached timed.radio.supervision (timed.instant (at_ 7999999)) (ms 8000) = false := by
  decide +kernel

/-- The others, in the same way; a part with supply, and one without it 29 999 999 µs after its loss. -/
theorem witness_ExpiryNotDueHasNoEffect_others :
    timerReached timed.engagement.climbOutHold (timed.instant (at_ 1999999)) (ms 2000) = false
      ∧ timerReached timed.engagement.calibrationHold (timed.instant (at_ 1999999)) (ms 2000) = false
      ∧ timerReached timed.line.orderHoldOff (timed.instant (at_ 4999)) (ms 5) = false
      ∧ timerReached timed.line.chainOutDue (timed.instant (at_ 23)) 24 = false
      ∧ waiting.line.stateSlot = some heldState ∧ waiting.instant (at_ 19999) < heldState.placedAt + ms 20
      ∧ waiting.line.stateBehind = none
      ∧ timerReached timed.line.joinRetry (timed.instant (at_ 49999)) (ms 50) = false
      ∧ timed.instant (at_ 999999) < timed.line.qualityStart + ms 1000
      ∧ timerReached timed.line.clashTimer (timed.instant (at_ 999999)) (ms 1000) = false
      ∧ timerReached timed.line.listenTimer (timed.instant (at_ 299999)) (ms 300) = false
      ∧ timerReached timed.line.chainWaitTimer (timed.instant (at_ 4999999)) (ms 5000) = false
      ∧ timerReached timed.line.completionTimer (timed.instant (at_ 9999999)) (ms 10000) = false
      ∧ timerReached timed.brake.settleTimer (timed.instant (at_ 499999)) (ms 500) = false
      ∧ timerReached (timed.doors.doors.get .d1).timer (timed.instant (at_ 7999999)) (ms 8000) = false
      ∧ timerReached (timed.doors.doors.get .d1).timer (timed.instant (at_ 999999)) (ms 1000) = false
      ∧ timerReached timed.radio.reportTimer (timed.instant (at_ 1999999)) (ms 2000) = false
      ∧ timed.station.life ≠ .off ∧ dropped.station.life = .off
      ∧ timerReached dropped.station.droppedAt (dropped.instant (at_ 29999999)) (ms 30000) = false := by
  decide +kernel

/-- A body of each kind at the ends of its ranges; frames of 24 and of 25 by the length field. -/
theorem witness_LineFramesRoundTrip :
    (FrameBody.join { number := 8, kind := 2, last := true, rejoin := true, tare := 355 }).ok 7 = true
      ∧ (FrameBody.state { report true with known := true, localLimit := 400, position := 1000000 }).ok 0 = true
      ∧ (FrameBody.command 8 .doorsRelease 1).ok 3 = true ∧ (FrameBody.order 255 7 (List.replicate 16 255)).ok 4 = true
      ∧ (FrameBody.alert 29 8).ok 5 = true ∧ (FrameBody.inspectReply (List.replicate 24 255)).ok 6 = true
      ∧ (buildFrame 6 (.inspectReply (List.replicate 24 255))).length.toNat ≤ 24
      ∧ (buildFrame 6 (.inspectReply (List.replicate 24 255))).payload.length = 24
      ∧ (buildFrame 6 (.inspectReply (List.replicate 24 255))).endClean = true
      ∧ 24 < { buildFrame 4 (.alert 1 5) with length := 25 }.length.toNat
      ∧ (buildFrame 4 (.alert 1 5)).contention < (buildFrame 1 (.order 0 3 [])).contention
      ∧ (buildFrame 6 (.alert 1 5)).contention < (buildFrame 7 (.alert 1 5)).contention
      ∧ (buildFrame 4 (.alert 1 5)).wireBits[6]? = some false ∧ (buildFrame 4 (.alert 1 5)).wireBits[53]? = some true := by
  decide +kernel

theorem witness_ValleyOrdersRoundTrip :
    (ValleyOrder.platformRelease 1 1000001).ok = true ∧ (ValleyOrder.restrict 65535 1000000 0 401).ok = true
      ∧ 1000 ≤ ({ silence := 1000, byte := 1 } : ModemCharacter).silence
      ∧ (∀ c ∈ [({ silence := 999, byte := 7 } : ModemCharacter), { silence := 0, byte := 8 }], c.silence < 1000)
      ∧ (∀ next ∈ [({ silence := 1000, byte := 2 } : ModemCharacter)].head?, 1000 ≤ next.silence) := by
  decide +kernel

/-- Two LINK_STATUS messages, 1 ms apart, after a character of a message whose beginning was missed; a third character
without that silence makes the second no LINK_STATUS (R151). -/
theorem test_modemMessages :
    modemMessages none 1000
        [{ silence := 5, byte := 9 }, { silence := 1000, byte := 1 }, { silence := 999, byte := 7 }
          , { silence := 1500, byte := 1 }, { silence := 0, byte := 0 }, { silence := 2, byte := 3 }]
        = [[1, 7], [1, 0, 3]]
      ∧ classifyMessage [1, 7] = .linkStatus 7 ∧ classifyMessage [1, 0, 3] = .discarded := by
  decide +kernel

/-- A full restriction table takes one more order. -/
theorem witness_TablesStayBounded :
    let s := { full with pending := [.restrict (at_ 0) (.radio 41) 7 320 500000 0 80] }
    s.tablesOk ∧ step s = .next (stepped s) := by
  refine ⟨⟨⟨?_, ?_⟩, ?_, ⟨?_, ?_⟩, ⟨?_, ?_⟩, ?_, ?_, ?_, ⟨?_, ?_⟩, ⟨?_, ?_⟩, ?_, ?_⟩, rfl⟩ <;> decide +kernel

/-- Held with doors on their way, and released with every door locked. -/
theorem witness_DoorsStayShutUnlessHeld :
    (doorAt .opened).doorsOk ∧ moving.doorsOk ∧ step (doorAt .opened) = .next (stepped (doorAt .opened)) := by
  refine ⟨⟨fun h => absurd h (by decide +kernel), ?_⟩, ⟨fun _ => ⟨?_, rfl, rfl⟩, ?_⟩, rfl⟩ <;> intro d
    <;> cases d <;> first | (intro h; exact absurd h (by decide +kernel)) | exact ⟨.inl rfl, rfl⟩

/-- A released side whose permit holds. -/
theorem witness_DoorsStayShutUnlessHeld_permit :
    (doorAt .opened).permitsOk ∧ (doorAt .opened).doors.sideRelease .b = true := by
  refine ⟨fun side => ?_, ?_⟩ <;> first | (cases side <;> decide +kernel) | decide +kernel

/-- A part in its emergency state, and one with a proof test running. -/
theorem witness_EmergencyStaysInForce :
    (after moving (.allHalt (at_ 0) (.line 3) 5)).emergencyOk ∧ (proving .p1Settle 0 0).proofOk
      ∧ (after moving (.allHalt (at_ 0) (.line 3) 5)).classA = true ∧ (proving .p1Settle 0 0).brake.proof.state = .running := by
  refine ⟨⟨?_, ?_, fun _ => ⟨?_, ?_, ?_⟩⟩, ⟨⟨?_, ?_, fun _ => ⟨?_, ?_, ?_⟩⟩, ?_, ?_, ?_⟩, ?_, ?_⟩ <;> decide +kernel

/-- A part in the controlled stop. -/
theorem witness_StoreFollowsItems :
    (after moving (.supplyWarn (at_ 0))).storeOk ∧ (after moving (.supplyWarn (at_ 0))).station.storing = true :=
  ⟨fun _ => ⟨by decide +kernel, by decide +kernel, by decide +kernel, rfl⟩, by decide +kernel⟩

/-- A limit at its ceiling: no entry covers, the radio is alive. -/
theorem witness_LimitsStayUnderCeilings : moving.limitOk ∧ moving.speed.localLimit = 190 := by
  refine ⟨⟨?_, ?_, ?_, ?_, ?_, ?_, ?_, ?_, ?_⟩, ?_⟩ <;> decide +kernel

theorem witness_PinionsStayInBounds :
    (checking 5).pinionsOk ∧ (checking 5).engagement.pinions.p1.window.status = .valid := by
  refine ⟨⟨⟨?_, ?_, ?_⟩, ⟨?_, ?_, ?_⟩, ?_, ?_, ?_, ?_, ?_, ?_⟩, ?_⟩ <;> first | decide +kernel | (intro h; first | decide +kernel | exact absurd h (by decide +kernel))

theorem witness_NumberStaysOnceTaken :
    ready.numberOk ∧ ready.line.own.isSome = true ∧ isStart (.lineIdle (at_ 0)) = false := by
  refine ⟨⟨?_, ?_, trivial⟩, ?_, ?_⟩ <;> decide +kernel

/-- A station held with a pending release request, at its brake cycle. -/
def releasing : State := { ready with brake := { ready.brake with releasePending := true } }

/-- A brake cycle that is due with a pending request: the holding brake is released; with the latch set it is not. -/
theorem witness_HoldingFallsOnlyAtBrakeCycle_released :
    let latched := { releasing with brake := { releasing.brake with latch := true } }
    releasing.running = true ∧ releasing.brake.cycleStart + ms 20 ≤ releasing.instant (at_ 20000)
      ∧ (after releasing (.brakeCycle (at_ 20000))).brake.applied = false
      ∧ (after latched (.brakeCycle (at_ 20000))).brake.applied = true
      ∧ (after latched (.brakeCycle (at_ 20000))).brake.releasePending = false := by
  decide +kernel

theorem witness_HoldingFallsOnlyAtBrakeCycle :
    exec (.brakeCycle (at_ 20000)) releasing = .next (after releasing (.brakeCycle (at_ 20000)))
      ∧ releasing.brake.applied = true ∧ (after releasing (.brakeCycle (at_ 20000))).brake.applied = false :=
  ⟨rfl, by decide +kernel, by decide +kernel⟩

/-- The own JOIN of a station in transmission. -/
def joining (last rejoin : Bool) (life : Life) : State :=
  { sending .state with
    station := { ready.station with life := life }
    line :=
      { (sending .state).line with
        phase := .joinWaiting, rejoin := rejoin
        stateSlot := some { frame := buildFrame 1 (.state (report false)), kind := .join last rejoin, placedAt := 0, late := false } } }

/-- Every change of the table: loss of supply, both starts, the straps, a complete consist, a rejoin with and without
two passes, a passed proof test. -/
theorem witness_StationStateFollowsItsTable :
    (after moving (.dropOut (at_ 0))).station.life = .off
      ∧ (after (after moving (.dropOut (at_ 0))) (.powerOn (at_ 0) Levels.quiet 0)).station.life = .cold
      ∧ (after State.reset (.strapsRead (at_ 0) straps Levels.quiet)).station.life = .joining
      ∧ (after (joining true false .joining) (.frameSent (at_ 0))).station.life = .proving
      ∧ (after (joining false true .resuming) (.frameSent (at_ 0))).station.life = .proving := by
  decide +kernel

/-- The rack left behind. -/
def offRack : State := { moving with rack := { moving.rack with present := false } }

/-- A pinion's monitor replaced. -/
def monitoring (mon : PinionMonitor) : State :=
  { moving with engagement := { moving.engagement with pinions := { moving.engagement.pinions with p1 := mon } } }

/-- A monitor in a sweep. -/
def sweepingMonitor (settle counted : Nat) : PinionMonitor :=
  { window := Window.cleared .sweeping, settle := settle, histogram := wrapping, counted := counted, slip := 0 }

/-- A station at rest with a side and a handle released, whose sources have their references: its next edge leaves
standstill. -/
def leaving : State :=
  let s := after (doorAt .opened) (.handleActive (at_ 0) .d1)
  { s with rack := { s.rack with toothRef := some 0, wheelRef := some 0, standstillTimer := none } }

/-- Standstill left by a tooth edge and by a wheel pulse: the releases go, an open door closes, a released one locks; a
sensor 2 edge leaves nothing. -/
theorem witness_StandstillIsLeft :
    let t := after leaving (.toothEdge (at_ 20000) .p1 none)
    leaving.running = true ∧ leaving.rack.standstill = true ∧ t.rack.standstill = false
      ∧ (after leaving (.wheelPulse (at_ 20000) true)).rack.standstill = false
      ∧ (after leaving (.toothEdge (at_ 20000) .p2 none)).rack.standstill = true
      ∧ leaving.radio.platform.isSome = true ∧ t.radio.platform = none ∧ leaving.doors.releaseB = true
      ∧ t.doors.releaseB = false ∧ (leaving.doors.doors.get .d1).handleRelease = true
      ∧ (t.doors.doors.get .d1).handleRelease = false ∧ leaving.doors.doors.d1.state = .released
      ∧ t.doors.doors.d1.state = .locked ∧ t.doors.doors.d3.state = .closing := by
  decide +kernel

/-- An evaluation with the sources apart, together and with SPEED_DISAGREE, below and above 56 mm/s: each timer started,
kept and discarded; decay one microsecond before a source rests and at its rest. -/
theorem witness_SpeedIsEvaluated :
    let apart := { moving with rack := { moving.rack with wheelSpeed := 4000, wheelEdgeSpeed := 4000, toothEdgeSpeed := 4964 } }
    let slow := { moving with rack := { moving.rack with toothEdgeSpeed := 55, wheelEdgeSpeed := 55, standstillTimer := some 3 } }
    (after apart (.toothEdge (at_ 20000) .p2 none)).rack.disagreeTimer = some 20000
      ∧ (after { apart with rack := { apart.rack with disagreeTimer := some 7 } } (.toothEdge (at_ 20000) .p2 none)).rack.disagreeTimer
        = some 7
      ∧ (after (present { apart with rack := { apart.rack with agreeTimer := some 7 } } .speedDisagree)
          (.toothEdge (at_ 20000) .p2 none)).rack.agreeTimer
        = none
      ∧ (after (present slow .speedDisagree) (.toothEdge (at_ 20000) .p2 none)).rack.agreeTimer = some 20000
      ∧ (after slow (.toothEdge (at_ 20000) .p2 none)).rack.standstillTimer = some 3
      ∧ (after { slow with rack := { slow.rack with toothEdgeSpeed := 56 } } (.toothEdge (at_ 20000) .p2 none)).rack.standstillTimer
        = none
      ∧ (after apart (.toothEdge (at_ 1999999) .p2 none)).rack.toothSpeed = 50
      ∧ (after apart (.toothEdge (at_ 2000000) .p2 none)).rack.toothRef = none := by
  decide +kernel

/-- A climb-out at standstill, which starts its hold timer, and one as the car moves, which does not. -/
theorem witness_ToothEdgeSweepsAndChecks_hold :
    let standing := { checking 28 with rack := { (checking 28).rack with standstill := true, toothRef := none } }
    (after standing (.toothEdge (at_ 20000) .p1 (some 18))).rack.standstill = true
      ∧ (after standing (.toothEdge (at_ 20000) .p1 (some 18))).engagement.climbOutHold = some 20000
      ∧ (after (checking 28) (.toothEdge (at_ 20000) .p1 (some 18))).engagement.climbOutHold = none := by
  decide +kernel

theorem witness_ToothEdgeMeasuresAndCounts :
    moving.running = true ∧ moving.countingTeeth = true ∧ moving.rack.lastWheelDir = .up
      ∧ filtering.countingTeeth = true ∧ filtering.rack.lastWheelDir = .down
      ∧ { moving with rack := { moving.rack with lastWheelDir := .none } }.countingTeeth = true
      ∧ offRack.running = true ∧ offRack.countingTeeth = false ∧ (proving .p1Settle 0 0).running = true
      ∧ (proving .p1Settle 0 0).brake.proof.state = .running := by
  decide +kernel

/-- A rack entry with and without a VALID record; settle teeth; the 63rd and 64th counted edge, with a result of each
kind; edges at both ends of the band and beyond; the last count before a climb-out and the climb-out. -/
theorem witness_ToothEdgeSweepsAndChecks :
    offRack.running = true ∧ offRack.rack.present = false
      ∧ (offRack.engagement.pinions.get .p1).window.status ≠ .valid
      ∧ ((checking 0).engagement.pinions.get .p1).window.status = .valid
      ∧ (monitoring (sweepingMonitor 1 0)).rack.present = true
      ∧ 0 < ((monitoring (sweepingMonitor 1 0)).engagement.pinions.get .p1).settle
      ∧ ((monitoring (sweepingMonitor 0 62)).engagement.pinions.get .p1).window.status = .sweeping
      ∧ ((monitoring (sweepingMonitor 0 62)).engagement.pinions.get .p1).counted + 1 ≠ 64
      ∧ ((monitoring (sweepingMonitor 0 63)).engagement.pinions.get .p1).counted + 1 = 64
      ∧ (moving.engagement.pinions.get .p1).window.status ≠ .sweeping
      ∧ ((after (monitoring { sweepingMonitor 0 63 with histogram := wrapping.set 14 2 })
          (.toothEdge (at_ 20000) .p1 (some 5))).engagement.pinions.get .p1).window.status = .failWide
      ∧ (∃ k < 7 + 4, (29 + 30 + k) % 32 = 5) ∧ (∃ k < 7 + 4, (29 + 30 + k) % 32 = 27)
      ∧ (¬∃ k < 7 + 4, (29 + 30 + k) % 32 = 6) ∧ (¬∃ k < 7 + 4, (29 + 30 + k) % 32 = 26)
      ∧ ((checking 27).engagement.pinions.get .p1).slip + 4 < 32
      ∧ 32 ≤ ((checking 28).engagement.pinions.get .p1).slip + 4
      ∧ (after (checking 1) (.toothEdge (at_ 20000) .p1 (some 5))).engagement.pinions.p1.slip = 0
      ∧ (checking 28).present .climbOut = false := by
  decide +kernel

/-- The wrapping arc of section 2.8, and a wider run that holds the same hits. -/
theorem witness_SweepTakesShortestArc :
    (∃ b : Fin 32, 2 ≤ wrapping[b])
      ∧ ∀ b : Fin 32, 2 ≤ wrapping[b] → (b.val + 32 - (28 : Fin 32).val) % 32 < 8 := by
  decide +kernel

/-- On and off the rack, in both counting sources, with each last direction; the pulse that ends the presence; a proof
test's second and third pulse; a grade filter that is not full. -/
theorem witness_WheelPulseMeasuresAndCounts :
    (after moving (.wheelPulse (at_ 1000) true)).rack.standstill = false ∧ ready.running = true
      ∧ ready.rack.standstill = true ∧ { ready with rack := { ready.rack with lastWheelDir := .none } }.running = true
      ∧ offRack.countingTeeth = false ∧ moving.countingTeeth = true
      ∧ (after moving (.wheelPulse (at_ 1000) true)).rack.present = true
      ∧ { moving with rack := { moving.rack with absence := 27996 } }.countingTeeth = true
      ∧ (after { moving with rack := { moving.rack with absence := 27996 } } (.wheelPulse (at_ 1000) true)).rack.present = false
      ∧ (after moving (.wheelPulse (at_ 1000) true)).gradeWorst = true
      ∧ (proving .p1Settle 0 0).brake.proof.state = .running ∧ (proving .p1Settle 0 0).brake.proof.pulses < 2
      ∧ 2 ≤ { (proving .p1Settle 0 0).brake.proof with pulses := 2 }.pulses := by
  decide +kernel

/-- Each timer at its limit. -/
theorem witness_SpeedTimersRunOut :
    timed.running = true ∧ timerReached timed.rack.toothRef (timed.instant (at_ 2000000)) 2000000 = true
      ∧ timerReached timed.rack.wheelRef (timed.instant (at_ 2000000)) 2000000 = true
      ∧ timerReached timed.rack.disagreeTimer (timed.instant (at_ 1000000)) (ms 1000) = true
      ∧ timed.present .speedDisagree = false
      ∧ timerReached timed.rack.agreeTimer (timed.instant (at_ 1000000)) (ms 1000) = true := by
  decide +kernel

theorem witness_StandstillEndsHeldConditions :
    timedMoving.running = true ∧ timedMoving.rack.standstill = false
      ∧ timerReached timedMoving.rack.standstillTimer (timedMoving.instant (at_ 2000000)) (ms 2000) = true
      ∧ moving.brake.applied = false
      ∧ timerReached timed.engagement.climbOutHold (timed.instant (at_ 2000000)) (ms 2000) = true
      ∧ timerReached timed.engagement.calibrationHold (timed.instant (at_ 2000000)) (ms 2000) = true := by
  decide +kernel

/-- A mark at the end of the line and one beyond it; one where the car is and one where it is not. -/
theorem witness_TrackMarkSetsPosition :
    ready.running = true ∧ 1000000 ≤ 1000000 ∧ 1000000 < 1000001 ∧ ready.position = some 412300
      ∧ ready.position ≠ some 1000000 := by
  decide +kernel

/-- A sample period that is due; a full and a short ring; the fifteenth valid and invalid sample in a row; samples at
the ends of the valid range and beyond. -/
theorem witness_GradeSampleFiltersGrade :
    filtering.running = true ∧ filtering.rack.sampleStart + ms 10 ≤ filtering.instant (at_ 10000)
      ∧ filtering.rack.ring.length = 16 ∧ ready.rack.ring.length < 16 ∧ filtering.rack.lastValid = some (-352)
      ∧ ready.rack.lastValid = none ∧ { filtering.rack with validCount := 15 }.validCount = 15
      ∧ { filtering.rack with invalidCount := 15 }.invalidCount = 15 ∧ (-600 : Int) ≤ 600 ∧ (600 : Int) < 601
      ∧ (-601 : Int) < -600
      ∧ (after filtering (.gradeSampleExpiry (at_ 10000) (some 600))).present .gradeSensor = false
      ∧ (after ready (.gradeSampleExpiry (at_ 10000) none)).rack.ring.length < 16
      ∧ filtering.doors.releaseA = false ∧ filtering.doors.releaseB = false ∧ filtering.present .gradeSensor = false
      ∧ (present filtering .gradeSensor).present .gradeSensor = true ∧ filtering.rack.invalidCount ≤ 16
      ∧ { filtering.rack with invalidCount := 16 }.invalidCount ≤ 16 := by
  decide +kernel

theorem witness_IdleLineOffersChosenSlot :
    waiting.running = true ∧ waiting.line.sending = none ∧ waiting.line.bus = .busy ∧ ready.line.bus = .idle
      ∧ { ready.line with bus := .ignoringUntilTen }.bus = .ignoringUntilTen
      ∧ (sending .order).line.sending.isSome = true := by
  decide +kernel

/-- A late STATE in transmission. -/
def lateState : State :=
  { sending .state with line := { (sending .state).line with stateSlot := some { heldState with late := true }, discards := 2 } }

theorem witness_TransmissionEndsMoveSlots :
    (sending .alert).running = true ∧ (sending .alert).line.sending = some .alert
      ∧ (sending .order).line.sending = some .order ∧ (sending .reply).line.sending = some .reply
      ∧ (sending .state).line.sending = some .state ∧ (sending .state).line.stateSlot = some heldState
      ∧ heldState.kind = .state ∧ heldState.late = false ∧ ready.line.sending = none
      ∧ lateState.line.sending = some .state ∧ lateState.line.stateSlot = some { heldState with late := true }
      ∧ 3 ≤ (after lateState (.contentionLost (at_ 16))).line.discards := by
  decide +kernel

theorem witness_OwnJoinSentOpensConsist :
    (joining true false .joining).running = true ∧ (joining true false .joining).line.sending = some .state
      ∧ ((joining true false .joining).line.stateSlot.map fun h => h.kind) = some (.join true false)
      ∧ (joining true false .joining).station.life = .joining
      ∧ ((joining false true .resuming).line.stateSlot.map fun h => h.kind) = some (.join false true)
      ∧ (joining false true .resuming).station.life = .resuming
      ∧ ((joining false false .joining).line.stateSlot.map fun h => h.kind) = some (.join false false)
      ∧ timerReached timed.line.chainOutDue (timed.instant (at_ 24)) 24 = true := by
  decide +kernel

/-- A period that ends on an idle line, with an ORDER waiting or passed over. -/
theorem witness_StatePeriodPlacesState_idle :
    let s := timed.setLine { timed.line with bus := .idle, orders := (sending .order).line.orders, orderHoldOff := none }
    s.line.own = some 1 ∧ timerReached s.line.statePeriod (s.instant (at_ 50000)) (ms 50) = true ∧ s.line.sending = none
      ∧ s.line.bus = .idle ∧ s.line.orders ≠ []
      ∧ (after s (.statePeriodExpiry (at_ 50000))).line.sending = some .order
      ∧ (after (s.setLine { s.line with orderPassed := true }) (.statePeriodExpiry (at_ 50000))).line.sending = some .state := by
  decide +kernel

theorem witness_StatePeriodPlacesState :
    timed.running = true ∧ timed.line.own = some 1
      ∧ timerReached timed.line.statePeriod (timed.instant (at_ 50000)) (ms 50) = true ∧ timed.line.sending = none
      ∧ (sending .state).line.sending = some .state ∧ timed.position = some 412300
      ∧ { timed with rack := { timed.rack with known := false } }.position = none ∧ -500 ≤ timed.rack.grade
      ∧ timed.rack.grade ≤ 500 := by
  decide +kernel

theorem witness_LineTimersRunOut :
    waiting.running = true ∧ waiting.line.stateSlot = some heldState ∧ heldState.late = false
      ∧ heldState.placedAt + ms 20 ≤ waiting.instant (at_ 20000) ∧ waiting.line.sending ≠ some .state
      ∧ (sending .state).line.sending = some .state
      ∧ 3 ≤ (after { waiting with line := { waiting.line with discards := 2 } } (.accessTimeout (at_ 20000))).line.discards
      ∧ timerReached timed.line.joinRetry (timed.instant (at_ 50000)) (ms 50) = true ∧ timed.line.own = some 1
      ∧ { timed.line with phase := .joinWaiting }.phase = .joinWaiting
      ∧ timerReached timed.line.orderHoldOff (timed.instant (at_ 5000)) (ms 5) = true
      ∧ timerReached timed.line.clashTimer (timed.instant (at_ 1000000)) (ms 1000) = true
      ∧ timed.line.qualityStart + ms 1000 ≤ timed.instant (at_ 1000000) := by
  decide +kernel

/-- A wrong check, a dominant end bit, a length of 25; the tenth and the eleventh bad frame. -/
theorem witness_BadFramesAreCounted :
    ready.hears = true ∧ badCheck.check ≠ crc16 badCheck.checkedBits ∧ classify badCheck = .bad
      ∧ { badCheck with endClean := false }.endClean = false ∧ 24 < { badCheck with length := 25 }.length.toNat
      ∧ classify { badCheck with length := 25 } = .bad ∧ badCheck.length.toNat ≤ 24 ∧ ready.line.badCount ≠ 10
      ∧ { ready.line with badCount := 10 }.badCount = 10 := by
  decide +kernel

theorem witness_NeighbourSenseIsFiltered :
    timed.running = true ∧ timerReached (timed.line.sense .endB).changing (timed.instant (at_ 100000)) (ms 100) = true
      ∧ { timed.line with references := some (false, false) }.references = some (false, false)
      ∧ timed.line.phase = .complete ∧ (listening false).line.phase ≠ .completionWait
      ∧ (listening false).line.phase ≠ .complete := by
  decide +kernel

/-- A listening station with a valley-side neighbour that has heard numbers and sees its chain-in active. -/
def chainedEarly (heard : Nat) : State :=
  { listening true with
    pins := { (listening true).pins with levels := { Levels.quiet with chainA := true } }
    line := { (listening true).line with highestHeard := heard } }

/-- Number 8 is the last that is taken, at the end of the listen window and later. -/
theorem witness_NumbersAreTakenInChainOrder :
    (listening false).running = true
      ∧ timerReached (listening false).line.listenTimer ((listening false).instant (at_ 300000)) (ms 300) = true
      ∧ (listening false).valleyNeighbour = false ∧ (listening true).valleyNeighbour = true
      ∧ (listening true).chainIn = false ∧ (listening true).line.highestHeard = 0
      ∧ CarEnd.endA = (chained 7).straps.orient ∧ (chained 7).line.phase = .chainWait
      ∧ 1 ≤ (chained 7).line.highestHeard ∧ (chained 7).line.highestHeard < 8 ∧ ready.line.phase ≠ .chainWait
      ∧ 8 ≤ (chained 8).line.highestHeard ∧ (chained 0).line.highestHeard = 0
      ∧ timerReached (chainedEarly 7).line.listenTimer ((chainedEarly 7).instant (at_ 300000)) (ms 300) = true
      ∧ (chainedEarly 7).valleyNeighbour = true ∧ (chainedEarly 7).chainIn = true ∧ (chainedEarly 8).running = true
      ∧ 1 ≤ (chainedEarly 1).line.highestHeard ∧ (chainedEarly 7).line.highestHeard < 8
      ∧ 8 ≤ (chainedEarly 8).line.highestHeard
      ∧ timerReached (chained 0).line.chainWaitTimer ((chained 0).instant (at_ 5000000)) (ms 5000) = true
      ∧ timerReached timed.line.completionTimer (timed.instant (at_ 10000000)) (ms 10000) = true := by
  decide +kernel

/-! ### The peer table and COMMAND frames -/

/-- A station in the completion wait. -/
def completing : State :=
  { ready with
    station := { ready.station with life := .joining }
    line := { ready.line with phase := .completionWait, completionTimer := some 0 } }

theorem witness_JoinEntersTable :
    ready.hears = true ∧ (join3 true).ok 2 = true ∧ ready.line.own ≠ some 2 ∧ ready.peers[(2 : Fin 8)].state ≠ .self
      ∧ ready.line.phase ≠ .chainWait ∧ ready.peers[(2 : Fin 8)].state = .empty
      ∧ ({ number := 1, kind := 0, last := false, rejoin := false, tare := 100 } : JoinFields).ok 0 = true
      ∧ ready.peers[(0 : Fin 8)].kind = .traction ∧ (chained 6).line.own = none ∧ (chained 6).line.phase = .chainWait
      ∧ max (chained 6).line.highestHeard (2 + 1) < 8
      ∧ (after (chained 6) (.chainInChange (at_ 0) .endB true)).chainIn = false
      ∧ { (chained 6) with pins := { (chained 6).pins with levels := { Levels.quiet with chainA := true } } }.chainIn = true
      ∧ ready.line.own.isSome = true ∧ completing.line.phase = .completionWait ∧ completing.station.life = .joining
      ∧ ready.line.own = some 1 ∧ completing.line.own = some 1 ∧ ready.present .numberClash = false
      ∧ ({ number := 2, kind := 2, last := true, rejoin := true, tare := 355 } : JoinFields).ok 1 = true := by
  decide +kernel

theorem witness_PeerFramesEnterTable :
    ready.hears = true ∧ ready.line.own ≠ some 0 ∧ ready.peers[(0 : Fin 8)].state ≠ .self ∧ (report false).ok = true
      ∧ alertOk 29 8 = true ∧ alertOk 1 1 = true ∧ 4 ≤ [1, 0, 1, 0].length ∧ (List.replicate 24 0).length ≤ 24
      ∧ { report false with localLimit := 401 }.ok = false ∧ ready.line.own = some 1
      ∧ ready.present .numberClash = false := by
  decide +kernel

/-- A FRESH, a STALE and a JOINED entry at their ages. -/
theorem witness_PeersAge :
    ready.running = true ∧ timerReached ready.peers[(0 : Fin 8)].ageFrom (ready.instant (at_ 150000)) (ms 150) = true
      ∧ ready.peers[(0 : Fin 8)].state = .fresh
      ∧ timerReached ready.peers[(0 : Fin 8)].ageFrom (ready.instant (at_ 500000)) (ms 500) = true
      ∧ (after ready (.peerStale (at_ 150000) 0)).peers[(0 : Fin 8)].state = .stale
      ∧ (after ready (.receiveJoin (at_ 0) 2 (join3 true))).peers[(2 : Fin 8)].state = .joined
      ∧ ready.present .peerLost = false := by
  decide +kernel

/-- A second cab's claim heard, its end by a STATE and by a JOIN, a claim that a LOST cab keeps; the last LOST entry that a
STATE returns, and one of two. -/
theorem witness_PeerConditionsFollow :
    let claimed := after ready (.receiveJoin (at_ 0) 4 { number := 5, kind := 2, last := false, rejoin := false, tare := 160 })
    let both := after claimed (.receiveState (at_ 0) 4 (report true))
    let lost := after ready (.peerLost (at_ 500000) 0)
    claimed.present .cabConflict = false ∧ both.present .cabConflict = true ∧ both.speed.localLimit = 0
      ∧ (after both (.receiveState (at_ 0) 4 (report false))).present .cabConflict = false
      ∧ (after both (.peerStale (at_ 150000) 4)).present .cabConflict = true ∧ lost.present .peerLost = false
      ∧ (after (after ready (.peerStale (at_ 150000) 0)) (.peerLost (at_ 350000) 0)).present .peerLost = true
      ∧ (after (after (after ready (.peerStale (at_ 150000) 0)) (.peerLost (at_ 350000) 0))
          (.receiveState (at_ 0) 0 (report false))).present .peerLost
        = false := by
  decide +kernel

/-- A COMMAND of a car, one to a part that is not READY, one to target 9. -/
theorem witness_CommandsNotTakenChangeNothing :
    ready.hears = true ∧ commandOk 8 .service 0 = true ∧ ready.line.own ≠ some 0 ∧ ready.accepts 0 0 = false
      ∧ ready.accepts 3 0 = true ∧ admits .service .proving = false ∧ commandOk 9 .service 0 = false
      ∧ commandOk 0 .doorsRelease 2 = false ∧ commandOk 2 .inspect 0 = false ∧ commandOk 2 .inspect 5 = true
      ∧ commandOk 2 .inspect 6 = false ∧ ready.line.own = some 1 ∧ ready.peers[(1 : Fin 8)].state = .self
      ∧ ready.accepts 1 0 = false ∧ ready.present .numberClash = false := by
  decide +kernel

/-- A proof test that may start, and one refused for each reason in turn. -/
theorem witness_BrakeCommandsTakeEffect :
    ready.takes .service 3 0 2001 = true ∧ ready.takes .release 3 0 0 = true ∧ ready.brake.proof.state ≠ .running
      ∧ (proving .p1Settle 0 0).brake.proof.state = .running
      ∧ { proving .p1Settle 0 0 with station := ready.station }.takes .release 3 0 0 = true
      ∧ ready.takes .proof 3 0 0 = true ∧ (proving .p1Settle 0 0).takes .proof 3 0 0 = true
      ∧ (after ready (.loopPulled (at_ 0))).takes .proof 3 0 0 = true ∧ (after ready (.loopPulled (at_ 0))).brake.latch = true
      ∧ moving.takes .proof 3 0 0 = true ∧ moving.brake.applied = false ∧ ready.consistStandstill = true
      ∧ { moving with brake := ready.brake }.takes .proof 3 0 0 = true
      ∧ { moving with brake := ready.brake }.consistStandstill = false := by
  decide +kernel

/-- A side released under the permit, one without it; each state that a close treats; an OPEN door with and without its
flag. -/
theorem witness_DoorCommandsTakeEffect :
    platform.takes .doorsRelease 3 0 1 = true ∧ platform.permit .r = true ∧ platform.takes .doorsRelease 3 0 0 = true
      ∧ platform.permit .l = false ∧ (doorAt .opened).takes .doorsClose 3 0 0 = true
      ∧ ((doorAt .opened).doors.doors.get .d3).handleRelease = false ∧ ((doorAt .opened).doors.doors.get .d3).state = .opened
      ∧ (doorAt .opening).doors.sideRelease (doorSide .d3) = true ∧ ((doorAt .opening).doors.doors.get .d3).state = .opening
      ∧ ((doorAt .opening).doors.doors.get .d4).state = .released
      ∧ ((after ready (.handleActive (at_ 0) .d2)).doors.doors.get .d2).handleRelease = true
      ∧ (doorAt .opened).doors.sideRelease (doorSide .d3) = true
      ∧ ((doorAt .opened 3).doors.doors.get .d3).obstructionFlag = false
      ∧ (after (doorAt .closing 2) (.obstructionEdge (at_ 0) .d3)).doors.doors.d3
        = { Door.initial with state := .opened, attempts := 3, obstructionFlag := true } := by
  decide +kernel

/-- A reset that leaves the side releases, with a record that stays and one that goes; one that takes the platform record
and with it the permit of a released side. -/
theorem witness_ConsistResetClears_keeps :
    let record (k : FaultKind) : FaultRecord := { kind := k, cls := .b, active := false, count := 2 }
    let s := { ready with faults := { (present ready .climbOut).faults with table := record .valleyHalt :: (present ready .climbOut).faults.table } }
    let t := after s (.consistReset (at_ 0) 3 0 0)
    s.takes .consistReset 3 0 0 = true ∧ t.doors.releaseA = s.doors.releaseA ∧ t.doors.releaseB = s.doors.releaseB
      ∧ (s.faults.table.map fun r => r.kind) = [.valleyHalt, .climbOut] ∧ (t.faults.table.map fun r => r.kind) = [.climbOut]
      ∧ (doorAt .opened).takes .consistReset 3 0 0 = true ∧ (doorAt .opened).doors.releaseB = true
      ∧ (after (doorAt .opened) (.consistReset (at_ 0) 3 0 0)).doors.releaseB = false := by
  decide +kernel

theorem witness_ConsistResetClears :
    ready.takes .consistReset 3 0 0 = true ∧ (present ready .climbOut).takes .consistReset 3 0 0 = true
      ∧ (present ready .climbOut).faults.table.length = 1 := by
  decide +kernel

/-- A fault manager with a record of each kind in a list, active or not. -/
def recorded (kinds : List FaultKind) (active : Bool) : Faults :=
  { Faults.initial with
    table := kinds.map fun k => { kind := k, cls := faultClassOf false k, active := active, count := 255 } }

theorem witness_InspectAnswersOwnNumber :
    ready.takes .inspect 3 2 5 = true ∧ ready.takes .inspect 3 0 1 = true ∧ ready.takes .inspect 3 2 1 = true
      ∧ ready.line.own = some 1 ∧ ready.line.replies.length ≤ 4 ∧ recordSetOf 1 = some .faults
      ∧ recordSetOf 5 = some .radio ∧ (2 : Byte).toNat = (1 : Fin 8).val + 1 ∧ ready.faults.table.length ≤ 16
      ∧ (ready.records .brakes)[3]?.isSome = true := by
  decide +kernel

/-- Records of each set: a table of two and of more records, a platform release and none, a running test and none, an
empty and a full restriction table. -/
theorem witness_InspectAnswersOwnNumber_records :
    recordSetOf 2 = some .windows ∧ recordSetOf 3 = some .brakes ∧ recordSetOf 4 = some .restrictions
      ∧ (ready.records .windows)[1]?.isSome = true ∧ (ready.records .radio)[1]?.isSome = true
      ∧ ready.radio.platform = none ∧ platform.radio.platform.isSome = true ∧ ready.brake.proof.state ≠ .running
      ∧ { ready with brake := (proving .p2Sample 0 0).brake }.takes .inspect 3 2 3 = true
      ∧ ready.restrictions.entries = [] ∧ full.takes .inspect 3 2 4 = true ∧ full.restrictions.entries[3]?.isSome = true
      ∧ { ready with faults := recorded (allFaultKinds.drop 13) false }.takes .inspect 3 2 1 = true
      ∧ ({ ready with faults := recorded (allFaultKinds.drop 13) false }.records .faults)[3]?.isSome = true := by
  decide +kernel

/-! ### Supervision and braking -/

theorem witness_StageFourFindsStoppingSpeed : 2500 ≤ 2500 ∧ 1500 ≤ 1500 ∧ 80000 ≤ 80000 := by decide +kernel

/-- The station of section 5.8 with a standing limit and a raise hold. -/
def supervised (limit : Nat) (hold : Option (Nat × Nat)) : State :=
  { descending with speed := { descending.speed with localLimit := limit, raiseHold := hold } }

/-- The result of 178 below, at and above the standing limit; a hold started, running, and complete; each way of the
demand, the hard reference and the conditions. -/
theorem witness_SupervisionTakesResult :
    descending.running = true ∧ descending.speed.superStart + ms 100 ≤ descending.instant (at_ 100000)
      ∧ descending.stageSix (descending.stageFive descending.netDecel.val).val.toNat = 178
      ∧ (after descending (.supervisionComputation (at_ 100000))).classA = false
      ∧ (after descending (.supervisionComputation (at_ 100000))).classB = false
      ∧ (supervised 179 none).speed.localLimit = 179 ∧ (supervised 178 none).speed.localLimit = 178
      ∧ (supervised 177 none).speed.raiseHold = none
      ∧ (supervised 177 (some (200, 0))).instant (at_ 1999999) < 0 + ms 2000
      ∧ 0 + ms 2000 ≤ (supervised 177 (some (200, 0))).instant (at_ 2000000)
      ∧ descending.speed.intervening = false ∧ { descending.speed with intervening := true }.intervening = true
      ∧ (after descending (.supervisionComputation (at_ 100000))).speed.enforced = 160
      ∧ (after (supervised 0 none) (.supervisionComputation (at_ 100000))).speed.enforced < 10
      ∧ 160 < descending.speed.hardRef ∧ descending.speed.descending = false
      ∧ { descending.speed with hardRef := 160 }.hardRef ≤ 160 ∧ ready.rack.standstill = true
      ∧ descending.rack.standstill = false ∧ descending.classA = false
      ∧ (after { descending with rack := { descending.rack with reported := 60000 } }
          (.supervisionComputation (at_ 100000))).classA = true := by
  decide +kernel

/-- Masses and capacities in their ranges; a net deceleration above 0, at 2 500 and at or below 0; a restriction, an overflow
ceiling, a lost valley contact and a latch that bind the result. -/
theorem witness_SupervisionTakesResult_stages :
    let alone := { descending with peers := initialPeers }
    let braceless :=
      { alone with brake := { alone.brake with pinions := { p1 := { PinionBrake.initial with failed := true }, p2 := { PinionBrake.initial with failed := true } } } }
    let lost := { alone with radio := Radio.initial }
    descending.measuresOk ∧ 0 < descending.netDecel.val ∧ descending.netDecel.val ≤ 2500 ∧ braceless.netDecel.val ≤ 0
      ∧ { moving with rack := { moving.rack with movingDir := .up, grade := 350 } }.netDecel.val = 2500
      ∧ { full with rack := { full.rack with known := false } }.stageSix 300 = 120
      ∧ { descending with restrictions := { entries := [], overflow := some 80 } }.stageSix 300 = 80
      ∧ lost.stageSix 300 = 60 ∧ (after descending (.loopPulled (at_ 0))).stageSix 300 = 0 := by
  refine ⟨⟨?_, ?_, ?_, ?_, ?_⟩, ?_⟩ <;> decide +kernel

/-- A computation under a class B condition: the enforced limit 0 brings the intervention demand and starts the descent of
the hard reference, which counts its build-up and ends at the limit. -/
theorem witness_SupervisionTakesResult_stopped :
    let stopped := present descending .brakeFade
    let step (count hard : Nat) := { stopped with speed := { stopped.speed with descending := true, buildUp := count, hardRef := hard } }
    let t := after stopped (.supervisionComputation (at_ 100000))
    stopped.classB = true ∧ t.speed.enforced = 0 ∧ t.speed.intervening = true ∧ t.speed.hardRef = 178
      ∧ t.speed.buildUp = 12 ∧ t.speed.descending = true
      ∧ (after (step 3 178) (.supervisionComputation (at_ 100000))).speed.buildUp = 2
      ∧ (after (step 0 178) (.supervisionComputation (at_ 100000))).speed.hardRef = 176
      ∧ (after (step 0 1) (.supervisionComputation (at_ 100000))).speed.descending = false := by
  decide +kernel

/-- A station at rest on the steepest grade with seven peers of the greatest mass. -/
def heaviest : State :=
  { ready with
    rack := { ready.rack with grade := -500 }
    peers := (Vector.replicate 8 (freshEntry .car { report false with mass := 65535 })).set 1 { PeerEntry.blank with state := .self } }

/-- M × |a_g| × 6 within the accumulator, and beyond it. -/
theorem witness_SupervisionTakesResult_saturates :
    ready.rack.standstill = true ∧ ready.speed.superStart + ms 100 ≤ ready.instant (at_ 100000)
      ∧ ¬0 < ready.netDecel.hits + (ready.stageFive ready.netDecel.val).hits
      ∧ ¬0 < ready.holdingProducts.1.hits + ready.holdingProducts.2.hits ∧ heaviest.rack.standstill = true
      ∧ 549755813887 < heaviest.totalMass.val * heaviest.gravityHere.natAbs * 6 := by
  decide +kernel

/-- A pinion's energy at each side of both bounds. -/
theorem witness_BrakeCycleSharesAndCommands :
    descending.running = true ∧ descending.brake.cycleStart + ms 20 ≤ descending.instant (at_ 20000)
      ∧ (descending.brake.pinions.get .p2).energy ≤ 2147483647 ∧ descending.rack.present = true
      ∧ offRack.rack.present = false ∧ 15000 * descending.rack.reported ≤ 549755813887
      ∧ (descending.brake.pinions.get .p2).failed = false
      ∧ (after descending (.brakeCycle (at_ 20000))).brake.pinions.p1.energy ≤ 4000000
      ∧ 4000000 < (after descending (.brakeCycle (at_ 20000))).brake.pinions.p2.energy
      ∧ (after moving (.brakeCycle (at_ 20000))).brake.latch = false ∧ (after moving (.brakeCycle (at_ 20000))).brake.target = 0
      ∧ (after moving (.allHalt (at_ 0) (.line 3) 5)).classB = false
      ∧ (after (after moving (.allHalt (at_ 0) (.line 3) 5)) (.brakeCycle (at_ 20000))).brake.target = 800
      ∧ (after moving (.brakeCycle (at_ 20000))).loopPulled = false
      ∧ (after moving (.brakeCycle (at_ 20000))).brake.applied = false
      ∧ (after ready (.brakeCycle (at_ 20000))).brake.applied = true
      ∧ (after (proving .p1Sample 0 0) (.brakeCycle (at_ 20000))).brake.proof.state = .running
      ∧ (after { moving with peers := initialPeers } (.brakeCycle (at_ 20000))).consistPeers = []
      ∧ ({ moving with peers := initialPeers }.gravityTerm + 0).natAbs ≤ 100000 := by
  decide +kernel

/-- Pinion 1 in SERVICE at 5 000 N, below half of it and at half, its timer stopped or running since reset. -/
def serving (timer : Timer) : State :=
  { descending with
    brake :=
      { descending.brake with
        pinions :=
          { descending.brake.pinions with
            p1 := { descending.brake.pinions.p1 with mode := .service 5000, failTimer := timer } } } }

/-- Six peers that lack all their force beside one that spares all of its own, and an empty car. -/
def lopsided : State :=
  { moving with
    rack := { moving.rack with grade := -200, movingDir := .up }
    doors := { moving.doors with mass := 10 }
    store := { Store.initial with straps := { straps with pinionNom := 15 } }
    peers :=
      ((Vector.replicate 8 (freshEntry .car { report false with mass := 65535, capacity := 0 })).set 0
        { freshEntry .car { report false with mass := 0, capacity := 65535 } with tare := 0 }).set 1
          { PeerEntry.blank with state := .self } }

/-- Each way of the failure check, the last cycle before the timer's limit and that of the limit; a share beyond the
accumulator; heat beyond it, and an energy beyond its field. -/
theorem witness_BrakeCycleSharesAndCommands_checks :
    (serving none).running = true ∧ (serving none).brake.cycleStart + ms 20 ≤ (serving none).instant (at_ 20000 2499)
      ∧ ((serving none).brake.pinions.get .p1).failed = false ∧ 5000 ≤ ((serving none).brake.pinions.get .p1).mode.command
      ∧ 2 * 2499 < 5000 ∧ ¬2 * 2500 < 5000
      ∧ (serving (some 0)).instant (at_ 999999 2499) < 0 + ms 1000
      ∧ 0 + ms 1000 ≤ (serving (some 0)).instant (at_ 1000000 2499) ∧ (serving none).brake.proof.state ≠ .running
      ∧ descending.brake.cabDemand ≤ 2000 ∧ (after descending (.brakeCycle (at_ 20000))).doors.mass ≤ 65535
      ∧ (after descending (.brakeCycle (at_ 20000))).serviceCapacity ≤ 1000000
      ∧ (∀ e ∈ lopsided.consistPeers, e.tare ≤ 6553500)
      ∧ (after lopsided (.brakeCycle (at_ 20000))).speed.arithLimit = true
      ∧ (after lopsided (.brakeCycle (at_ 20000))).doors.mass ≤ 65535
      ∧ (after lopsided (.brakeCycle (at_ 20000))).serviceCapacity ≤ 1000000
      ∧ 549755813887 < 110751576 * descending.rack.reported ∧ 549755813887 < 1000000000 * 4964
      ∧ (after descending (.brakeCycle (at_ 20000))).speed.arithLimit = false
      ∧ (after descending (.brakeCycle (at_ 20000 110751576))).speed.arithLimit = true
      ∧ (after descending (.brakeCycle (at_ 20000 549755813888))).speed.arithLimit = true ∧ ready.rack.reported = 0
      ∧ (after ready (.brakeCycle (at_ 20000 549755813888))).speed.arithLimit = true
      ∧ (after ready (.brakeCycle (at_ 20000 549755813887))).speed.arithLimit = false
      ∧ (after offRack (.brakeCycle (at_ 20000))).rack.present = false := by
  decide +kernel

/-- The 49th reading taken, of pinion 1 and of pinion 2, with a passing and a failing force at the bounds of 15 %. -/
theorem witness_ProofTestMeasuresPinions :
    (proving .p1Sample 490000 49).running = true ∧ (proving .p1Sample 490000 49).brake.proof.state = .running
      ∧ (proving .p1Sample 490000 49).brake.cycleStart + ms 20 ≤ (proving .p1Sample 490000 49).instant (at_ 20000)
      ∧ (proving .p1Sample 490000 49).brake.proof.phase = .p1Sample
      ∧ (proving .p2Sample 490000 49).brake.proof.phase = .p2Sample
      ∧ (proving .p2Sample 490000 49).brake.sampleCount = 49 ∧ (proving .p2Sample 490000 49).brake.autoProof = false
      ∧ (proving .p1Sample 480000 48).brake.sampleCount < 49 ∧ (proving .p2Sample 480000 48).brake.sampleCount < 49
      ∧ (proving .p2Settle 0 0).brake.proof.phase = .p2Settle
      ∧ timerReached (proving .p1Settle 0 0).brake.settleTimer ((proving .p1Settle 0 0).instant (at_ 500000)) (ms 500) = true
      ∧ (proving .p2Sample 490000 49).brake.proof.results.p1 = .pass
      ∧ 100 * (11500 - 10000) ≤ 15 * 10000 ∧ ¬100 * (10000 - 8499) ≤ 15 * 10000 := by
  decide +kernel

/-- A cycle without a running test: a pending request that starts the test, one that a moving peer keeps waiting, none; a
completion in which a FAILED pinion passes. -/
theorem witness_ProofTestMeasuresPinions_starts :
    let asking := { proving .p1Settle 0 0 with brake := { ready.brake with autoProof := true } }
    let waits := { asking with peers := asking.peers.set 0 (freshEntry .traction { report false with speed := 9 }) }
    let marked (sum : Nat) :=
      let s := proving .p2Sample sum 49
      present
        { s with
          brake := { s.brake with pinions := { s.brake.pinions with p2 := { s.brake.pinions.p2 with failed := true } } } }
        .pinionFailed
    asking.brake.proof.state ≠ .running ∧ asking.consistStandstill = true ∧ asking.brake.applied = true
      ∧ (after asking (.brakeCycle (at_ 20000))).brake.proof.state = .running
      ∧ waits.consistStandstill = false ∧ (after waits (.brakeCycle (at_ 20000))).brake.autoProof = true
      ∧ (after waits (.brakeCycle (at_ 20000))).brake.proof = waits.brake.proof
      ∧ (after (marked 490000) (.brakeCycle (at_ 20000 0 10000))).brake.pinions.p2.failed = false
      ∧ (after (marked 490000) (.brakeCycle (at_ 20000 0 10000))).present .pinionFailed = false
      ∧ (after (marked 100000) (.brakeCycle (at_ 20000))).brake.pinions.p2.failed = true := by
  decide +kernel

theorem witness_PinionFailsAndLoopLatches :
    timed.running = true
      ∧ timerReached (timed.brake.pinions.get .p1).failTimer (timed.instant (at_ 1000000 2499 0)) (ms 1000) = true
      ∧ (timed.brake.pinions.get .p1).failed = false ∧ 5000 ≤ (timed.brake.pinions.get .p1).mode.command
      ∧ 2 * (at_ 1000000 2499 0).force1.toNat < (timed.brake.pinions.get .p1).mode.command
      ∧ (proving .p1Settle 0 0).brake.proof.state = .running ∧ moving.brake.latch = false
      ∧ ready.rack.standstill = true := by
  decide +kernel

/-! ### Doors, radio, restrictions -/

/-- A door that closes, with the last door of the car, on a permitted side. -/
theorem witness_DoorEventsMoveOneDoor :
    (doorAt .closing).running = true ∧ (doorAt .closing).permit .r = true
      ∧ ((doorAt .closing).doors.doors.get .d3).state = .closing ∧ ((doorAt .forced).doors.doors.get .d3).state = .forced
      ∧ ((doorAt .locked).doors.doors.get .d3).state = .locked ∧ ((doorAt .released).doors.doors.get .d3).state = .released
      ∧ ((doorAt .isolated).doors.doors.get .d3).state = .isolated ∧ (doorAt .closing).doors.latchPending = true
      ∧ (doorAt .closing).summary ≠ .allClosed ∧ (doorAt .closing).rack.standstill = true
      ∧ ((doorAt .closing 2).doors.doors.get .d3).attempts = 2 ∧ ready.present .doorForced = false := by
  decide +kernel

/-- Every released side of these cars has its permit. -/
theorem witness_DoorEventsMoveOneDoor_permits (state : DoorState) : (doorAt state).permitsOk := by
  intro side
  cases side <;> cases state <;> decide +kernel

/-- A door without a release that is forced: the OPEN door with the side's release closes, the RELEASED one locks, one
with a handle release stays; with DOOR_FORCED present before, the release has gone before. -/
theorem witness_DoorEventsMoveOneDoor_forced :
    let s :=
      { doorAt .opened with
        doors :=
          { (doorAt .opened).doors with
            doors :=
              { (doorAt .opened).doors.doors with
                d1 := { Door.initial with state := .opened, handleRelease := true } } } }
    let t := after s (.lockSwitchLost (at_ 7) .d2)
    s.running = true ∧ s.doors.doors.d2.state = .locked ∧ s.present .doorForced = false ∧ s.doors.releaseB = true
      ∧ t.doors.doors.d2.state = .forced ∧ t.doors.doors.d3.state = .closing ∧ t.doors.doors.d4.state = .locked
      ∧ t.doors.doors.d1 = s.doors.doors.d1 ∧ t.doors.releaseB = false
      ∧ (present s .doorForced).present .doorForced = true ∧ (present s .doorForced).doors.doors.d2.state = .locked := by
  decide +kernel

/-- A car whose last open door locks, its load at both ends of the valid range and beyond. -/
theorem witness_DoorEventsMoveOneDoor_mass :
    let s := { doorAt .closing with doors := { (doorAt .closing).doors with releaseB := false, doors := { ready.doors.doors with d3 := (doorAt .closing).doors.doors.d3 } } }
    s.summary ≠ .allClosed ∧ (after s (.lockSwitchMade (at_ 0) .d3)).summary = .allClosed
      ∧ s.doors.latchPending = true ∧ s.rack.standstill = true
      ∧ (after s (.lockSwitchMade { at_ 0 with load := some 10000 } .d3)).doors.mass = 24000
      ∧ (after s (.lockSwitchMade { at_ 0 with load := some (-1000) } .d3)).doors.mass = 16000
      ∧ (after s (.lockSwitchMade { at_ 0 with load := some 10001 } .d3)).present .loadSensor = true := by
  decide +kernel

/-- The last timeout and obstruction flag, FORCED door and handle alarm, each with its condition, and what ends it. -/
theorem witness_DoorConditionsFollow :
    let flagged := present (present (doorAt .closing 2) .doorTimeout) .doorForced
    let s :=
      { flagged with
        doors :=
          { flagged.doors with
            doors := { flagged.doors.doors with d3 := { flagged.doors.doors.d3 with timeoutFlag := true, state := .forced } } } }
    let alarmed := after moving (.handleActive (at_ 0) .d2)
    s.present .doorTimeout = true ∧ (after s (.lockSwitchMade (at_ 0) .d3)).present .doorTimeout = false
      ∧ (after s (.lockSwitchMade (at_ 0) .d3)).present .doorForced = false
      ∧ alarmed.present .doorForced = true ∧ (after alarmed (.handleInactive (at_ 0) .d2)).present .doorForced = false
      ∧ (after (after (doorAt .closing 2) (.obstructionEdge (at_ 0) .d3)) (.doorsClose (at_ 0) 3 0 0)).present .doorObstructed
        = false
      ∧ (after (doorAt .closing 2) (.obstructionEdge (at_ 0) .d3)).present .doorObstructed = true := by
  decide +kernel

theorem witness_DoorTimersAndHandlesAct :
    (doorAt .opening).running = true
      ∧ timerReached ((doorAt .opening).doors.doors.get .d3).timer ((doorAt .opening).instant (at_ 6000000)) (ms 6000) = true
      ∧ ((doorAt .opening).doors.doors.get .d3).state = .opening
      ∧ timerReached ((doorAt .closing).doors.doors.get .d3).timer ((doorAt .closing).instant (at_ 8000000)) (ms 8000) = true
      ∧ timerReached ((doorAt .reopening).doors.doors.get .d3).timer ((doorAt .reopening).instant (at_ 1000000)) (ms 1000)
        = true
      ∧ ((doorAt .reopening).doors.doors.get .d3).state = .reopening ∧ ready.rack.standstill = true
      ∧ ((doorAt .isolated).doors.doors.get .d3).state = .isolated
      ∧ ready.brake.applied = true ∧ moving.brake.applied = false ∧ (ready.doors.doors.get .d2).handleAlarm = false
      ∧ ((after ready (.handleActive (at_ 0) .d2)).doors.doors.get .d2).handleRelease = true
      ∧ (after ready (.handleActive (at_ 0) .d2)).doors.sideRelease (doorSide .d2) = false
      ∧ ((after ready (.handleActive (at_ 0) .d2)).doors.doors.get .d2).state = .released
      ∧ ((after moving (.handleActive (at_ 0) .d2)).doors.doors.get .d2).handleAlarm = true
      ∧ moving.present .doorForced = false ∧ (after moving (.handleActive (at_ 0) .d1)).present .doorForced = true := by
  decide +kernel

/-- A handle that returns on a car without a released side. -/
theorem witness_DoorTimersAndHandlesAct_permits : (after ready (.handleActive (at_ 0) .d2)).permitsOk := by
  intro side
  cases side <;> decide +kernel

/-- A part without a radio. -/
def noRadio : State := { ready with store := { ready.store with straps := { straps with radio := false } } }

theorem witness_ModemPortSendsAndReceives :
    ready.running = true ∧ ready.straps.radioFitted = true ∧ noRadio.running = true ∧ noRadio.straps.radioFitted = false
      ∧ (outgoing none).radio.sending = none ∧ (outgoing none).pins.levels.channelBusy = false
      ∧ (outgoing (some .ack)).radio.sending = some .ack ∧ (outgoing (some .report)).radio.sending = some .report := by
  decide +kernel

theorem witness_RadioTimersRunOut :
    timed.running = true ∧ timerReached timed.radio.linkTimer (timed.instant (at_ 3000000)) (ms 3000) = true
      ∧ timerReached timed.radio.supervision (timed.instant (at_ 8000000)) (ms 8000) = true
      ∧ timerReached timed.radio.reportTimer (timed.instant (at_ 2000000)) (ms 2000) = true
      ∧ timed.radio.lostWide = false
      ∧ (after { timed with peers := initialPeers } (.linkStatusTimeout (at_ 3000000))).radio.lostWide = true := by
  decide +kernel

/-- A new order and a duplicate, to the own address and to all, with room in the ORDER slot and without. -/
theorem witness_RadioOrdersAreTakenOnce :
    ready.running = true ∧ ready.straps.radioFitted = true ∧ (41 : Byte) = ready.straps.radioAddr ∧ ValleyOrder.halt.ok = true
      ∧ 7 ∉ ready.radio.window ∧ 7 ∈ (after ready (.halt (at_ 0) (.radio 255) 7)).radio.window
      ∧ ready.line.own = some 1 ∧ ready.line.orders.length < 4
      ∧ 4 ≤ { ready.line with orders := List.replicate 4 (buildFrame 1 (.order 0 3 [])) }.orders.length
      ∧ (chained 0).line.own = none ∧ (chained 0).straps.radioFitted = true := by
  decide +kernel

/-- An order of each result; three acknowledgements that wait, with and without the oldest in transmission. -/
theorem witness_RadioOrdersAreTakenOnce_results :
    full.restrictions.entries.length = 8 ∧ (∃ e ∈ full.restrictions.entries, e.orderId = 305)
      ∧ (∀ e ∈ full.restrictions.entries, e.orderId ≠ 320) ∧ 1000000 < (1000001 : BitVec 24).toNat
      ∧ (ValleyOrder.platformRelease 1 1000001).ok = true ∧ (ValleyOrder.restrict 320 1000001 0 80).ok = true
      ∧ (after full (.restrict (at_ 0) (.radio 41) 7 320 500000 0 80)).radio.acks
        = [{ address := 41, sequence := 0, payload := .ack 2 7 .acceptedCeiling }]
      ∧ (after full (.platformRelease (at_ 0) (.radio 41) 7 1 1000001)).radio.acks
        = [{ address := 41, sequence := 0, payload := .ack 2 7 .refusedRange }]
      ∧ { (outgoing (some .ack)).radio with acks := List.replicate 3 { address := 41, sequence := 0, payload := .ack 2 7 .accepted } }.acks.length
        = 3
      ∧ (outgoing (some .ack)).radio.sending = some .ack := by
  decide +kernel

theorem witness_LineOrdersAreTakenOnce :
    ready.hears = true ∧ ready.line.own ≠ some 3 ∧ 255 ∉ ready.radio.window ∧ ValleyOrder.proceed.ok = true
      ∧ (ValleyOrder.platformRelease 2 0).ok = false ∧ (List.replicate 16 0).length ≤ 16
      ∧ valleyOrder? 99 (List.replicate 16 0) = none ∧ ready.line.own = some 1 ∧ ready.present .numberClash = false := by
  decide +kernel

/-- A start at the end of the line and beyond it; a replaced, a new, a passed and an overflowing order; one that covers
the car. -/
theorem witness_RestrictAndLiftChangeTable :
    full.takesOrder (.line 3) = true ∧ full.takesOrder (.radio 255) = true ∧ 7 ∉ full.radio.window ∧ 1000000 < (1000001 : BitVec 24).toNat
      ∧ (1000000 : BitVec 24).toNat ≤ 1000000 ∧ (∃ e ∈ full.restrictions.entries, e.orderId = 305)
      ∧ (∀ e ∈ full.restrictions.entries, e.orderId ≠ 320) ∧ 8 ≤ full.restrictions.entries.length
      ∧ moving.restrictions.entries.length < 8 ∧ full.restrictions.overflow = none ∧ moving.position = some 412300
      ∧ (after moving (.restrict (at_ 0) (.line 3) 7 320 412450 1 80)).speed.localLimit = 80
      ∧ (after moving (.restrict (at_ 0) (.line 3) 7 320 412451 1 80)).speed.localLimit = 190
      ∧ (after moving (.restrict (at_ 0) (.line 3) 7 320 412200 100 80)).restrictions.entries = [] := by
  decide +kernel

/-- An entry that covers the car, with its limit kept and lowered, at a known and at an unknown position; a ceiling that an
order lowers and one that it does not. -/
theorem witness_RestrictAndLiftChangeTable_replaced :
    let covered : Restriction := { orderId := 305, start := 412000, stop := 413000, limit := 120, covering := true }
    let s := { moving with restrictions := { entries := [covered], overflow := none } }
    let lost := { s with rack := { s.rack with known := false } }
    s.takesOrder (.line 3) = true ∧ (s.restrictions.entries.find? fun e => e.orderId == 305) = some covered
      ∧ (after s (.restrict (at_ 0) (.line 3) 7 305 412000 1000 119)).speed.localLimit = 119
      ∧ (after s (.restrict (at_ 0) (.line 3) 7 305 412000 1000 120)).speed.localLimit = 190
      ∧ lost.position = none ∧ (after lost (.restrict (at_ 0) (.line 3) 7 305 900000 1000 120)).speed.localLimit = 120
      ∧ (after { full with restrictions := { full.restrictions with overflow := some 81 } }
          (.restrict (at_ 0) (.line 3) 7 320 0 0 80)).speed.localLimit
        = 80
      ∧ (after { full with restrictions := { full.restrictions with overflow := some 80 } }
          (.restrict (at_ 0) (.line 3) 7 320 0 0 80)).speed.localLimit
        = 190 := by
  decide +kernel

/-- A halted car without a released side. -/
theorem witness_HaltsAndReleasesTakeEffect_permits :
    let s := after moving (.halt (at_ 0) (.line 3) 5)
    s.present .valleyHalt = true ∧ 6 ∉ s.radio.window ∧ s.takesOrder (.line 3) = true
      ∧ s.permitsOk := by
  refine ⟨by decide +kernel, by decide +kernel, by decide +kernel, fun side => ?_⟩
  cases side <;> decide +kernel

theorem witness_HaltsAndReleasesTakeEffect :
    moving.takesOrder (.line 3) = true ∧ moving.takesOrder (.radio 41) = true ∧ 5 ∉ moving.radio.window ∧ moving.present .valleyHalt = false
      ∧ moving.present .valleyAllHalt = false ∧ moving.brake.ownPull = false ∧ moving.brake.latch = false
      ∧ (present moving .valleyAllHalt).faults.table.length = 1 ∧ moving.doors.releaseA = false
      ∧ moving.doors.releaseB = false ∧ (1 : Byte).toNat ≤ 1 ∧ (1000000 : BitVec 24).toNat ≤ 1000000
      ∧ 1000000 < (1000001 : BitVec 24).toNat := by
  decide +kernel

/-! ### Faults, supply, starts -/

/-- Tables of fifteen and of sixteen records, with and without an inactive class C record. -/
theorem witness_OccurrencesMakeRecords :
    ((recorded (allFaultKinds.take 15) true).table.length < 16
        ∧ ((recorded (allFaultKinds.take 15) true).table.map fun r => r.kind).Nodup)
      ∧ (recorded (allFaultKinds.drop 13) false).table.length = 16
      ∧ ((recorded (allFaultKinds.drop 13) false).table.map fun r => r.kind).Nodup
      ∧ (∀ r ∈ (recorded (allFaultKinds.drop 13) false).table, r.kind ≠ .climbOut)
      ∧ ((recorded (allFaultKinds.drop 13) false).table.find? fun r => r.cls == .c && !r.active).isSome = true
      ∧ (∀ r ∈ (recorded (allFaultKinds.drop 13) true).table, r.cls = .c → r.active = true)
      ∧ (∃ r ∈ (recorded (allFaultKinds.take 15) true).table, r.kind = .climbOut)
      ∧ (present ready .climbOut).faults.present .climbOut = true := by
  decide +kernel

theorem witness_SupplyRunsAndEndsStop :
    moving.running = true ∧ moving.pins.levels.supplyWarn = false ∧ moving.station.life ≠ .resuming
      ∧ moving.present .supplyFail = false ∧ moving.brake.ownPull = false ∧ (joining false true .resuming).running = true
      ∧ (joining false true .resuming).station.life = .resuming
      ∧ (after moving (.supplyWarn (at_ 0))).pins.levels.supplyWarn = true ∧ moving.station.life ≠ .off
      ∧ dropped.station.life = .off
      ∧ timerReached dropped.station.droppedAt (dropped.instant (at_ 30000000)) (ms 30000) = true := by
  decide +kernel

/-- Without a valid store, without a retained number, and with both under a check that holds; straps in COLD, with a good
and a warned supply. -/
theorem witness_StartsTakeStoreOrStraps :
    (after moving (.dropOut (at_ 0))).station.life = .off ∧ (after moving (.dropOut (at_ 0))).store.valid = false
      ∧ dropped.station.life = .off ∧ dropped.store.valid = true ∧ dropped.store.items.own = some 1
      ∧ dropped.store.items.windows.p1.status ≠ .sweeping ∧ State.reset.station.life = .cold
      ∧ { Levels.quiet with supplyWarn := true }.supplyWarn = true ∧ Levels.quiet.supplyWarn = false := by
  decide +kernel

/-- The doors of a start: one isolated, one shut with its handle pulled, one open, one between its stops. -/
theorem witness_StartsTakeStoreOrStraps_doors :
    let shut := Levels.quiet.doors.d1
    let levels :=
      { Levels.quiet with
        doors :=
          { d1 := { shut with isolated := true }, d2 := { shut with handle := true }
            d3 := { shut with lockMade := false, openMade := true }, d4 := { shut with lockMade := false, openMade := false } } }
    let t := after State.reset (.strapsRead (at_ 0) straps levels)
    t.doors.doors.d1.state = .isolated ∧ t.doors.doors.d2.state = .released ∧ t.doors.doors.d2.handleRelease = true
      ∧ t.doors.doors.d3.state = .opened ∧ t.doors.doors.d4.state = .closing ∧ t.doors.latchPending = true := by
  decide +kernel

/-- The check of that store holds with no flips. -/
theorem witness_StartsTakeStoreOrStraps_check : storeCheck dropped.straps dropped.store.items = dropped.store.check ^^^ 0 :=
  (BitVec.xor_zero (x := storeCheck dropped.straps dropped.store.items)).symm

/-- Items of a controlled stop: a peer, a running sweep, an energy at the fade bound, a mark, a ceiling, and a full fault
table with records of class A, B and C. -/
def retained : Retained :=
  { Retained.initial with
    own := some 1, peers := [some (.cab, 16000)], energies := { p1 := 12000000, p2 := 11999999 }
    failed := { p1 := true, p2 := false }, windows := { p1 := Window.cleared .sweeping, p2 := Window.cleared .valid }
    restrictions := { entries := eight, overflow := some 80 }, faults := (recorded (allFaultKinds.take 16) true).table }

/-- A part without supply that keeps them, under their check. -/
def droppedWith : State := { dropped with store := { straps := straps, valid := true, check := storeCheck straps retained, items := retained } }

theorem witness_StartsTakeStoreOrStraps_items :
    droppedWith.station.life = .off ∧ droppedWith.store.valid = true ∧ droppedWith.store.items.own = some 1
      ∧ (retained.windows.get .p1).status = .sweeping ∧ (retained.windows.get .p2).status ≠ .sweeping
      ∧ (∃ r ∈ retained.faults, r.cls ≠ .c ∧ r.kind ≠ .positionUnknown) ∧ retained.faults.length = 16
      ∧ faultTableOk retained.faults := by
  refine ⟨?_, ?_, ?_, ?_, ?_, ?_, ?_, ?_, ?_⟩ <;> decide +kernel

/-- A resumed pinion marked FAILED has derated capacity 0, one of 11 999 999 J has half its nominal capacity and 1 N more:
floor(4 × 7 999 999 / 3 200) is 9 999 (R115). -/
theorem test_restart_derates :
    (PinionBrake.started Straps.unread 12000000 true).derated = 0
      ∧ (PinionBrake.started Straps.unread 11999999 false).derated = 10001 := by
  decide +kernel

/-- Their check holds with no flips. -/
theorem witness_StartsTakeStoreOrStraps_itemsCheck :
    storeCheck droppedWith.straps droppedWith.store.items = droppedWith.store.check ^^^ 0 :=
  (BitVec.xor_zero (x := storeCheck straps retained)).symm

end Sys2Proof.Tests
end

section
/-! SUPPORT. How frame conditions compose, and the frame every command runs in: what its moment and the retained store
leave alone. -/

namespace Sys2Proof.Machine

variable {p : Part} {ps qs : List Part} {s t u : State}

/-! ## Frames compose -/

theorem Part.same_refl (p : Part) (s : State) : p.same s s := by
  cases p <;> simp [Part.same]

/-- The store is compared only outside a controlled stop, so composing needs the middle state's station. -/
theorem Part.same_trans (hstation : t.station = s.station) (hst : p.same s t) (htu : p.same t u) : p.same s u := by
  cases p
  case store =>
    obtain ⟨hstraps, hvalid, hstore⟩ := hst
    obtain ⟨hstraps', hvalid', hstore'⟩ := htu
    rw [hstation] at hstore'
    exact ⟨hstraps'.trans hstraps, hvalid'.trans hvalid, fun h => (hstore' h).trans (hstore h)⟩
  all_goals simp_all [Part.same]

theorem onlyChanges_refl (ps : List Part) (s : State) : onlyChanges ps s s := fun p => .inr (p.same_refl s)

theorem onlyChanges.mono (h : onlyChanges ps s t) (hsub : ps ⊆ qs) : onlyChanges qs s t :=
  fun p => (h p).imp_left fun hp => hsub hp

theorem onlyChanges.trans (hst : onlyChanges ps s t) (htu : onlyChanges ps t u) (hstation : t.station = s.station) :
    onlyChanges ps s u := by
  intro p
  obtain hp | hst := hst p
  · exact .inl hp
  · exact (htu p).imp_right (Part.same_trans hstation hst)

/-! ## The frame of a command -/

theorem State.position_congr (h : t.rack = s.rack) : t.position = s.position := by
  simp [State.position, h]

theorem State.direction_congr (h : t.rack = s.rack) : t.direction = s.direction := by
  simp [State.direction, h]

theorem State.present_congr (h : t.faults = s.faults) (k : FaultKind) : t.present k = s.present k := by
  simp [State.present, h]

theorem State.straps_congr (h : t.store = s.store) : t.straps = s.straps := by
  simp [State.straps, h]

theorem State.running_congr (h : t.station = s.station) : t.running = s.running := by
  simp [State.running, h]

@[simp] theorem State.atMoment_position (m : Moment) (s : State) :
    (s.atMoment m).position = s.position := State.position_congr (by simp)

@[simp] theorem State.atMoment_direction (m : Moment) (s : State) :
    (s.atMoment m).direction = s.direction := State.direction_congr (by simp)

@[simp] theorem State.atMoment_straps (m : Moment) (s : State) :
    (s.atMoment m).straps = s.straps := State.straps_congr (by simp)

@[simp] theorem State.atMoment_running (m : Moment) (s : State) : (s.atMoment m).running = s.running :=
  State.running_congr (by simp)

theorem runCommand_of_running (m : Moment) (effect : State → State) (h : s.running = true) :
    runCommand m effect s = .next (effect (s.atMoment m)).keepStore := by
  simp [runCommand, State.whileRunning, h]

theorem atMoment_onlyChanges (m : Moment) (s : State) : onlyChanges [] s (s.atMoment m) := by
  intro p
  cases p
  case levels => exact .inr rfl
  all_goals simp [Part.same]

theorem keepStore_onlyChanges (s : State) : onlyChanges [] s s.keepStore := by
  intro p
  cases p
  case store =>
    refine .inr ?_
    unfold State.keepStore
    split
    next hstoring => simp [Part.same, hstoring]
    next => exact Part.same_refl _ _
  all_goals simp [Part.same]

/-- A command changes what its effect changes: the moment before it and the store after it add nothing. -/
theorem onlyChanges_of_effect {m : Moment} (h : onlyChanges ps (s.atMoment m) t) (hstation : t.station = s.station) :
    onlyChanges ps s t.keepStore := by
  have hmoment : onlyChanges ps s (s.atMoment m) := (atMoment_onlyChanges m s).mono (List.nil_subset _)
  have hkeep : onlyChanges ps t t.keepStore := (keepStore_onlyChanges t).mono (List.nil_subset _)
  exact (hmoment.trans h (by simp)).trans hkeep hstation

end Sys2Proof.Machine
end

section
/-! SUPPORT. The flags of the fault manager: what an occurrence or a going of one kind does to the others, through the
permit tests and the mass latch they may bring. -/

namespace Sys2Proof.Machine

variable {k j : FaultKind} (f : Faults) (s : State)

theorem FaultKind.index_injective : Function.Injective FaultKind.index :=
  Function.LeftInverse.injective (g := fun i => allFaultKinds[i]) fun k => by cases k <;> rfl

theorem Faults.present_setFlag_self (k : FaultKind) (v : Bool) : (f.setFlag k v).present k = v := by
  simp [Faults.present, Faults.setFlag]

theorem Faults.present_setFlag_of_ne (v : Bool) (h : k ≠ j) : (f.setFlag j v).present k = f.present k := by
  have hindex : (j.index : Nat) ≠ k.index := fun he => h (FaultKind.index_injective (Fin.ext he)).symm
  simp [Faults.present, Faults.setFlag, Vector.getElem_set_ne _ _ hindex]

@[simp] theorem Faults.present_mapRecord (g : FaultRecord → FaultRecord) :
    (f.mapRecord j g).present k = f.present k := rfl

@[simp] theorem Faults.present_addRecord (r : FaultRecord) : (f.addRecord r).present k = f.present k := by
  unfold Faults.addRecord
  (repeat' split) <;> rfl

theorem Faults.present_occur_of_ne (strict : Bool) (h : k ≠ j) : (f.occur strict j).present k = f.present k := by
  unfold Faults.occur
  dsimp only
  split <;> simp [f.present_setFlag_of_ne _ h]

theorem Faults.present_going_self (k : FaultKind) : (f.going k).present k = false := by
  unfold Faults.going
  split <;> simp_all [f.present_setFlag_self]

theorem Faults.present_going_of_ne (h : k ≠ j) : (f.going j).present k = f.present k := by
  unfold Faults.going
  split <;> simp [f.present_setFlag_of_ne _ h]

end Sys2Proof.Machine
end

section
/-! SUPPORT. What the shared operations a track mark runs through do: the going of a kind with the permit tests, the
lowering of limits, the restriction evaluation, the consequences of a move. -/

namespace Sys2Proof.Machine

variable {k : FaultKind} (s : State)

/-! ## Permit tests and goings -/

/-- The mass latch raises or ends LOAD_SENSOR alone (R145). -/
theorem State.latchMass_present (h : k ≠ .loadSensor) : s.latchMass.present k = s.present k := by
  unfold State.latchMass
  (repeat' split) <;>
    simp [State.present, State.recordGoing, State.recordOccurrence, Faults.present_going_of_ne _ h,
      Faults.present_occur_of_ne _ _ h]

theorem State.retestPermits_present (h : k ≠ .loadSensor) : s.retestPermits.present k = s.present k := by
  have hsides : ((s.retestSide .a).retestSide .b).present k = s.present k := State.present_congr (by simp) k
  unfold State.retestPermits State.latchIfClosed
  split
  · exact (State.latchMass_present _ h).trans hsides
  · exact hsides

theorem retestPermits_onlyChanges : onlyChanges [.faults, .doors, .sideReleases, .mass] s s.retestPermits := by
  intro p
  cases p <;> simp [Part.same]

theorem setFaults_onlyChanges (v : Faults) : onlyChanges [.faults] s (s.setFaults v) := by
  intro p
  cases p <;> simp [Part.same]

/-- A going ends the condition: a permit test after it can set LOAD_SENSOR alone, a kind of class C, after whose own
going no permit is tested. -/
theorem State.clear_present_self (k : FaultKind) : (s.clear k).present k = false := by
  have hgone : (s.recordGoing k).present k = false := s.faults.present_going_self k
  have hretest (hk : k ≠ .loadSensor) : (s.recordGoing k).retestPermits.present k = false :=
    (State.retestPermits_present _ hk).trans hgone
  unfold State.clear
  split
  next =>
    split
    next hclass => exact hretest (by rintro rfl; simp [faultClassOf] at hclass)
    next hclass => exact hretest (by rintro rfl; simp [faultClassOf] at hclass)
    next => exact hgone
  next habsent => simpa using habsent

theorem clear_onlyChanges (k : FaultKind) : onlyChanges [.faults, .doors, .sideReleases, .mass] s (s.clear k) := by
  have hgone : onlyChanges [.faults, .doors, .sideReleases, .mass] s (s.recordGoing k) :=
    (setFaults_onlyChanges s _).mono (by simp)
  have hretest := hgone.trans (retestPermits_onlyChanges _) (by simp)
  unfold State.clear
  split
  next => split <;> assumption
  next => exact onlyChanges_refl _ _

/-! ## Limits and restrictions -/

theorem lowerLimit_onlyChanges (ceiling : Nat) : onlyChanges [.limit] s (s.lowerLimit ceiling) := by
  intro p
  cases p
  case supervision => exact .inr ⟨rfl, rfl, rfl, rfl, rfl⟩
  case arith => exact .inr rfl
  all_goals simp [Part.same]

/-- The announcements of restriction ceilings: the limit lowered to each in turn (R179). -/
def State.lowerLimits (ceilings : List Nat) (s : State) : State := ceilings.foldl (fun t limit => t.lowerLimit limit) s

theorem State.lowerLimits_restrictions (ceilings : List Nat) :
    (s.lowerLimits ceilings).restrictions = s.restrictions := by
  induction ceilings generalizing s with
  | nil => rfl
  | cons c cs ih => exact (ih (s.lowerLimit c)).trans (by simp)

theorem lowerLimits_onlyChanges (ceilings : List Nat) : onlyChanges [.limit] s (s.lowerLimits ceilings) := by
  induction ceilings generalizing s with
  | nil => exact onlyChanges_refl _ _
  | cons c cs ih => exact (lowerLimit_onlyChanges s c).trans (ih (s.lowerLimit c)) (by simp)

theorem State.evaluateRestrictions_eq :
    s.evaluateRestrictions
      = (s.setRestrictions { s.restrictions with entries := s.restrictions.entries.filterMap s.evaluateEntry }).lowerLimits
          (s.restrictions.entries.filterMap s.newlyCovering) := rfl

theorem State.evaluateRestrictions_entries :
    s.evaluateRestrictions.restrictions.entries = s.restrictions.entries.filterMap s.evaluateEntry := by
  simp [State.evaluateRestrictions_eq, State.lowerLimits_restrictions]

theorem setRestrictions_onlyChanges (v : Restrictions) : onlyChanges [.restrictions] s (s.setRestrictions v) := by
  intro p
  cases p <;> simp [Part.same]

theorem evaluateRestrictions_onlyChanges : onlyChanges [.restrictions, .limit] s s.evaluateRestrictions := by
  rw [State.evaluateRestrictions_eq]
  exact ((setRestrictions_onlyChanges s _).mono (by simp)).trans ((lowerLimits_onlyChanges _ _).mono (by simp)) (by simp)

theorem State.evaluateEntry_of_position {s : State} {pos : Nat} (hpos : s.position = some pos) (e : Restriction) :
    s.evaluateEntry e = if e.passed s.direction pos s.straps.carLength then none
      else some { e with covering := e.covers pos s.straps.carLength } := by
  simp [State.evaluateEntry, hpos]

/-- With the position KNOWN, the entries that an evaluation keeps are not passed, and cover the car as they say. -/
theorem State.evaluated_of_position {s : State} {pos : Nat} (hpos : s.position = some pos) {es : List Restriction}
    {e : Restriction} (he : e ∈ es.filterMap s.evaluateEntry) :
    e.passed s.direction pos s.straps.carLength = false ∧ e.covering = e.covers pos s.straps.carLength := by
  obtain ⟨old, -, heval⟩ := List.mem_filterMap.mp he
  rw [State.evaluateEntry_of_position hpos] at heval
  split at heval
  next => cases heval
  next hpassed => cases heval; exact ⟨eq_false_of_ne_true hpassed, rfl⟩

/-- With the position KNOWN, an evaluation removes the passed entries and leaves the others in their order. -/
theorem State.evaluated_orderIds_of_position {s : State} {pos : Nat} (hpos : s.position = some pos)
    (es : List Restriction) :
    (es.filterMap s.evaluateEntry).map (fun e => e.orderId)
      = (es.filter fun e => !e.passed s.direction pos s.straps.carLength).map fun e => e.orderId := by
  induction es with
  | nil => rfl
  | cons e es ih =>
    have heval := State.evaluateEntry_of_position hpos e
    by_cases hpassed : e.passed s.direction pos s.straps.carLength = true <;> simp [heval, hpassed, ih]

/-! ## After a move -/

theorem State.afterMove_of_unmoved {s before : State} (hpos : s.position = before.position)
    (hdir : s.direction = before.direction) : s.afterMove before = s := by
  simp [State.afterMove, hpos, hdir]

theorem State.afterMove_of_moved {s before : State} (hpos : s.position ≠ before.position) :
    s.afterMove before = s.evaluateRestrictions.retestPermits := by
  simp [State.afterMove, hpos]

theorem State.afterMove_present (before : State) (h : k ≠ .loadSensor) :
    (s.afterMove before).present k = s.present k := by
  have heval : s.evaluateRestrictions.present k = s.present k := State.present_congr (by simp) k
  unfold State.afterMove
  (repeat' split) <;> simp [State.retestPermits_present _ h, heval]

theorem afterMove_onlyChanges (before : State) : onlyChanges Part.ofPosition s (s.afterMove before) := by
  have heval (u : State) : onlyChanges Part.ofPosition u u.evaluateRestrictions :=
    (evaluateRestrictions_onlyChanges u).mono (by decide)
  have hretest (u : State) : onlyChanges Part.ofPosition u u.retestPermits :=
    (retestPermits_onlyChanges u).mono (by decide)
  unfold State.afterMove
  split
  next =>
    split
    next => exact (heval s).trans (hretest _) (by simp)
    next => exact heval s
  next =>
    split
    next => exact hretest s
    next => exact onlyChanges_refl _ _

end Sys2Proof.Machine
end

section
/-! SUPPORT. TRACK_MARK (R13, R14, R176): the state a mark leaves, and what each part of it reads. -/

namespace Sys2Proof.Machine

variable {m : Moment} {dm : Nat} {s : State}

/-- The odometer at a mark on the line (R13). -/
def Rack.atMark (dm : Nat) (r : Rack) : Rack :=
  { r with markBase := dm, travel := 0, uncounted := 0, pendingTeeth := 0, known := true }

/-- The odometer at a mark, POSITION_UNKNOWN gone, and the move not yet announced (R13, R14). -/
def State.markTaken (dm : Nat) (s : State) : State := (s.setRack (s.rack.atMark dm)).clear .positionUnknown

/-- The state that a mark on the line leaves. -/
def State.afterMark (m : Moment) (dm : Nat) (s : State) : State :=
  (((s.atMoment m).markTaken dm).afterMove (s.atMoment m)).keepStore

theorem exec_trackMark_onLine (hrun : s.running = true) (hdm : dm ≤ 1000000) :
    exec (.trackMark m dm) s = .next (s.afterMark m dm) := by
  refine (runCommand_of_running m _ hrun).trans ?_
  rw [if_pos hdm]
  rfl

theorem exec_trackMark_beyond (hrun : s.running = true) (hdm : 1000000 < dm) :
    exec (.trackMark m dm) s = .next (s.atMoment m).keepStore := by
  refine (runCommand_of_running m _ hrun).trans ?_
  rw [if_neg (by omega)]

/-! ## The mark taken -/

/-- A mark on the line is within the clamp of R14. -/
theorem State.position_of_atMark {r : Rack} (h : s.rack = r.atMark dm) (hdm : dm ≤ 1000000) :
    s.position = some dm := by
  have hclamp : clampInt 0 1000000 dm = dm := by
    unfold clampInt
    split_ifs <;> omega
  simp [State.position, h, Rack.atMark, hclamp]

@[simp] theorem State.markTaken_rack : (s.markTaken dm).rack = s.rack.atMark dm := by
  simp [State.markTaken]

@[simp] theorem State.markTaken_restrictions : (s.markTaken dm).restrictions = s.restrictions := by
  simp [State.markTaken]

@[simp] theorem State.markTaken_station : (s.markTaken dm).station = s.station := by
  simp [State.markTaken]

theorem State.markTaken_position (hdm : dm ≤ 1000000) : (s.markTaken dm).position = some dm :=
  State.position_of_atMark State.markTaken_rack hdm

@[simp] theorem State.markTaken_direction : (s.markTaken dm).direction = s.direction := by
  simp [State.direction, Rack.atMark]

@[simp] theorem State.markTaken_straps : (s.markTaken dm).straps = s.straps :=
  State.straps_congr (by simp [State.markTaken])

theorem setRack_atMark_onlyChanges : onlyChanges [.odometer] s (s.setRack (s.rack.atMark dm)) := by
  intro p
  cases p <;> simp [Part.same, Rack.atMark]

theorem markTaken_onlyChanges : onlyChanges (Part.also Part.ofPosition [.odometer]) s (s.markTaken dm) :=
  (setRack_atMark_onlyChanges.mono (by decide)).trans ((clear_onlyChanges _ _).mono (by decide)) (by simp)

/-! ## The state after the mark -/

@[simp] theorem State.afterMark_rack : (s.afterMark m dm).rack = s.rack.atMark dm := by
  simp [State.afterMark]

theorem State.afterMark_present : (s.afterMark m dm).present .positionUnknown = false := by
  have hkeep : (s.afterMark m dm).present .positionUnknown
      = (((s.atMoment m).markTaken dm).afterMove (s.atMoment m)).present .positionUnknown :=
    State.present_congr (by simp [State.afterMark]) _
  rw [hkeep, State.afterMove_present _ _ (by decide)]
  exact State.clear_present_self _ _

/-- A mark at the position the car already has moves nothing, so no restriction is evaluated. -/
theorem State.afterMark_restrictions_of_unmoved (hdm : dm ≤ 1000000) (hpos : s.position = some dm) :
    (s.afterMark m dm).restrictions = s.restrictions := by
  have hunmoved : ((s.atMoment m).markTaken dm).position = (s.atMoment m).position := by
    rw [State.markTaken_position hdm, State.atMoment_position, hpos]
  simp [State.afterMark, State.afterMove_of_unmoved hunmoved]

theorem State.afterMark_entries_of_moved (hdm : dm ≤ 1000000) (hpos : s.position ≠ some dm) :
    (s.afterMark m dm).restrictions.entries
      = s.restrictions.entries.filterMap ((s.atMoment m).markTaken dm).evaluateEntry := by
  have hmoved : ((s.atMoment m).markTaken dm).position ≠ (s.atMoment m).position := by
    rw [State.markTaken_position hdm, State.atMoment_position]
    exact hpos.symm
  simp [State.afterMark, State.afterMove_of_moved hmoved, State.evaluateRestrictions_entries]

/-- The evaluation at a mark reads the mark's position, and the direction and length the car had before (R176). -/
theorem State.afterMark_evaluated (hdm : dm ≤ 1000000) (hpos : s.position ≠ some dm) :
    (∀ e ∈ (s.afterMark m dm).restrictions.entries,
      e.passed s.direction dm s.straps.carLength = false ∧ e.covering = e.covers dm s.straps.carLength)
    ∧ ((s.afterMark m dm).restrictions.entries.map fun e => e.orderId)
      = (s.restrictions.entries.filter fun e => !e.passed s.direction dm s.straps.carLength).map fun e => e.orderId := by
  have hmark : ((s.atMoment m).markTaken dm).position = some dm := State.markTaken_position hdm
  have hdir : ((s.atMoment m).markTaken dm).direction = s.direction := by simp
  have hstraps : ((s.atMoment m).markTaken dm).straps = s.straps := by simp
  rw [State.afterMark_entries_of_moved hdm hpos, ← hdir, ← hstraps]
  exact ⟨fun e he => State.evaluated_of_position hmark he, State.evaluated_orderIds_of_position hmark _⟩

theorem afterMark_onlyChanges : onlyChanges (Part.also Part.ofPosition [.odometer]) s (s.afterMark m dm) :=
  onlyChanges_of_effect (markTaken_onlyChanges.trans ((afterMove_onlyChanges _ _).mono (by decide)) (by simp)) (by simp)

/-- Settles O24: a mark on the line is taken, announced and followed by the restrictions; one beyond it leaves nothing
but its moment. -/
theorem trackMarkSetsPosition : Obligations.TrackMarkSetsPosition := by
  intro m dm s hrun
  by_cases hdm : dm ≤ 1000000
  · refine ⟨s.afterMark m dm, exec_trackMark_onLine hrun hdm, fun _ => ?_, fun hbeyond => absurd hdm (by omega)⟩
    exact ⟨State.afterMark_rack, State.position_of_atMark State.afterMark_rack hdm, State.afterMark_present,
      State.afterMark_restrictions_of_unmoved hdm, State.afterMark_evaluated hdm, afterMark_onlyChanges⟩
  · refine ⟨(s.atMoment m).keepStore, exec_trackMark_beyond hrun (by omega), fun honLine => absurd honLine hdm,
      fun _ => ?_⟩
    exact onlyChanges_of_effect (onlyChanges_refl _ _) (by simp)

end Sys2Proof.Machine
end

section
/-! SUPPORT. The arc of a completed sweep (R24, R25): the hit bins and their bitmap, the width of a run, the lower bin
that the search for the shortest run settles on, and the edges in the arc. -/

namespace Sys2Proof.Machine

variable {bins : List Nat} {histogram : Vector Nat 32} {lower other width b : Nat}

/-! ## The hit bins and their bitmap -/

theorem binCount_of_fin (b : Fin 32) : binCount histogram b = histogram[b] := by
  simp [binCount, List.getD_eq_getElem?_getD]

theorem mem_hitBins_of_fin {b : Fin 32} : b.val ∈ hitBins histogram ↔ 2 ≤ histogram[b] := by
  rw [← binCount_of_fin]
  simp [hitBins]

theorem lt_of_mem_hitBins (hb : b ∈ hitBins histogram) : b < 32 :=
  List.mem_range.mp (List.mem_of_mem_filter hb)

theorem forall_mem_hitBins {P : Nat → Prop} :
    (∀ b ∈ hitBins histogram, P b) ↔ ∀ b : Fin 32, 2 ≤ histogram[b] → P b :=
  ⟨fun h b hb => h b (mem_hitBins_of_fin.mpr hb),
    fun h b hb => h ⟨b, lt_of_mem_hitBins hb⟩ (mem_hitBins_of_fin.mp hb)⟩

theorem hitBins_sorted (histogram : Vector Nat 32) : (hitBins histogram).Pairwise (· ≤ ·) :=
  List.pairwise_le_range.filter _

theorem hitBins_ne_nil (h : ∃ b : Fin 32, 2 ≤ histogram[b]) : hitBins histogram ≠ [] := by
  obtain ⟨b, hb⟩ := h
  exact List.ne_nil_of_mem (mem_hitBins_of_fin.mpr hb)

theorem getLsbD_foldl_or_bit (bins : List Nat) (v : BitVec 32) (hb : b < 32) :
    (bins.foldl (fun v c => v ||| (1#32 <<< c)) v).getLsbD b = (v.getLsbD b || decide (b ∈ bins)) := by
  induction bins generalizing v with
  | nil => simp
  | cons c bins ih =>
    have hbit : (1#32 <<< c).getLsbD b = decide (b = c) := by
      rw [← BitVec.twoPow, BitVec.getLsbD_twoPow, Bool.eq_iff_iff, Bool.and_eq_true]
      simp only [decide_eq_true_eq]
      omega
    simp [ih, hbit, Bool.or_assoc]

theorem hitBitmap_getLsbD (hb : b < 32) : (hitBitmap bins).getLsbD b = decide (b ∈ bins) := by
  simp [hitBitmap, getLsbD_foldl_or_bit bins _ hb]

/-! ## The width of a run -/

theorem foldl_max_le_iff (f : Nat → Nat) (bins : List Nat) (w : Nat) :
    bins.foldl (fun w b => max w (f b)) w ≤ width ↔ w ≤ width ∧ ∀ b ∈ bins, f b ≤ width := by
  induction bins generalizing w with
  | nil => simp
  | cons b bins ih => simp [ih, and_assoc]

/-- A run holds every bin of the list just when it is as wide as `runWidth` says. -/
theorem runWidth_le_iff : runWidth bins lower ≤ width ↔ ∀ b ∈ bins, (b + 32 - lower) % 32 < width := by
  simp [runWidth, foldl_max_le_iff]

theorem offset_lt_runWidth (hb : b ∈ bins) : (b + 32 - lower) % 32 < runWidth bins lower :=
  runWidth_le_iff.mp le_rfl b hb

theorem runWidth_pos (hne : bins ≠ []) : 1 ≤ runWidth bins lower := by
  obtain ⟨b, hb⟩ := List.exists_mem_of_ne_nil bins hne
  exact Nat.one_le_of_lt (offset_lt_runWidth hb)

theorem runWidth_le_circle : runWidth bins lower ≤ 32 :=
  runWidth_le_iff.mpr fun _ _ => Nat.mod_lt _ (by decide)

/-- A run that starts off the listed bins can start at the first of them it meets, and is then shorter. -/
theorem exists_runWidth_lt (hne : bins ≠ []) (hbins : ∀ b ∈ bins, b < 32) (hother : other < 32)
    (hnot : other ∉ bins) : ∃ b ∈ bins, runWidth bins b < runWidth bins other := by
  obtain ⟨b, hb, hnearest⟩ := bins.toFinset.exists_min_image (fun b => (b + 32 - other) % 32)
    (List.toFinset_nonempty_iff bins |>.mpr hne)
  rw [List.mem_toFinset] at hb
  have hb32 := hbins b hb
  have hahead : b ≠ other := fun h => hnot (h ▸ hb)
  have hpos := runWidth_pos (lower := other) hne
  refine ⟨b, hb, Nat.lt_of_le_sub_one hpos (runWidth_le_iff.mpr fun c hc => ?_)⟩
  have hc32 := hbins c hc
  have hnear : (b + 32 - other) % 32 ≤ (c + 32 - other) % 32 := hnearest c (List.mem_toFinset.mpr hc)
  have hheld := offset_lt_runWidth (lower := other) hc
  omega

/-! ## The shortest arc -/

/-- `best` is a bin of the list with the width of its run; no bin of the list starts a shorter run, and no lower one
starts a run as short. -/
def IsShortestArc (run : Nat → Nat) (bins : List Nat) (best : Nat × Nat) : Prop :=
  best.1 ∈ bins ∧ best.2 = run best.1 ∧ ∀ b ∈ bins, best.2 < run b ∨ best.2 = run b ∧ best.1 ≤ b

theorem isShortestArc_foldl (run : Nat → Nat) (bins : List Nat) (first : Nat)
    (hsorted : (first :: bins).Pairwise (· ≤ ·)) :
    IsShortestArc run (first :: bins)
      (bins.foldl (fun best b => if run b < best.2 then (b, run b) else best) (first, run first)) := by
  induction bins generalizing first with
  | nil => simp [IsShortestArc]
  | cons b bins ih =>
    have hle : first ≤ b := List.rel_of_pairwise_cons hsorted (by simp)
    rw [List.foldl_cons]
    by_cases hshorter : run b < run first
    · rw [if_pos hshorter]
      obtain ⟨hmem, hrun, hleast⟩ := ih b hsorted.of_cons
      have hbest := hleast b (by simp)
      refine ⟨List.mem_cons_of_mem _ hmem, hrun, List.forall_mem_cons.mpr ⟨.inl ?_, hleast⟩⟩
      omega
    · rw [if_neg hshorter]
      have hskip : (first :: bins).Sublist (first :: b :: bins) := (List.sublist_cons_self b bins).cons_cons first
      obtain ⟨hmem, hrun, hleast⟩ := ih first (hsorted.sublist hskip)
      obtain ⟨hfirst, hrest⟩ := List.forall_mem_cons.mp hleast
      refine ⟨hskip.subset hmem, hrun, List.forall_mem_cons.mpr ⟨hfirst, List.forall_mem_cons.mpr ⟨?_, hrest⟩⟩⟩
      omega

theorem shortestArc_isShortestArc (hne : bins ≠ []) (hsorted : bins.Pairwise (· ≤ ·)) :
    IsShortestArc (runWidth bins) bins (shortestArc bins) := by
  cases bins with
  | nil => exact absurd rfl hne
  | cons first rest =>
    simpa [shortestArc] using isShortestArc_foldl (runWidth (first :: rest)) rest first hsorted

/-- Of all runs that hold every listed bin, wherever they start, none is shorter than the arc, and none as short
starts lower. -/
theorem IsShortestArc.le_of_holds {arc : Nat × Nat} (harc : IsShortestArc (runWidth bins) bins arc)
    (hbins : ∀ b ∈ bins, b < 32) (hother : other < 32) (hholds : ∀ b ∈ bins, (b + 32 - other) % 32 < width) :
    arc.2 ≤ width ∧ (width = arc.2 → arc.1 ≤ other) := by
  obtain ⟨hmem, -, hleast⟩ := harc
  have hwide : runWidth bins other ≤ width := runWidth_le_iff.mpr hholds
  by_cases hin : other ∈ bins
  · have hbest := hleast other hin
    omega
  · obtain ⟨b, hb, hshorter⟩ := exists_runWidth_lt (List.ne_nil_of_mem hmem) hbins hother hin
    have hbest := hleast b hb
    omega

/-! ## The edges in the arc -/

theorem inArcCount_eq_sum :
    inArcCount histogram lower width
      = ((List.range width).map fun i => histogram.toList.getD ((lower + i) % 32) 0).sum := by
  rw [List.sum_eq_foldl, List.foldl_map]
  rfl

/-- Settles O20: the search keeps the first hit bin with the shortest run, and a run that starts at no hit bin is longer
than the one from the first hit bin it meets. -/
theorem sweepTakesShortestArc : Obligations.SweepTakesShortestArc := by
  intro histogram other width hhit
  have hne := hitBins_ne_nil hhit
  have hbins : ∀ b ∈ hitBins histogram, b < 32 := fun b => lt_of_mem_hitBins
  have harc := shortestArc_isShortestArc hne (hitBins_sorted histogram)
  have ⟨hmem, hwidth, _⟩ := harc
  have hpos := (runWidth_pos hne).trans_eq hwidth.symm
  refine ⟨fun b => ?_, fun b hb => ?_, fun hholds => ?_, hbins _ hmem, hpos, hwidth.trans_le runWidth_le_circle, ?_,
    inArcCount_eq_sum, rfl⟩
  · exact (hitBitmap_getLsbD b.isLt).trans (decide_eq_decide.mpr mem_hitBins_of_fin)
  · exact (offset_lt_runWidth (mem_hitBins_of_fin.mpr hb)).trans_eq hwidth.symm
  · exact harc.le_of_holds hbins other.isLt (forall_mem_hitBins.mpr hholds)
  · simp only [sweptWindow]
    omega

end Sys2Proof.Machine
end

section
/-! SUPPORT. The two tests of the peer table for the release interlocks and consist-wide standstill (R75, R76): each is
a test of every entry, which an entry outside the consist set passes. -/

namespace Sys2Proof.Machine

variable (e : PeerEntry) (s : State)

/-! ## One entry -/

@[simp] theorem PeerEntry.inSet_iff : e.inSet = true ↔ e.state = .fresh ∨ e.state = .stale := by
  simp [PeerEntry.inSet]

/-- What a test of the consist set asks of one entry: outside the set, nothing. -/
theorem PeerEntry.passes_iff (good : Bool) :
    (!e.inSet || good) = true ↔ (e.state = .fresh ∨ e.state = .stale → good = true) := by
  rw [Bool.or_eq_true, Bool.not_eq_true', ← Bool.not_eq_true, ← imp_iff_not_or, PeerEntry.inSet_iff]

/-- A test that asks an entry to be FRESH fails exactly the STALE entries and the FRESH ones that miss the rest. -/
theorem PeerEntry.passesFresh_iff (good : Bool) :
    (!e.inSet || (e.state == .fresh && good)) = true
      ↔ e.state ≠ .stale ∧ (e.state = .fresh → good = true) := by
  rw [PeerEntry.passes_iff]
  cases e.state <;> simp

/-! ## The table -/

theorem State.peers_all_iff (test : PeerEntry → Bool) :
    s.peers.toList.all test = true ↔ ∀ i : Fin 8, test s.peers[i] = true := by
  rw [List.all_eq_true, List.forall_mem_iff_getElem]
  simp [Fin.forall_iff]

theorem State.allFresh_iff : s.allFresh = true ↔ ∀ i : Fin 8, s.peers[i].state ≠ .stale := by
  have hentry (e : PeerEntry) : (!e.inSet || e.state == .fresh) = true ↔ e.state ≠ .stale := by
    simpa using e.passesFresh_iff true
  simp only [State.allFresh, State.peers_all_iff, hentry]

theorem State.allClosed_iff :
    s.allClosed = true
      ↔ ∀ i : Fin 8, s.peers[i].state ≠ .stale ∧ (s.peers[i].state = .fresh → s.peers[i].report.summary = 0) := by
  simp only [State.allClosed, State.peers_all_iff, PeerEntry.passesFresh_iff, beq_iff_eq]

theorem State.consistStandstill_iff :
    s.consistStandstill = true
      ↔ s.rack.standstill = true
        ∧ ∀ i : Fin 8, s.peers[i].state = .fresh ∨ s.peers[i].state = .stale →
          s.peers[i].report.speed = 0 ∧ s.peers[i].report.direction = 0 := by
  simp only [State.consistStandstill, Bool.and_eq_true, State.peers_all_iff, PeerEntry.passes_iff, beq_iff_eq]

/-- Settles O37: each test reads every entry, and what it asks of an entry depends on the entry's state. -/
theorem consistTestsReadEntries : Obligations.ConsistTestsReadEntries := fun s =>
  ⟨s.allFresh_iff, s.allClosed_iff, s.consistStandstill_iff⟩

end Sys2Proof.Machine
end

section
/-! SUPPORT. The arithmetic of gradient speed supervision: operations of the brake arithmetic unit that do not saturate
(R83, R84), its square root (R83), the gravity component (R86) and the stopping speed (R90). -/

namespace Sys2Proof.Machine

/-! ## Operations on natural numbers within their range -/

section
variable {limit m n hits : Nat}

theorem Sat.bound_natCast (h : n ≤ limit) : Sat.bound limit hits n = ⟨n, hits⟩ := by
  rw [Sat.bound, if_neg (by omega), if_neg (by omega)]

theorem Sat.load_natCast (h : n ≤ 549755813887) : Sat.load n = ⟨n, 0⟩ := Sat.bound_natCast h

theorem Sat.add_natCast (h : m + n ≤ 549755813887) : Sat.add ⟨m, hits⟩ n = ⟨(m + n : Nat), hits⟩ :=
  Sat.bound_natCast h

theorem Sat.add_neg_natCast (hle : n ≤ m) (h : m ≤ 549755813887) :
    Sat.add ⟨m, hits⟩ (-n) = ⟨(m - n : Nat), hits⟩ := by
  rw [Sat.add, ← sub_eq_add_neg, ← Nat.cast_sub hle]
  exact Sat.bound_natCast ((Nat.sub_le m n).trans h)

theorem Sat.mul_natCast (h : m * n ≤ 549755813887) : Sat.mul ⟨m, hits⟩ n = ⟨(m * n : Nat), hits⟩ :=
  Sat.bound_natCast h

theorem Sat.divBy_natCast : Sat.divBy ⟨m, hits⟩ n = ⟨(m / n : Nat), hits⟩ := rfl

theorem Sat.to32_natCast (h : m ≤ 2147483647) : Sat.to32 ⟨m, hits⟩ = ⟨m, hits⟩ := Sat.bound_natCast h

end

/-! ## The square root -/

theorem isqrtBits_eq_sqrt {n k r : Nat} (hlow : r * r ≤ n) (hhigh : n < (r + 2 ^ k) * (r + 2 ^ k)) :
    isqrtBits n k r = n.sqrt := by
  induction k generalizing r with
  | zero => exact Nat.eq_sqrt.mpr ⟨hlow, hhigh⟩
  | succ k ih =>
    rw [isqrtBits]
    split
    next htaken =>
      have hwidth : r + 2 ^ (k + 1) = r + 2 ^ k + 2 ^ k := by omega
      exact ih htaken (hwidth ▸ hhigh)
    next hskipped => exact ih hlow (Nat.lt_of_not_le hskipped)

theorem isqrt_eq_sqrt {n : Nat} (hn : n < 2 ^ 32) : isqrt n = n.sqrt :=
  isqrtBits_eq_sqrt (Nat.zero_le n) (by omega)

/-! ## The gravity component -/

theorem gravity_natCast (g : Nat) : gravity g = gravityMagnitude g := if_neg (Int.natCast_nonneg g).not_gt

theorem gravity_neg_natCast (g : Nat) : gravity (-g) = -gravityMagnitude g := by
  cases g with
  | zero => rfl
  | succ g => rw [gravity, if_pos (by omega), Int.natAbs_neg, Int.natAbs_natCast]

theorem gravityMagnitude_of_lt {k j : Nat} (hk : k < 50) (hj : j < 10) :
    gravityMagnitude (10 * k + j) = gravityEntry k + (gravityEntry (k + 1) - gravityEntry k) * j / 10 := by
  have hquotient : (10 * k + j) / 10 = k := by omega
  have hremainder : (10 * k + j) % 10 = j := by omega
  rw [gravityMagnitude, if_neg (by omega), hquotient, hremainder]

/-- Settles O43: a grade of magnitude 10 k + j lies between the entries k and k + 1, and its sign is that of the
result. -/
theorem gravityInterpolatesTable : Obligations.GravityInterpolatesTable := by
  intro k j
  have hbetween := gravityMagnitude_of_lt k.isLt j.isLt
  refine ⟨?_, ?_, gravity_natCast 500, gravity_neg_natCast 500, gravity_natCast 0, by decide⟩
  · rw [gravity_natCast, hbetween]
  · rw [gravity_neg_natCast, hbetween]

/-! ## The stopping speed -/

section
variable {net buildUp distance b d : Nat}

theorem buildUpLoss_le (hnet : net ≤ 2500) (hbuildUp : buildUp ≤ 1500) : net * buildUp / 1000 ≤ 3750 :=
  Nat.div_le_div_right (c := 1000) (Nat.mul_le_mul hnet hbuildUp)

theorem buildUpLoss_natCast (hnet : net ≤ 2500) (hbuildUp : buildUp ≤ 1500) :
    buildUpLoss net buildUp = ⟨(net * buildUp / 1000 : Nat), 0⟩ := by
  have hproduct : net * buildUp ≤ 2500 * 1500 := Nat.mul_le_mul hnet hbuildUp
  calc buildUpLoss net buildUp
    _ = (Sat.divBy ⟨(net * buildUp : Nat), 0⟩ (1000 : Nat)).to32 := by
      rw [buildUpLoss, Sat.load_natCast (by omega), Sat.mul_natCast (by omega)]
      rfl
    _ = ⟨(net * buildUp / 1000 : Nat), 0⟩ := by rw [Sat.divBy_natCast, Sat.to32_natCast (by omega)]

theorem squareSum_le (hb : b ≤ 3750) (hnet : net ≤ 2500) (hdistance : distance ≤ 80000) :
    b * b + 2 * net * distance ≤ 414062500 := by
  have hsquare : b * b ≤ 3750 * 3750 := Nat.mul_le_mul hb hb
  have hpath : 2 * net * distance ≤ 2 * 2500 * 80000 := by gcongr
  omega

theorem le_sqrt_squareSum (hd : b * b + 2 * net * distance = d) : b ≤ d.sqrt :=
  Nat.le_sqrt.mpr (hd ▸ Nat.le_add_right _ _)

/-- Within its range stage 4 computes in natural numbers: the root of d = b² + 2 · a_net · S, less b (R90). -/
theorem stoppingSpeed_natCast (hloss : buildUpLoss net buildUp = ⟨b, 0⟩) (hb : b ≤ 3750) (hnet : net ≤ 2500)
    (hdistance : distance ≤ 80000) (hd : b * b + 2 * net * distance = d) :
    stoppingSpeed net buildUp distance = ⟨(d.sqrt - b : Nat), 0⟩ := by
  have hsum := squareSum_le hb hnet hdistance
  have hself := d.sqrt_le_self
  have hsquare : (Sat.load b).mul b = ⟨(b * b : Nat), 0⟩ := by
    rw [Sat.load_natCast (by omega), Sat.mul_natCast (by omega)]
  have hpath : ((Sat.load (2 : Nat)).mul net).mul distance = ⟨(2 * net * distance : Nat), 0⟩ := by
    rw [Sat.load_natCast (by omega), Sat.mul_natCast (by omega), Sat.mul_natCast (by omega)]
  have hadd : (Sat.add ⟨(b * b : Nat), 0⟩ (2 * net * distance : Nat)).to32 = ⟨d, 0⟩ := by
    rw [Sat.add_natCast (by omega), hd, Sat.to32_natCast (by omega)]
  have hroot : isqrt d = d.sqrt := isqrt_eq_sqrt (by omega)
  have hless : ((Sat.load d.sqrt).add (-b)).to32 = ⟨(d.sqrt - b : Nat), 0⟩ := by
    rw [Sat.load_natCast (by omega), Sat.add_neg_natCast (le_sqrt_squareSum hd) (by omega), Sat.to32_natCast (by omega)]
  rw [Nat.cast_ofNat] at hpath
  simp only [stoppingSpeed, hloss, hsquare, hpath, hadd, Int.toNat_natCast, hroot, hless]

end

/-- Settles O44: nothing saturates, so v + b is the integer square root of b² + 2 · a_net · S. -/
theorem stageFourFindsStoppingSpeed : Obligations.StageFourFindsStoppingSpeed := by
  intro net buildUp distance hnet hbuildUp hdistance b v
  have hb : b ≤ 3750 := buildUpLoss_le hnet hbuildUp
  have hv : v = ⟨((b * b + 2 * net * distance).sqrt - b : Nat), 0⟩ :=
    stoppingSpeed_natCast (buildUpLoss_natCast hnet hbuildUp) hb hnet hdistance rfl
  have hroot : v.val.toNat + b = (b * b + 2 * net * distance).sqrt := by
    rw [hv, Int.toNat_natCast, Nat.sub_add_cancel (le_sqrt_squareSum rfl)]
  refine ⟨hb, squareSum_le hb hnet hdistance, by rw [hv], by rw [hv]; exact Int.natCast_nonneg _, ?_⟩
  rw [hroot]
  exact ⟨Nat.sqrt_le _, Nat.lt_succ_sqrt _⟩

end Sys2Proof.Machine
end

section
/-! SUPPORT. The door summary (R142): what a test of the four doors asks, and what each door state lets the summary be. -/

namespace Sys2Proof.Machine

/-! ## The four doors -/

section
variable {α : Type} {v : PerDoor α} {test : α → Bool}

theorem PerDoor.mem_toList_iff {x : α} : x ∈ v.toList ↔ ∃ d : DoorId, v.get d = x := by
  constructor
  · intro hmem
    simp only [PerDoor.toList, List.mem_cons, List.not_mem_nil, or_false] at hmem
    obtain rfl | rfl | rfl | rfl := hmem
    exacts [⟨.d1, rfl⟩, ⟨.d2, rfl⟩, ⟨.d3, rfl⟩, ⟨.d4, rfl⟩]
  · rintro ⟨d, rfl⟩
    cases d <;> simp [PerDoor.toList, PerDoor.get]

theorem PerDoor.all_iff : v.toList.all test = true ↔ ∀ d : DoorId, test (v.get d) = true := by
  simp [PerDoor.mem_toList_iff]

theorem PerDoor.any_iff : v.toList.any test = true ↔ ∃ d : DoorId, test (v.get d) = true := by
  simp [PerDoor.mem_toList_iff]

end

/-! ## One door -/

theorem Door.closed_iff (d : Door) : d.closed = true ↔ d.state = .locked ∨ d.state = .isolated := by
  simp [Door.closed]

/-- The eight door states are RELEASED, the two that count as closed, and the five that are away. -/
theorem Door.not_away_iff (d : Door) : ¬ d.away = true ↔ d.state = .released ∨ d.closed = true := by
  cases hstate : d.state <;> simp [Door.away, Door.closed, hstate]

theorem Door.not_closed_of_released {d : Door} (h : d.state = .released) : ¬ d.closed = true := by
  simp [Door.closed, h]

/-! ## The summary -/

section
variable (doors : PerDoor Door)

theorem summaryOf_eq_allClosed_iff : summaryOf doors = .allClosed ↔ ∀ d : DoorId, (doors.get d).closed = true := by
  rw [← PerDoor.all_iff, summaryOf]
  split_ifs with hall <;> simp [hall]

/-- Where no door is away, one that does not count as closed is RELEASED. -/
theorem summaryOf_eq_released_iff :
    summaryOf doors = .released
      ↔ (∃ d : DoorId, (doors.get d).state = .released)
        ∧ ∀ d : DoorId, (doors.get d).state = .released ∨ (doors.get d).closed = true := by
  have htests :
      summaryOf doors = .released
        ↔ ¬ doors.toList.all Door.closed = true ∧ ¬ doors.toList.any Door.away = true := by
    rw [summaryOf]
    split_ifs with hall hany <;> simp [*]
  rw [htests, PerDoor.all_iff, PerDoor.any_iff, not_forall, not_exists]
  simp only [Door.not_away_iff]
  refine and_congr_left fun hdoors => exists_congr fun d => ?_
  exact ⟨(hdoors d).resolve_right, Door.not_closed_of_released⟩

end

/-- Settles O49: the summary's two tests read every door, and each door's state decides both. -/
theorem doorSummaryReadsFourDoors : Obligations.DoorSummaryReadsFourDoors := by
  intro s
  simp only [← Door.closed_iff]
  exact ⟨summaryOf_eq_allClosed_iff s.doors.doors, summaryOf_eq_released_iff s.doors.doors⟩

end Sys2Proof.Machine
end

section
/-! SUPPORT. What keeps a property of the state: `State.Kept P` says that the updates of single blocks and the operations
shared between blocks keep `P`. Each effect of a command is made of these, so it keeps `P` too; the invariants and the
facts about single commands are instances. -/

namespace Sys2Proof.Machine

/-! ## Updates that stay within a block's own bounds -/

/-- A fault table within its bounds, whose records are active exactly while their condition is present (R184). -/
def Faults.sound (f : Faults) : Prop := faultTableOk f.table ∧ ∀ r ∈ f.table, r.active = f.present r.kind

/-- Neither a doorless motion nor a place changes; standstill may be confirmed. -/
structure Rack.Stays (r v : Rack) : Prop where
  present : v.present = r.present
  known : v.known = r.known
  grade : v.grade = r.grade
  base : v.markBase = r.markBase
  travel : v.travel = r.travel
  standstill : r.standstill = true → v.standstill = true

/-- A window record stays within the bounds of a VALID result, and does not begin a sweep. -/
structure Window.Stays (w v : Window) : Prop where
  ok : w.ok → v.ok
  sweeping : v.status = .sweeping → w.status = .sweeping

/-- Both window records stay within their bounds. -/
structure Engagement.Stays (e v : Engagement) : Prop where
  p1 : e.pinions.p1.window.Stays v.pinions.p1.window
  p2 : e.pinions.p2.window.Stays v.pinions.p2.window

/-- A station in CHAIN_WAIT or still listening has no number. -/
def Line.unnumbered (l : Line) : Prop := l.phase = .chainWait ∨ l.listenTimer.isSome = true → l.own = none

/-- The own number stands, and the slots and queues stay within their bounds. -/
structure Line.Stays (l v : Line) : Prop where
  own : v.own = l.own
  unnumbered : l.unnumbered → v.unnumbered
  held : l.sendingHeld → v.sendingHeld
  orders : l.orders.length ≤ 4 → v.orders.length ≤ 4
  replies : l.replies.length ≤ 4 → v.replies.length ≤ 4

/-- A pinion brake's energy and derated capacity stand, and its mode may only become FULL. -/
structure PinionBrake.Stays (b v : PinionBrake) : Prop where
  energy : v.energy = b.energy
  derated : v.derated = b.derated
  mode : v.mode = b.mode ∨ v.mode = .full

/-- The holding brake and the emergency state stand, no proof test begins, and outputs may only become FULL. -/
structure Brake.Stays (b v : Brake) : Prop where
  latch : v.latch = b.latch
  ownPull : v.ownPull = b.ownPull
  applied : v.applied = b.applied
  proof : v.proof.state = .running → b.proof.state = .running
  p1 : b.pinions.p1.Stays v.pinions.p1
  p2 : b.pinions.p2.Stays v.pinions.p2
  wheel : v.wheel = b.wheel ∨ v.wheel = .full

/-- The valley status and the platform record stand, and the window and the acknowledgements stay within their
bounds. -/
structure Radio.Stays (r v : Radio) : Prop where
  status : v.status = r.status
  lostWide : v.lostWide = r.lostWide
  platform : v.platform = r.platform
  window : windowOk r.window → windowOk v.window
  acks : r.acks.length ≤ 3 → v.acks.length ≤ 3

/-- Doors as the door invariant has them stay so, and a side is released only with its permit. -/
structure State.DoorsStay (s : State) (v : DoorControl) : Prop where
  ok : s.doorsOk → (s.setDoors v).doorsOk
  permits : ∀ side, v.sideRelease side = true →
    s.doors.sideRelease side = true ∨ s.permit (lineSideOf s.straps.orient side) = true

/-! ## Kept properties -/

/-- The station takes a number and its own entry becomes SELF (R60, R66). -/
def State.numbered (n : Fin 8) (s : State) : State :=
  (s.setLine { s.line with own := some n, phase := .joinWaiting, listenTimer := none, chainWaitTimer := none }).markSelf n

/-- The valley status is formed anew from these values (R152, R154, R165). -/
def State.setValley (status : ValleyStatus) (supervision : Timer) (s : State) : State :=
  (s.setRadio { s.radio with supervision := supervision, status := status }).reformValley

/-- A property that updates within a block's bounds keep, and that the operations shared between blocks keep. -/
structure State.Kept (P : State → Prop) : Prop where
  rack : ∀ {s v}, s.rack.Stays v → P s → P (s.setRack v)
  freeCount : ∀ {s v}, P s → P (s.setFreeCount v)
  engagement : ∀ {s v}, s.engagement.Stays v → P s → P (s.setEngagement v)
  line : ∀ {s v}, s.line.Stays v → P s → P (s.setLine v)
  brake : ∀ {s v}, s.brake.Stays v → P s → P (s.setBrake v)
  doors : ∀ {s v}, s.DoorsStay v → P s → P (s.setDoors v)
  radio : ∀ {s v}, s.radio.Stays v → P s → P (s.setRadio v)
  speed : ∀ {s v}, v.localLimit = s.speed.localLimit → v.enforced = s.speed.enforced → P s → P (s.setSpeed v)
  fewer : ∀ {s v}, v.entries.Sublist s.restrictions.entries →
    v.overflow = none ∨ v.overflow = s.restrictions.overflow → P s → P (s.setRestrictions v)
  records : ∀ {s f}, f.flags = s.faults.flags → (s.faults.sound → f.sound) → P s → P (s.setFaults f)
  alerts : ∀ {s v}, (∀ i : Fin 8, ∃ k, v[i] = { s.peers[i] with lastAlert := k }) → P s → P (s.setPeers v)
  raise : ∀ {s} k, P s → P (s.raise k)
  clear : ∀ {s k}, k ≠ .supplyFail → P s → P (s.clear k)
  retest : ∀ {s}, P s → P s.retestPermits
  latchMass : ∀ {s}, P s → P s.latchMass
  lowerLimit : ∀ {s} c, P s → P (s.lowerLimit c)
  applyHolding : ∀ {s}, P s → P s.applyHolding
  evaluate : ∀ {s}, P s → P s.evaluateRestrictions
  restrict : ∀ {s} e, P s → P (s.restrict e).1
  entry : ∀ {s}, P s → P s.monitorEntry
  leave : ∀ {s} d, P s → P (s.leaveStandstill d)
  grade : ∀ {s} g, P s → P (s.setGrade g)
  platform : ∀ {s v}, P s → P ((s.setRadio { s.radio with platform := v }).retestPermits)
  valley : ∀ {s} status t, P s → P (s.setValley status t)
  numbered : ∀ {s} n, (s.line.unnumbered → s.line.own = none) → P s → P (s.numbered n)
  peer : ∀ {s} i {e : PeerEntry}, s.peers[i].state ≠ .self → e.state ≠ .self → P s → P ((s.setPeer i e).peersChanged)
  lost : ∀ {s} i, s.peers[i].state ≠ .self → P s →
    P (((s.setPeer i { s.peers[i] with state := .lost }).raise .peerLost).peersChanged)
  resetBrake : ∀ {s}, P s → P s.resetBrake
  startProof : ∀ {s}, s.running = true → s.proofRefusal = .none → P s → P (s.setBrake (s.brake.startProof s.clock))

/-- A property that the changes of the station state keep too (R120, R192, R196). -/
structure State.KeptAtChanges (P : State → Prop) : Prop extends State.Kept P where
  proving : ∀ {s}, s.running = true → P s → P s.enterProving
  ready : ∀ {s}, s.running = true → P s → P (s.setStation { s.station with life := .ready })
  stop : ∀ {s}, s.running = true → P s → P s.beginStop

/-- A brake cycle's update of the brake: the emergency state and the holding brake stand, and no proof test begins. -/
structure Brake.Cycles (b v : Brake) : Prop where
  latch : v.latch = b.latch
  ownPull : v.ownPull = b.ownPull
  applied : v.applied = b.applied
  proof : v.proof.state = .running → b.proof.state = .running

/-- A property that a brake cycle's own updates keep as well, whatever they make of the pinions and the outputs. -/
structure State.KeptInCycle (P : State → Prop) : Prop extends State.KeptAtChanges P where
  cycle : ∀ {s v}, s.brake.Cycles v → P s → P (s.setBrake v)
  release : ∀ {s}, P s → P s.releaseStep

theorem State.of_ite {P : State → Prop} {c : Prop} [Decidable c] {a b : State} (ha : c → P a) (hb : ¬c → P b) :
    P (if c then a else b) := by
  split
  · exact ha ‹_›
  · exact hb ‹_›

/-! ## Updates that stay -/

theorem Window.Stays.refl (w : Window) : w.Stays w := ⟨id, id⟩

theorem Line.Stays.refl (l : Line) : l.Stays l := ⟨rfl, id, id, id, id⟩

theorem Line.Stays.trans {l m n : Line} (hlm : l.Stays m) (hmn : m.Stays n) : l.Stays n :=
  ⟨hmn.own.trans hlm.own, hmn.unnumbered ∘ hlm.unnumbered, hmn.held ∘ hlm.held, hmn.orders ∘ hlm.orders,
    hmn.replies ∘ hlm.replies⟩

theorem PinionBrake.Stays.refl (b : PinionBrake) : b.Stays b := ⟨rfl, rfl, .inl rfl⟩

/-- The slot that R48 chooses holds a frame, so an offer puts only a held frame into transmission. -/
theorem Line.offer_stays (l : Line) : l.Stays l.offer := by
  unfold Line.offer
  split
  next =>
    split
    next slot hchoice =>
      have hwaiting : l.hasWaiting slot = true := List.find?_some hchoice
      refine ⟨rfl, id, fun _ => ?_, id, id⟩
      cases slot <;> simp_all [Line.hasWaiting, Line.sendingHeld, List.isEmpty_eq_false_iff]
    next => exact .refl l
  next => exact .refl l

theorem Line.occupied_stays (l : Line) : l.Stays l.occupied := ⟨rfl, id, id, id, id⟩

theorem Line.beginIdle_stays (l : Line) : l.Stays l.beginIdle :=
  Line.Stays.trans (m := { l with bus := .idle, orderPassed := false }) ⟨rfl, id, id, id, id⟩ (Line.offer_stays _)

/-- An update of fields that bound nothing. -/
theorem Line.Stays.of_eq {l v : Line} (hown : v.own = l.own) (hphase : v.phase = l.phase)
    (hlisten : v.listenTimer = l.listenTimer) (hsending : v.sending = l.sending) (halert : v.alert = l.alert)
    (horders : v.orders = l.orders) (hstate : v.stateSlot = l.stateSlot) (hreplies : v.replies = l.replies) :
    l.Stays v := by
  refine ⟨hown, ?_, ?_, ?_, ?_⟩ <;> simp [Line.unnumbered, Line.sendingHeld, *]

theorem Line.mapSense_stays (carEnd : CarEnd) (f : Sense → Sense) (l : Line) : l.Stays (l.mapSense carEnd f) := by
  cases carEnd <;> exact .of_eq rfl rfl rfl rfl rfl rfl rfl rfl

theorem Brake.abort_stays (reason : AbortReason) (b : Brake) : b.Stays (b.abort reason) := by
  unfold Brake.abort
  split
  next => exact ⟨rfl, rfl, rfl, by simp, ⟨rfl, rfl, .inr rfl⟩, ⟨rfl, rfl, .inr rfl⟩, .inl rfl⟩
  next => exact ⟨rfl, rfl, rfl, id, .refl _, .refl _, .inl rfl⟩

end Sys2Proof.Machine
end

section
/-! SUPPORT. The effects of chapters 1 to 4 keep what their parts keep. -/

namespace Sys2Proof.Machine

/-- A pinion that leaves the rack keeps its record but for a sweep, which is broken off. -/
theorem PinionMonitor.exited_stays (p : PinionMonitor) : p.window.Stays p.exited.window := by
  unfold PinionMonitor.exited
  split
  · exact ⟨fun _ => by simp [Window.ok, Window.cleared], by simp [Window.cleared]⟩
  · exact .refl _

/-- A completed sweep writes VALID only within R25's bounds. -/
theorem sweptWindow_ok (histogram : Vector Nat 32) : (sweptWindow histogram).ok := by
  simp only [Window.ok, sweptWindow, sweepResult]
  (repeat' split) <;> simp
  omega

theorem sweptWindow_status_ne_sweeping (histogram : Vector Nat 32) : (sweptWindow histogram).status ≠ .sweeping := by
  simp only [sweptWindow, sweepResult]
  (repeat' split) <;> simp

namespace State.Kept

variable {P : State → Prop} (hP : State.Kept P) {s : State}
include hP

/-! ## Engagement monitor -/

theorem raiseClimbOut (h : P s) : P s.raiseClimbOut :=
  hP.raise _ (of_ite (fun _ => hP.engagement ⟨.refl _, .refl _⟩ h) fun _ => h)

theorem raiseCalibrationFail (h : P s) : P s.raiseCalibrationFail :=
  hP.raise _ (of_ite (fun _ => hP.engagement ⟨.refl _, .refl _⟩ h) fun _ => h)

theorem reformSlip (h : P s) : P s.reformSlip := of_ite (fun _ => hP.clear (by decide) h) fun _ => h

theorem monitorConfirmed (h : P s) : P s.monitorConfirmed :=
  hP.clear (by decide) (hP.clear (by decide) (hP.engagement ⟨.refl _, .refl _⟩ h))

theorem setMonitor {p : Pinion} {mon : PinionMonitor} (hwindow : (s.engagement.pinions.get p).window.Stays mon.window)
    (h : P s) : P (s.setMonitor p mon) := by
  cases p
  · exact hP.engagement ⟨hwindow, .refl _⟩ h
  · exact hP.engagement ⟨.refl _, hwindow⟩ h

theorem monitorExit (h : P s) : P s.monitorExit :=
  hP.reformSlip (hP.engagement ⟨PinionMonitor.exited_stays _, PinionMonitor.exited_stays _⟩ h)

theorem sweepEdge (p : Pinion) (bin : Fin 32) (h : P s) : P (s.sweepEdge p bin) := by
  refine of_ite (fun _ => ?_) fun _ => hP.setMonitor (.refl _) h
  have hswept (histogram : Vector Nat 32) : P (s.setMonitor p
      { s.engagement.pinions.get p with
        window := sweptWindow histogram, histogram := Vector.replicate 32 0, counted := 0 }) :=
    hP.setMonitor ⟨fun _ => sweptWindow_ok _, fun hs => absurd hs (sweptWindow_status_ne_sweeping _)⟩ h
  exact of_ite (fun _ => hswept _) fun _ => hP.raiseCalibrationFail (hswept _)

theorem checkEdge (p : Pinion) (bin : Fin 32) (h : P s) : P (s.checkEdge p bin) := by
  refine of_ite (fun _ => hP.reformSlip (hP.setMonitor (.refl _) h)) fun _ => of_ite
    (fun _ => hP.raise _ (hP.setMonitor (.refl _) h)) fun _ => ?_
  exact hP.reformSlip (hP.raiseClimbOut (hP.raise _ (hP.setMonitor ⟨fun _ => nofun, nofun⟩ h)))

theorem toothEvent (p : Pinion) (phase : Option (Fin 32)) (h : P s) : P (s.toothEvent p phase) := by
  refine of_ite (fun _ => hP.setMonitor (.refl _) h) fun _ => ?_
  split
  next => exact h
  next =>
    split
    next => exact hP.sweepEdge _ _ h
    next => exact hP.checkEdge _ _ h
    all_goals exact h

/-! ## Rack sensing -/

theorem evaluateSpeed (h : P s) : P s.evaluateSpeed := hP.rack ⟨rfl, rfl, rfl, rfl, rfl, id⟩ h

theorem abortForMotion (h : P s) : P s.abortForMotion :=
  of_ite (fun _ => hP.raise _ (hP.brake (Brake.abort_stays _ _) h)) fun _ => h

theorem wheelMotion (h : P s) : P s.wheelMotion := by
  refine of_ite (fun _ => ?_) fun _ => h
  have hpulse : P (s.setBrake { s.brake with proof := { s.brake.proof with pulses := min 3 (s.brake.proof.pulses + 1) } }) :=
    hP.brake ⟨rfl, rfl, rfl, id, .refl _, .refl _, .inl rfl⟩ h
  exact of_ite (fun _ => hP.abortForMotion hpulse) fun _ => hpulse

theorem publishGrade (h : P s) : P s.publishGrade := hP.grade _ h

theorem followWorstGrade (h : P s) : P s.followWorstGrade := of_ite (fun _ => hP.grade _ h) fun _ => h

theorem reformGradeSensor (before : Rack) (h : P s) : P (s.reformGradeSensor before) :=
  of_ite (fun _ => of_ite (fun _ => h) fun _ => hP.raise _ h) fun _ =>
    of_ite (fun _ => hP.clear (by decide) h) fun _ => h

theorem toothSource (sensor : Pinion) (h : P s) : P (s.toothSource sensor) := by
  cases sensor
  · exact hP.freeCount (hP.rack ⟨rfl, rfl, rfl, rfl, rfl, id⟩ h)
  · exact h

theorem wheelSource (h : P s) : P s.wheelSource := hP.freeCount (hP.rack ⟨rfl, rfl, rfl, rfl, rfl, id⟩ h)

theorem leaveAtTooth (sensor : Pinion) (h : P s) : P (s.leaveAtTooth sensor) := by
  cases sensor
  · exact of_ite (fun _ => hP.leave _ h) fun _ => h
  · exact h

theorem leaveAtPulse (direction : Direction) (h : P s) : P (s.leaveAtPulse direction) :=
  of_ite (fun _ => hP.leave _ h) fun _ => h

theorem announceEntry (h : P s) : P s.announceEntry := hP.lowerLimit _ (hP.entry h)

theorem afterMove (before : State) (h : P s) : P (s.afterMove before) := by
  have hevaluated := of_ite (P := P) (c := s.position ≠ before.position ∨ s.direction ≠ before.direction)
    (fun _ => hP.evaluate h) fun _ => h
  exact of_ite (fun _ => hP.retest hevaluated) fun _ => hevaluated

theorem confirmStandstill (h : P s) : P s.confirmStandstill :=
  hP.afterMove _ (hP.retest (hP.clear (by decide) (hP.monitorConfirmed
    (hP.applyHolding (hP.rack ⟨rfl, rfl, rfl, rfl, rfl, fun _ => rfl⟩ h)))))

end State.Kept

/-- A tooth edge changes the rack, then does what keeps any kept property, and ends by announcing its move. -/
theorem State.toothEdge_eq_afterMove (sensor : Pinion) (phase : Option (Fin 32)) (s : State) :
    ∃ u : State, s.toothEdge sensor phase = u.afterMove s ∧ ∀ {P : State → Prop}, State.Kept P →
      P (s.setRack (s.rack.toothEdge sensor s.countingTeeth (s.present .speedDisagree))) → P u := by
  refine ⟨_, rfl, fun hP h => ?_⟩
  have hleft := hP.leaveAtTooth sensor (hP.evaluateSpeed (hP.toothSource sensor h))
  exact hP.abortForMotion (hP.toothEvent _ _ (of_ite (fun _ => hleft) fun _ => hP.announceEntry hleft))

/-- A wheel pulse changes the rack, then does what keeps any kept property, and ends by announcing its move. -/
theorem State.wheelPulse_eq_afterMove (channel1Leads : Bool) (s : State) :
    ∃ u : State, s.wheelPulse channel1Leads = u.afterMove s ∧ ∀ {P : State → Prop}, State.Kept P →
      P (s.setRack (s.rack.wheelPulse (pulseDirection s.straps.orient channel1Leads) s.countingTeeth
        s.straps.wheelCircumference)) → P u := by
  refine ⟨_, rfl, fun hP h => ?_⟩
  have hleft := hP.leaveAtPulse (pulseDirection s.straps.orient channel1Leads) (hP.evaluateSpeed (hP.wheelSource h))
  exact hP.wheelMotion (hP.followWorstGrade (of_ite (fun _ => hP.monitorExit hleft) fun _ => hleft))

namespace State.Kept

variable {P : State → Prop} (hP : State.Kept P) {s : State}
include hP

theorem toothEdge (sensor : Pinion) (phase : Option (Fin 32))
    (h : P (s.setRack (s.rack.toothEdge sensor s.countingTeeth (s.present .speedDisagree)))) :
    P (s.toothEdge sensor phase) := by
  obtain ⟨u, hu, hkept⟩ := s.toothEdge_eq_afterMove sensor phase
  exact hu ▸ hP.afterMove _ (hkept hP h)

theorem wheelPulse (channel1Leads : Bool)
    (h : P (s.setRack (s.rack.wheelPulse (pulseDirection s.straps.orient channel1Leads) s.countingTeeth
      s.straps.wheelCircumference))) :
    P (s.wheelPulse channel1Leads) := by
  obtain ⟨u, hu, hkept⟩ := s.wheelPulse_eq_afterMove channel1Leads
  exact hu ▸ hP.afterMove _ (hkept hP h)

/-! ## Line control -/

theorem placeHeld (f : LineFrame) (kind : StateSlotKind) (h : P s) : P (s.placeHeld f kind) := by
  refine of_ite (fun _ => hP.line (.of_eq rfl rfl rfl rfl rfl rfl rfl rfl) h) fun hfree => hP.line ?_ h
  refine .trans (m := { s.line with stateSlot := some _ }) ⟨rfl, id, fun hheld => ?_, id, id⟩ (Line.offer_stays _)
  revert hheld hfree
  simp only [Line.sendingHeld]
  split <;> simp_all

theorem placeState (n : Fin 8) (h : P s) : P (s.placeState n) :=
  hP.placeHeld _ _ (hP.line (.of_eq rfl rfl rfl rfl rfl rfl rfl rfl) h)

theorem placeJoin (n : Fin 8) (h : P s) : P (s.placeJoin n) := hP.placeHeld _ _ h

theorem discarded (f : HeldFrame) (h : P s) : P (s.discarded f) := by
  have hcounted := fun retry => hP.line (v := { s.line with discards := s.line.discards + 1, joinRetry := retry })
    (.of_eq rfl rfl rfl rfl rfl rfl rfl rfl) h
  exact of_ite (fun _ => hP.raise _ (hcounted _)) fun _ => hcounted _

theorem startReports (h : P s) : P s.startReports :=
  of_ite (fun _ => hP.radio ⟨rfl, rfl, rfl, id, id⟩ h) fun _ => h

theorem takeNumber (n : Fin 8) (hown : s.line.unnumbered → s.line.own = none) (h : P s) : P (s.takeNumber n) :=
  hP.placeJoin _ (hP.startReports (hP.numbered n hown h))

theorem goSilent (h : P s) : P s.goSilent :=
  hP.raise _ (hP.line ⟨rfl, fun hun hphase => hun (hphase.imp nofun id), id, id, id⟩ h)

theorem tryTakeNumber (h : P s) : P s.tryTakeNumber := by
  refine of_ite (fun hwait => ?_) fun _ => h
  split
  · exact hP.takeNumber _ (fun hun => hun (.inl hwait.1)) h
  · exact hP.goSilent h

theorem countBad (h : P s) : P s.countBad := by
  have hcounted := hP.line (v := { s.line with badCount := s.line.badCount + 1 })
    (.of_eq rfl rfl rfl rfl rfl rfl rfl rfl) h
  exact of_ite (fun _ => hP.raise _ hcounted) fun _ => hcounted

theorem clash (h : P s) : P s.clash := hP.raise _ (hP.line (.of_eq rfl rfl rfl rfl rfl rfl rfl rfl) h)

theorem clashTest (source : Fin 8) (h : P s) : P (s.clashTest source) := of_ite (fun _ => hP.clash h) fun _ => h

theorem handOn (ok : Bool) (source : Fin 8) {effect : State → State} (heffect : ∀ {u}, P u → P (effect u)) (h : P s) :
    P (s.handOn ok source effect) :=
  of_ite (fun _ => heffect (hP.clashTest _ h)) fun _ => hP.countBad h

theorem hear {effect : State → State} (heffect : ∀ {u}, P u → P (effect u)) (h : P s) : P (s.hear effect) :=
  of_ite (fun _ => h) fun _ => heffect (hP.line (Line.occupied_stays _) h)

theorem endHoldOff (h : P s) : P s.endHoldOff := hP.line (.of_eq rfl rfl rfl rfl rfl rfl rfl rfl) h

theorem reformConsistChanged (h : P s) : P s.reformConsistChanged :=
  of_ite (fun _ => of_ite (fun _ => of_ite (fun _ => h) fun _ => hP.raise _ h) fun _ => hP.clear (by decide) h) fun _ => h

theorem contentionLost (h : P s) : P s.contentionLost := by
  have hfree (v : Line) (hv : s.line.Stays { v with sending := none }) : P (s.setLine { v with sending := none }) :=
    hP.line hv h
  have hidle : P (s.setLine { s.line with sending := none, bus := .busy }) :=
    hfree { s.line with bus := .busy } ⟨rfl, id, fun _ => trivial, id, id⟩
  unfold State.contentionLost
  split
  next => exact h
  next =>
    exact of_ite (fun _ => hP.line ⟨rfl, id, fun _ => trivial, id, id⟩ hidle) fun _ => hidle
  next => exact hidle
  next => exact hidle
  next =>
    dsimp only
    split
    next => exact hidle
    next =>
      refine of_ite (fun _ => hP.discarded _ ?_) fun _ => ?_ <;>
        exact of_ite (fun _ => hP.line ⟨rfl, id, fun _ => trivial, id, id⟩ hidle) fun _ => hidle

theorem accessTimeout (h : P s) : P s.accessTimeout := by
  unfold State.accessTimeout
  split
  next => exact h
  next held hslot =>
    refine of_ite (fun _ => of_ite (fun _ => hP.line ⟨rfl, id, fun hheld => ?_, id, id⟩ h) fun hfree =>
      hP.discarded _ (hP.line ⟨rfl, id, fun hheld => ?_, id, id⟩ h)) fun _ => ?_
    · revert hheld
      simp only [Line.sendingHeld]
      split <;> simp_all
    · revert hheld
      simp only [Line.sendingHeld]
      split <;> simp_all
    · split
      next => exact h
      next =>
        exact of_ite (fun _ => hP.discarded _ (hP.line (.of_eq rfl rfl rfl rfl rfl rfl rfl rfl) h)) fun _ => h

/-! ## Peer table -/

theorem peerJoin (source : Fin 8) (fields : JoinFields) (h : P s) : P (s.peerJoin source fields) := by
  refine of_ite (fun _ => h) fun hother => of_ite (fun _ => hP.clash h) fun _ => ?_
  rw [not_or] at hother
  exact hP.peer source hother.2 nofun h

theorem peerState (source : Fin 8) (report : StateReport) (h : P s) : P (s.peerState source report) := by
  refine of_ite (fun _ => h) fun hother => ?_
  rw [not_or] at hother
  exact hP.peer source hother.2 nofun h

theorem peerAlert (source : Fin 8) (kind : Byte) (h : P s) : P (s.peerAlert source kind) := by
  refine of_ite (fun _ => h) fun _ => hP.alerts (fun i => ?_) h
  by_cases hi : source = i
  · subst hi
    exact ⟨faultKindOfCode kind.toNat, by simp⟩
  · exact ⟨s.peers[i].lastAlert, by simp [Fin.val_inj, hi]⟩

theorem peerStale (station : Fin 8) (h : P s) : P (s.peerStale station) :=
  of_ite (fun hfresh => hP.peer station (fun hself => nomatch hfresh.symm.trans hself) nofun h) fun _ => h

theorem peerLost (station : Fin 8) (h : P s) : P (s.peerLost station) := by
  refine of_ite (fun hheld => hP.lost station (fun hself => ?_) h) fun _ => h
  rcases hheld with hheld | hheld <;> exact nomatch hheld.symm.trans hself

end State.Kept

end Sys2Proof.Machine
end

section
/-! SUPPORT. The effects of chapters 5 to 11 keep what their parts keep. -/

namespace Sys2Proof.Machine

theorem Brake.testing_cycles (p : Pinion) (b : Brake) : b.Cycles (b.testing p) := by
  cases p <;> exact ⟨rfl, rfl, rfl, id⟩

/-- The stage 5 value of a supervision computation. -/
def State.superFive (s : State) : Sat := s.stageFive s.netDecel.val

/-- A supervision computation after HOLD_INADEQUATE is judged (R89). -/
def State.superJudged (s : State) : State :=
  (s.saturations (s.netDecel.hits + s.superFive.hits)).judgeHoldInadequate s.netDecel.val

/-- A supervision computation after the local and the enforced limit are formed (R93, R95). -/
def State.limitsFormed (s : State) : State :=
  (s.superJudged.setSpeed
    (s.superJudged.speed.takeResult (s.stageSix s.superFive.val.toNat) s.superJudged.clock)).reformEnforced

namespace State.Kept

variable {P : State → Prop} (hP : State.Kept P) {s : State}
include hP

theorem raiseTimes (k : FaultKind) (n : Nat) (h : P s) : P (s.raiseTimes k n) := by
  induction n generalizing s with
  | zero => exact h
  | succ n ih => exact ih (hP.raise k h)

theorem saturations (hits : Nat) (h : P s) : P (s.saturations hits) :=
  of_ite (fun _ => h) fun _ => hP.raiseTimes _ _ (hP.speed rfl rfl h)

/-! ## Speed supervision -/

theorem judgeHoldInadequate (net : Int) (h : P s) : P (s.judgeHoldInadequate net) :=
  of_ite (fun _ => of_ite (fun _ => h) fun _ => hP.raise _ h) fun _ => hP.clear (by decide) h

theorem judgeHoldMargin (inputs : State) (h : P s) : P (s.judgeHoldMargin inputs) := by
  have hsums := hP.saturations (inputs.holdingProducts.1.hits + inputs.holdingProducts.2.hits) h
  exact of_ite (fun _ => of_ite (fun _ => of_ite (fun _ => hsums) fun _ => hP.raise _ hsums) fun _ =>
    hP.clear (by decide) hsums) fun _ => h

theorem judgeOverspeed (speed : Nat) (h : P s) : P (s.judgeOverspeed speed) :=
  of_ite (fun _ => hP.raise _ h) fun _ => h

/-- After its limits are formed, a supervision computation keeps what its parts keep. -/
theorem supervise (h : P s.limitsFormed) : P s.supervise := by
  refine hP.judgeOverspeed _ (hP.speed ?_ ?_ (hP.judgeHoldMargin s h))
  · simp only [Speed.followHard, Speed.intervene]
    split_ifs <;> rfl
  · simp only [Speed.followHard, Speed.intervene]
    split_ifs <;> rfl

/-! ## Braking -/

theorem proof (hrun : s.running = true) (h : P s) : P s.proof := by
  have hrefused (why : ProofRefusal) : P (s.setBrake { s.brake with proof := s.brake.proof.refused why }) :=
    hP.brake ⟨rfl, rfl, rfl, id, .refl _, .refl _, .inl rfl⟩ h
  unfold State.proof
  split
  next hnone => exact hP.startProof hrun hnone h
  all_goals exact hrefused _

theorem senseLoop_of_setLatch (hlatch : ∀ {u : State}, P u → P u.setLatch) (h : P s) : P s.senseLoop := by
  have habort := Brake.abort_stays .emergency s.brake
  exact hlatch (hP.brake ⟨habort.latch, habort.ownPull, habort.applied, habort.proof, ⟨habort.p1.energy, habort.p1.derated,
    .inr rfl⟩, ⟨habort.p2.energy, habort.p2.derated, .inr rfl⟩, .inr rfl⟩ h)

/-! ## Valley radio and restrictions -/

theorem frameAccepted (h : P s) : P s.frameAccepted := hP.clear (by decide) (hP.valley _ _ h)

theorem valleyGone (h : P s) : P s.valleyGone := by
  have hlost : P (s.setValley .lost s.radio.supervision) := hP.valley _ _ h
  exact of_ite (fun _ => hlost) fun _ => hP.raise _ hlost

theorem queueAck (sequence : Byte) (result : OrderResult) (h : P s) : P (s.queueAck sequence result) := by
  refine hP.radio ⟨rfl, rfl, rfl, id, fun hacks => ?_⟩ h
  simp only [Radio.roomForAck]
  (repeat' split) <;> simp <;> omega

theorem buildReport (h : P s) : P s.buildReport := hP.radio
  ⟨by split <;> rfl, by split <;> rfl, by split <;> rfl, by split <;> exact id, by split <;> exact id⟩ h

/-- A sequence number that is new keeps the window without a double (R156). -/
theorem noteSequence {sequence : Byte} (hnew : s.radio.window.contains sequence = false) (h : P s) :
    P (s.noteSequence sequence) := by
  refine hP.radio ⟨rfl, rfl, rfl, fun ⟨hlength, hnodup⟩ => ?_, id⟩ h
  have hnew : sequence ∉ s.radio.window := by simpa using hnew
  have hdrop : (s.radio.window.drop 1).Sublist s.radio.window := List.drop_sublist 1 _
  simp only [appendWindow]
  split
  · refine ⟨by simp; omega, hnodup.append (by simp) ?_⟩
    simpa using hnew
  · refine ⟨by simp; omega, (hnodup.sublist hdrop).append (by simp) ?_⟩
    simpa using fun hmem => hnew (hdrop.subset hmem)

theorem relay (sequence : Byte) (order : ValleyOrder) (h : P s) : P (s.relay sequence order) := by
  unfold State.relay
  split
  next => exact h
  next n _ =>
    refine of_ite (fun _ => hP.raise _ h) fun hroom => hP.line ?_ h
    refine .trans (m := { s.line with orders := s.line.orders ++ [_] }) ⟨rfl, id, fun hheld => ?_, fun _ => ?_, id⟩
      (Line.offer_stays _)
    · revert hheld
      simp only [Line.sendingHeld]
      split <;> simp_all
    · simp
      omega

theorem radioOrder {sequence : Byte} {order : ValleyOrder} {apply : State → State × OrderResult}
    (happly : ∀ {u}, P u → P (apply u).1) (h : P s) : P (s.radioOrder sequence order apply) := by
  refine of_ite (fun _ => hP.queueAck _ _ (hP.frameAccepted h)) fun hnew => ?_
  exact hP.queueAck _ _ (hP.relay _ _ (happly (hP.noteSequence (eq_false_of_ne_true hnew) (hP.frameAccepted h))))

theorem lineOrder {sequence : Byte} {apply : State → State × OrderResult} (happly : ∀ {u}, P u → P (apply u).1)
    (h : P s) : P (s.lineOrder sequence apply) :=
  of_ite (fun _ => h) fun hnew => happly (hP.noteSequence (eq_false_of_ne_true hnew) h)

theorem applyRestrict (orderId : BitVec 16) (start length limit : Nat) (h : P s) :
    P (s.applyRestrict orderId start length limit).1 := by
  unfold State.applyRestrict
  split
  · exact h
  · exact hP.restrict _ h

theorem applyLift (orderId : BitVec 16) (h : P s) : P (s.applyLift orderId).1 :=
  hP.fewer List.filter_sublist (.inr rfl) h

theorem applyPlatform (side : LineSide) (stop : Nat) (sequence : Byte) (h : P s) :
    P (s.applyPlatform side stop sequence).1 := by
  unfold State.applyPlatform
  split
  · exact h
  · exact hP.platform h

/-- Records that leave a sound table leave a sound table. -/
theorem recordsFiltered (keep : FaultRecord → Bool) (h : P s) :
    P (s.setFaults { s.faults with table := s.faults.table.filter keep }) := by
  refine hP.records rfl (fun ⟨⟨hlength, hnodup⟩, hactive⟩ => ⟨⟨?_, ?_⟩, fun r hr => ?_⟩) h
  · exact (List.length_filter_le _ _).trans hlength
  · exact hnodup.sublist (List.filter_sublist.map _)
  · exact hactive r (List.mem_of_mem_filter hr)

theorem applyProceed (h : P s) : P s.applyProceed.1 :=
  of_ite (fun _ => hP.recordsFiltered _ (hP.clear (by decide) (hP.clear (by decide) h))) fun _ => h

/-! ## Doors -/

/-- A door's own update that keeps the door invariant, and no release of a side. -/
theorem setDoor {d : DoorId} {r : Door} (hok : s.doorsOk → (s.setDoor d r).doorsOk) (h : P s) : P (s.setDoor d r) :=
  hP.doors ⟨hok, fun side hside => .inl (by cases side <;> exact hside)⟩ h

theorem latchIfClosed (was : DoorSummary) (h : P s) : P (s.latchIfClosed was) :=
  of_ite (fun _ => hP.latchMass h) fun _ => h

theorem reformTimeout (h : P s) : P s.reformTimeout := of_ite (fun _ => h) fun _ => hP.clear (by decide) h

theorem reformObstructed (h : P s) : P s.reformObstructed := of_ite (fun _ => h) fun _ => hP.clear (by decide) h

theorem reformForced (h : P s) : P s.reformForced := of_ite (fun _ => h) fun _ => hP.clear (by decide) h

/-! ## Consist reset and INSPECT -/

theorem resetSlips (h : P s) : P s.resetSlips := hP.reformSlip (hP.engagement ⟨.refl _, .refl _⟩ h)

theorem resetArith (h : P s) : P s.resetArith := hP.clear (by decide) (hP.speed rfl rfl h)

theorem resetOverflow (h : P s) : P s.resetOverflow := hP.clear (by decide) (hP.fewer (List.Sublist.refl _) (.inl rfl) h)

theorem resetAlerts (h : P s) : P s.resetAlerts := by
  refine hP.alerts (fun i => ⟨none, ?_⟩) h
  fin_cases i <;> rfl

theorem placeReplies (n : Fin 8) (param : BitVec 16) (records : List (List Byte)) (h : P s) :
    P (s.placeReplies n param records) := by
  refine hP.line (.trans (m := { s.line with replies := s.line.replies ++ _ }) ⟨rfl, id, fun hheld => ?_, id, fun _ => ?_⟩
    (Line.offer_stays _)) h
  · revert hheld
    simp only [Line.sendingHeld]
    split <;> simp_all
  · simp [placedReplies]
    omega

theorem inspect (target : Byte) (param : BitVec 16) (h : P s) : P (s.inspect target param) := by
  unfold State.inspect
  split
  · exact of_ite (fun _ => of_ite (fun _ => hP.freeCount (hP.placeReplies _ _ _ h)) fun _ => hP.placeReplies _ _ _ h)
      fun _ => h
  · exact h

end State.Kept

end Sys2Proof.Machine
end

section
/-! SUPPORT. The door operations keep the door invariant and what their parts keep. -/

namespace Sys2Proof.Machine

/-! ## The doors one by one -/

theorem PerDoor.get_set {α : Type} (v : PerDoor α) (d e : DoorId) (x : α) :
    (v.set d x).get e = if e = d then x else v.get e := by
  cases d <;> cases e <;> rfl

theorem PerDoor.get_mapIdx {α β : Type} (f : DoorId → α → β) (v : PerDoor α) (d : DoorId) :
    (v.mapIdx f).get d = f d (v.get d) := by
  cases d <;> rfl

/-- A handle release stands only on a door that is neither LOCKED nor ISOLATED. -/
def Door.handleOk (r : Door) : Prop := r.handleRelease = true → r.state ≠ .locked ∧ r.state ≠ .isolated

/-- What a door's update must not undo: a shut door of a car that is not held, and a handle release on an unlocked
door. -/
structure State.DoorStays (s : State) (r v : Door) : Prop where
  shut : s.brake.applied = false → s.doors.releaseA = false → s.doors.releaseB = false → r.heldShut → v.heldShut
  handle : r.handleOk → v.handleOk

variable {s : State}

theorem State.DoorStays.refl (r : Door) : s.DoorStays r r := ⟨fun _ _ _ => id, id⟩

theorem State.doorsOk_setDoors {v : DoorControl} (hA : v.releaseA = true → s.doors.releaseA = true)
    (hB : v.releaseB = true → s.doors.releaseB = true)
    (hdoor : ∀ d, s.DoorStays (s.doors.doors.get d) (v.doors.get d)) (h : s.doorsOk) : (s.setDoors v).doorsOk := by
  refine ⟨fun happlied => ?_, fun d => (hdoor d).handle (h.2 d)⟩
  obtain ⟨hshut, hnoA, hnoB⟩ := h.1 happlied
  refine ⟨fun d => (hdoor d).shut happlied hnoA hnoB (hshut d), ?_, ?_⟩
  · exact eq_false_of_ne_true fun hset => by simp [hA hset] at hnoA
  · exact eq_false_of_ne_true fun hset => by simp [hB hset] at hnoB

theorem State.doorsOk_setDoor {d : DoorId} {r : Door} (hdoor : s.DoorStays (s.doors.doors.get d) r) (h : s.doorsOk) :
    (s.setDoor d r).doorsOk := by
  refine doorsOk_setDoors id id (fun e => ?_) h
  simp only [DoorControl.change, PerDoor.get_set]
  split
  · rename_i he
    exact he ▸ hdoor
  · exact .refl _

/-- A door without a handle release that is withdrawn. -/
theorem Door.withdraw_stays (now : Nat) {r : Door} (hhandle : r.handleRelease = false) : s.DoorStays r (r.withdraw now) := by
  refine ⟨fun _ _ _ hshut => ?_, fun _ hset => ?_⟩
  · obtain ⟨hstate, -⟩ := hshut
    rcases hstate with hstate | hstate | hstate <;> simp [Door.withdraw, Door.heldShut, hstate, hhandle]
  · have hkept : (r.withdraw now).handleRelease = r.handleRelease := by
      unfold Door.withdraw
      (repeat' split) <;> rfl
    exact absurd (hkept.symm.trans hset) (by simp [hhandle])

/-- A door that is not shut as an unheld car's is, and loses no handle release to a lock. -/
theorem State.DoorStays.of_away {r v : Door} (haway : r.state ≠ .locked ∧ r.state ≠ .forced ∧ r.state ≠ .isolated)
    (hstate : v.state ≠ .locked ∧ v.state ≠ .isolated) : s.DoorStays r v := by
  refine ⟨fun _ _ _ hshut => ?_, fun _ _ => hstate⟩
  obtain ⟨hlocked, hforced, hisolated⟩ := haway
  exact absurd hshut.1 (by simp [hlocked, hforced, hisolated])

theorem State.doorsOk_clearSide (side : CarSide) (h : s.doorsOk) : (s.clearSide side).doorsOk := by
  refine of_ite (P := State.doorsOk) (fun _ => doorsOk_setDoors ?_ ?_ (fun d => ?_) h) fun _ => h
  · cases side <;> simp [DoorControl.setSideRelease]
  · cases side <;> simp [DoorControl.setSideRelease]
  · have hdoors : (s.doors.setSideRelease side false).doors = s.doors.doors := by cases side <;> rfl
    simp only [PerDoor.get_mapIdx]
    split
    next hcond => exact Door.withdraw_stays _ hcond.2
    next => exact .refl _

/-- Clearing a side releases none. -/
theorem State.clearSide_sideRelease (side other : CarSide) (hset : (s.clearSide side).doors.sideRelease other = true) :
    s.doors.sideRelease other = true := by
  revert hset
  unfold State.clearSide
  split
  · cases side <;> cases other <;> simp [DoorControl.sideRelease, DoorControl.setSideRelease]
  · exact id

theorem lineSideOf_carSideOf (orient : CarEnd) (side : LineSide) : lineSideOf orient (carSideOf orient side) = side := by
  cases orient <;> cases side <;> rfl

namespace State.Kept

variable {P : State → Prop} (hP : State.Kept P)
include hP

theorem door {d : DoorId} {r : Door} (hdoor : s.DoorStays (s.doors.doors.get d) r) (h : P s) : P (s.setDoor d r) :=
  hP.setDoor (doorsOk_setDoor hdoor) h

theorem clearSide (side : CarSide) (h : P s) : P (s.clearSide side) := by
  have hdoors : s.clearSide side = s.setDoors (s.clearSide side).doors := by
    unfold State.clearSide
    split <;> rfl
  rw [hdoors]
  exact hP.doors ⟨fun hok => hdoors ▸ doorsOk_clearSide side hok, fun other hset => .inl (clearSide_sideRelease side other hset)⟩ h

theorem releaseDoor (side : CarSide) (d : DoorId) (happlied : s.brake.applied = true) (h : P s) :
    P (s.releaseDoor side d) := by
  refine of_ite (fun _ => hP.door ⟨fun hfree => (nomatch happlied.symm.trans hfree), fun hok => ?_⟩ h) fun _ => h
  unfold Door.released
  split <;> simp_all [Door.handleOk]

theorem doorsRelease (side : LineSide) (h : P s) : P (s.doorsRelease side) := by
  refine of_ite (fun hpermit => ?_) fun _ => h
  have happlied : s.brake.applied = true := by
    simp only [State.permit, Bool.and_eq_true] at hpermit
    exact hpermit.1.1.1.2
  have hside : P (s.setDoors (s.doors.setSideRelease (carSideOf s.straps.orient side) true)) := by
    refine hP.doors ⟨fun hok => ⟨fun hfree => (nomatch happlied.symm.trans hfree), fun d => ?_⟩, fun other hset => ?_⟩ h
    · have := hok.2 d
      cases carSideOf s.straps.orient side <;> exact this
    · by_cases hother : other = carSideOf s.straps.orient side
      · exact .inr (by rw [hother, lineSideOf_carSideOf]; exact hpermit)
      · refine .inl ?_
        revert hset hother
        cases other <;> cases carSideOf s.straps.orient side <;> simp [DoorControl.sideRelease, DoorControl.setSideRelease]
  exact hP.reformObstructed (hP.releaseDoor _ _ (by simpa using happlied) (hP.releaseDoor _ _ (by simpa using happlied)
    (hP.releaseDoor _ _ (by simpa using happlied) (hP.releaseDoor _ _ (by simpa using happlied) hside))))

theorem doorsClose (h : P s) : P s.doorsClose := by
  have hsides := hP.clearSide .b (hP.clearSide .a h)
  refine hP.latchIfClosed _ (hP.reformObstructed (hP.doors ⟨doorsOk_setDoors id id fun d => ?_, fun _ => .inl⟩ hsides))
  simp only [PerDoor.get_mapIdx, Door.closeOpen]
  split
  · rename_i hopen
    exact .of_away (by simp [hopen.1]) (by simp)
  · exact .refl _


theorem lockMade (d : DoorId) (h : P s) : P (s.lockMade d) := by
  have hlocks : P (((((s.setDoor d ((s.doors.doors.get d).locks (s.doors.hasRelease d))).reformTimeout).reformObstructed).reformForced).latchIfClosed
      s.summary) := by
    refine hP.latchIfClosed _ (hP.reformForced (hP.reformObstructed (hP.reformTimeout (hP.door ⟨fun _ hA hB hshut => ?_,
      fun _ hset => ?_⟩ h))))
    · have hnone : s.doors.hasRelease d = false := by
        cases d <;> simp [DoorControl.hasRelease, DoorControl.sideRelease, doorSide, hA, hB, hshut.2]
      exact ⟨.inl (by simp [Door.locks, hnone]), hshut.2⟩
    · have hrelease : s.doors.hasRelease d = true := by
        rw [DoorControl.hasRelease, Bool.or_eq_true]
        exact .inr hset
      simp [Door.locks, hrelease]
  unfold State.lockMade
  dsimp only
  split <;> assumption

theorem lockLost (d : DoorId) (h : P s) : P (s.lockLost d) := by
  unfold State.lockLost
  dsimp only
  split
  next hstate =>
    exact hP.raise _ (hP.door ⟨fun _ _ _ hshut => ⟨.inr (.inl rfl), hshut.2⟩, fun _ _ => by simp⟩ h)
  next hstate => exact hP.door (.of_away (by simp [hstate]) (by simp)) h
  all_goals exact h

theorem obstruct (d : DoorId) (h : P s) : P (s.obstruct d) := by
  refine of_ite (fun hclosing => of_ite (fun _ => ?_) fun _ => hP.raise _ ?_) fun _ => h <;>
    exact hP.door (.of_away (by simp [hclosing]) (by simp)) h

theorem handleActive (d : DoorId) (h : P s) : P (s.handleActive d) := by
  refine of_ite (fun _ => h) fun _ => of_ite (fun hheld => ?_) fun _ => ?_
  · rw [Bool.and_eq_true] at hheld
    refine hP.door ⟨fun hfree => (nomatch hheld.2.symm.trans hfree), fun hok => ?_⟩ h
    unfold Door.handleReleased
    split <;> simp_all [Door.handleOk]
  · have halarm := hP.door (d := d) (r := { s.doors.doors.get d with handleAlarm := true }) ⟨fun _ _ _ => id, id⟩ h
    exact of_ite (fun _ => halarm) fun _ => hP.raise _ halarm

theorem handleInactive (d : DoorId) (h : P s) : P (s.handleInactive d) := by
  refine of_ite (fun _ => h) fun _ => hP.latchIfClosed _ (hP.reformForced (hP.door ?_ h))
  have hreturned : s.DoorStays (s.doors.doors.get d)
      { s.doors.doors.get d with handleAlarm := false, handleRelease := false } :=
    ⟨fun _ _ _ hshut => ⟨hshut.1, rfl⟩, fun _ => nofun⟩
  split
  · have hwithdrawn := Door.withdraw_stays (s := s) s.clock
      (r := { s.doors.doors.get d with handleAlarm := false, handleRelease := false }) rfl
    exact ⟨fun hfree hA hB => hwithdrawn.shut hfree hA hB ∘ hreturned.shut hfree hA hB,
      hwithdrawn.handle ∘ hreturned.handle⟩
  · exact hreturned

theorem resetDoorFlags (h : P s) : P s.resetDoorFlags := by
  refine hP.clear (by decide) (hP.clear (by decide) (hP.doors ⟨doorsOk_setDoors id id fun d => ?_, fun _ => .inl⟩ h))
  simp only [PerDoor.get_mapIdx]
  exact ⟨fun _ _ _ => id, id⟩

theorem consistReset (h : P s) : P s.consistReset :=
  hP.recordsFiltered _ (hP.resetBrake (hP.platform (hP.resetAlerts (hP.resetOverflow (hP.resetDoorFlags (hP.resetArith
    (hP.resetSlips h)))))))

end State.Kept

end Sys2Proof.Machine
end

section
/-! SUPPORT. The changes of the station state, the brake cycle, and every command: what keeps `P` in its parts keeps it
across `exec`. -/

namespace Sys2Proof.Machine

variable {P : State → Prop} {s t : State}

theorem State.running_of_life {l : Life} (h : s.station.life = l) (hoff : l ≠ .off) (hcold : l ≠ .cold) :
    s.running = true := by
  unfold State.running
  cases l <;> simp_all

namespace State.Kept

variable (hP : State.Kept P)
include hP

theorem setPinion {p : Pinion} {b : PinionBrake} (hb : (s.brake.pinions.get p).Stays b) (h : P s) :
    P (s.setPinion p b) := by
  cases p
  · exact hP.brake ⟨rfl, rfl, rfl, id, hb, .refl _, .inl rfl⟩ h
  · exact hP.brake ⟨rfl, rfl, rfl, id, .refl _, hb, .inl rfl⟩ h

theorem markFailed (p : Pinion) (h : P s) : P (s.markFailed p) := hP.raise _ (hP.setPinion ⟨rfl, rfl, .inl rfl⟩ h)

theorem checkPinion (p : Pinion) (h : P s) : P (s.checkPinion p) := by
  have htimer (timer : Timer) : P (s.setPinion p { s.brake.pinions.get p with failTimer := timer }) :=
    hP.setPinion ⟨rfl, rfl, .inl rfl⟩ h
  refine of_ite (fun _ => ?_) fun _ => htimer _
  split
  · exact htimer _
  · exact of_ite (fun _ => hP.markFailed p h) fun _ => h

theorem failureStep (h : P s) : P s.failureStep := hP.checkPinion _ (hP.checkPinion _ h)

theorem beginSample (h : P s) : P (s.setBrake s.brake.beginSample) :=
  hP.brake ⟨rfl, rfl, rfl, id, .refl _, .refl _, .inl rfl⟩ h

end State.Kept

namespace State.KeptAtChanges

variable (hP : State.KeptAtChanges P)
include hP

theorem consistComplete (h : P s) : P s.consistComplete :=
  of_ite (fun hlife => hP.proving (running_of_life hlife nofun nofun) h) fun _ => h

theorem rejoinDone (h : P s) : P s.rejoinDone := by
  refine of_ite (fun hlife => ?_) fun _ => h
  have hrun : s.running = true := running_of_life hlife nofun nofun
  have hready : P (s.setStation { s.station with life := .ready }) := hP.ready hrun h
  have hproving : P s.enterProving := hP.proving hrun h
  split
  · exact of_ite (fun _ => hP.stop rfl hready) fun _ => hready
  · exact of_ite (fun _ => hP.stop rfl hproving) fun _ => hproving

theorem joinSent (last rejoin : Bool) (h : P s) : P (s.joinSent last rejoin) := by
  have hline {v : Line} (hown : v.own = s.line.own)
      (hun : v.phase ≠ .chainWait) (hlisten : v.listenTimer = s.line.listenTimer)
      (hheld : s.line.sendingHeld → v.sendingHeld) (horders : v.orders = s.line.orders)
      (hreplies : v.replies = s.line.replies) : P (s.setLine v) :=
    hP.line ⟨hown, fun h hphase => hown.trans (h (.inr (hlisten ▸ hphase.resolve_left hun))), hheld, by rw [horders]; exact id,
      by rw [hreplies]; exact id⟩ h
  refine of_ite (fun _ => ?_) fun _ => of_ite (fun _ => ?_) fun _ => ?_
  · exact hP.rejoinDone (hline rfl nofun rfl id rfl rfl)
  · exact hP.consistComplete (hline rfl nofun rfl id rfl rfl)
  · exact hline rfl nofun rfl id rfl rfl

theorem heldSent (hfree : s.line.sending = none) (h : P s) : P s.heldSent := by
  unfold State.heldSent
  split
  next => exact h
  next held _ =>
    have hleft := hP.clear (k := .lineCongestion) (by decide) (hP.line (v := { s.line with
      stateSlot := s.line.stateBehind, stateBehind := none, discards := 0 })
      ⟨rfl, id, fun _ => by simp [Line.sendingHeld, hfree], id, id⟩ h)
    dsimp only
    split
    next => exact hleft
    next => exact hP.joinSent _ _ hleft

theorem frameSent (h : P s) : P s.frameSent := by
  have hline {v : Line} (hown : v.own = s.line.own) (hphase : v.phase = s.line.phase)
      (hlisten : v.listenTimer = s.line.listenTimer) (hfree : v.sending = none)
      (horders : v.orders.length ≤ s.line.orders.length) (hreplies : v.replies.length ≤ s.line.replies.length) :
      P (s.setLine v) := by
    refine hP.line ⟨hown, ?_, fun _ => by simp [Line.sendingHeld, hfree], horders.trans, hreplies.trans⟩ h
    simp [Line.unnumbered, hown, hphase, hlisten]
  unfold State.frameSent
  split
  next => exact h
  next => exact hline rfl rfl rfl rfl le_rfl le_rfl
  next => exact hline rfl rfl rfl rfl (by simp) le_rfl
  next => exact hP.heldSent rfl (hline rfl rfl rfl rfl le_rfl le_rfl)
  next => exact hline rfl rfl rfl rfl le_rfl (by simp)

theorem completeByJoin (last : Bool) (h : P s) : P (s.completeByJoin last) :=
  of_ite (fun _ => hP.clear (by decide) (hP.consistComplete
    (hP.line ⟨rfl, fun hun hphase => hun (hphase.imp nofun id), id, id, id⟩ h))) fun _ => h

theorem numberByJoin (fields : JoinFields) (h : P s) : P (s.numberByJoin fields) :=
  hP.tryTakeNumber (hP.completeByJoin _ (of_ite
    (fun _ => hP.line (.of_eq rfl rfl rfl rfl rfl rfl rfl rfl) h) fun _ => h))

theorem completeProof (h : P s) : P s.completeProof := by
  have hdone : P (s.setBrake
      { s.brake.pinionsFull with
        proof := { s.brake.pinionsFull.proof with state := .done }
        settleTimer := none
        pinions :=
          { p1 := s.brake.pinionsFull.pinions.p1.restoredBy s.brake.proof.results.p1
            p2 := s.brake.pinionsFull.pinions.p2.restoredBy s.brake.proof.results.p2 } }) :=
    hP.brake ⟨rfl, rfl, rfl, nofun, ⟨rfl, rfl, .inr rfl⟩, ⟨rfl, rfl, .inr rfl⟩, .inl rfl⟩ h
  refine of_ite (fun _ => of_ite (fun hlife => hP.ready (running_of_life hlife nofun nofun) (hP.clear (by decide) ?_))
    fun _ => hP.clear (by decide) ?_) fun _ => hP.raise _ ?_ <;>
    exact of_ite (fun _ => hdone) fun _ => hP.clear (by decide) hdone

theorem stopIfWarned (hrun : s.running = true) (h : P s) : P s.stopIfWarned :=
  of_ite (fun _ => hP.stop hrun h) fun _ => h

end State.KeptAtChanges

/-! ## The brake cycle -/

theorem State.running_congr_life (h : t.station.life = s.station.life) : t.running = s.running := by
  simp [State.running, h]

@[simp] theorem State.setValley_frame (status : ValleyStatus) (supervision : Timer) :
    (s.setValley status supervision).pending = s.pending ∧ (s.setValley status supervision).clock = s.clock
    ∧ (s.setValley status supervision).rack = s.rack ∧ (s.setValley status supervision).engagement = s.engagement
    ∧ (s.setValley status supervision).line = s.line ∧ (s.setValley status supervision).peers = s.peers
    ∧ (s.setValley status supervision).brake = s.brake ∧ (s.setValley status supervision).doors = s.doors
    ∧ (s.setValley status supervision).restrictions = s.restrictions
    ∧ (s.setValley status supervision).faults = s.faults ∧ (s.setValley status supervision).station = s.station
    ∧ (s.setValley status supervision).store = s.store ∧ (s.setValley status supervision).pins = s.pins := by
  simp [State.setValley]

@[simp] theorem State.numbered_frame (n : Fin 8) :
    (s.numbered n).pending = s.pending ∧ (s.numbered n).clock = s.clock ∧ (s.numbered n).rack = s.rack
    ∧ (s.numbered n).engagement = s.engagement
    ∧ (s.numbered n).restrictions = s.restrictions ∧ (s.numbered n).station = s.station
    ∧ (s.numbered n).store = s.store ∧ (s.numbered n).pins = s.pins := by
  simp [State.numbered]

@[simp] theorem State.restrict_frame (e : Restriction) :
    (s.restrict e).1.pending = s.pending ∧ (s.restrict e).1.clock = s.clock ∧ (s.restrict e).1.rack = s.rack
    ∧ (s.restrict e).1.engagement = s.engagement ∧ (s.restrict e).1.peers = s.peers
    ∧ (s.restrict e).1.radio = s.radio ∧ (s.restrict e).1.station = s.station ∧ (s.restrict e).1.store = s.store
    ∧ (s.restrict e).1.pins = s.pins := by
  unfold State.restrict
  (repeat' split) <;> simp

/-- A property of the station state and the store's validity mark alone: no part of a command's effect touches them but
the changes of the station state. -/
theorem State.Kept.of_station (hP : ∀ {s t : State}, P s → t.station = s.station → t.store = s.store → P t) :
    State.Kept P := by
  constructor
  all_goals
    intros
    exact hP ‹P _› (by simp) (by simp)

theorem State.enterProving_running : (s.enterProving).running = true := rfl

theorem State.beginStop_running (h : s.running = true) : s.beginStop.running = true :=
  (State.running_congr_life (by simp [State.beginStop])).trans h

/-- Whether the blocks run is itself kept: a change of the station state is from one running state to another. -/
theorem State.running_kept : State.KeptInCycle fun s => s.running = true where
  toKept := .of_station fun h hstation _ => (State.running_congr hstation).trans h
  proving _ _ := rfl
  ready _ _ := rfl
  stop hrun _ := beginStop_running hrun
  cycle _ h := (State.running_congr (by simp)).trans h
  release h := (State.running_congr (by simp)).trans h

namespace State.KeptInCycle

variable (hP : State.KeptInCycle P)
include hP

theorem heatPinion (p : Pinion) (h : P s) : P (s.heatPinion p) :=
  hP.saturations _ (by cases p <;> exact hP.cycle ⟨rfl, rfl, rfl, id⟩ h)

theorem raiseFade (before : State) (p : Pinion) (h : P s) : P (s.raiseFade before p) :=
  of_ite (fun _ => hP.raise _ h) fun _ => h

theorem energyStep (h : P s) : P s.energyStep := by
  have hheated := hP.heatPinion .p2 (hP.heatPinion .p1 h)
  have hfaded := hP.raiseFade s .p2 (hP.raiseFade s .p1 hheated)
  exact of_ite (fun _ => hfaded) fun _ => hP.clear (by decide) hfaded

theorem takeReading (p : Pinion) (h : P s) : P (s.takeReading p) := by
  have hread := hP.cycle (v := { s.brake with
    sampleSum := s.brake.sampleSum + s.feedbackOf p, sampleCount := s.brake.sampleCount + 1 }) ⟨rfl, rfl, rfl, id⟩ h
  refine of_ite (fun _ => ?_) fun _ => hread
  cases p
  · exact hP.cycle ⟨rfl, rfl, rfl, id⟩ hread
  · exact hP.completeProof (hP.cycle ⟨rfl, rfl, rfl, id⟩ hread)

theorem sampleStep (h : P s) : P s.sampleStep := by
  refine of_ite (fun _ => ?_) fun _ => h
  split
  · exact h
  · exact hP.takeReading _ h
  · exact h
  · exact hP.takeReading _ h

theorem automaticStep (hrun : s.running = true) (h : P s) : P s.automaticStep :=
  of_ite (fun hpending => hP.startProof hrun hpending.2 h) fun _ => h

theorem sharingStep (h : P s) : P s.sharingStep := hP.saturations _ (hP.cycle ⟨rfl, rfl, rfl, id⟩ h)

theorem modesStep (h : P s) : P s.modesStep := by
  refine of_ite (fun _ => hP.cycle ⟨rfl, rfl, rfl, id⟩ h) fun _ => of_ite (fun _ => ?_) fun _ => of_ite
    (fun _ => hP.cycle ⟨rfl, rfl, rfl, id⟩ h) fun _ => of_ite (fun _ => hP.cycle ⟨rfl, rfl, rfl, id⟩ h) fun _ =>
      hP.cycle ⟨rfl, rfl, rfl, id⟩ h
  have htesting := Brake.testing_cycles s.brake.proof.phase.tested s.brake
  exact hP.cycle ⟨htesting.latch, htesting.ownPull, htesting.applied, htesting.proof⟩ h

/-- The steps of a brake cycle before its output modes. -/
theorem beforeModes (hrun : s.running = true) (h : P s) :
    P (((((s.energyStep.failureStep).sampleStep).automaticStep).releaseStep).sharingStep) := by
  have hsampled := hP.sampleStep (hP.failureStep (hP.energyStep h))
  have hrun := running_kept.sampleStep (running_kept.failureStep (running_kept.energyStep hrun))
  exact hP.sharingStep (hP.release (hP.automaticStep hrun hsampled))

theorem brakeCycle (hrun : s.running = true) (h : P s) : P s.brakeCycle := hP.modesStep (hP.beforeModes hrun h)

end State.KeptInCycle

end Sys2Proof.Machine
end

section
/-! SUPPORT. Every command, step by step: a property that is kept by the parts of a command's effect, by its moment and by
the retained store is kept by `exec` and by `step`. -/

namespace Sys2Proof.Machine

/-- A property that the effect of every command keeps, but for the starts and the commands at which the station state may
change without a loss of supply, by what it is made of: besides the shared operations, the level inputs, the retained
store, and the effects that change a block beyond its own bounds before they announce it. -/
structure State.KeptByEffects (P : State → Prop) : Prop extends State.Kept P where
  stop : ∀ {s}, s.running = true → P s → P s.beginStop
  levels : ∀ {s v}, v.loopOthers = s.pins.levels.loopOthers ∨ v.loopOthers = false → P s →
    P (s.setPins { s.pins with levels := v })
  keepStore : ∀ {s}, P s → P s.keepStore
  tooth : ∀ {s} sensor phase, P s → P (s.toothEdge sensor phase)
  wheel : ∀ {s} leads, P s → P (s.wheelPulse leads)
  mark : ∀ {s dm}, dm ≤ 1000000 → P s → P ((s.markTaken dm).afterMove s)
  disagree : ∀ {s}, P s →
    P (((s.setRack
      (if s.countingTeeth then { s.rack with disagreeTimer := none : Rack }.transfer
        else { s.rack with disagreeTimer := none })).raise .speedDisagree).afterMove s)
  limits : ∀ {s}, P s → P s.limitsFormed
  loop : ∀ {s}, P s →
    P ((s.setPins { s.pins with levels := { s.pins.levels with loopOthers := true } }).whileRunning State.senseLoop)
  supplyGood : ∀ {s}, s.running = true → P s →
    P (((s.setStation { s.station with storing := false }).setStore { s.store with valid := false }).clear .supplyFail)

/-- A property that the effect of this command keeps if it is one at which the station state may change (R196). -/
structure State.KeptAt (c : Instr) (P : State → Prop) : Prop where
  cycle : ∀ m, c = .brakeCycle m → ∀ {s}, s.running = true → P s → P s.brakeCycle
  sent : ∀ m, c = .frameSent m → ∀ {s}, P s → P s.frameSent
  join : ∀ m source fields, c = .receiveJoin m source fields → ∀ {s}, P s → P (s.numberByJoin fields)

theorem State.KeptAtChanges.keptAt {P : State → Prop} (hP : State.KeptAtChanges P) {c : Instr}
    (hcycle : ∀ m, c = .brakeCycle m → ∀ {s}, s.running = true → P s → P s.brakeCycle) : State.KeptAt c P where
  cycle := hcycle
  sent _ _ := hP.frameSent
  join _ _ fields _ := hP.numberByJoin fields

/-- A property that every command keeps, the brake cycle, the starts and the moment with it. -/
structure State.KeptByCommands (P : State → Prop) : Prop extends State.KeptByEffects P, State.KeptAtChanges P where
  cycle : ∀ {s}, s.running = true → P s → P s.brakeCycle
  moment : ∀ {s} m, P s → P (s.atMoment m)
  pending : ∀ {s v}, P s → P (s.setPending v)
  start : ∀ {c s t}, isStart c = true → P s → exec c s = .next t → P t

namespace State.KeptByEffects

variable {P : State → Prop} {s t : State} {m : Moment} {effect : State → State}

section
variable (hP : State.KeptByEffects P)
include hP

theorem whileRunning (heffect : ∀ {u}, u.running = true → P u → P (effect u)) (h : P s) : P (s.whileRunning effect) :=
  of_ite (fun hrun => hP.keepStore (heffect hrun h)) fun _ => h

theorem runCommand (hexec : runCommand m effect s = .next t)
    (heffect : ∀ {u}, u.running = true → P u → P (effect u)) (h : P (s.atMoment m)) : P t := by
  cases hexec
  exact hP.whileRunning heffect (h)

theorem runLevels {levels : Levels → Levels} (hexec : runLevels m levels effect s = .next t)
    (hloop : ∀ v, (levels v).loopOthers = v.loopOthers ∨ (levels v).loopOthers = false)
    (heffect : ∀ {u}, u.running = true → P u → P (effect u)) (h : P (s.atMoment m)) : P t := by
  cases hexec
  exact hP.whileRunning heffect (hP.levels (hloop _) (h))

theorem runFrame (hexec : runFrame m effect s = .next t)
    (heffect : ∀ {u}, u.running = true → P u → P (effect u)) (h : P (s.atMoment m)) : P t := by
  refine hP.runCommand hexec (fun hrun hu => ?_) h
  exact of_ite (fun _ => hu) fun _ => heffect ((running_congr (by simp)).trans hrun) (hP.line (Line.occupied_stays _) hu)

theorem runCommandFrame {sub : Subkind} {source : Fin 8} {target : Byte} {param : BitVec 16}
    (hexec : runCommandFrame m sub source target param effect s = .next t)
    (heffect : ∀ {u}, u.running = true → P u → P (effect u)) (h : P (s.atMoment m)) : P t := by
  refine hP.runFrame hexec (fun hrun hu => ?_) h
  refine of_ite (fun _ => ?_) fun _ => hP.countBad hu
  exact of_ite (fun _ => heffect ((running_congr (by simp)).trans hrun) (hP.clashTest _ hu)) fun _ => hP.clashTest _ hu

theorem runOrder {via : Via} {sequence : Byte} {order : ValleyOrder} {apply : State → State × OrderResult}
    (hexec : runOrder m via sequence order apply s = .next t) (happly : ∀ {u}, P u → P (apply u).1) (h : P (s.atMoment m)) : P t := by
  cases via with
  | radio address => exact hP.runCommand hexec (fun _ hu => of_ite (fun _ => hP.radioOrder happly hu) fun _ => hu) h
  | line source =>
    exact hP.runFrame hexec (fun _ => hP.handOn true source fun hu => of_ite
      (fun _ => hP.lineOrder happly (hP.endHoldOff hu)) fun _ => hP.endHoldOff hu) h

omit hP in
theorem whenDue {timer : Timer} {limit : Nat} (heffect : P s → P (effect s)) (h : P s) :
    P (s.whenDue timer limit effect) :=
  of_ite (fun _ => heffect h) fun _ => h

/-! ## Commands whose effect is written out in their arm -/

theorem execSourceRest {source : SpeedSource} (h : P (s.atMoment m)) (hexec : execSourceRest m source s = .next t) : P t := by
  refine hP.runCommand hexec (fun _ hu => ?_) h
  cases source <;> exact whenDue (fun hu => hP.rack ⟨rfl, rfl, rfl, rfl, rfl, id⟩ hu) hu

theorem execSpeedAgreeExpiry (h : P (s.atMoment m)) (hexec : execSpeedAgreeExpiry m s = .next t) : P t := by
  refine hP.runCommand hexec (fun _ hu => whenDue (fun hu => hP.clear (by decide) (hP.rack ?_ hu)) hu) h
  split <;> exact ⟨rfl, rfl, rfl, rfl, rfl, id⟩

theorem execTrackMark {dm : Nat} (h : P (s.atMoment m)) (hexec : execTrackMark m dm s = .next t) : P t :=
  hP.runCommand hexec (fun _ hu => of_ite (fun hdm => hP.mark hdm hu) fun _ => hu) h

theorem execGradeSampleExpiry {reading : Option Int} (h : P (s.atMoment m)) (hexec : execGradeSampleExpiry m reading s = .next t) :
    P t := by
  refine hP.runCommand hexec (fun _ hu => whenDue (fun hu => ?_) hu) h
  refine hP.evaluateSpeed (hP.publishGrade (hP.reformGradeSensor _ (hP.rack ?_ hu)))
  cases validSample (State.straps _).orient reading <;> exact ⟨rfl, rfl, rfl, rfl, rfl, id⟩

theorem execConditionHoldExpiry {kind : HeldKind} (h : P (s.atMoment m)) (hexec : execConditionHoldExpiry m kind s = .next t) :
    P t := by
  refine hP.runCommand hexec (fun _ hu => ?_) h
  cases kind <;> exact whenDue (fun hu => hP.clear (by decide) (hP.engagement ⟨.refl _, .refl _⟩ hu)) hu

theorem execStatePeriodExpiry (h : P (s.atMoment m)) (hexec : execStatePeriodExpiry m s = .next t) : P t := by
  refine hP.runCommand hexec (fun _ hu => whenDue (fun hu => ?_) hu) h
  have hperiod := fun u hu => hP.line (s := u) (v := { u.line with statePeriod := some u.clock })
    (.of_eq rfl rfl rfl rfl rfl rfl rfl rfl) hu
  dsimp only
  split
  · exact hperiod _ hu
  · exact hP.placeState _ (hperiod _ hu)

theorem execJoinRetry (h : P (s.atMoment m)) (hexec : execJoinRetry m s = .next t) : P t := by
  refine hP.runCommand hexec (fun _ hu => whenDue (fun hu => ?_) hu) h
  have hended := fun u hu => hP.line (s := u) (v := { u.line with joinRetry := none })
    (.of_eq rfl rfl rfl rfl rfl rfl rfl rfl) hu
  dsimp only
  split
  · exact hP.placeJoin _ (hended _ hu)
  · exact hended _ hu

theorem execBadFrame {frame : LineFrame} (h : P (s.atMoment m)) (hexec : execBadFrame m frame s = .next t) : P t := by
  refine hP.runFrame hexec (fun _ hu => of_ite (fun _ => of_ite (fun _ => ?_) fun _ => hP.countBad hu) fun _ => hu) h
  exact hP.line (.of_eq rfl rfl rfl rfl rfl rfl rfl rfl) (hP.countBad hu)

theorem execLineQualityWindowEnd (h : P (s.atMoment m)) (hexec : execLineQualityWindowEnd m s = .next t) : P t := by
  refine hP.runCommand hexec (fun _ hu => whenDue (fun hu => of_ite (fun _ => hP.clear (by decide) ?_) fun _ => ?_) hu) h <;>
    exact hP.line (.of_eq rfl rfl rfl rfl rfl rfl rfl rfl) hu

/-- At the end of the listen window the timer still runs, so the station has no number yet. -/
theorem execListenWindowEnd (h : P (s.atMoment m)) (hexec : execListenWindowEnd m s = .next t) : P t := by
  refine hP.runCommand hexec (fun {u} _ hu => of_ite (fun hdue => ?_) fun _ => hu) h
  have hlistens : u.line.listenTimer.isSome = true := by
    revert hdue
    unfold timerReached
    split <;> simp_all
  refine of_ite (fun _ => hP.tryTakeNumber ?_) fun _ => ?_
  · exact hP.line (s := u) (v := { u.line with listenTimer := none, phase := .chainWait, chainWaitTimer := some u.clock })
      ⟨rfl, fun hun _ => hun (.inr hlistens), id, id, id⟩ hu
  · exact hP.placeJoin _ (hP.startReports (hP.numbered (s := u) 0 (fun hun => hun (.inr hlistens)) hu))

theorem execNeighbourSenseInput {carEnd : CarEnd} {level : Bool} (h : P (s.atMoment m))
    (hexec : execNeighbourSenseInput m carEnd level s = .next t) : P t := by
  unfold Machine.execNeighbourSenseInput at hexec
  exact hP.runLevels hexec (fun _ => .inl (by cases carEnd <;> rfl)) (fun _ => hP.line (Line.mapSense_stays _ _ _)) h

theorem execChainInChange {carEnd : CarEnd} {level : Bool} (h : P (s.atMoment m))
    (hexec : execChainInChange m carEnd level s = .next t) : P t := by
  unfold Machine.execChainInChange at hexec
  exact hP.runLevels hexec (fun _ => .inl (by cases carEnd <;> rfl)) (fun _ => hP.tryTakeNumber) h

theorem execFullyOpenSwitch {door : DoorId} (h : P (s.atMoment m)) (hexec : execFullyOpenSwitch m door s = .next t) : P t := by
  refine hP.runLevels hexec (fun _ => .inl rfl) (fun _ hu => of_ite (fun hopening => ?_) fun _ => hu) h
  exact hP.door (.of_away (by simp [hopening]) (by simp)) hu

theorem execOpenButton {door : DoorId} (h : P (s.atMoment m)) (hexec : execOpenButton m door s = .next t) : P t := by
  refine hP.runCommand hexec (fun _ hu => of_ite (fun hreleased => ?_) fun _ => hu) h
  exact hP.door (.of_away (by simp [hreleased]) (by simp)) hu

theorem execDoorOpeningTimeout {door : DoorId} (h : P (s.atMoment m)) (hexec : execDoorOpeningTimeout m door s = .next t) : P t := by
  refine hP.runCommand hexec (fun _ hu => whenDue (fun hu => of_ite (fun hopening => hP.raise _ ?_) fun _ => hu) hu) h
  exact hP.door (.of_away (by simp [hopening]) (by simp)) hu

theorem execDoorReopenExpiry {door : DoorId} (h : P (s.atMoment m)) (hexec : execDoorReopenExpiry m door s = .next t) : P t := by
  refine hP.runCommand hexec (fun _ hu => whenDue (fun hu => of_ite (fun hreopening => ?_) fun _ => hu) hu) h
  exact hP.door (.of_away (by simp [hreopening]) (by simp)) hu

theorem execSendMessageDone (h : P (s.atMoment m)) (hexec : execSendMessageDone m s = .next t) : P t := by
  refine hP.runCommand hexec (fun {u} _ hu => hP.radio ?_ hu) h
  unfold Radio.sent
  split
  · exact ⟨rfl, rfl, rfl, id, id⟩
  · exact ⟨rfl, rfl, rfl, id, fun hacks => by simp; omega⟩
  · exact ⟨rfl, rfl, rfl, id, id⟩

theorem execLoopReleased (h : P (s.atMoment m)) (hexec : execLoopReleased m s = .next t) : P t := by
  unfold Machine.execLoopReleased at hexec
  exact hP.runLevels hexec (fun _ => .inr rfl) (fun _ => id) h

theorem execChannelBusyChange {busy : Bool} (h : P (s.atMoment m)) (hexec : execChannelBusyChange m busy s = .next t) : P t := by
  unfold Machine.execChannelBusyChange at hexec
  exact hP.runLevels hexec (fun _ => .inl rfl) (fun _ => id) h

theorem execSupplyWarn (h : P (s.atMoment m)) (hexec : execSupplyWarn m s = .next t) : P t := by
  unfold Machine.execSupplyWarn at hexec
  exact hP.runLevels hexec (fun _ => .inl rfl) (fun hrun hu => of_ite (fun _ => hP.stop hrun hu) fun _ => hu) h

theorem execSupplyGood (h : P (s.atMoment m)) (hexec : execSupplyGood m s = .next t) : P t := by
  unfold Machine.execSupplyGood at hexec
  exact hP.runLevels hexec (fun _ => .inl rfl) hP.supplyGood h

theorem execLoopPulled (h : P (s.atMoment m)) (hexec : execLoopPulled m s = .next t) : P t := by
  cases hexec
  exact hP.loop (h)

end

end State.KeptByEffects

open State.KeptByEffects in
/-- What is kept by the parts of an effect is kept by every command that is not a start. -/
theorem State.KeptByEffects.exec {P : State → Prop} (hP : State.KeptByEffects P) {c : Instr} {s t : State}
    (hc : isStart c = false) (hat : State.KeptAt c P) (h : P (s.atMoment c.moment)) (hexec : exec c s = .next t) : P t := by
  have hline {u : State} {v : Line} (hown : v.own = u.line.own) (hphase : v.phase = u.line.phase)
      (hlisten : v.listenTimer = u.line.listenTimer) (hsending : v.sending = u.line.sending)
      (halert : v.alert = u.line.alert) (horders : v.orders = u.line.orders) (hslot : v.stateSlot = u.line.stateSlot)
      (hreplies : v.replies = u.line.replies) (hu : P u) : P (u.setLine v) :=
    hP.line (.of_eq hown hphase hlisten hsending halert horders hslot hreplies) hu
  cases c with
  | toothEdge _ sensor phase => exact hP.runCommand hexec (fun _ => hP.tooth sensor phase) h
  | wheelPulse _ leads => exact hP.runCommand hexec (fun _ => hP.wheel leads) h
  | sourceRest => exact hP.execSourceRest h hexec
  | speedDisagreeExpiry => exact hP.runCommand hexec (fun _ hu => whenDue hP.disagree hu) h
  | speedAgreeExpiry => exact hP.execSpeedAgreeExpiry h hexec
  | standstillConfirmed =>
    exact hP.runCommand hexec (fun _ hu => of_ite (fun _ => hu) fun _ => whenDue hP.confirmStandstill hu) h
  | trackMark => exact hP.execTrackMark h hexec
  | gradeSampleExpiry => exact hP.execGradeSampleExpiry h hexec
  | conditionHoldExpiry => exact hP.execConditionHoldExpiry h hexec
  | lineIdle => exact hP.runCommand hexec (fun _ hu => of_ite (fun _ => hP.line (Line.beginIdle_stays _) hu) fun _ => hu) h
  | contentionLost => exact hP.runCommand hexec (fun _ => hP.contentionLost) h
  | frameSent => exact hP.runCommand hexec (fun _ => hat.sent _ rfl) h
  | orderHoldOffExpiry => exact hP.runCommand hexec (fun _ hu => whenDue hP.endHoldOff hu) h
  | chainOutActivate =>
    exact hP.runCommand hexec (fun _ hu => whenDue (hline rfl rfl rfl rfl rfl rfl rfl rfl) hu) h
  | statePeriodExpiry => exact hP.execStatePeriodExpiry h hexec
  | accessTimeout => exact hP.runCommand hexec (fun _ => hP.accessTimeout) h
  | joinRetry => exact hP.execJoinRetry h hexec
  | receiveJoin _ source fields =>
    exact hP.runFrame hexec (fun _ => hP.handOn _ _ fun hu => hat.join _ _ _ rfl (hP.peerJoin _ _ hu)) h
  | receiveState => exact hP.runFrame hexec (fun _ => hP.handOn _ _ (hP.peerState _ _)) h
  | receiveAlert => exact hP.runFrame hexec (fun _ => hP.handOn _ _ (hP.peerAlert _ _)) h
  | receiveInspectReply => exact hP.runFrame hexec (fun _ => hP.handOn _ _ id) h
  | badFrame => exact hP.execBadFrame h hexec
  | unknownFrameDropped => exact hP.runFrame hexec (fun _ => id) h
  | lineQualityWindowEnd => exact hP.execLineQualityWindowEnd h hexec
  | clashTimerExpiry =>
    exact hP.runCommand hexec (fun _ hu => whenDue
      (fun hu => hP.clear (by decide) (hline rfl rfl rfl rfl rfl rfl rfl rfl hu)) hu) h
  | neighbourSenseInput => exact hP.execNeighbourSenseInput h hexec
  | neighbourSenseFiltered =>
    exact hP.runCommand hexec (fun _ hu => whenDue
      (fun hu => hP.reformConsistChanged (hP.line (Line.mapSense_stays _ _ _) hu)) hu) h
  | listenWindowEnd => exact hP.execListenWindowEnd h hexec
  | chainInChange => exact hP.execChainInChange h hexec
  | chainWaitExpiry => exact hP.runCommand hexec (fun _ hu => whenDue hP.goSilent hu) h
  | completionWaitExpiry =>
    exact hP.runCommand hexec (fun _ hu => whenDue
      (fun hu => hP.raise _ (hline rfl rfl rfl rfl rfl rfl rfl rfl hu)) hu) h
  | peerStale => exact hP.runCommand hexec (fun _ hu => whenDue (hP.peerStale _) hu) h
  | peerLost => exact hP.runCommand hexec (fun _ hu => whenDue (hP.peerLost _) hu) h
  | service =>
    exact hP.runCommandFrame hexec (fun _ => hP.brake ⟨rfl, rfl, rfl, id, .refl _, .refl _, .inl rfl⟩) h
  | release =>
    exact hP.runCommandFrame hexec (fun _ hu => of_ite (fun _ => hu) fun _ =>
      hP.brake ⟨rfl, rfl, rfl, id, .refl _, .refl _, .inl rfl⟩ hu) h
  | proof => exact hP.runCommandFrame hexec hP.proof h
  | doorsRelease => exact hP.runCommandFrame hexec (fun _ => hP.doorsRelease _) h
  | doorsClose => exact hP.runCommandFrame hexec (fun _ => hP.doorsClose) h
  | consistReset => exact hP.runCommandFrame hexec (fun _ => hP.consistReset) h
  | inspect => exact hP.runCommandFrame hexec (fun _ => hP.inspect _ _) h
  | supervisionComputation =>
    exact hP.runCommand hexec (fun _ hu => whenDue
      (fun hu => hP.supervise (hP.limits (hP.speed rfl rfl hu))) hu) h
  | brakeCycle =>
    exact hP.runCommand hexec (fun hrun hu => whenDue
      (fun hu => hat.cycle _ rfl hrun (hP.brake ⟨rfl, rfl, rfl, id, .refl _, .refl _, .inl rfl⟩ hu)) hu) h
  | pinionFailureTimeout =>
    exact hP.runCommand hexec (fun _ hu => whenDue (fun hu => of_ite (fun _ => hP.markFailed _ hu) fun _ => hu) hu) h
  | proofSettleExpiry =>
    exact hP.runCommand hexec (fun _ hu => whenDue (fun hu => of_ite (fun _ => hP.beginSample hu) fun _ => hu) hu) h
  | loopPulled => exact hP.execLoopPulled h hexec
  | loopReleased => exact hP.execLoopReleased h hexec
  | lockSwitchMade => exact hP.runLevels hexec (fun _ => .inl rfl) (fun _ => hP.lockMade _) h
  | lockSwitchLost => exact hP.runLevels hexec (fun _ => .inl rfl) (fun _ => hP.lockLost _) h
  | fullyOpenSwitch => exact hP.execFullyOpenSwitch h hexec
  | obstructionEdge => exact hP.runCommand hexec (fun _ => hP.obstruct _) h
  | openButton => exact hP.execOpenButton h hexec
  | handleActive => exact hP.runLevels hexec (fun _ => .inl rfl) (fun _ => hP.handleActive _) h
  | handleInactive => exact hP.runLevels hexec (fun _ => .inl rfl) (fun _ => hP.handleInactive _) h
  | doorOpeningTimeout => exact hP.execDoorOpeningTimeout h hexec
  | doorClosingTimeout => exact hP.runCommand hexec (fun _ hu => whenDue (hP.obstruct _) hu) h
  | doorReopenExpiry => exact hP.execDoorReopenExpiry h hexec
  | linkStatus =>
    exact hP.runCommand hexec (fun _ hu => of_ite (fun _ => hP.radio ⟨rfl, rfl, rfl, id, id⟩ hu) fun _ => hu) h
  | modemMessageDiscarded => exact hP.runCommand hexec (fun _ => id) h
  | restrict => exact hP.runOrder hexec (hP.applyRestrict _ _ _ _) h
  | lift => exact hP.runOrder hexec (hP.applyLift _) h
  | halt => exact hP.runOrder hexec (hP.raise _) h
  | proceed => exact hP.runOrder hexec hP.applyProceed h
  | allHalt => exact hP.runOrder hexec (hP.raise _) h
  | platformRelease => exact hP.runOrder hexec (hP.applyPlatform _ _ _) h
  | supervise => exact hP.runOrder hexec id h
  | linkStatusTimeout =>
    exact hP.runCommand hexec (fun _ hu => whenDue
      (fun hu => hP.valleyGone (hP.radio ⟨rfl, rfl, rfl, id, id⟩ hu)) hu) h
  | radioSupervisionExpiry =>
    exact hP.runCommand hexec (fun _ hu => whenDue
      (fun hu => hP.valleyGone (hP.radio ⟨rfl, rfl, rfl, id, id⟩ hu)) hu) h
  | positionReportExpiry =>
    exact hP.runCommand hexec (fun _ hu => whenDue
      (fun hu => hP.buildReport (hP.radio ⟨rfl, rfl, rfl, id, id⟩ hu)) hu) h
  | sendMessageStart =>
    exact hP.runCommand hexec (fun _ hu => of_ite (fun _ => hP.radio ⟨rfl, rfl, rfl, id, id⟩ hu) fun _ => hu) h
  | sendMessageDone => exact hP.execSendMessageDone h hexec
  | channelBusyChange => exact hP.execChannelBusyChange h hexec
  | supplyWarn => exact hP.execSupplyWarn h hexec
  | supplyGood => exact hP.execSupplyGood h hexec
  | dropOut => cases hc
  | storeHoldupExpiry => cases hc
  | powerOn => cases hc
  | strapsRead => cases hc
  | tenRecessiveBitTimes =>
    exact hP.runCommand hexec (fun _ hu => of_ite (fun _ => hP.line (Line.beginIdle_stays _) hu) fun _ => hu) h
  | startBitOnLine => exact hP.runCommand hexec (fun _ => hP.line (Line.occupied_stays _)) h
  | orderFrameDiscarded =>
    exact hP.runFrame hexec (fun _ => hP.handOn _ _ fun hu => of_ite (fun _ => hP.endHoldOff hu) fun _ => hu) h

/-- What is kept by the parts of every command is kept by every command. -/
theorem State.KeptByCommands.exec {P : State → Prop} (hP : State.KeptByCommands P) {c : Instr} {s t : State} (h : P s)
    (hexec : exec c s = .next t) : P t := by
  cases hc : isStart c with
  | true => exact hP.start hc h hexec
  | false => exact hP.toKeptByEffects.exec hc (hP.toKeptAtChanges.keptAt fun _ _ => hP.cycle) (hP.moment _ h) hexec

/-- A step on an empty queue idles, and any other runs its front command. -/
theorem State.KeptByCommands.step {P : State → Prop} (hP : State.KeptByCommands P) {s t : State} (h : P s)
    (hstep : step s = .next t) : P t := by
  unfold Machine.step at hstep
  split at hstep
  · cases hstep
    exact h
  · exact hP.exec (hP.pending h) hstep

end Sys2Proof.Machine
end

section
/-! SUPPORT. Properties that read few blocks: `State.KeptFreely P` asks only for updates of single blocks besides the
reports of faults and the holding brake, `State.KeptBlockwise P` for updates of single blocks alone. Both give
`State.Kept P`. -/

namespace Sys2Proof.Machine

variable {P : State → Prop} {s : State}

/-- A property that does not read the rack, the limits, the placing of restrictions, the platform or the valley state. -/
structure State.KeptFreely (P : State → Prop) : Prop where
  rack : ∀ {s v}, P s → P (s.setRack v)
  freeCount : ∀ {s v}, P s → P (s.setFreeCount v)
  engagement : ∀ {s} {v : Engagement}, (s.engagement.pinions.p1.window.ok → v.pinions.p1.window.ok) →
    (s.engagement.pinions.p2.window.ok → v.pinions.p2.window.ok) → P s → P (s.setEngagement v)
  line : ∀ {s v}, s.line.Stays v → P s → P (s.setLine v)
  brake : ∀ {s v}, s.brake.Stays v → P s → P (s.setBrake v)
  doors : ∀ {s v}, (s.doorsOk → (s.setDoors v).doorsOk) → P s → P (s.setDoors v)
  radio : ∀ {s} {v : Radio}, (windowOk s.radio.window → windowOk v.window) →
    (s.radio.acks.length ≤ 3 → v.acks.length ≤ 3) → P s → P (s.setRadio v)
  speed : ∀ {s v}, P s → P (s.setSpeed v)
  restrictions : ∀ {s v}, (restrictionsOk s.restrictions → restrictionsOk v) → P s → P (s.setRestrictions v)
  records : ∀ {s f}, f.flags = s.faults.flags → (s.faults.sound → f.sound) → P s → P (s.setFaults f)
  peers : ∀ {s} {v : Vector PeerEntry 8}, (∀ i : Fin 8, v[i].state = .self ↔ s.peers[i].state = .self) → P s → P (s.setPeers v)
  own : ∀ {s} n, (s.line.unnumbered → s.line.own = none) → P s →
    P ((s.setLine
      { s.line with own := some n, phase := .joinWaiting, listenTimer := none, chainWaitTimer := none }).setPeer n
        { PeerEntry.blank with state := .self })
  loadFails : ∀ {s}, P s → P (s.recordOccurrence .loadSensor)
  loadReads : ∀ {s}, P s → P (s.recordGoing .loadSensor)
  raise : ∀ {s} k, P s → P (s.raise k)
  clear : ∀ {s k}, k ≠ .supplyFail → P s → P (s.clear k)
  applyHolding : ∀ {s}, P s → P s.applyHolding
  resetBrake : ∀ {s}, P s → P s.resetBrake
  startProof : ∀ {s}, s.running = true → s.proofRefusal = .none → P s → P (s.setBrake (s.brake.startProof s.clock))

/-! ## The tables of restrictions -/

/-- A list whose members keep their ids, or go, keeps no id twice. -/
theorem restrictionsOk_filterMap {t : Restrictions} {f : Restriction → Option Restriction} {overflow : Option Nat}
    (hid : ∀ e r, f e = some r → r.orderId = e.orderId) (h : restrictionsOk t) :
    restrictionsOk { entries := t.entries.filterMap f, overflow := overflow } := by
  obtain ⟨hlength, hnodup⟩ := h
  refine ⟨(List.length_filterMap_le _ _).trans hlength, ?_⟩
  have hsub (es : List Restriction) :
      ((es.filterMap f).map fun e => e.orderId).Sublist (es.map fun e => e.orderId) := by
    induction es with
    | nil => exact List.Sublist.refl _
    | cons e es ih =>
      cases hf : f e with
      | none => simpa [hf] using ih.cons e.orderId
      | some r => simpa [hf, hid e r hf] using ih
  exact hnodup.sublist (hsub _)

theorem State.evaluateEntry_orderId {e r : Restriction} (h : s.evaluateEntry e = some r) : r.orderId = e.orderId := by
  unfold State.evaluateEntry at h
  (repeat' split at h) <;> simp at h <;> rw [← h]

theorem restrictionsOk_placed {e r : Restriction} (t : Restrictions) (hid : r.orderId = e.orderId)
    (hnew : t.find e.orderId = none) (hroom : t.entries.length < 8) (h : restrictionsOk t) :
    restrictionsOk { t with entries := t.entries ++ [r] } := by
  obtain ⟨hlength, hnodup⟩ := h
  refine ⟨by simp; omega, ?_⟩
  have hfresh : ∀ x ∈ t.entries, x.orderId ≠ e.orderId := by simpa [Restrictions.find] using hnew
  simp only [List.map_append, List.map_cons, List.map_nil, hid]
  refine hnodup.append (by simp) ?_
  simpa using hfresh

namespace State.KeptFreely

variable (hP : State.KeptFreely P)
include hP

theorem lowerLimit (c : Nat) (h : P s) : P (s.lowerLimit c) := hP.speed (hP.speed h)

theorem lowerLimits (cs : List Nat) (h : P s) : P (s.lowerLimits cs) := by
  induction cs generalizing s with
  | nil => exact h
  | cons c cs ih => exact ih (hP.lowerLimit c h)

theorem latchMass (h : P s) : P s.latchMass := by
  have hlatched (payload : Nat) : P (s.latchPayload payload) :=
    hP.doors (doorsOk_setDoors id id fun _ => .refl _) h
  unfold State.latchMass
  split
  · exact of_ite (fun _ => hP.loadReads (hlatched _)) fun _ => hP.loadFails (hlatched _)
  · exact hP.loadFails (hlatched _)

theorem latchIfClosed (was : DoorSummary) (h : P s) : P (s.latchIfClosed was) :=
  of_ite (fun _ => hP.latchMass h) fun _ => h

theorem retestSide (side : CarSide) (h : P s) : P (s.retestSide side) := by
  refine of_ite (fun _ => ?_) fun _ => h
  have hdoors : s.clearSide side = s.setDoors (s.clearSide side).doors := by
    unfold State.clearSide
    split <;> rfl
  rw [hdoors]
  exact hP.doors (fun hok => hdoors ▸ doorsOk_clearSide side hok) h

theorem retest (h : P s) : P s.retestPermits := hP.latchIfClosed _ (hP.retestSide _ (hP.retestSide _ h))

theorem evaluate (h : P s) : P s.evaluateRestrictions := by
  rw [evaluateRestrictions_eq]
  exact hP.lowerLimits _ (hP.restrictions (restrictionsOk_filterMap fun _ _ => evaluateEntry_orderId) h)

theorem placeEntry {old : Option Restriction} {e : Restriction}
    (hroom : old = none → s.restrictions.find e.orderId = none ∧ s.restrictions.entries.length < 8) (h : P s) :
    P (s.placeEntry old e) := by
  have hset {entries : List Restriction}
      (hok : restrictionsOk s.restrictions → restrictionsOk { s.restrictions with entries := entries }) :
      P (match s.evaluateEntry e with
        | none => s.setRestrictions { s.restrictions with entries := entries }
        | some r =>
          if s.announcesPlacing old r then
            (s.setRestrictions { s.restrictions with entries := entries }).lowerLimit r.limit
          else s.setRestrictions { s.restrictions with entries := entries }) := by
    split
    · exact hP.restrictions hok h
    · exact of_ite (fun _ => hP.lowerLimit _ (hP.restrictions hok h)) fun _ => hP.restrictions hok h
  cases old with
  | some o =>
    refine hset (restrictionsOk_filterMap fun x r hr => ?_)
    split at hr
    next hx => rw [evaluateEntry_orderId hr, hx]
    next => cases hr; rfl
  | none =>
    refine hset fun hok => ?_
    cases heval : s.evaluateEntry e with
    | none => simpa using hok
    | some r => exact restrictionsOk_placed _ (evaluateEntry_orderId heval) (hroom rfl).1 (hroom rfl).2 hok

theorem overflow (limit : Nat) (h : P s) : P (s.overflow limit) := by
  have hset (ceiling : Nat) : P (s.setRestrictions { s.restrictions with overflow := some ceiling }) :=
    hP.restrictions id h
  exact hP.raise _ (of_ite (fun _ => hset _) fun _ => hP.lowerLimit _ (hset _))

theorem restrict (e : Restriction) (h : P s) : P (s.restrict e).1 := by
  unfold State.restrict
  split
  next old _ => exact hP.placeEntry (old := some old) (fun hnone => nomatch hnone) h
  next hnew =>
    split
    · exact hP.placeEntry (old := none) (fun _ => ⟨hnew, ‹_›⟩) h
    · exact hP.overflow _ h

theorem fewer {v : Restrictions} (hsub : v.entries.Sublist s.restrictions.entries) (h : P s) : P (s.setRestrictions v) :=
  hP.restrictions (fun ⟨hlength, hnodup⟩ => ⟨hsub.length_le.trans hlength, hnodup.sublist (hsub.map _)⟩) h

theorem reformSlip (h : P s) : P s.reformSlip := of_ite (fun _ => hP.clear (by decide) h) fun _ => h

theorem entry (h : P s) : P s.monitorEntry := by
  have hentered (p : PinionMonitor) (hok : p.window.ok) : p.entered.window.ok := by
    unfold PinionMonitor.entered
    split
    · exact hok
    · simp [Window.ok, Window.cleared]
  have hset := hP.engagement (v := { s.engagement with
    pinions := { p1 := s.engagement.pinions.p1.entered, p2 := s.engagement.pinions.p2.entered } })
    (hentered _) (hentered _) h
  exact hP.reformSlip (of_ite (fun _ => hP.lowerLimit _ hset) fun _ => hset)

theorem dropHandleReleases (h : P s) : P s.dropHandleReleases := by
  refine hP.latchIfClosed _ (hP.doors (doorsOk_setDoors id id fun d => ?_) h)
  simp only [PerDoor.get_mapIdx]
  have hdropped : s.DoorStays (s.doors.doors.get d) { s.doors.doors.get d with handleRelease := false } :=
    ⟨fun _ _ _ hshut => ⟨hshut.1, rfl⟩, fun _ => nofun⟩
  split
  · split
    · exact hdropped
    · have hwithdrawn := Door.withdraw_stays (s := s) s.clock (r := { s.doors.doors.get d with handleRelease := false }) rfl
      exact ⟨fun hfree hA hB => hwithdrawn.shut hfree hA hB ∘ hdropped.shut hfree hA hB,
        hwithdrawn.handle ∘ hdropped.handle⟩
  · exact .refl _

theorem leave (d : Direction) (h : P s) : P (s.leaveStandstill d) :=
  hP.retest (hP.dropHandleReleases (hP.radio id id (hP.engagement id id (hP.rack h))))

theorem reformValley (h : P s) : P s.reformValley := by
  have hset := hP.radio (v := { s.radio with lostWide := s.valleyLostNow }) id id h
  exact of_ite (fun _ => hP.lowerLimit _ hset) fun _ => hset

theorem peersChanged (h : P s) : P s.peersChanged := by
  have hclaims : P s.reformCabConflict :=
    of_ite (fun _ => of_ite (fun _ => h) fun _ => hP.raise _ h) fun _ => hP.clear (by decide) h
  have hlosses : P s.reformCabConflict.reformPeerLost :=
    of_ite (fun _ => hclaims) fun _ => hP.clear (by decide) hclaims
  exact hP.retest (hP.reformValley (hP.speed hlosses))

theorem setPeer {i : Fin 8} {e : PeerEntry} (hother : s.peers[i].state ≠ .self) (he : e.state ≠ .self) (h : P s) :
    P (s.setPeer i e) := by
  refine hP.peers (fun j => ?_) h
  by_cases hij : i = j
  · subst hij
    simpa [he] using hother
  · simp [Fin.val_inj, hij]

theorem kept : State.Kept P where
  rack _ := hP.rack
  freeCount := hP.freeCount
  engagement hv := hP.engagement hv.p1.ok hv.p2.ok
  line := hP.line
  brake := hP.brake
  doors hv := hP.doors hv.ok
  radio hv := hP.radio hv.window hv.acks
  speed _ _ := hP.speed
  fewer hsub _ := hP.fewer hsub
  records := hP.records
  alerts hv := hP.peers fun i => by
    obtain ⟨k, hk⟩ := hv i
    simp [hk]
  raise := hP.raise
  clear := hP.clear
  retest := hP.retest
  latchMass := hP.latchMass
  lowerLimit := hP.lowerLimit
  applyHolding := hP.applyHolding
  evaluate := hP.evaluate
  restrict := hP.restrict
  entry := hP.entry
  leave := hP.leave
  grade _ h := of_ite (fun _ => h) fun _ => hP.retest (hP.rack h)
  platform h := hP.retest (hP.radio id id h)
  valley _ _ h := hP.reformValley (hP.radio id id h)
  numbered n hown h := hP.peersChanged (hP.own n hown h)
  peer := fun {_} _ {_} hother he h => hP.peersChanged (hP.setPeer hother he h)
  lost _ hother h := hP.peersChanged (hP.raise _ (hP.setPeer hother nofun h))
  resetBrake := hP.resetBrake
  startProof := hP.startProof

theorem tooth (sensor : Pinion) (phase : Option (Fin 32)) (h : P s) : P (s.toothEdge sensor phase) :=
  hP.kept.toothEdge sensor phase (hP.rack h)

theorem wheel (leads : Bool) (h : P s) : P (s.wheelPulse leads) := hP.kept.wheelPulse leads (hP.rack h)

theorem mark {dm : Nat} (h : P s) : P ((s.markTaken dm).afterMove s) :=
  hP.kept.afterMove _ (hP.clear (by decide) (hP.rack h))

theorem limits (h : P s) : P s.limitsFormed :=
  hP.speed (hP.speed (hP.kept.judgeHoldInadequate _ (hP.kept.saturations _ h)))

end State.KeptFreely

/-! ## Properties kept block by block -/

/-- A pinion brake's energy and derated capacity stand, and its mode stands or commands nothing. -/
structure PinionBrake.Quiet (b v : PinionBrake) : Prop where
  energy : v.energy = b.energy
  derated : v.derated = b.derated
  mode : v.mode = b.mode ∨ v.mode.command = 0

theorem PinionBrake.Quiet.refl (b : PinionBrake) : b.Quiet b := ⟨rfl, rfl, .inl rfl⟩

theorem PinionBrake.Stays.quiet {b v : PinionBrake} (h : b.Stays v) : b.Quiet v :=
  ⟨h.energy, h.derated, h.mode.imp id fun hfull => by simp [hfull, PinionMode.command]⟩

/-- A property that reads each block for itself: any update of one block within that block's own bounds keeps it. -/
structure State.KeptBlockwise (P : State → Prop) : Prop where
  rack : ∀ {s v}, P s → P (s.setRack v)
  freeCount : ∀ {s v}, P s → P (s.setFreeCount v)
  engagement : ∀ {s} {v : Engagement}, (s.engagement.pinions.p1.window.ok → v.pinions.p1.window.ok) →
    (s.engagement.pinions.p2.window.ok → v.pinions.p2.window.ok) → P s → P (s.setEngagement v)
  line : ∀ {s v}, s.line.Stays v → P s → P (s.setLine v)
  brake : ∀ {s} {v : Brake}, s.brake.pinions.p1.Quiet v.pinions.p1 → s.brake.pinions.p2.Quiet v.pinions.p2 →
    (v.applied = false → s.brake.applied = false) → P s → P (s.setBrake v)
  doors : ∀ {s v}, (s.doorsOk → (s.setDoors v).doorsOk) → P s → P (s.setDoors v)
  radio : ∀ {s} {v : Radio}, (windowOk s.radio.window → windowOk v.window) →
    (s.radio.acks.length ≤ 3 → v.acks.length ≤ 3) → P s → P (s.setRadio v)
  speed : ∀ {s v}, P s → P (s.setSpeed v)
  restrictions : ∀ {s v}, (restrictionsOk s.restrictions → restrictionsOk v) → P s → P (s.setRestrictions v)
  faults : ∀ {s} {f : Faults}, (s.faults.sound → f.sound) → P s → P (s.setFaults f)
  peers : ∀ {s} {v : Vector PeerEntry 8}, (∀ i : Fin 8, v[i].state = .self ↔ s.peers[i].state = .self) → P s → P (s.setPeers v)
  own : ∀ {s} n, (s.line.unnumbered → s.line.own = none) → P s →
    P ((s.setLine
      { s.line with own := some n, phase := .joinWaiting, listenTimer := none, chainWaitTimer := none }).setPeer n
        { PeerEntry.blank with state := .self })

/-! ## A sound fault table -/

section Faults

variable {f : Faults} {k : FaultKind}

theorem Faults.hasRecord_iff : f.hasRecord k = true ↔ ∃ r ∈ f.table, r.kind = k := by
  simp [Faults.hasRecord]

theorem Faults.sound_mapRecord {v : Bool} {g : FaultRecord → FaultRecord} (hkind : ∀ r, (g r).kind = r.kind)
    (hactive : ∀ r, (g r).active = v) (h : f.sound) : ((f.setFlag k v).mapRecord k g).sound := by
  obtain ⟨⟨hlength, hnodup⟩, hflags⟩ := h
  have hkinds : (fun r : FaultRecord => r.kind) ∘ (fun r => if r.kind = k then g r else r) = fun r => r.kind := by
    funext r
    simp only [Function.comp_apply]
    split <;> simp [hkind]
  refine ⟨⟨by simpa [Faults.mapRecord, Faults.setFlag] using hlength, ?_⟩, fun r hr => ?_⟩
  · simpa [Faults.mapRecord, Faults.setFlag, hkinds] using hnodup
  · obtain ⟨old, hold, rfl⟩ := List.mem_map.mp hr
    rw [Faults.present_mapRecord]
    by_cases hk : old.kind = k
    · simp [hk, hkind, hactive, Faults.present_setFlag_self]
    · simp only [hk, if_false]
      rw [Faults.present_setFlag_of_ne _ _ hk]
      exact hflags old hold

theorem Faults.sound_addRecord {v : Bool} {r : FaultRecord} (hkind : r.kind = k) (hactive : r.active = v)
    (hnew : f.hasRecord k = false) (h : f.sound) : ((f.setFlag k v).addRecord r).sound := by
  obtain ⟨⟨hlength, hnodup⟩, hflags⟩ := h
  have hfresh : ∀ x ∈ f.table, x.kind ≠ k := by simpa [Faults.hasRecord] using hnew
  have htable (kept : List FaultRecord) (hsub : kept.Sublist f.table) (hroom : kept.length < 16) :
      Faults.sound { f.setFlag k v with table := kept ++ [r] } := by
    refine ⟨⟨by simp; omega, ?_⟩, fun x hx => ?_⟩
    · simp only [List.map_append, List.map_cons, List.map_nil]
      refine (hnodup.sublist (hsub.map _)).append (by simp) ?_
      simpa [hkind] using fun x hx => hfresh x (hsub.subset hx)
    · rcases List.mem_append.mp hx with hx | hx
      · exact (hflags x (hsub.subset hx)).trans (f.present_setFlag_of_ne v (hfresh x (hsub.subset hx))).symm
      · obtain rfl := List.mem_singleton.mp hx
        rw [hactive, hkind]
        exact (f.present_setFlag_self k v).symm
  unfold Faults.addRecord
  split
  next hroom => exact htable _ (List.Sublist.refl _) hroom
  next hfull =>
    split
    next hany =>
      refine htable _ List.eraseP_sublist ?_
      obtain ⟨x, hx, hxr⟩ := List.any_eq_true.mp hany
      have herased := List.length_eraseP_of_mem (p := FaultRecord.replaceable) hx hxr
      have hpos := List.length_pos_of_mem hx
      simp only [Faults.setFlag] at herased hpos ⊢
      omega
    next =>
      refine ⟨⟨hlength, hnodup⟩, fun x hx => ?_⟩
      exact (hflags x hx).trans (f.present_setFlag_of_ne v (hfresh x hx)).symm

theorem Faults.sound_occur (strict : Bool) (k : FaultKind) (h : f.sound) : (f.occur strict k).sound := by
  unfold Faults.occur
  dsimp only
  split
  next => exact sound_mapRecord (fun _ => rfl) (fun _ => rfl) h
  next hnew => exact sound_addRecord rfl rfl (eq_false_of_ne_true hnew) h

theorem Faults.sound_note (strict : Bool) (k : FaultKind) (h : f.sound) : (f.note strict k).sound := by
  unfold Faults.note
  dsimp only
  split
  next => exact sound_mapRecord (fun _ => rfl) (fun _ => rfl) h
  next hnew => exact sound_addRecord rfl rfl (eq_false_of_ne_true hnew) h

theorem Faults.sound_going (k : FaultKind) (h : f.sound) : (f.going k).sound := by
  unfold Faults.going
  split
  · exact sound_mapRecord (fun _ => rfl) (fun _ => rfl) h
  · exact h

end Faults

namespace State.KeptBlockwise

variable (hP : State.KeptBlockwise P)
include hP

theorem recordOccurrence (k : FaultKind) (h : P s) : P (s.recordOccurrence k) := hP.faults (Faults.sound_occur _ _) h

theorem recordNote (k : FaultKind) (h : P s) : P (s.recordNote k) := hP.faults (Faults.sound_note _ _) h

theorem recordGoing (k : FaultKind) (h : P s) : P (s.recordGoing k) := hP.faults (Faults.sound_going _) h

theorem releaseByHandle (d : DoorId) (h : P s) : P (s.releaseByHandle d) := by
  refine of_ite (fun hheld => hP.doors (doorsOk_setDoor (r := (s.doors.doors.get d).handleReleased s.clock) ⟨?_, ?_⟩) h) fun _ => h
  · intro hfree
    simp [hfree] at hheld
  · unfold Door.handleReleased
    split <;> simp_all [Door.handleOk]

theorem releaseByHandles (h : P s) : P s.releaseByHandles :=
  hP.releaseByHandle _ (hP.releaseByHandle _ (hP.releaseByHandle _ (hP.releaseByHandle _ h)))

theorem lowerLimit (c : Nat) (h : P s) : P (s.lowerLimit c) := hP.speed (hP.speed h)

theorem latchMass (h : P s) : P s.latchMass := by
  have hlatched (payload : Nat) : P (s.latchPayload payload) :=
    hP.doors (doorsOk_setDoors id id fun _ => .refl _) h
  unfold State.latchMass
  split
  · exact of_ite (fun _ => hP.recordGoing _ (hlatched _)) fun _ => hP.recordOccurrence _ (hlatched _)
  · exact hP.recordOccurrence _ (hlatched _)

theorem retestSide (side : CarSide) (h : P s) : P (s.retestSide side) := by
  refine of_ite (fun _ => ?_) fun _ => h
  have hdoors : s.clearSide side = s.setDoors (s.clearSide side).doors := by
    unfold State.clearSide
    split <;> rfl
  rw [hdoors]
  exact hP.doors (fun hok => hdoors ▸ doorsOk_clearSide side hok) h

theorem retest (h : P s) : P s.retestPermits := by
  have hsides := hP.retestSide .b (hP.retestSide .a h)
  exact of_ite (fun _ => hP.latchMass hsides) fun _ => hsides

theorem applyHolding (h : P s) : P s.applyHolding :=
  of_ite (fun _ => h) fun _ => hP.retest (hP.releaseByHandles
    (hP.brake ⟨rfl, rfl, .inr rfl⟩ ⟨rfl, rfl, .inr rfl⟩ nofun h))

theorem setLatch (h : P s) : P s.setLatch := by
  have habort := Brake.abort_stays .emergency s.brake
  have hset := hP.brake
    (v := { (s.brake.abort .emergency).allFull with latch := true, releasePending := false })
    ⟨habort.p1.energy, habort.p1.derated, .inr rfl⟩ ⟨habort.p2.energy, habort.p2.derated, .inr rfl⟩
    (fun happlied => habort.applied ▸ happlied) h
  exact of_ite (fun _ => h) fun _ => hP.lowerLimit _ (of_ite (fun _ => hP.applyHolding hset) fun _ => hset)

theorem placeAlert (k : FaultKind) (h : P s) : P (s.placeAlert k) := by
  unfold State.placeAlert
  split
  · exact h
  · refine of_ite (fun _ => hP.line (.of_eq rfl rfl rfl rfl rfl rfl rfl rfl) h) fun hfree => hP.line ?_ h
    refine .trans (m := { s.line with alert := some _ }) ⟨rfl, id, fun hheld => ?_, id, id⟩ (Line.offer_stays _)
    revert hheld hfree
    simp only [Line.sendingHeld]
    split <;> simp_all

theorem assertPull (k : FaultKind) (h : P s) : P (s.assertPull k) :=
  of_ite (fun _ => h) fun _ => hP.placeAlert _ (hP.setLatch
    (hP.brake ⟨rfl, rfl, .inl rfl⟩ ⟨rfl, rfl, .inl rfl⟩ id h))

theorem react (k : FaultKind) (h : P s) : P (s.react k) := by
  unfold State.react
  split
  · exact hP.retest (hP.lowerLimit _ (hP.assertPull k h))
  · exact hP.retest (hP.lowerLimit _ h)
  · exact h

theorem raise (k : FaultKind) (h : P s) : P (s.raise k) :=
  of_ite (fun _ => hP.recordOccurrence k h) fun _ => hP.react k (hP.recordOccurrence k h)

theorem note (k : FaultKind) (h : P s) : P (s.note k) :=
  of_ite (fun _ => hP.recordNote k h) fun _ => hP.react k (hP.recordNote k h)

theorem clear (k : FaultKind) (h : P s) : P (s.clear k) := by
  refine of_ite (fun _ => ?_) fun _ => h
  split
  · exact hP.retest (hP.recordGoing k h)
  · exact hP.retest (hP.recordGoing k h)
  · exact hP.recordGoing k h

theorem resetBrake (h : P s) : P s.resetBrake := by
  have hquiet {u : State} {v : Brake} (hpinions : v.pinions = u.brake.pinions) (happlied : v.applied = u.brake.applied)
      (hu : P u) : P (u.setBrake v) :=
    hP.brake (hpinions ▸ .refl _) (hpinions ▸ .refl _) (fun hv => happlied ▸ hv) hu
  exact of_ite (fun _ => hquiet rfl rfl (of_ite (fun _ => hquiet rfl rfl (hquiet rfl rfl h)) fun _ => hquiet rfl rfl h))
    fun _ => of_ite (fun _ => hquiet rfl rfl (hquiet rfl rfl h)) fun _ => hquiet rfl rfl h

theorem keptFreely : State.KeptFreely P where
  rack := hP.rack
  freeCount := hP.freeCount
  engagement := hP.engagement
  line := hP.line
  brake hv := hP.brake hv.p1.quiet hv.p2.quiet fun happlied => hv.applied ▸ happlied
  doors := hP.doors
  radio := hP.radio
  speed := hP.speed
  restrictions := hP.restrictions
  records _ := hP.faults
  peers := hP.peers
  own := hP.own
  loadFails := hP.recordOccurrence _
  loadReads := hP.recordGoing _
  raise := hP.raise
  clear _ := hP.clear _
  applyHolding := hP.applyHolding
  resetBrake := hP.resetBrake
  startProof _ _ := hP.brake ⟨rfl, rfl, .inr rfl⟩ ⟨rfl, rfl, .inr rfl⟩ id

theorem senseLoop (h : P s) : P s.senseLoop := hP.keptFreely.kept.senseLoop_of_setLatch hP.setLatch h

end State.KeptBlockwise

end Sys2Proof.Machine
end

section
/-! SUPPORT. The starts of the part, and how a property kept block by block is kept by every command. -/

namespace Sys2Proof.Machine

variable {P : State → Prop} {s t : State}

/-! ## Starts -/

/-- A cold start before its reports. -/
def State.coldBase (s : State) : State :=
  { s.blank .joining with
    rack := startRack s.clock
    line := { startLine s.clock s.pins.levels with listenTimer := some s.clock }
    speed := startSpeed s.clock
    brake := Brake.coldStarted s.clock s.straps
    doors := startDoors s.clock s.pins.levels (s.straps.tareKg + 8000)
    radio := startRadio s.clock s.straps [] }

theorem State.coldStart_eq : s.coldStart = ((s.coldBase.raise .positionUnknown).releaseByHandles).stopIfWarned := rfl

/-- A warm restart before its reports. -/
def State.warmBase (n : Fin 8) (s : State) : State :=
  { s.blank .resuming with
    rack := startRack s.clock
    engagement := restartEngagement s.store.items.windows
    line := { startLine s.clock s.pins.levels with own := some n, phase := .joinWaiting, rejoin := true }
    peers := restartPeers s.clock s.store.items
    speed := startSpeed s.clock
    brake := restartBrake s.clock s.straps s.store.items
    doors := startDoors s.clock s.pins.levels s.store.items.mass
    radio := startRadio s.clock s.straps s.store.items.window
    restrictions := restartRestrictions s.store.items.restrictions
    faults := Faults.restored s.store.items.faults }

theorem State.warmStart_eq (n : Fin 8) :
    s.warmStart n = (((s.warmBase n).restartReports.releaseByHandles).startReports).placeJoin n := rfl

/-- The part that supply reaches, before its blocks begin: its inputs read, and the validity mark is clear (R198). -/
def State.supplied (levels : Levels) (s : State) : State :=
  (s.setPins { s.pins with levels := levels }).setStore { s.store with valid := false }

/-- The part in COLD whose straps and inputs have been read (R197). -/
def State.strapped (straps : Straps) (levels : Levels) (s : State) : State :=
  (s.setPins { s.pins with levels := levels }).setStore (s.store.writeStraps straps)

/-- A property that the starts and the loss of supply keep. -/
structure State.KeptAtStarts (P : State → Prop) : Prop where
  note : ∀ {s} k, P s → P (s.note k)
  handle : ∀ {s} d, P s → P (s.releaseByHandle d)
  invalid : ∀ {s}, P s → P (s.setStore { s.store with valid := false })
  dropOut : ∀ {s}, P s → P s.dropOut
  blank : ∀ {s} levels, s.station.life = .off → P s → P ((s.supplied levels).blank .cold)
  warm : ∀ {s} levels n, s.station.life = .off → s.store.items.own = some n → P s → P ((s.supplied levels).warmBase n)
  cold : ∀ {s} straps levels, s.station.life = .cold → P s → P (s.strapped straps levels).coldBase

namespace State.KeptAtStarts

variable (hP : State.KeptAtStarts P)
include hP

theorem releaseByHandles (h : P s) : P s.releaseByHandles :=
  hP.handle _ (hP.handle _ (hP.handle _ (hP.handle _ h)))

theorem restartReports (hraise : ∀ {u : State} k, P u → P (u.raise k)) (h : P s) : P s.restartReports := by
  have hnoted {u : State} {c : Prop} [Decidable c] (k : FaultKind) (hu : P u) : P (if c then u.note k else u) :=
    of_ite (fun _ => hP.note k hu) fun _ => hu
  exact hnoted _ (hnoted _ (hnoted _ (hraise _ h)))

theorem start (hC : State.KeptAtChanges P) (hmoment : ∀ {s} m, P s → P (s.atMoment m))
    (hkeep : ∀ {s}, P s → P s.keepStore) {c : Instr} (hc : isStart c = true) (h : P s) (hexec : exec c s = .next t) :
    P t := by
  cases c with
  | dropOut m =>
    cases hexec
    exact of_ite (fun _ => hmoment m h) fun _ => hP.dropOut (hmoment m h)
  | storeHoldupExpiry m =>
    cases hexec
    exact of_ite (fun _ => of_ite (fun _ => hP.invalid (hmoment m h)) fun _ => hmoment m h) fun _ => hmoment m h
  | powerOn m levels flips =>
    cases hexec
    refine of_ite (fun hoff => ?_) fun _ => hmoment m h
    have hblank := hP.blank levels hoff (hmoment m h)
    refine of_ite (fun _ => ?_) fun _ => hblank
    split
    next n hown =>
      have hwarm := hP.warm levels n hoff hown (hmoment m h)
      exact hC.placeJoin _ (hC.startReports (hP.releaseByHandles (hP.restartReports (hC.raise) hwarm)))
    next => exact hblank
  | strapsRead m straps levels =>
    cases hexec
    refine of_ite (fun hcold => hkeep ?_) fun _ => hmoment m h
    have hbase := hP.cold straps levels hcold (hmoment m h)
    have hrun (u : State) : ((u.coldBase.raise .positionUnknown).releaseByHandles).running = true :=
      (running_congr (by simp)).trans (rfl : u.coldBase.running = true)
    exact hC.stopIfWarned (hrun _) (hP.releaseByHandles (hC.raise _ hbase))
  | _ => cases hc

end State.KeptAtStarts

/-! ## Block by block -/

/-- A property kept block by block that does not read the station state, the inputs but the loop, or the clock, and that
the writing of the retained store keeps. -/
structure State.KeptBlockwiseThroughout (P : State → Prop) : Prop extends State.KeptBlockwise P where
  clock : ∀ {s v}, P s → P (s.setClock v)
  pins : ∀ {s v}, P s → P (s.setPins v)
  pending : ∀ {s v}, P s → P (s.setPending v)
  station : ∀ {s v}, P s → P (s.setStation v)
  valid : ∀ {s} v, P s → P (s.setStore { s.store with valid := v })
  keepStore : ∀ {s}, P s → P s.keepStore
  dropOut : ∀ {s}, P s → P s.dropOut
  blank : ∀ {s} levels, P s → P ((s.supplied levels).blank .cold)
  warm : ∀ {s} levels n, s.store.items.own = some n → P s → P ((s.supplied levels).warmBase n)
  cold : ∀ {s} straps levels, P s → P (s.strapped straps levels).coldBase

namespace State.KeptBlockwiseThroughout

variable (hP : State.KeptBlockwiseThroughout P)
include hP

theorem moment (m : Moment) (h : P s) : P (s.atMoment m) := hP.pins (hP.clock h)

theorem keptAtChanges : State.KeptAtChanges P where
  toKept := hP.keptFreely.kept
  proving _ h := hP.brake ⟨rfl, rfl, .inl rfl⟩ ⟨rfl, rfl, .inl rfl⟩ id (hP.station h)
  ready _ := hP.station
  stop _ h := hP.valid _ (hP.station (hP.raise _ h))

theorem keptAtStarts : State.KeptAtStarts P where
  note := hP.note
  handle := hP.releaseByHandle
  invalid := hP.valid _
  dropOut := hP.dropOut
  blank _ _ := hP.blank _
  warm _ _ _ := hP.warm _ _
  cold _ _ _ := hP.cold _ _

theorem keptByCommands (hcycle : ∀ {s}, s.running = true → P s → P s.brakeCycle) : State.KeptByCommands P where
  toKeptAtChanges := hP.keptAtChanges
  moment := hP.moment
  levels _ := hP.pins
  keepStore := hP.keepStore
  tooth := hP.keptFreely.tooth
  wheel := hP.keptFreely.wheel
  mark _ := hP.keptFreely.mark
  disagree h := hP.keptFreely.kept.afterMove _ (hP.raise _ (hP.rack h))
  limits := hP.keptFreely.limits
  cycle := hcycle
  loop h := of_ite (fun _ => hP.keepStore (hP.senseLoop (hP.pins h))) fun _ => hP.pins h
  supplyGood _ h := hP.toKeptBlockwise.clear _ (hP.valid _ (hP.station h))
  pending := hP.pending
  start := hP.keptAtStarts.start hP.keptAtChanges hP.moment hP.keepStore

end State.KeptBlockwiseThroughout

end Sys2Proof.Machine
end

section
/-! SUPPORT. The bounded tables (R50, R54, R156, R167, R172, R184) are kept block by block. -/

namespace Sys2Proof.Machine

variable {s : State}

theorem FaultTable.restored_sound {table : List FaultRecord} (h : faultTableOk table) : (Faults.restored table).sound := by
  obtain ⟨hlength, hnodup⟩ := h
  refine ⟨⟨by simpa [Faults.restored] using hlength, ?_⟩, fun r hr => ?_⟩
  · simpa [Faults.restored, Function.comp_def] using hnodup
  · obtain ⟨old, -, rfl⟩ := List.mem_map.mp hr
    simp [Faults.restored, Faults.initial, Faults.present]

/-- The entries of a warm restart are the retained ones, all COVERING. -/
theorem restartRestrictions_ok {t : Restrictions} (h : restrictionsOk t) : restrictionsOk (restartRestrictions t) := by
  obtain ⟨hlength, hnodup⟩ := h
  exact ⟨by simpa [restartRestrictions] using hlength, by simpa [restartRestrictions, Function.comp_def] using hnodup⟩

theorem State.tablesOk_iff :
    s.tablesOk ↔ s.faults.sound ∧ restrictionsOk s.restrictions ∧ windowOk s.radio.window ∧ s.line.orders.length ≤ 4
      ∧ s.line.replies.length ≤ 4 ∧ s.radio.acks.length ≤ 3 ∧ faultTableOk s.store.items.faults
      ∧ restrictionsOk s.store.items.restrictions ∧ windowOk s.store.items.window := by
  simp only [State.tablesOk, Faults.sound, State.present, and_assoc]

/-- Empty tables over a store within its bounds, as a loss of supply and a cold start leave them. -/
theorem State.tablesOk_empty {t : State} (hfaults : t.faults = Faults.initial)
    (hrestrictions : t.restrictions = Restrictions.initial) (hwindow : t.radio.window = []) (hacks : t.radio.acks = [])
    (horders : t.line.orders = []) (hreplies : t.line.replies = []) (hitems : t.store.items = s.store.items)
    (h : s.tablesOk) : t.tablesOk := by
  obtain ⟨-, -, -, -, -, -, hstored⟩ := tablesOk_iff.mp h
  rw [tablesOk_iff, hfaults, hrestrictions, hwindow, hacks, horders, hreplies, hitems]
  exact ⟨⟨⟨by decide, by decide⟩, nofun⟩, ⟨by decide, by decide⟩, ⟨by decide, by decide⟩, by decide, by decide, by decide,
    hstored⟩

theorem State.tablesOk_kept : State.KeptBlockwiseThroughout State.tablesOk where
  rack := id
  freeCount := id
  engagement _ _ := id
  line hv h := by
    obtain ⟨hfaults, hrestrictions, hwindow, horders, hreplies, hrest⟩ := tablesOk_iff.mp h
    exact tablesOk_iff.mpr ⟨hfaults, hrestrictions, hwindow, hv.orders horders, hv.replies hreplies, hrest⟩
  brake _ _ _ := id
  doors _ := id
  radio hwindowOk hacksOk h := by
    obtain ⟨hfaults, hrestrictions, hwindow, horders, hreplies, hacks, hrest⟩ := tablesOk_iff.mp h
    exact tablesOk_iff.mpr ⟨hfaults, hrestrictions, hwindowOk hwindow, horders, hreplies, hacksOk hacks, hrest⟩
  speed := id
  restrictions hv h := by
    obtain ⟨hfaults, hrestrictions, hrest⟩ := tablesOk_iff.mp h
    exact tablesOk_iff.mpr ⟨hfaults, hv hrestrictions, hrest⟩
  faults hf h := by
    obtain ⟨hfaults, hrest⟩ := tablesOk_iff.mp h
    exact tablesOk_iff.mpr ⟨hf hfaults, hrest⟩
  peers _ := id
  own _ _ := id
  clock := id
  pins := id
  pending := id
  station := id
  valid _ := id
  keepStore h := by
    refine of_ite (fun _ => ?_) fun _ => h
    obtain ⟨hfaults, hrestrictions, hwindow, horders, hreplies, hacks, -⟩ := tablesOk_iff.mp h
    exact tablesOk_iff.mpr
      ⟨hfaults, hrestrictions, hwindow, horders, hreplies, hacks, hfaults.1, hrestrictions, hwindow⟩
  dropOut := tablesOk_empty rfl rfl rfl rfl rfl rfl rfl
  blank _ := tablesOk_empty rfl rfl rfl rfl rfl rfl rfl
  warm levels n _ h := by
    obtain ⟨-, -, -, -, -, -, hfaults, hrestrictions, hwindow⟩ := tablesOk_iff.mp h
    exact tablesOk_iff.mpr ⟨FaultTable.restored_sound hfaults, restartRestrictions_ok hrestrictions, hwindow,
      Nat.zero_le 4, Nat.zero_le 4, Nat.zero_le 3, hfaults, hrestrictions, hwindow⟩
  cold _ _ := tablesOk_empty rfl rfl rfl rfl rfl rfl rfl

theorem State.tablesOk_keptByCommands : State.KeptByCommands State.tablesOk :=
  State.tablesOk_kept.keptByCommands fun hrun h => by
    have hcycle : State.KeptInCycle State.tablesOk :=
      { State.tablesOk_kept.keptAtChanges with
        cycle := fun _ => id
        release := fun h => State.of_ite (fun _ => State.of_ite (fun _ => State.tablesOk_kept.retest h) fun _ => h) fun _ => h }
    exact hcycle.brakeCycle hrun h

/-- Settles O9: each block keeps its own tables within their bounds, and the retained copies are taken from them. -/
theorem tablesStayBounded : Obligations.TablesStayBounded := fun _ _ => State.tablesOk_keptByCommands.step

end Sys2Proof.Machine
end

section
/-! SUPPORT. The classes of conditions, the permit and its retest: what a retest leaves of the doors and the side
releases, and that the mass latch it may bring changes neither. -/

namespace Sys2Proof.Machine

variable {s t : State} {k : FaultKind}

/-! ## Classes -/

theorem mem_allFaultKinds (k : FaultKind) : k ∈ allFaultKinds := by cases k <;> decide

theorem Faults.classActive_iff {f : Faults} {strict : Bool} {cls : FaultClass} :
    f.classActive strict cls = true ↔ ∃ k, faultClassOf strict k = cls ∧ f.present k = true := by
  simp [Faults.classActive, mem_allFaultKinds]

/-- A class is active in both or in neither where its kinds are. -/
theorem Faults.classActive_congr {f g : Faults} {strict : Bool} {cls : FaultClass}
    (h : ∀ k, faultClassOf strict k = cls → f.present k = g.present k) :
    f.classActive strict cls = g.classActive strict cls := by
  rw [Bool.eq_iff_iff, classActive_iff, classActive_iff]
  refine exists_congr fun k => and_congr_right fun hk => ?_
  rw [h k hk]

theorem State.classA_iff : s.classA = true ↔ ∃ k, faultClassOf s.straps.strict k = .a ∧ s.present k = true :=
  Faults.classActive_iff

theorem State.classB_iff : s.classB = true ↔ ∃ k, faultClassOf s.straps.strict k = .b ∧ s.present k = true :=
  Faults.classActive_iff

theorem State.classA_congr (hstraps : t.straps = s.straps)
    (h : ∀ k, faultClassOf s.straps.strict k = .a → t.present k = s.present k) : t.classA = s.classA := by
  rw [State.classA, State.classA, hstraps]
  exact Faults.classActive_congr h

theorem State.classB_congr (hstraps : t.straps = s.straps)
    (h : ∀ k, faultClassOf s.straps.strict k = .b → t.present k = s.present k) : t.classB = s.classB := by
  rw [State.classB, State.classB, hstraps]
  exact Faults.classActive_congr h

theorem ne_loadSensor_of_class {strict : Bool} {cls : FaultClass} (hcls : cls ≠ .c)
    (h : faultClassOf strict k = cls) : k ≠ .loadSensor := by
  rintro rfl
  exact hcls h.symm

@[simp] theorem State.latchMass_classA : s.latchMass.classA = s.classA :=
  classA_congr (straps_congr (by simp)) fun _ hk => latchMass_present _ (ne_loadSensor_of_class (by decide) hk)

@[simp] theorem State.latchMass_classB : s.latchMass.classB = s.classB :=
  classB_congr (straps_congr (by simp)) fun _ hk => latchMass_present _ (ne_loadSensor_of_class (by decide) hk)

@[simp] theorem State.latchIfClosed_classA (was : DoorSummary) : (s.latchIfClosed was).classA = s.classA := by
  unfold State.latchIfClosed
  split <;> simp

@[simp] theorem State.latchIfClosed_classB (was : DoorSummary) : (s.latchIfClosed was).classB = s.classB := by
  unfold State.latchIfClosed
  split <;> simp

/-! ## The permit -/

theorem State.consistStandstill_congr (hrack : t.rack.standstill = s.rack.standstill) (hpeers : t.peers = s.peers) :
    t.consistStandstill = s.consistStandstill := by
  simp [State.consistStandstill, hrack, hpeers]

theorem State.permit_congr (side : LineSide) (hrack : t.rack = s.rack) (hpeers : t.peers = s.peers)
    (happlied : t.brake.applied = s.brake.applied) (hA : t.classA = s.classA) (hB : t.classB = s.classB)
    (hplatform : t.radio.platform = s.radio.platform) : t.permit side = s.permit side := by
  have hposition : t.position = s.position := position_congr hrack
  simp only [State.permit, State.consistStandstill, State.allFresh, State.platformPermits, hrack, hpeers, happlied, hA, hB,
    hplatform, hposition]

@[simp] theorem State.setDoors_permit (v : DoorControl) (side : LineSide) : (s.setDoors v).permit side = s.permit side := rfl

@[simp] theorem State.setDoors_classA (v : DoorControl) : (s.setDoors v).classA = s.classA := rfl

@[simp] theorem State.setDoors_classB (v : DoorControl) : (s.setDoors v).classB = s.classB := rfl

theorem State.clearSide_eq_setDoors (side : CarSide) : s.clearSide side = s.setDoors (s.clearSide side).doors := by
  unfold State.clearSide
  split <;> rfl

@[simp] theorem State.clearSide_permit (side : CarSide) (line : LineSide) :
    (s.clearSide side).permit line = s.permit line := by
  rw [clearSide_eq_setDoors, setDoors_permit]

@[simp] theorem State.retestSide_permit (side : CarSide) (line : LineSide) :
    (s.retestSide side).permit line = s.permit line := by
  unfold State.retestSide
  split <;> simp

@[simp] theorem State.retestSide_classA (side : CarSide) : (s.retestSide side).classA = s.classA := by
  unfold State.retestSide
  rw [clearSide_eq_setDoors]
  split <;> simp

@[simp] theorem State.retestSide_classB (side : CarSide) : (s.retestSide side).classB = s.classB := by
  unfold State.retestSide
  rw [clearSide_eq_setDoors]
  split <;> simp

@[simp] theorem State.retestPermits_classA : s.retestPermits.classA = s.classA := by simp [State.retestPermits]

@[simp] theorem State.retestPermits_classB : s.retestPermits.classB = s.classB := by simp [State.retestPermits]

@[simp] theorem State.retestPermits_permit (side : LineSide) : s.retestPermits.permit side = s.permit side :=
  permit_congr side (by simp) (by simp) (by simp) (by simp) (by simp) (by simp)

/-! ## The mass latch leaves the doors -/

@[simp] theorem State.latchMass_doors :
    s.latchMass.doors.doors = s.doors.doors ∧ s.latchMass.doors.releaseA = s.doors.releaseA
      ∧ s.latchMass.doors.releaseB = s.doors.releaseB := by
  unfold State.latchMass
  (repeat' split) <;> simp [State.latchPayload]

@[simp] theorem State.latchIfClosed_doors (was : DoorSummary) :
    (s.latchIfClosed was).doors.doors = s.doors.doors ∧ (s.latchIfClosed was).doors.releaseA = s.doors.releaseA
      ∧ (s.latchIfClosed was).doors.releaseB = s.doors.releaseB := by
  unfold State.latchIfClosed
  split <;> simp

theorem DoorControl.sideRelease_congr {c e : DoorControl} (hA : e.releaseA = c.releaseA) (hB : e.releaseB = c.releaseB)
    (side : CarSide) : e.sideRelease side = c.sideRelease side := by
  cases side <;> assumption

@[simp] theorem State.latchIfClosed_sideRelease (was : DoorSummary) (side : CarSide) :
    (s.latchIfClosed was).doors.sideRelease side = s.doors.sideRelease side :=
  DoorControl.sideRelease_congr (by simp) (by simp) side

/-! ## What a retest leaves -/

theorem State.clearSide_get (side : CarSide) (d : DoorId) :
    (s.clearSide side).doors.doors.get d
      = if s.doors.sideRelease side = true ∧ doorSide d = side ∧ (s.doors.doors.get d).handleRelease = false then
          (s.doors.doors.get d).withdraw s.clock
        else s.doors.doors.get d := by
  have hdoors : (s.doors.setSideRelease side false).doors = s.doors.doors := by cases side <;> rfl
  unfold State.clearSide
  split
  next hset => simp [PerDoor.get_mapIdx, hset]
  next hclear => simp [hclear]

theorem State.clearSide_sideRelease_eq (side other : CarSide) :
    (s.clearSide side).doors.sideRelease other = (s.doors.sideRelease other && other != side) := by
  unfold State.clearSide
  split
  next hset => cases side <;> cases other <;> simp [DoorControl.sideRelease, DoorControl.setSideRelease]
  next hclear =>
    by_cases hother : other = side
    · simp [hother, hclear]
    · simp [hother]

theorem State.retestSide_get (side : CarSide) (d : DoorId) :
    (s.retestSide side).doors.doors.get d
      = if s.doors.sideRelease side = true ∧ s.permit (lineSideOf s.straps.orient side) = false ∧ doorSide d = side
          ∧ (s.doors.doors.get d).handleRelease = false then
          (s.doors.doors.get d).withdraw s.clock
        else s.doors.doors.get d := by
  unfold State.retestSide
  split
  next hfails =>
    rw [Bool.and_eq_true, Bool.not_eq_true'] at hfails
    simp [clearSide_get, hfails]
  next hholds =>
    rw [Bool.and_eq_true, Bool.not_eq_true'] at hholds
    exact (if_neg fun hcond => hholds ⟨hcond.1, hcond.2.1⟩).symm

theorem State.retestSide_sideRelease (side other : CarSide) :
    (s.retestSide side).doors.sideRelease other
      = (s.doors.sideRelease other && (other != side || s.permit (lineSideOf s.straps.orient side))) := by
  unfold State.retestSide
  split
  next hfails =>
    rw [Bool.and_eq_true, Bool.not_eq_true'] at hfails
    simp [clearSide_sideRelease_eq, hfails]
  next hholds =>
    by_cases hother : other = side
    · subst hother
      cases hset : s.doors.sideRelease other <;> simp_all
    · simp [hother]

@[simp] theorem State.retestSide_straps (side : CarSide) : (s.retestSide side).straps = s.straps :=
  straps_congr (by simp)

/-- A retest leaves released the sides whose permit holds (R129). -/
theorem State.retestPermits_sideRelease (side : CarSide) :
    s.retestPermits.doors.sideRelease side
      = (s.doors.sideRelease side && s.permit (lineSideOf s.straps.orient side)) := by
  simp only [State.retestPermits, latchIfClosed_sideRelease, retestSide_sideRelease, retestSide_permit, retestSide_straps]
  cases side
  · simp
  · simp [show (CarSide.b != CarSide.a) = true from rfl]

/-- A retest withdraws each door that only the release of a side without permit held (R129, R135). -/
theorem State.retestPermits_get (d : DoorId) :
    s.retestPermits.doors.doors.get d
      = if s.doors.sideRelease (doorSide d) = true ∧ s.permit (lineSideOf s.straps.orient (doorSide d)) = false
          ∧ (s.doors.doors.get d).handleRelease = false then
          (s.doors.doors.get d).withdraw s.clock
        else s.doors.doors.get d := by
  have hclock : (s.retestSide .a).clock = s.clock := by simp
  simp only [State.retestPermits, latchIfClosed_doors, retestSide_get, retestSide_sideRelease, retestSide_permit,
    retestSide_straps, hclock]
  cases hd : doorSide d <;> simp

/-! ## Released sides have their permit -/

theorem State.permitsOk_retest : s.retestPermits.permitsOk := by
  intro side hset
  have horient : s.retestPermits.straps = s.straps := straps_congr (by simp)
  rw [retestPermits_sideRelease, Bool.and_eq_true] at hset
  rw [retestPermits_permit, horient]
  exact hset.2

end Sys2Proof.Machine
end

section
/-! SUPPORT. Doors open only in a held car, and released sides have their permit (R110, R128 to R131, R139): both are
kept by every command. -/

namespace Sys2Proof.Machine

variable {s t u : State} {k : FaultKind}

/-! ## Doors of a held car -/

/-- The doors of a start: no release, in a held car. -/
theorem State.doorsOk_of_started (happlied : t.brake.applied = true)
    (hhandle : ∀ d, (t.doors.doors.get d).handleRelease = false) : t.doorsOk :=
  ⟨fun hfree => (nomatch happlied.symm.trans hfree), fun d hset => (nomatch (hhandle d).symm.trans hset)⟩

theorem startDoor_handleRelease (now : Nat) (v : DoorLines) : (startDoor now v).handleRelease = false := by
  unfold startDoor
  split_ifs <;> rfl

theorem startDoors_get (now : Nat) (levels : Levels) (mass : Nat) (d : DoorId) :
    (startDoors now levels mass).doors.get d = startDoor now (levels.doors.get d) :=
  PerDoor.get_mapIdx _ _ d

theorem startDoors_handleRelease (now : Nat) (levels : Levels) (mass : Nat) (d : DoorId) :
    ((startDoors now levels mass).doors.get d).handleRelease = false :=
  startDoors_get now levels mass d ▸ startDoor_handleRelease now _

theorem State.doorsOk_kept : State.KeptBlockwiseThroughout State.doorsOk where
  rack := id
  freeCount := id
  engagement _ _ := id
  line _ := id
  brake _ _ happlied h := ⟨fun hfree => h.1 (happlied hfree), h.2⟩
  doors hv := hv
  radio _ _ := id
  speed := id
  restrictions _ := id
  faults _ := id
  peers _ := id
  own _ _ := id
  clock := id
  pins := id
  pending := id
  station := id
  valid _ := id
  keepStore h := of_ite (fun _ => h) fun _ => h
  dropOut _ := doorsOk_of_started rfl fun d => by cases d <;> rfl
  blank _ _ := doorsOk_of_started rfl fun d => by cases d <;> rfl
  warm _ _ _ _ := doorsOk_of_started rfl (startDoors_handleRelease _ _ _)
  cold _ _ _ := doorsOk_of_started rfl (startDoors_handleRelease _ _ _)

/-- A release needs every door shut, so no door of the released car has a release; the retest takes the sides. -/
theorem State.doorsOk_released (hclosed : u.summary = .allClosed) (hfree : u.brake.applied = false)
    (hhandles : ∀ d : DoorId, (u.doors.doors.get d).handleRelease = true →
      (u.doors.doors.get d).state ≠ .locked ∧ (u.doors.doors.get d).state ≠ .isolated) : u.retestPermits.doorsOk := by
  have hdoor (d : DoorId) : ((u.doors.doors.get d).state = .locked ∨ (u.doors.doors.get d).state = .isolated)
      ∧ (u.doors.doors.get d).handleRelease = false := by
    have hstate := (Door.closed_iff _).mp ((summaryOf_eq_allClosed_iff _).mp hclosed d)
    refine ⟨hstate, eq_false_of_ne_true fun hset => ?_⟩
    obtain ⟨hlocked, hisolated⟩ := hhandles d hset
    exact hstate.elim hlocked hisolated
  have hpermit (side : LineSide) : u.permit side = false := by simp [State.permit, hfree]
  have hside (side : CarSide) : u.retestPermits.doors.sideRelease side = false := by
    rw [retestPermits_sideRelease, hpermit, Bool.and_false]
  have hget (d : DoorId) : u.retestPermits.doors.doors.get d = u.doors.doors.get d := by
    rw [retestPermits_get]
    split
    · rcases (hdoor d).1 with hstate | hstate <;> simp [Door.withdraw, hstate]
    · rfl
  refine ⟨fun _ => ⟨fun d => ?_, hside .a, hside .b⟩, fun d hset => ?_⟩
  · rw [hget]
    exact ⟨(hdoor d).1.imp id .inr, (hdoor d).2⟩
  · rw [hget] at hset ⊢
    exact hhandles d hset

theorem State.doorsOk_keptInCycle : State.KeptInCycle State.doorsOk where
  toKeptAtChanges := State.doorsOk_kept.keptAtChanges
  cycle hv h := ⟨fun hfree => h.1 (hv.applied ▸ hfree), h.2⟩
  release h := by
    refine of_ite (fun _ => of_ite (fun hallowed => doorsOk_released ?_ rfl h.2) fun _ => h) fun _ => h
    simp only [State.releaseAllowed, Bool.and_eq_true, beq_iff_eq] at hallowed
    exact hallowed.2.1.1.2

theorem State.doorsOk_keptByCommands : State.KeptByCommands State.doorsOk :=
  State.doorsOk_kept.keptByCommands State.doorsOk_keptInCycle.brakeCycle

/-! ## Released sides have their permit -/

theorem State.permitsOk_of_permit (h : s.permitsOk) (hset : ∀ side, t.doors.sideRelease side = true → s.doors.sideRelease side = true)
    (hstraps : t.straps = s.straps) (hpermit : ∀ side, s.permit side = true → t.permit side = true) : t.permitsOk := by
  intro side hside
  rw [hstraps]
  exact hpermit _ (h side (hset side hside))

/-- What leaves the doors and everything a permit reads keeps the permits. -/
theorem State.permitsOk_congr (h : s.permitsOk) (hdoors : t.doors = s.doors) (hstore : t.store = s.store) (hrack : t.rack = s.rack)
    (hpeers : t.peers = s.peers) (happlied : t.brake.applied = s.brake.applied)
    (hfaults : ∀ k, faultClassOf s.straps.strict k ≠ .c → t.present k = s.present k)
    (hplatform : t.radio.platform = s.radio.platform) : t.permitsOk := by
  have hstraps : t.straps = s.straps := straps_congr hstore
  refine permitsOk_of_permit h (fun side => by rw [hdoors]; exact id) hstraps fun side hside => ?_
  rw [permit_congr side hrack hpeers happlied (classA_congr hstraps fun k hk => hfaults k (by simp [hk]))
    (classB_congr hstraps fun k hk => hfaults k (by simp [hk])) hplatform]
  exact hside

theorem State.present_recordOccurrence_of_ne {j : FaultKind} (h : j ≠ k) :
    (s.recordOccurrence k).present j = s.present j := s.faults.present_occur_of_ne _ h

theorem Faults.present_occur_self (f : Faults) (strict : Bool) (k : FaultKind) : (f.occur strict k).present k = true := by
  unfold Faults.occur
  dsimp only
  split <;> simp [f.present_setFlag_self]

theorem Faults.present_note_self (f : Faults) (strict : Bool) (k : FaultKind) : (f.note strict k).present k = true := by
  unfold Faults.note
  dsimp only
  split <;> simp [f.present_setFlag_self]

theorem Faults.present_note_of_ne {j : FaultKind} (f : Faults) (strict : Bool) (h : j ≠ k) :
    (f.note strict k).present j = f.present j := by
  unfold Faults.note
  dsimp only
  split <;> simp [f.present_setFlag_of_ne _ h]

theorem State.present_recordOccurrence_self (k : FaultKind) : (s.recordOccurrence k).present k = true :=
  s.faults.present_occur_self _ k

/-- A further occurrence of a present condition sets no flag. -/
theorem State.present_recordOccurrence_of_present (h : s.present k = true) (j : FaultKind) :
    (s.recordOccurrence k).present j = s.present j := by
  by_cases hj : j = k
  · rw [hj, present_recordOccurrence_self, h]
  · exact present_recordOccurrence_of_ne hj

theorem State.present_recordNote_of_present (h : s.present k = true) (j : FaultKind) :
    (s.recordNote k).present j = s.present j := by
  by_cases hj : j = k
  · rw [hj, h]
    exact s.faults.present_note_self _ k
  · exact s.faults.present_note_of_ne _ hj

theorem State.permitsOk_react (hcls : faultClassOf s.straps.strict k = .c → s.permitsOk) : (s.react k).permitsOk := by
  unfold State.react
  split
  · exact permitsOk_retest
  · exact permitsOk_retest
  next hc => exact hcls hc

theorem State.permitsOk_raise (k : FaultKind) (h : s.permitsOk) : (s.raise k).permitsOk := by
  have hkept (hflags : ∀ j, faultClassOf s.straps.strict j ≠ .c → (s.recordOccurrence k).present j = s.present j) :
      (s.recordOccurrence k).permitsOk := permitsOk_congr h rfl rfl rfl rfl rfl hflags rfl
  refine of_ite (fun hpresent => hkept fun j _ => present_recordOccurrence_of_present hpresent j) fun _ =>
    permitsOk_react fun hc => hkept fun j hj => present_recordOccurrence_of_ne ?_
  rintro rfl
  exact hj hc

theorem State.permitsOk_note (k : FaultKind) (h : s.permitsOk) : (s.note k).permitsOk := by
  have hkept (hflags : ∀ j, faultClassOf s.straps.strict j ≠ .c → (s.recordNote k).present j = s.present j) :
      (s.recordNote k).permitsOk := permitsOk_congr h rfl rfl rfl rfl rfl hflags rfl
  refine of_ite (fun hpresent => hkept fun j _ => present_recordNote_of_present hpresent j) fun _ =>
    permitsOk_react fun hc => hkept fun j hj => s.faults.present_note_of_ne _ ?_
  rintro rfl
  exact hj hc

theorem State.permitsOk_clear (k : FaultKind) (h : s.permitsOk) : (s.clear k).permitsOk := by
  refine of_ite (fun _ => ?_) fun _ => h
  split
  · exact permitsOk_retest
  · exact permitsOk_retest
  next hc =>
    refine permitsOk_congr h rfl rfl rfl rfl rfl (fun j hj => s.faults.present_going_of_ne ?_) rfl
    rintro rfl
    exact hj hc

theorem State.permitsOk_latchMass (h : s.permitsOk) : s.latchMass.permitsOk := by
  refine permitsOk_of_permit h (fun side => ?_) (straps_congr (by simp)) fun side hside => ?_
  · rw [DoorControl.sideRelease_congr (c := s.doors) (by simp) (by simp)]
    exact id
  · rw [permit_congr (s := s) side (by simp) (by simp) (by simp) (by simp) (by simp) (by simp)]
    exact hside

theorem State.permitsOk_applyHolding (h : s.permitsOk) : s.applyHolding.permitsOk :=
  of_ite (fun _ => h) fun _ => permitsOk_retest

theorem State.permitsOk_setLatch (h : s.permitsOk) : s.setLatch.permitsOk := by
  have habort := Brake.abort_stays .emergency s.brake
  have hset : (s.setBrake { (s.brake.abort .emergency).allFull with latch := true, releasePending := false }).permitsOk :=
    permitsOk_congr h rfl rfl rfl rfl habort.applied (fun _ _ => rfl) rfl
  exact of_ite (fun _ => h) fun _ => of_ite (P := fun u => (u.lowerLimit 0).permitsOk)
    (fun _ => permitsOk_applyHolding hset) fun _ => hset

/-- A condition that reads a table with the same states and reports reads the same. -/
theorem State.permit_of_alerts {v : Vector PeerEntry 8} (hv : ∀ i : Fin 8, ∃ k, v[i] = { s.peers[i] with lastAlert := k })
    (side : LineSide) : (s.setPeers v).permit side = s.permit side := by
  have hall (test : PeerEntry → Bool) (htest : ∀ e k, test { e with lastAlert := k } = test e) :
      (s.setPeers v).peers.toList.all test = s.peers.toList.all test := by
    rw [Bool.eq_iff_iff, State.peers_all_iff, State.peers_all_iff]
    refine forall_congr' fun i => ?_
    obtain ⟨k, hk⟩ := hv i
    simp [hk, htest]
  have hfresh : (s.setPeers v).allFresh = s.allFresh := hall _ fun _ _ => rfl
  have hstand : (s.setPeers v).consistStandstill = s.consistStandstill :=
    congrArg (s.rack.standstill && ·) (hall _ fun _ _ => rfl)
  simp only [State.permit, hfresh, hstand]
  rfl

theorem State.permitsOk_valley (status : ValleyStatus) (t : Timer) (h : s.permitsOk) : (s.setValley status t).permitsOk := by
  unfold State.setValley State.reformValley
  exact of_ite (fun _ => h) fun _ => h

theorem State.permitsOk_restrict (e : Restriction) (h : s.permitsOk) : (s.restrict e).1.permitsOk := by
  have hplace (old : Option Restriction) : (s.placeEntry old e).permitsOk := by
    unfold State.placeEntry
    dsimp only
    split
    · exact h
    · exact of_ite (fun _ => h) fun _ => h
  unfold State.restrict
  split
  · exact hplace _
  · split
    · exact hplace _
    · exact permitsOk_raise _ (of_ite (fun _ => h) fun _ => h)

theorem State.permitsOk_kept : State.Kept State.permitsOk where
  rack hv h := by
    refine permitsOk_of_permit h (fun _ => id) rfl fun side hside => ?_
    have hposition : (s : State) → (r : Rack) → s.rack.Stays r → (s.setRack r).position = s.position := fun s r hr => by
      simp [State.position, hr.known, hr.base, hr.travel]
    simp only [State.permit, State.consistStandstill, State.platformPermits, hposition _ _ hv, Bool.and_eq_true] at hside ⊢
    simp only [State.setRack_rack, hv.grade]
    obtain ⟨⟨⟨⟨⟨⟨hstand, hpeers⟩, hfresh⟩, happlied⟩, hA⟩, hB⟩, hgrade⟩ := hside
    exact ⟨⟨⟨⟨⟨⟨hv.standstill hstand, hpeers⟩, hfresh⟩, happlied⟩, hA⟩, hB⟩, hgrade⟩
  freeCount := id
  engagement _ := id
  line _ := id
  brake hv h := permitsOk_congr h rfl rfl rfl rfl hv.applied (fun _ _ => rfl) rfl
  doors hv h side hset := (hv.permits side hset).elim (h side) id
  radio hv h := permitsOk_congr h rfl rfl rfl rfl rfl (fun _ _ => rfl) hv.platform
  speed _ _ := id
  fewer _ _ := id
  records hf _ h := permitsOk_congr h rfl rfl rfl rfl rfl (fun k _ => by simp [State.present, Faults.present, hf]) rfl
  alerts hv h := permitsOk_of_permit h (fun _ => id) rfl fun side hside => (permit_of_alerts hv side).trans hside
  raise := permitsOk_raise
  clear _ := permitsOk_clear _
  retest _ := permitsOk_retest
  latchMass := permitsOk_latchMass
  lowerLimit _ := id
  applyHolding := permitsOk_applyHolding
  evaluate h := permitsOk_congr h (by simp) (by simp) (by simp) (by simp) (by simp) (fun k _ => present_congr (by simp) k) (by simp)
  restrict := permitsOk_restrict
  entry h := of_ite (fun _ => permitsOk_clear _ (of_ite (fun _ => h) fun _ => h)) fun _ => of_ite (fun _ => h) fun _ => h
  leave _ _ := permitsOk_retest
  grade _ h := of_ite (fun _ => h) fun _ => permitsOk_retest
  platform _ := permitsOk_retest
  valley := permitsOk_valley
  numbered _ _ _ := permitsOk_retest
  peer := fun {_} _ {_} _ _ _ => permitsOk_retest
  lost _ _ _ := permitsOk_retest
  resetBrake h := by
    have hlatch {u : State} (hu : u.permitsOk) : u.resetLatch.permitsOk := of_ite (fun _ => hu) fun _ => hu
    exact hlatch (of_ite (fun _ => h) fun _ => h)
  startProof _ _ := id

/-- The position is kept by whatever does not move the odometer. -/
theorem State.position_kept (p : Option Nat) : State.Kept fun s => s.position = p where
  rack hv h := by simpa [State.position, hv.known, hv.base, hv.travel] using h
  leave _ h := by
    refine Eq.trans ?_ h
    simp [State.leaveStandstill, State.position]
  grade _ h := by
    refine of_ite (P := fun u => u.position = p) (fun _ => h) fun _ => Eq.trans ?_ h
    simp [State.position]
  freeCount h := h
  engagement _ h := h
  line _ h := h
  brake _ h := h
  doors _ h := h
  radio _ h := h
  speed _ _ h := h
  fewer _ _ h := h
  records _ _ h := h
  alerts _ h := h
  raise _ h := (position_congr (by simp)).trans h
  clear _ h := (position_congr (by simp)).trans h
  retest h := (position_congr (by simp)).trans h
  latchMass h := (position_congr (by simp)).trans h
  lowerLimit _ h := (position_congr (by simp)).trans h
  applyHolding h := (position_congr (by simp)).trans h
  evaluate h := (position_congr (by simp)).trans h
  restrict _ h := (position_congr (by simp)).trans h
  entry h := (position_congr (by simp)).trans h
  platform h := (position_congr (by simp)).trans h
  valley _ _ h := (position_congr (by simp)).trans h
  numbered _ _ h := (position_congr (by simp)).trans h
  peer := fun {_} _ {_} _ _ h => (position_congr (by simp)).trans h
  lost _ _ h := (position_congr (by simp)).trans h
  resetBrake h := (position_congr (by simp)).trans h
  startProof _ _ h := h

theorem State.permitsOk_afterMove_of_moved (h : s.position ≠ t.position) : (s.afterMove t).permitsOk := by
  rw [afterMove_of_moved h]
  exact permitsOk_retest

/-- A change of the rack that moves the position is followed by a retest; one that does not leaves every permit. -/
theorem State.permitsOk_moved {r : Rack} (hgrade : r.grade = s.rack.grade) (hstand : r.standstill = s.rack.standstill)
    (hkept : ∀ {P : State → Prop}, State.Kept P → P (s.setRack r) → P u) (h : s.permitsOk) : (u.afterMove s).permitsOk := by
  have hposition : u.position = (s.setRack r).position := hkept (position_kept _) rfl
  by_cases hmoved : (s.setRack r).position = s.position
  · refine permitsOk_kept.afterMove _ (hkept permitsOk_kept (permitsOk_of_permit h (fun _ => id) rfl fun side hside => ?_))
    have hplatform : (s.setRack r).platformPermits side = s.platformPermits side := by
      simp only [State.platformPermits, hmoved]
      rfl
    refine Eq.trans ?_ hside
    simp only [State.permit, State.consistStandstill, hplatform, State.setRack_rack, hgrade, hstand]
    rfl
  · exact permitsOk_afterMove_of_moved (hposition ▸ hmoved)

theorem State.permitsOk_keepStore (h : s.permitsOk) : s.keepStore.permitsOk := of_ite (fun _ => h) fun _ => h

theorem State.permitsOk_released (h : s.permitsOk) : s.releaseStep.permitsOk :=
  of_ite (fun _ => of_ite (fun _ => permitsOk_retest) fun _ => h) fun _ => h

theorem State.permitsOk_keptInCycle : State.KeptInCycle State.permitsOk where
  toKept := permitsOk_kept
  proving _ h := h
  ready _ h := h
  stop _ h := permitsOk_raise _ h
  cycle hv h := permitsOk_congr h rfl rfl rfl rfl hv.applied (fun _ _ => rfl) rfl
  release := permitsOk_released

theorem State.permitsOk_of_unreleased (hA : t.doors.releaseA = false) (hB : t.doors.releaseB = false) : t.permitsOk := by
  intro side hset
  cases side
  · exact nomatch hA.symm.trans hset
  · exact nomatch hB.symm.trans hset

theorem State.permitsOk_keptAtStarts : State.KeptAtStarts State.permitsOk where
  note := permitsOk_note
  handle _ h := of_ite (fun _ => h) fun _ => h
  invalid h := h
  dropOut _ := permitsOk_of_unreleased rfl rfl
  blank _ _ _ := permitsOk_of_unreleased rfl rfl
  warm _ _ _ _ _ := permitsOk_of_unreleased rfl rfl
  cold _ _ _ _ := permitsOk_of_unreleased rfl rfl

theorem Rack.toothEdge_place (r : Rack) (sensor : Pinion) (teeth disagree : Bool) :
    (r.toothEdge sensor teeth disagree).grade = r.grade ∧ (r.toothEdge sensor teeth disagree).standstill = r.standstill
      ∧ (r.toothEdge sensor teeth disagree).known = r.known ∧ (r.toothEdge sensor teeth disagree).present = true := by
  cases sensor
  · simp only [Rack.toothEdge]
    split
    · unfold Rack.countTooth
      split <;> exact ⟨rfl, rfl, rfl, rfl⟩
    · exact ⟨rfl, rfl, rfl, rfl⟩
  · exact ⟨rfl, rfl, rfl, rfl⟩

theorem Rack.wheelPulse_place (r : Rack) (direction : Direction) (teeth : Bool) (circumference : Nat) :
    (r.wheelPulse direction teeth circumference).grade = r.grade
      ∧ (r.wheelPulse direction teeth circumference).standstill = r.standstill
      ∧ (r.wheelPulse direction teeth circumference).known = r.known := by
  simp only [Rack.wheelPulse, Rack.transfer, Rack.countPulse, Rack.applyPending]
  split_ifs <;> exact ⟨rfl, rfl, rfl⟩

theorem State.permitsOk_keptByCommands : State.KeptByCommands State.permitsOk where
  toKeptAtChanges := permitsOk_keptInCycle.toKeptAtChanges
  moment _ h := h
  levels _ h := h
  keepStore := permitsOk_keepStore
  tooth {s} sensor phase h := by
    obtain ⟨u, hu, hkept⟩ := s.toothEdge_eq_afterMove sensor phase
    obtain ⟨hgrade, hstand, -⟩ := s.rack.toothEdge_place sensor s.countingTeeth (s.present .speedDisagree)
    exact hu ▸ permitsOk_moved hgrade hstand hkept h
  wheel {s} leads h := by
    obtain ⟨u, hu, hkept⟩ := s.wheelPulse_eq_afterMove leads
    obtain ⟨hgrade, hstand, -⟩ := s.rack.wheelPulse_place (pulseDirection s.straps.orient leads) s.countingTeeth
      s.straps.wheelCircumference
    exact hu ▸ permitsOk_moved hgrade hstand hkept h
  mark {s dm} _ h := permitsOk_moved (r := s.rack.atMark dm) rfl rfl (fun hP h => hP.clear (by decide) h) h
  disagree h := permitsOk_moved (by split <;> rfl) (by split <;> rfl) (fun hP h => hP.raise _ h) h
  limits h := permitsOk_kept.judgeHoldInadequate _ (permitsOk_kept.saturations _ h)
  cycle := permitsOk_keptInCycle.brakeCycle
  loop {s} h := by
    have hpulled : (s.setPins { s.pins with levels := { s.pins.levels with loopOthers := true } }).permitsOk := h
    have hsensed := permitsOk_kept.senseLoop_of_setLatch permitsOk_setLatch hpulled
    exact of_ite (fun _ => permitsOk_keepStore hsensed) fun _ => hpulled
  supplyGood _ h := permitsOk_clear _ h
  pending h := h
  start hc h hexec := permitsOk_keptAtStarts.start permitsOk_keptInCycle.toKeptAtChanges (fun _ h => h)
    permitsOk_keepStore hc h hexec

/-- Settles O10: a release needs the doors shut, and a permit is tested again whenever what it reads changes. -/
theorem doorsStayShutUnlessHeld : Obligations.DoorsStayShutUnlessHeld := fun _ _ hstep =>
  ⟨fun h => State.doorsOk_keptByCommands.step h hstep, fun h => State.permitsOk_keptByCommands.step h hstep⟩

end Sys2Proof.Machine
end

section
/-! SUPPORT. Properties of single blocks that the effect of every command but the starts keeps: the queue and the moment's
values, the own number, the holding brake. -/

namespace Sys2Proof.Machine

variable {P : State → Prop} {s t : State}

/-! ## Properties that few effects touch -/

/-- A property kept by the shared operations that reads neither the rack, the limits, the levels, the store nor the
latch. -/
theorem State.Kept.keptByEffects (hP : State.Kept P)
    (hstop : ∀ {s : State}, s.running = true → P s → P s.beginStop) (hrack : ∀ {s v}, P s → P (s.setRack v))
    (hspeed : ∀ {s v}, P s → P (s.setSpeed v))
    (hlevels : ∀ {s v}, P s → P (s.setPins { s.pins with levels := v })) (hstore : ∀ {s}, P s → P s.keepStore)
    (hlatch : ∀ {s}, P s → P s.setLatch)
    (hsupply : ∀ {s}, P s →
      P (((s.setStation { s.station with storing := false }).setStore { s.store with valid := false }).clear .supplyFail)) :
    State.KeptByEffects P where
  toKept := hP
  stop := hstop
  levels _ := hlevels
  keepStore := hstore
  tooth sensor phase h := hP.toothEdge sensor phase (hrack h)
  wheel leads h := hP.wheelPulse leads (hrack h)
  mark _ h := hP.afterMove _ (hP.clear (by decide) (hrack h))
  disagree h := hP.afterMove _ (hP.raise _ (hrack h))
  limits h := hspeed (hspeed (hP.judgeHoldInadequate _ (hP.saturations _ h)))
  loop h := of_ite (fun _ => hstore (hP.senseLoop_of_setLatch hlatch (hlevels h))) fun _ => hlevels h
  supplyGood _ := hsupply

/-- The queue, the clock and what the sensors read. -/
def State.reads (q : List Instr) (now : Nat) (m : Moment) (s : State) : Prop :=
  s.pending = q ∧ s.clock = now ∧ s.pins.load = m.load ∧ s.pins.force1 = m.force1 ∧ s.pins.force2 = m.force2

theorem State.reads_congr {q : List Instr} {now : Nat} {m : Moment} (h : s.reads q now m) (hpending : t.pending = s.pending)
    (hclock : t.clock = s.clock) (hload : t.pins.load = s.pins.load) (hforce1 : t.pins.force1 = s.pins.force1)
    (hforce2 : t.pins.force2 = s.pins.force2) : t.reads q now m := by
  simpa only [State.reads, hpending, hclock, hload, hforce1, hforce2] using h

theorem State.reads_keptInCycle (q : List Instr) (now : Nat) (m : Moment) : State.KeptInCycle (State.reads q now m) := by
  constructor
  · constructor
    · constructor
      all_goals
        intros
        refine State.reads_congr ‹_› ?_ ?_ ?_ ?_ ?_ <;> simp
    all_goals
      intros
      refine State.reads_congr ‹reads _ _ _ _› ?_ ?_ ?_ ?_ ?_ <;> simp
  all_goals
    intros
    refine State.reads_congr ‹_› ?_ ?_ ?_ ?_ ?_ <;> simp

theorem State.reads_kept (q : List Instr) (now : Nat) (m : Moment) : State.KeptByEffects (State.reads q now m) := by
  refine (State.reads_keptInCycle q now m).toKept.keptByEffects (State.reads_keptInCycle q now m).stop ?_ ?_ ?_ ?_ ?_ ?_
  all_goals
    intros
    refine State.reads_congr ‹_› ?_ ?_ ?_ ?_ ?_ <;> simp

/-! ## The machine as a whole -/

/-- Every command but the starts runs an effect, after what it changes of the input levels. -/
theorem exec_eq_runLevels {c : Instr} (hc : isStart c = false) (s : State) :
    ∃ levels effect, exec c s = runLevels c.moment levels effect s := by
  cases c with
  | dropOut => cases hc
  | storeHoldupExpiry => cases hc
  | powerOn => cases hc
  | strapsRead => cases hc
  | neighbourSenseInput =>
    unfold exec execNeighbourSenseInput
    exact ⟨_, _, rfl⟩
  | chainInChange =>
    unfold exec execChainInChange
    exact ⟨_, _, rfl⟩
  | loopPulled =>
    unfold exec execLoopPulled
    exact ⟨_, _, rfl⟩
  | loopReleased =>
    unfold exec execLoopReleased
    exact ⟨_, _, rfl⟩
  | lockSwitchMade => exact ⟨_, _, rfl⟩
  | lockSwitchLost => exact ⟨_, _, rfl⟩
  | fullyOpenSwitch => exact ⟨_, _, rfl⟩
  | handleActive => exact ⟨_, _, rfl⟩
  | handleInactive => exact ⟨_, _, rfl⟩
  | channelBusyChange =>
    unfold exec execChannelBusyChange
    exact ⟨_, _, rfl⟩
  | supplyWarn =>
    unfold exec execSupplyWarn
    exact ⟨_, _, rfl⟩
  | supplyGood =>
    unfold exec execSupplyGood
    exact ⟨_, _, rfl⟩
  | restrict _ via => cases via <;> exact ⟨id, _, rfl⟩
  | lift _ via => cases via <;> exact ⟨id, _, rfl⟩
  | halt _ via => cases via <;> exact ⟨id, _, rfl⟩
  | proceed _ via => cases via <;> exact ⟨id, _, rfl⟩
  | allHalt _ via => cases via <;> exact ⟨id, _, rfl⟩
  | platformRelease _ via => cases via <;> exact ⟨id, _, rfl⟩
  | supervise _ via => cases via <;> exact ⟨id, _, rfl⟩
  | _ => exact ⟨id, _, rfl⟩

/-- Settles O1: the equation of `step` at a queue that is not empty. -/
theorem stepRunsFrontCommand : Obligations.StepRunsFrontCommand := by
  intro c rest s hqueue
  simp [step, hqueue]

theorem State.powerOn_reads {q : List Instr} {now : Nat} {m : Moment} (flips : BitVec 16) (h : s.reads q now m) :
    (s.powerOn flips).reads q now m := by
  have hwarm (u : State) (n : Fin 8) (hu : u.reads q now m) : (u.warmStart n).reads q now m := by
    refine reads_congr (s := u.warmBase n) hu ?_ ?_ ?_ ?_ ?_ <;> simp [warmStart_eq]
  unfold State.powerOn
  split
  · split
    · exact hwarm _ _ h
    · exact h
  · exact h

theorem State.coldStart_reads {q : List Instr} {now : Nat} {m : Moment} (h : s.reads q now m) :
    s.coldStart.reads q now m := by
  refine reads_congr (s := s.coldBase) h ?_ ?_ ?_ ?_ ?_ <;> simp [coldStart_eq]

/-- Settles O2: the starts by their branches, every other command as its effect keeps the values of its moment. -/
theorem everyCommandAnswersInItsMoment : Obligations.EveryCommandAnswersInItsMoment := by
  intro c s
  have hmoment (m : Moment) : (s.atMoment m).reads s.pending (s.clock + m.elapsed) m := ⟨rfl, rfl, rfl, rfl, rfl⟩
  cases hc : isStart c with
  | false =>
    obtain ⟨levels, effect, hexec⟩ := exec_eq_runLevels hc s
    exact ⟨_, hexec, (State.reads_kept _ _ _).exec hc
      ((State.reads_keptInCycle _ _ _).keptAt fun _ _ => (State.reads_keptInCycle _ _ _).brakeCycle) (hmoment _) hexec⟩
  | true =>
    cases c with
    | dropOut m =>
      exact ⟨_, rfl, State.of_ite (P := State.reads _ _ m) (fun _ => hmoment m) fun _ => hmoment m⟩
    | storeHoldupExpiry m =>
      exact ⟨_, rfl, State.of_ite (P := State.reads _ _ m)
        (fun _ => State.of_ite (P := State.reads _ _ m) (fun _ => hmoment m) fun _ => hmoment m) fun _ => hmoment m⟩
    | powerOn m =>
      exact ⟨_, rfl, State.of_ite (P := State.reads _ _ m) (fun _ => State.powerOn_reads _ (hmoment m)) fun _ => hmoment m⟩
    | strapsRead m =>
      exact ⟨_, rfl, State.of_ite (P := State.reads _ _ m)
        (fun _ => (State.reads_kept _ _ _).keepStore (State.coldStart_reads (hmoment m))) fun _ => hmoment m⟩
    | _ => cases hc

theorem State.whileRunning_of_stopped {effect : State → State} (h : s.running = false) : s.whileRunning effect = s := by
  simp [State.whileRunning, h]

theorem setPins_onlyChanges (v : Pins) (s : State) : onlyChanges [.levels] s (s.setPins v) := by
  intro p
  cases p
  case levels => exact .inl (List.mem_singleton_self _)
  all_goals exact .inr (by simp [Part.same])

/-- Settles O3: a part whose blocks do not run takes nothing of a command's effect. -/
theorem stoppedPartTakesNoCommand : Obligations.StoppedPartTakesNoCommand := by
  intro c s hstopped hc
  obtain ⟨levels, effect, hexec⟩ := exec_eq_runLevels hc s
  refine ⟨_, hexec, ?_⟩
  dsimp only
  rw [State.whileRunning_of_stopped (by exact hstopped)]
  exact ((atMoment_onlyChanges c.moment s).mono (List.nil_subset _)).trans (setPins_onlyChanges _ _) rfl

/-- Settles O5: the reset state's values, evaluated. -/
theorem resetHoldsColdStartValues : Obligations.ResetHoldsColdStartValues := by
  refine ⟨rfl, ⟨rfl, rfl, rfl⟩, rfl, rfl, rfl, rfl, rfl, rfl, rfl, rfl, rfl, rfl, rfl, rfl, rfl, rfl, rfl, rfl, rfl, ?_, rfl,
    rfl, rfl, rfl, rfl, rfl, ?_, rfl, ?_, rfl, rfl, rfl, rfl⟩
  · decide
  · intro k
    cases k <;> rfl
  · intro d
    cases d <;> rfl

end Sys2Proof.Machine
end

section
/-! SUPPORT. The reset state meets the invariants. -/

namespace Sys2Proof.Machine

theorem State.reset_proofOk : State.reset.proofOk := by
  refine ⟨⟨?_, nofun, fun _ => ⟨rfl, rfl, rfl⟩⟩, nofun, nofun, nofun⟩
  rw [classA_iff]
  rintro ⟨k, -, hpresent⟩
  cases k <;> cases hpresent

theorem State.reset_limitOk : State.reset.limitOk := by
  refine ⟨by decide, nofun, nofun, nofun, by decide, by decide, fun _ => rfl, by decide, ?_⟩
  decide

/-- Settles O8: the reset state's tables are empty, its doors LOCKED, its limits 0 and its outputs FULL. -/
theorem resetMeetsInvariants : Obligations.ResetMeetsInvariants := by
  refine ⟨?_, ⟨nofun, ?_⟩, State.reset_proofOk, nofun, State.reset_limitOk, ?_, ?_, ?_⟩
  · exact State.tablesOk_iff.mpr ⟨⟨⟨by decide, by decide⟩, nofun⟩, ⟨by decide, by decide⟩, ⟨by decide, by decide⟩, by decide,
      by decide, by decide, ⟨by decide, by decide⟩, ⟨by decide, by decide⟩, by decide, by decide⟩
  · intro d
    cases d <;> nofun
  · refine ⟨⟨?_, ?_, ?_⟩, ⟨?_, ?_, ?_⟩, ?_, ?_, nofun, nofun, nofun, nofun⟩ <;> decide
  · refine ⟨?_, fun _ => rfl, trivial⟩
    decide
  · intro side
    cases side <;> nofun

end Sys2Proof.Machine
end

section
/-! SUPPORT. The own number: the SELF entry, kept block by block, and the number once taken. -/

namespace Sys2Proof.Machine

variable {s t : State}

theorem State.numberOk_iff :
    s.numberOk ↔ (∀ i : Fin 8, s.peers[i].state = .self ↔ s.line.own = some i) ∧ s.line.unnumbered ∧ s.line.sendingHeld :=
  Iff.rfl

theorem State.setPeer_peers (i : Fin 8) (e : PeerEntry) : (s.setPeer i e).peers = s.peers.set i e := rfl

theorem restartPeers_get (now : Nat) (r : Retained) (i : Fin 8) : (restartPeers now r)[i] = restartPeer now r i := by
  fin_cases i <;> rfl

/-- The retained entries come back without a SELF entry, the own one as SELF (R81). -/
theorem restartPeers_state_iff {now : Nat} {r : Retained} {n : Fin 8} (hown : r.own = some n) (i : Fin 8) :
    (restartPeers now r)[i].state = .self ↔ some n = some i := by
  rw [restartPeers_get, restartPeer, hown]
  split
  next hi => simp [hi]
  next hi =>
    simp only [hi, iff_false]
    unfold restartEntry
    split <;> simp [PeerEntry.blank]

/-- A blank peer table and line, as a loss of supply and a cold start leave them. -/
theorem State.numberOk_blank (hpeers : t.peers = State.reset.peers) (hown : t.line.own = none)
    (hsending : t.line.sending = none) : t.numberOk := by
  refine numberOk_iff.mpr ⟨?_, fun _ => hown, ?_⟩
  · rw [hpeers, hown]
    decide
  · simp [Line.sendingHeld, hsending]

theorem State.numberOk_kept : State.KeptBlockwiseThroughout State.numberOk where
  rack := id
  freeCount := id
  engagement _ _ := id
  line hv h := by
    obtain ⟨hself, hun, hheld⟩ := numberOk_iff.mp h
    refine numberOk_iff.mpr ⟨fun i => ?_, hv.unnumbered hun, hv.held hheld⟩
    rw [State.setLine_line, hv.own]
    exact hself i
  brake _ _ _ := id
  doors _ := id
  radio _ _ := id
  speed := id
  restrictions _ := id
  faults _ := id
  peers hv h := by
    obtain ⟨hself, hrest⟩ := numberOk_iff.mp h
    exact numberOk_iff.mpr ⟨fun i => (hv i).trans (hself i), hrest⟩
  own {s} n hnone h := by
    obtain ⟨hself, hun, hheld⟩ := numberOk_iff.mp h
    have hown : s.line.own = none := hnone hun
    refine numberOk_iff.mpr ⟨fun i => ?_, nofun, hheld⟩
    by_cases hi : n = i
    · subst hi
      simp [setPeer_peers]
    · simpa [setPeer_peers, Fin.val_inj, hi, hown] using hself i
  clock := id
  pins := id
  pending := id
  station := id
  valid _ := id
  keepStore h := State.of_ite (fun _ => h) fun _ => h
  dropOut _ := numberOk_blank rfl rfl rfl
  blank _ _ := numberOk_blank rfl rfl rfl
  warm levels n hown _ := by
    refine numberOk_iff.mpr ⟨fun i => ?_, nofun, trivial⟩
    exact restartPeers_state_iff hown i
  cold _ _ _ := numberOk_blank rfl rfl rfl

theorem State.numberOk_keptByCommands : State.KeptByCommands State.numberOk :=
  State.numberOk_kept.keptByCommands fun hrun h => by
    have hcycle : State.KeptInCycle State.numberOk :=
      { State.numberOk_kept.keptAtChanges with
        cycle := fun _ => id
        release := fun h => State.of_ite (fun _ => State.of_ite (fun _ => State.numberOk_kept.retest h) fun _ => h) fun _ => h }
    exact hcycle.brakeCycle hrun h

/-! ## The number once taken -/

/-- A station with this number, neither in CHAIN_WAIT nor listening. -/
def State.hasNumber (n : Fin 8) (s : State) : Prop := s.line.own = some n ∧ s.line.unnumbered

/-- A station with a number takes no other: only one in CHAIN_WAIT or listening takes any. -/
theorem State.hasNumber_keptBlockwise (n : Fin 8) : State.KeptBlockwise (State.hasNumber n) where
  rack := id
  freeCount := id
  engagement _ _ := id
  line hv h := ⟨hv.own.trans h.1, hv.unnumbered h.2⟩
  brake _ _ _ := id
  doors _ := id
  radio _ _ := id
  speed := id
  restrictions _ := id
  faults _ := id
  peers _ := id
  own _ hnone h := absurd (hnone h.2) (by simp [h.1])

theorem State.hasNumber_keptInCycle (n : Fin 8) : State.KeptInCycle (State.hasNumber n) :=
  have hP := State.hasNumber_keptBlockwise n
  { hP.keptFreely.kept with
    proving := fun _ h => h
    ready := fun _ h => h
    stop := fun {_} _ h => hP.raise (k := .supplyFail) h
    cycle := fun _ h => h
    release := fun h => State.of_ite (fun _ => State.of_ite (fun _ => hP.retest h) fun _ => h) fun _ => h }

theorem State.hasNumber_kept (n : Fin 8) : State.KeptByEffects (State.hasNumber n) :=
  have hP := State.hasNumber_keptBlockwise n
  (State.hasNumber_keptInCycle n).toKept.keptByEffects (State.hasNumber_keptInCycle n).stop id id id (fun h => State.of_ite (fun _ => h) fun _ => h) hP.setLatch
    fun h => hP.clear _ (by exact h)

/-- Settles O15: the invariant block by block, the number as the effects of the other commands keep it. -/
theorem numberStaysOnceTaken : Obligations.NumberStaysOnceTaken := by
  intro c s t hok hexec
  refine ⟨State.numberOk_keptByCommands.exec hok hexec, fun hsome hc => ?_⟩
  obtain ⟨n, hown⟩ := Option.isSome_iff_exists.mp hsome
  obtain ⟨-, hun, -⟩ := State.numberOk_iff.mp hok
  have hkept : t.hasNumber n := (State.hasNumber_kept n).exec hc
    ((State.hasNumber_keptInCycle n).keptAt fun _ _ => (State.hasNumber_keptInCycle n).brakeCycle) ⟨hown, hun⟩ hexec
  exact hkept.1.trans hown.symm

end Sys2Proof.Machine
end

section
/-! SUPPORT. Conditions of class C bring no reaction; the saturations are occurrences of one. The pinions' bounds, kept
block by block and through a brake cycle. -/

namespace Sys2Proof.Machine

variable {s t : State} {k : FaultKind}

/-! ## Class C (R183, R186) -/

theorem State.raise_of_classC (h : faultClassOf s.straps.strict k = .c) : s.raise k = s.recordOccurrence k := by
  have hstraps : (s.recordOccurrence k).straps = s.straps := State.straps_congr (by simp)
  simp [State.raise, State.react, hstraps, h]

theorem State.clear_of_classC (h : faultClassOf s.straps.strict k = .c) :
    s.clear k = if s.present k then s.recordGoing k else s := by
  simp [State.clear, h]

theorem State.raiseTimes_of_classC (n : Nat) (h : faultClassOf s.straps.strict k = .c) :
    s.raiseTimes k n = s.setFaults ((fun f : Faults => f.occur s.straps.strict k)^[n] s.faults) := by
  induction n generalizing s with
  | zero => rfl
  | succ n ih =>
    have hstraps : (s.recordOccurrence k).straps = s.straps := State.straps_congr (by simp)
    rw [State.raiseTimes, State.raise_of_classC h, ih (by rw [hstraps]; exact h), hstraps]
    rfl

/-- Saturations set the arithmetic-limit flag and are so many occurrences of ARITH_LIMIT (R84). -/
theorem State.saturations_eq (n : Nat) (s : State) :
    s.saturations n
      = (s.setSpeed { s.speed with arithLimit := decide (n ≠ 0) || s.speed.arithLimit }).setFaults
        ((fun f : Faults => f.occur s.straps.strict .arithLimit)^[n] s.faults) := by
  unfold State.saturations
  split
  next h => simp [h]; rfl
  next h =>
    rw [State.raiseTimes_of_classC n rfl]
    simp [h]
    rfl

@[simp] theorem State.saturations_brake (n : Nat) : (s.saturations n).brake = s.brake := by
  rw [State.saturations_eq]
  rfl

@[simp] theorem State.saturations_doors (n : Nat) : (s.saturations n).doors = s.doors := by
  rw [State.saturations_eq]
  rfl

/-! ## Arithmetic bounds (R84, R108, R114, R115) -/

theorem Sat.to32_le (a : Sat) : a.to32.val ≤ 2147483647 := by
  unfold Sat.to32 Sat.bound destinationEnd
  split
  · rfl
  · split
    · simp
    · simp only
      omega

theorem energyAfter_le (energy force speed : Nat) (present : Bool) :
    (energyAfter energy force speed present).val.toNat ≤ 2147483647 := by
  have hle : (energyAfter energy force speed present).val ≤ 2147483647 := by
    unfold energyAfter
    split
    · exact Sat.to32_le _
    · exact Sat.to32_le _
  omega

theorem deratedCapacity_le (p : Straps) (failed : Bool) (energy : Nat) :
    deratedCapacity p failed energy ≤ p.pinionNominal := by
  unfold deratedCapacity
  (repeat' split) <;> omega

/-- Each part of the split is within its pinion's capacity, as long as the force is within both (R108). -/
theorem splitForce_le {force c1 c2 : Nat} (h : force ≤ c1 + c2) :
    (splitForce force c1 c2).1 ≤ c1 ∧ (splitForce force c1 c2).2 ≤ c2 := by
  unfold splitForce
  split
  next => exact ⟨Nat.zero_le _, Nat.zero_le _⟩
  next hsum =>
    have hshare (c : Nat) : force * c / (c1 + c2) ≤ c :=
      Nat.div_le_of_le_mul (Nat.mul_le_mul_right c h)
    refine ⟨?_, hshare c2⟩
    dsimp only
    split
    · assumption
    · exact hshare c1

theorem PinionBrake.capacity_le (b : PinionBrake) : b.capacity ≤ b.derated := by
  unfold PinionBrake.capacity
  split <;> omega

theorem State.serviceForce_le (target : Nat) (s : State) : (s.serviceForce target).val.toNat ≤ s.serviceCapacity := by
  have hle : (s.serviceForce target).val ≤ s.serviceCapacity := min_le_left _ _
  omega

/-! ## The bounds, with a clause for each pinion -/

/-- Energy and derated capacity of a pinion brake within their bounds, and a clause of its own. -/
def PinionBrake.within (Q : PinionBrake → Prop) (nominal : Nat) (b : PinionBrake) : Prop :=
  b.energy ≤ 2147483647 ∧ b.derated ≤ nominal ∧ Q b

/-- The bounds of both pinions and of their retained copies, with the clause `Q` on each pinion brake. -/
def State.pinionsWithin (Q : PinionBrake → Prop) (s : State) : Prop :=
  s.brake.pinions.p1.within Q s.straps.pinionNominal ∧ s.brake.pinions.p2.within Q s.straps.pinionNominal
    ∧ s.store.items.energies.p1 ≤ 2147483647 ∧ s.store.items.energies.p2 ≤ 2147483647
    ∧ s.engagement.pinions.p1.window.ok ∧ s.engagement.pinions.p2.window.ok
    ∧ s.store.items.windows.p1.ok ∧ s.store.items.windows.p2.ok

/-- A pinion's command is within its derated capacity (R108). -/
def PinionBrake.commanded (b : PinionBrake) : Prop := b.mode.command ≤ b.derated

theorem PinionBrake.commanded_quiet {b v : PinionBrake} (hv : b.Quiet v) (h : b.commanded) : v.commanded := by
  unfold PinionBrake.commanded at *
  rcases hv.mode with hmode | hmode
  · rwa [hmode, hv.derated]
  · simp [hmode]

theorem Window.restarted_ok {w : Window} (h : w.ok) : w.restarted.ok := by
  unfold Window.restarted
  split
  · nofun
  · exact h

section Within

variable {Q : PinionBrake → Prop}

theorem PinionBrake.within_quiet (hQ : ∀ {b v : PinionBrake}, b.Quiet v → Q b → Q v) {b v : PinionBrake} {nominal : Nat}
    (hv : b.Quiet v) (h : b.within Q nominal) : v.within Q nominal := by
  obtain ⟨henergy, hderated, hclause⟩ := h
  exact ⟨hv.energy ▸ henergy, hv.derated ▸ hderated, hQ hv hclause⟩

theorem PinionBrake.started_within (hstarted : ∀ b : PinionBrake, b.mode = .full → Q b) (p : Straps) {energy : Nat}
    (failed : Bool) (h : energy ≤ 2147483647) : (PinionBrake.started p energy failed).within Q p.pinionNominal :=
  ⟨h, deratedCapacity_le p failed energy, hstarted _ rfl⟩

/-- The pinions and windows that a loss of supply and a cold start leave. -/
theorem State.pinionsWithin_begun (hstarted : ∀ b : PinionBrake, b.mode = .full → Q b) {now : Nat}
    (hbrake : t.brake = Brake.coldStarted now t.straps) (hengagement : t.engagement = Engagement.initial)
    (hitems : t.store.items = s.store.items) (h : s.pinionsWithin Q) : t.pinionsWithin Q := by
  obtain ⟨-, -, he1, he2, -, -, hw1, hw2⟩ := h
  unfold State.pinionsWithin
  rw [hbrake, hengagement, hitems]
  exact ⟨PinionBrake.started_within hstarted _ _ (Nat.zero_le _), PinionBrake.started_within hstarted _ _ (Nat.zero_le _),
    he1, he2, nofun, nofun, hw1, hw2⟩

theorem State.pinionsWithin_setBrake (hQ : ∀ {b v : PinionBrake}, b.Quiet v → Q b → Q v) {v : Brake}
    (hp1 : s.brake.pinions.p1.Quiet v.pinions.p1) (hp2 : s.brake.pinions.p2.Quiet v.pinions.p2)
    (h : s.pinionsWithin Q) : (s.setBrake v).pinionsWithin Q := by
  obtain ⟨hb1, hb2, hrest⟩ := h
  exact ⟨PinionBrake.within_quiet hQ hp1 hb1, PinionBrake.within_quiet hQ hp2 hb2, hrest⟩

theorem State.pinionsWithin_kept (hQ : ∀ {b v : PinionBrake}, b.Quiet v → Q b → Q v)
    (hstarted : ∀ b : PinionBrake, b.mode = .full → Q b) : State.KeptBlockwiseThroughout (State.pinionsWithin Q) where
  rack := id
  freeCount := id
  engagement hp1 hp2 h := by
    obtain ⟨hb1, hb2, he1, he2, hw1, hw2, hstored⟩ := h
    exact ⟨hb1, hb2, he1, he2, hp1 hw1, hp2 hw2, hstored⟩
  line _ := id
  brake hp1 hp2 _ := pinionsWithin_setBrake hQ hp1 hp2
  doors _ := id
  radio _ _ := id
  speed := id
  restrictions _ := id
  faults _ := id
  peers _ := id
  own _ _ := id
  clock := id
  pins := id
  pending := id
  station := id
  valid _ := id
  keepStore h := by
    refine of_ite (fun _ => ?_) fun _ => h
    obtain ⟨hb1, hb2, -, -, hw1, hw2, -⟩ := h
    exact ⟨hb1, hb2, hb1.1, hb2.1, hw1, hw2, hw1, hw2⟩
  dropOut := pinionsWithin_begun hstarted rfl rfl rfl
  blank _ := pinionsWithin_begun hstarted rfl rfl rfl
  warm levels n _ h := by
    obtain ⟨-, -, he1, he2, -, -, hw1, hw2⟩ := h
    exact ⟨PinionBrake.started_within hstarted _ _ he1, PinionBrake.started_within hstarted _ _ he2, he1, he2,
      Window.restarted_ok hw1, Window.restarted_ok hw2, hw1, hw2⟩
  cold _ _ := pinionsWithin_begun hstarted rfl rfl rfl

end Within

/-! ## Through a brake cycle -/

/-- The bounds without the commands, which a cycle's energy step leaves behind and its last step forms anew. -/
def State.pinionsBounded (s : State) : Prop := s.pinionsWithin fun _ => True

theorem State.pinionsBounded_kept : State.KeptBlockwiseThroughout State.pinionsBounded :=
  State.pinionsWithin_kept (fun _ h => h) fun _ _ => trivial

theorem State.pinionsOk_kept : State.KeptBlockwiseThroughout State.pinionsOk :=
  State.pinionsWithin_kept PinionBrake.commanded_quiet fun b hfull => by
    simp [PinionBrake.commanded, hfull, PinionMode.command]

theorem State.heatPinion_pinionsBounded (p : Pinion) (h : s.pinionsBounded) : (s.heatPinion p).pinionsBounded := by
  refine State.pinionsBounded_kept.keptFreely.kept.saturations _ ?_
  obtain ⟨hb1, hb2, hrest⟩ := h
  cases p
  · exact ⟨⟨energyAfter_le _ _ _ _, deratedCapacity_le _ _ _, trivial⟩, hb2, hrest⟩
  · exact ⟨hb1, ⟨energyAfter_le _ _ _ _, deratedCapacity_le _ _ _, trivial⟩, hrest⟩

theorem Brake.testing_quiet (p : Pinion) (b : Brake) :
    b.pinions.p1.Quiet (b.testing p).pinions.p1 ∧ b.pinions.p2.Quiet (b.testing p).pinions.p2 := by
  cases p <;> exact ⟨⟨rfl, rfl, .inr rfl⟩, ⟨rfl, rfl, .inr rfl⟩⟩

theorem State.energyStep_pinionsBounded (h : s.pinionsBounded) : s.energyStep.pinionsBounded := by
  have hP := State.pinionsBounded_kept.toKeptBlockwise
  have hfade {u : State} (before : State) (p : Pinion) (hu : u.pinionsBounded) : (u.raiseFade before p).pinionsBounded :=
    of_ite (fun _ => hP.raise _ hu) fun _ => hu
  have hfaded := hfade s .p2 (hfade s .p1 (heatPinion_pinionsBounded .p2 (heatPinion_pinionsBounded .p1 h)))
  exact of_ite (fun _ => hfaded) fun _ => hP.clear _ hfaded

theorem State.sampleStep_pinionsBounded (h : s.pinionsBounded) : s.sampleStep.pinionsBounded := by
  have hbrake {u : State} {v : Brake} (hp1 : u.brake.pinions.p1.Quiet v.pinions.p1)
      (hp2 : u.brake.pinions.p2.Quiet v.pinions.p2) (hu : u.pinionsBounded) : (u.setBrake v).pinionsBounded :=
    pinionsWithin_setBrake (fun _ h => h) hp1 hp2 hu
  have hread (p : Pinion) : (s.takeReading p).pinionsBounded := by
    have hsum := hbrake (v := { s.brake with
      sampleSum := s.brake.sampleSum + s.feedbackOf p, sampleCount := s.brake.sampleCount + 1 }) (.refl _) (.refl _) h
    refine of_ite (fun _ => ?_) fun _ => hsum
    cases p
    · exact hbrake (Brake.testing_quiet .p2 _).1 (Brake.testing_quiet .p2 _).2 hsum
    · exact State.pinionsBounded_kept.keptAtChanges.completeProof (hbrake (.refl _) (.refl _) hsum)
  refine of_ite (fun _ => ?_) fun _ => h
  split
  · exact h
  · exact hread _
  · exact h
  · exact hread _

theorem State.releaseStep_pinionsBounded (h : s.pinionsBounded) : s.releaseStep.pinionsBounded := by
  have hbrake {u : State} {v : Brake} (hpinions : v.pinions = u.brake.pinions) (hu : u.pinionsBounded) :
      (u.setBrake v).pinionsBounded :=
    pinionsWithin_setBrake (fun _ h => h) (hpinions ▸ .refl _) (hpinions ▸ .refl _) hu
  refine of_ite (fun _ => of_ite (fun _ => ?_) fun _ => hbrake rfl h) fun _ => h
  exact State.pinionsBounded_kept.retest (hbrake rfl (hbrake rfl h))

/-- The steps of a cycle before the sharing. -/
theorem State.beforeSharing_pinionsBounded (hrun : s.running = true) (h : s.pinionsBounded) :
    ((((s.energyStep.failureStep).sampleStep).automaticStep).releaseStep).pinionsBounded := by
  have hP := State.pinionsBounded_kept.keptFreely.kept
  refine releaseStep_pinionsBounded (of_ite (fun hpending => hP.startProof ?_ hpending.2 ?_) fun _ => ?_)
  · exact running_kept.sampleStep (running_kept.failureStep (running_kept.energyStep hrun))
  all_goals exact sampleStep_pinionsBounded (hP.failureStep (energyStep_pinionsBounded h))

/-- On the rack the split is within the derated capacities. -/
theorem State.sharingStep_split (s : State) (hpresent : s.rack.present = true) :
    s.sharingStep.brake.pinions.p1.split ≤ s.brake.pinions.p1.derated
      ∧ s.sharingStep.brake.pinions.p2.split ≤ s.brake.pinions.p2.derated := by
  have hforce := s.serviceForce_le s.arbitrate
  simp only [serviceCapacity, hpresent, if_true] at hforce
  obtain ⟨h1, h2⟩ := splitForce_le hforce
  simp only [sharingStep, saturations_brake, setBrake_brake, hpresent, if_true]
  exact ⟨h1.trans (PinionBrake.capacity_le _), h2.trans (PinionBrake.capacity_le _)⟩

theorem PinionBrake.ok_of_core {b v : PinionBrake} {nominal : Nat} (h : b.within (fun _ => True) nominal)
    (henergy : v.energy = b.energy) (hderated : v.derated = b.derated) (hcommand : v.mode.command ≤ b.derated) :
    v.ok nominal := by
  obtain ⟨hfield, hnominal, -⟩ := h
  exact ⟨henergy ▸ hfield, hderated ▸ hnominal, hderated ▸ hcommand⟩

/-- The modes that a cycle ends with command nothing, or on the rack the split (R102). -/
theorem State.modesStep_pinionsOk (h : s.pinionsBounded)
    (hsplit : s.rack.present = true → s.brake.pinions.p1.split ≤ s.brake.pinions.p1.derated
      ∧ s.brake.pinions.p2.split ≤ s.brake.pinions.p2.derated) : s.modesStep.pinionsOk := by
  obtain ⟨hb1, hb2, hrest⟩ := h
  unfold State.modesStep
  split
  · exact ⟨PinionBrake.ok_of_core hb1 rfl rfl (Nat.zero_le _), PinionBrake.ok_of_core hb2 rfl rfl (Nat.zero_le _), hrest⟩
  split
  · cases s.brake.proof.phase.tested <;>
      exact ⟨PinionBrake.ok_of_core hb1 rfl rfl (Nat.zero_le _), PinionBrake.ok_of_core hb2 rfl rfl (Nat.zero_le _), hrest⟩
  split
  · exact ⟨PinionBrake.ok_of_core hb1 rfl rfl (Nat.zero_le _), PinionBrake.ok_of_core hb2 rfl rfl (Nat.zero_le _), hrest⟩
  split
  next hpresent =>
    exact ⟨PinionBrake.ok_of_core hb1 rfl rfl (hsplit hpresent).1, PinionBrake.ok_of_core hb2 rfl rfl (hsplit hpresent).2,
      hrest⟩
  next =>
    exact ⟨PinionBrake.ok_of_core hb1 rfl rfl (Nat.zero_le _), PinionBrake.ok_of_core hb2 rfl rfl (Nat.zero_le _), hrest⟩

theorem State.sharingStep_pinionsBounded (h : s.pinionsBounded) : s.sharingStep.pinionsBounded := by
  obtain ⟨hb1, hb2, hrest⟩ := h
  exact State.pinionsBounded_kept.keptFreely.kept.saturations _ ⟨hb1, hb2, hrest⟩

theorem State.modesOfSharing_pinionsOk (h : s.pinionsBounded) : s.sharingStep.modesStep.pinionsOk := by
  refine modesStep_pinionsOk (sharingStep_pinionsBounded h) fun hpresent => ?_
  have hrack : s.sharingStep.rack = s.rack := by simp
  have hsplit := s.sharingStep_split (by rw [← hrack]; exact hpresent)
  simpa [sharingStep] using hsplit

theorem State.brakeCycle_pinionsOk (hrun : s.running = true) (h : s.pinionsOk) : s.brakeCycle.pinionsOk := by
  obtain ⟨⟨he1, hd1, -⟩, ⟨he2, hd2, -⟩, hrest⟩ := h
  exact modesOfSharing_pinionsOk (beforeSharing_pinionsBounded hrun ⟨⟨he1, hd1, trivial⟩, ⟨he2, hd2, trivial⟩, hrest⟩)

/-- Settles O14: block by block, and through a brake cycle without the commands, which its last step forms from the
split. -/
theorem pinionsStayInBounds : Obligations.PinionsStayInBounds := fun _ _ =>
  (State.pinionsOk_kept.keptByCommands State.brakeCycle_pinionsOk).step

end Sys2Proof.Machine
end

section
/-! SUPPORT. What a raise, a going and the operations they run through leave: the presences, the limits, the parts of the
state (R94, R111, R129, R183 to R188). -/

namespace Sys2Proof.Machine

variable {s t : State} {k j : FaultKind}

/-! ## Straps through the shared operations -/

@[simp] theorem State.setFaults_straps (v : Faults) : (s.setFaults v).straps = s.straps := rfl

@[simp] theorem State.setBrake_straps (v : Brake) : (s.setBrake v).straps = s.straps := rfl

@[simp] theorem State.setLine_straps (v : Line) : (s.setLine v).straps = s.straps := rfl

@[simp] theorem State.setSpeed_straps (v : Speed) : (s.setSpeed v).straps = s.straps := rfl

@[simp] theorem State.setRack_straps (v : Rack) : (s.setRack v).straps = s.straps := rfl

@[simp] theorem State.setDoors_straps (v : DoorControl) : (s.setDoors v).straps = s.straps := rfl

@[simp] theorem State.recordOccurrence_straps (k : FaultKind) : (s.recordOccurrence k).straps = s.straps := rfl

@[simp] theorem State.recordGoing_straps (k : FaultKind) : (s.recordGoing k).straps = s.straps := rfl

@[simp] theorem State.raise_straps (k : FaultKind) : (s.raise k).straps = s.straps := straps_congr (by simp)

@[simp] theorem State.clear_straps (k : FaultKind) : (s.clear k).straps = s.straps := straps_congr (by simp)

@[simp] theorem State.saturations_straps (n : Nat) : (s.saturations n).straps = s.straps := straps_congr (by simp)

/-! ## Fields by name -/

theorem State.raise_station (k : FaultKind) : (s.raise k).station = s.station := by simp

theorem State.raise_peers (k : FaultKind) : (s.raise k).peers = s.peers := by simp

theorem State.keepStore_station : s.keepStore.station = s.station := by simp

theorem State.keepStore_brake : s.keepStore.brake = s.brake := by simp

theorem State.clear_station (k : FaultKind) : (s.clear k).station = s.station := by simp

theorem State.clear_brake (k : FaultKind) : (s.clear k).brake = s.brake := by simp

theorem State.clear_line (k : FaultKind) : (s.clear k).line = s.line := by simp

theorem State.clear_speed (k : FaultKind) : (s.clear k).speed = s.speed := by simp

/-! ## Presences -/

theorem State.lowerLimit_present (c : Nat) (j : FaultKind) : (s.lowerLimit c).present j = s.present j :=
  present_congr (by simp) j

theorem State.applyHolding_present (hj : j ≠ .loadSensor) : s.applyHolding.present j = s.present j := by
  unfold State.applyHolding
  split
  · rfl
  · exact (retestPermits_present _ hj).trans (present_congr (by simp) j)

theorem State.setLatch_present (hj : j ≠ .loadSensor) : s.setLatch.present j = s.present j := by
  unfold State.setLatch
  split
  · rfl
  · dsimp only
    rw [lowerLimit_present]
    split
    · exact (applyHolding_present hj).trans (present_congr (by simp) j)
    · exact present_congr (by simp) j

theorem State.assertPull_present (hj : j ≠ .loadSensor) : (s.assertPull k).present j = s.present j := by
  unfold State.assertPull
  split
  · rfl
  · have hplaced (u : State) : (u.placeAlert k).present j = u.present j := present_congr (by simp) j
    rw [hplaced, setLatch_present hj]
    rfl

/-- A reaction raises or ends no kind but LOAD_SENSOR, by the mass latch. -/
theorem State.react_present (hj : j ≠ .loadSensor) : (s.react k).present j = s.present j := by
  unfold State.react
  split
  · exact (retestPermits_present _ hj).trans ((lowerLimit_present _ _).trans (assertPull_present hj))
  · exact (retestPermits_present _ hj).trans (lowerLimit_present _ _)
  · rfl

theorem State.raise_present_self (k : FaultKind) : (s.raise k).present k = true := by
  unfold State.raise
  split
  · exact present_recordOccurrence_self k
  by_cases hk : k = .loadSensor
  · subst hk
    exact present_recordOccurrence_self (s := s) .loadSensor
  · exact (react_present hk).trans (present_recordOccurrence_self k)

theorem State.raise_present_of_ne (h : j ≠ k) (hj : j ≠ .loadSensor) : (s.raise k).present j = s.present j := by
  unfold State.raise
  split
  · exact present_recordOccurrence_of_ne h
  · exact (react_present hj).trans (present_recordOccurrence_of_ne h)

theorem State.clear_present_of_ne (h : j ≠ k) (hj : j ≠ .loadSensor) : (s.clear k).present j = s.present j := by
  have hgone : (s.recordGoing k).present j = s.present j := s.faults.present_going_of_ne h
  unfold State.clear
  split
  · split
    · exact (retestPermits_present _ hj).trans hgone
    · exact (retestPermits_present _ hj).trans hgone
    · exact hgone
  · rfl

theorem State.clear_of_absent (h : s.present k = false) : s.clear k = s := by
  simp [State.clear, h]

theorem Faults.present_iterate_occur (n : Nat) (f : Faults) (strict : Bool) (h : j ≠ k) :
    ((fun g : Faults => g.occur strict k)^[n] f).present j = f.present j := by
  induction n generalizing f with
  | zero => rfl
  | succ n ih => exact (ih _).trans (f.present_occur_of_ne _ h)

theorem State.saturations_present (n : Nat) (h : j ≠ .arithLimit) : (s.saturations n).present j = s.present j := by
  rw [saturations_eq]
  exact Faults.present_iterate_occur n s.faults _ h

/-! ## Limits -/

@[simp] theorem State.lowerLimit_localLimit (c : Nat) :
    (s.lowerLimit c).speed.localLimit = min s.speed.localLimit c := rfl

theorem State.react_localLimit (h : faultClassOf s.straps.strict k ≠ .c) : (s.react k).speed.localLimit = 0 := by
  unfold State.react
  split
  · simp
  · simp
  next hc => exact absurd hc h

/-- A class A or B condition that becomes present takes the local limit to 0 (R94). -/
theorem State.raise_localLimit (h : faultClassOf s.straps.strict k ≠ .c) (habsent : s.present k = false) :
    (s.raise k).speed.localLimit = 0 := by
  rw [State.raise, habsent]
  exact react_localLimit h

/-! ## Without class A the brake and the line stand -/

theorem State.react_stands (h : faultClassOf s.straps.strict k ≠ .a) :
    (s.react k).brake = s.brake ∧ (s.react k).line = s.line := by
  unfold State.react
  split
  next ha => exact absurd ha h
  next => simp
  next => exact ⟨rfl, rfl⟩

theorem State.raise_brake (h : faultClassOf s.straps.strict k ≠ .a) : (s.raise k).brake = s.brake := by
  unfold State.raise
  split
  · rfl
  · exact (react_stands (s := s.recordOccurrence k) h).1.trans rfl

theorem State.raise_line (h : faultClassOf s.straps.strict k ≠ .a) : (s.raise k).line = s.line := by
  unfold State.raise
  split
  · rfl
  · exact (react_stands (s := s.recordOccurrence k) h).2.trans rfl

/-! ## The parts that the shared operations change -/

theorem setDoors_onlyChanges (v : DoorControl) : onlyChanges [.doors, .sideReleases, .mass] s (s.setDoors v) := by
  intro p
  cases p <;> simp [Part.same]

theorem reformEnforced_onlyChanges : onlyChanges [.limit] s s.reformEnforced := by
  intro p
  cases p
  case supervision => exact .inr ⟨rfl, rfl, rfl, rfl, rfl⟩
  case arith => exact .inr rfl
  all_goals simp [Part.same]

theorem setPeer_onlyChanges (i : Fin 8) (e : PeerEntry) : onlyChanges [.peers] s (s.setPeer i e) := by
  intro p
  cases p <;> simp [Part.same]

theorem abort_onlyChanges (reason : AbortReason) :
    onlyChanges [.outputs, .proof] s (s.setBrake (s.brake.abort reason)) := by
  unfold Brake.abort
  split
  · intro p
    cases p <;> simp [Part.same, Brake.pinionsFull]
  · exact onlyChanges_refl _ _

theorem allFull_onlyChanges : onlyChanges [.outputs] s (s.setBrake s.brake.allFull) := by
  intro p
  cases p <;> simp [Part.same, Brake.allFull]

theorem releaseByHandle_onlyChanges (d : DoorId) : onlyChanges [.doors, .mass] s (s.releaseByHandle d) := by
  unfold State.releaseByHandle
  split
  · intro p
    cases p <;> simp [Part.same, DoorControl.change]
  · exact onlyChanges_refl _ _

theorem releaseByHandles_onlyChanges : onlyChanges [.doors, .mass] s s.releaseByHandles :=
  (((releaseByHandle_onlyChanges .d1).trans (releaseByHandle_onlyChanges .d2) (by simp)).trans
    (releaseByHandle_onlyChanges .d3) (by simp)).trans (releaseByHandle_onlyChanges .d4) (by simp)

/-- The parts that the holding brake may change as it applies. -/
def Part.ofHolding : List Part := [.holding, .outputs, .faults, .doors, .sideReleases, .mass]

theorem applyHolding_onlyChanges : onlyChanges Part.ofHolding s s.applyHolding := by
  unfold State.applyHolding
  split
  · exact onlyChanges_refl _ _
  · have hbrake : onlyChanges Part.ofHolding s (s.setBrake { s.brake.allFull with applied := true }) := by
      intro p
      cases p <;> simp [Part.same, Part.ofHolding, Brake.allFull]
    exact (hbrake.trans (releaseByHandles_onlyChanges.mono (by decide)) (by simp)).trans
      ((retestPermits_onlyChanges _).mono (by decide)) (by simp)

/-- An offer touches the transmission alone (R39, R48). -/
theorem Line.offer_eq (l : Line) : ∃ sending bus, l.offer = { l with sending := sending, bus := bus } := by
  obtain ⟨slot, -, -, -, h⟩ | ⟨h, -⟩ := l.offer_cases
  · exact ⟨_, _, h⟩
  · exact ⟨_, _, h⟩

theorem offer_onlyChanges : onlyChanges [.transmission] s (s.setLine s.line.offer) := by
  obtain ⟨sending, bus, h⟩ := s.line.offer_eq
  rw [h]
  intro p
  cases p <;> simp [Part.same]

theorem placeAlert_onlyChanges (k : FaultKind) : onlyChanges [.slots, .transmission] s (s.placeAlert k) := by
  unfold State.placeAlert
  split
  · exact onlyChanges_refl _ _
  split
  · intro p
    cases p <;> simp [Part.same]
  next n _ _ =>
    have hplaced (f : LineFrame) : onlyChanges [.slots, .transmission] s (s.setLine { s.line with alert := some f }) := by
      intro p
      cases p <;> simp [Part.same]
    exact (hplaced _).trans (offer_onlyChanges.mono (by simp)) rfl

/-- The parts that the emergency latch may change as it is set. -/
def Part.ofLatch : List Part := Part.also Part.ofClassB [.emergency, .holding, .outputs, .proof]

theorem setLatch_onlyChanges : onlyChanges Part.ofLatch s s.setLatch := by
  unfold State.setLatch
  split
  · exact onlyChanges_refl _ _
  · have hset : onlyChanges Part.ofLatch s
        (s.setBrake { (s.brake.abort .emergency).allFull with latch := true, releasePending := false }) := by
      have habort := (abort_onlyChanges (s := s) .emergency).mono (qs := Part.ofLatch) (by decide)
      refine habort.trans (fun p => ?_) rfl
      cases p <;> simp [Part.same, Part.ofLatch, Part.also, Part.ofClassB, Brake.allFull]
    dsimp only
    refine onlyChanges.trans ?_ ((lowerLimit_onlyChanges _ _).mono (by decide)) ?_
    · split
      · exact hset.trans (applyHolding_onlyChanges.mono (by decide)) rfl
      · exact hset
    · split <;> simp

theorem assertPull_onlyChanges (k : FaultKind) : onlyChanges Part.ofClassA s (s.assertPull k) := by
  unfold State.assertPull
  split
  · exact onlyChanges_refl _ _
  · have hset : onlyChanges Part.ofClassA s (s.setBrake { s.brake with ownPull := true }) := by
      intro p
      cases p <;> simp [Part.same, Part.ofClassA, Part.also, Part.ofClassB]
    exact (hset.trans (setLatch_onlyChanges.mono (by decide)) rfl).trans
      ((placeAlert_onlyChanges _).mono (by decide)) (by simp)

theorem lowerAndRetest_onlyChanges (c : Nat) : onlyChanges Part.ofClassB s ((s.lowerLimit c).retestPermits) :=
  ((lowerLimit_onlyChanges s c).mono (by decide)).trans ((retestPermits_onlyChanges _).mono (by decide)) (by simp)

theorem react_onlyChanges (k : FaultKind) : onlyChanges Part.ofClassA s (s.react k) := by
  unfold State.react
  split
  · exact (assertPull_onlyChanges k).trans ((lowerAndRetest_onlyChanges 0).mono (by decide)) (by simp)
  · exact (lowerAndRetest_onlyChanges 0).mono (by decide)
  · exact onlyChanges_refl _ _

theorem raise_onlyChanges (k : FaultKind) : onlyChanges Part.ofClassA s (s.raise k) := by
  have hrecord : onlyChanges Part.ofClassA s (s.recordOccurrence k) := (setFaults_onlyChanges s _).mono (by decide)
  unfold State.raise
  split
  · exact hrecord
  · exact hrecord.trans (react_onlyChanges k) rfl

theorem raise_onlyChanges_ofClassB (h : faultClassOf s.straps.strict k ≠ .a) :
    onlyChanges Part.ofClassB s (s.raise k) := by
  have hrecord : onlyChanges Part.ofClassB s (s.recordOccurrence k) := (setFaults_onlyChanges s _).mono (by decide)
  unfold State.raise
  split
  · exact hrecord
  unfold State.react
  split
  next ha => exact absurd ha h
  next => exact hrecord.trans (lowerAndRetest_onlyChanges 0) rfl
  next => exact hrecord

theorem raise_onlyChanges_ofClassC (h : faultClassOf s.straps.strict k = .c) : onlyChanges [.faults] s (s.raise k) := by
  rw [State.raise_of_classC h]
  exact setFaults_onlyChanges s _

theorem clear_onlyChanges_ofClassB (k : FaultKind) : onlyChanges Part.ofClassB s (s.clear k) :=
  (clear_onlyChanges s k).mono (by decide)

theorem clear_onlyChanges_ofClassC (h : faultClassOf s.straps.strict k = .c) : onlyChanges [.faults] s (s.clear k) := by
  rw [State.clear_of_classC h]
  split
  · exact setFaults_onlyChanges s _
  · exact onlyChanges_refl _ _

theorem saturations_onlyChanges (n : Nat) : onlyChanges [.faults, .arith] s (s.saturations n) := by
  rw [State.saturations_eq]
  intro p
  cases p <;> simp [Part.same]

/-! ## The parts that a change of the peer table changes -/

theorem reformCabConflict_onlyChanges : onlyChanges Part.ofClassB s s.reformCabConflict := by
  unfold State.reformCabConflict
  split
  · split
    · exact onlyChanges_refl _ _
    · exact raise_onlyChanges_ofClassB nofun
  · exact clear_onlyChanges_ofClassB _

theorem reformPeerLost_onlyChanges : onlyChanges Part.ofClassB s s.reformPeerLost := by
  unfold State.reformPeerLost
  split
  · exact onlyChanges_refl _ _
  · exact clear_onlyChanges_ofClassB _

theorem reformValley_onlyChanges : onlyChanges [.valley, .limit] s s.reformValley := by
  have hset : onlyChanges [.valley, .limit] s (s.setRadio { s.radio with lostWide := s.valleyLostNow }) := by
    intro p
    cases p <;> simp [Part.same]
  unfold State.reformValley
  dsimp only
  split
  · exact hset.trans ((lowerLimit_onlyChanges _ _).mono (by decide)) rfl
  · exact hset

theorem peersChanged_onlyChanges : onlyChanges Part.ofPeers s s.peersChanged := by
  unfold State.peersChanged
  have hclaims : onlyChanges Part.ofPeers s s.reformCabConflict := reformCabConflict_onlyChanges.mono (by decide)
  have hlosses := hclaims.trans (reformPeerLost_onlyChanges.mono (by decide)) (by simp)
  have henforced := hlosses.trans (reformEnforced_onlyChanges.mono (by decide)) (by simp)
  have hvalley := henforced.trans (reformValley_onlyChanges.mono (by decide)) (by simp)
  exact hvalley.trans ((retestPermits_onlyChanges _).mono (by decide)) (by simp)

/-! ## The parts that a frame's tests change -/

theorem clash_onlyChanges : onlyChanges (Part.also Part.ofClassB [.quality]) s s.clash := by
  have htimer : onlyChanges (Part.also Part.ofClassB [.quality]) s
      (s.setLine { s.line with clashTimer := some s.clock }) := by
    intro p
    cases p <;> simp [Part.same, Part.also, Part.ofClassB]
  exact htimer.trans ((raise_onlyChanges_ofClassB (k := .numberClash) nofun).mono (by decide)) rfl

theorem clashTest_onlyChanges (source : Fin 8) :
    onlyChanges (Part.also Part.ofClassB [.quality]) s (s.clashTest source) := by
  unfold State.clashTest
  split
  · exact clash_onlyChanges
  · exact onlyChanges_refl _ _

theorem peerJoin_onlyChanges (source : Fin 8) (fields : JoinFields) :
    onlyChanges (Part.also Part.ofPeers [.quality]) s (s.peerJoin source fields) := by
  unfold State.peerJoin
  split
  · exact onlyChanges_refl _ _
  split
  · exact clash_onlyChanges.mono (by decide)
  · exact ((setPeer_onlyChanges _ _).mono (by decide)).trans (peersChanged_onlyChanges.mono (by decide)) (by simp)

/-- A part outside the list is the same. -/
theorem onlyChanges.same {ps : List Part} {p : Part} (h : onlyChanges ps s t) (hp : p ∉ ps) : p.same s t :=
  (h p).resolve_left hp

end Sys2Proof.Machine
end

section
/-! SUPPORT. The holding brake: at a brake cycle it passes to released by the release step alone (R110), and every other
command keeps it applied. -/

namespace Sys2Proof.Machine

variable {s t u : State} {k : FaultKind}

/-! ## What the release step reads -/

/-- The holding release is allowed (R110). -/
def State.releasable (s : State) : Prop :=
  s.station.life = .ready ∧ s.brake.latch = false ∧ s.classA = false ∧ s.classB = false ∧ s.summary = .allClosed
    ∧ s.allClosed = true ∧ s.brake.proof.state ≠ .running

theorem State.releaseAllowed_iff : s.releaseAllowed = true ↔ s.releasable := by
  simp [State.releaseAllowed, State.releasable, and_assoc]

/-- What the release step reads is the same in two states. -/
structure State.SameRelease (s t : State) : Prop where
  life : t.station.life = s.station.life
  latch : t.brake.latch = s.brake.latch
  proof : t.brake.proof.state = s.brake.proof.state
  doors : t.summary = s.summary
  peers : t.peers = s.peers
  straps : t.straps = s.straps
  flags : ∀ k, faultClassOf s.straps.strict k ≠ .c → t.present k = s.present k

theorem State.SameRelease.releasable_iff (h : s.SameRelease t) : t.releasable ↔ s.releasable := by
  have hA := classA_congr h.straps fun k hk => h.flags k (by simp [hk])
  have hB := classB_congr h.straps fun k hk => h.flags k (by simp [hk])
  simp only [State.releasable, h.life, h.latch, h.proof, h.doors, hA, hB, State.allClosed, h.peers]

theorem State.SameRelease.trans (hst : s.SameRelease t) (htu : t.SameRelease u) : s.SameRelease u where
  life := htu.life.trans hst.life
  latch := htu.latch.trans hst.latch
  proof := htu.proof.trans hst.proof
  doors := htu.doors.trans hst.doors
  peers := htu.peers.trans hst.peers
  straps := htu.straps.trans hst.straps
  flags k hk := (htu.flags k (by rwa [hst.straps])).trans (hst.flags k hk)

theorem State.summary_congr (h : t.doors.doors = s.doors.doors) : t.summary = s.summary := by
  simp [State.summary, h]

theorem State.sameRelease_setBrake {v : Brake} (hlatch : v.latch = s.brake.latch)
    (hproof : v.proof.state = s.brake.proof.state) : s.SameRelease (s.setBrake v) where
  life := rfl
  latch := hlatch
  proof := hproof
  doors := rfl
  peers := rfl
  straps := rfl
  flags _ _ := rfl

theorem Door.withdraw_of_closed {r : Door} {now : Nat} (h : r.closed = true) : r.withdraw now = r := by
  rcases (Door.closed_iff r).mp h with h | h <;> simp [Door.withdraw, h]

theorem PerDoor.ext {α : Type} {v w : PerDoor α} (h : ∀ d, v.get d = w.get d) : v = w := by
  obtain ⟨v1, v2, v3, v4⟩ := v
  obtain ⟨w1, w2, w3, w4⟩ := w
  have h1 : v1 = w1 := h .d1
  have h2 : v2 = w2 := h .d2
  have h3 : v3 = w3 := h .d3
  have h4 : v4 = w4 := h .d4
  rw [h1, h2, h3, h4]

theorem State.retestPermits_doors_of_closed (h : s.summary = .allClosed) : s.retestPermits.doors.doors = s.doors.doors := by
  refine PerDoor.ext fun d => ?_
  rw [retestPermits_get, Door.withdraw_of_closed ((summaryOf_eq_allClosed_iff _).mp h d), ite_self]

/-- A retest finds four closed doors closed and leaves them, so it latches no mass. -/
theorem State.sameRelease_retest (h : s.summary = .allClosed) : s.SameRelease s.retestPermits where
  life := by simp
  latch := by simp
  proof := by simp
  doors := summary_congr (retestPermits_doors_of_closed h)
  peers := by simp
  straps := straps_congr (by simp)
  flags k hk := retestPermits_present _ (by rintro rfl; exact hk rfl)

theorem State.sameRelease_saturations (n : Nat) : s.SameRelease (s.saturations n) where
  life := by simp
  latch := by simp
  proof := by simp
  doors := summary_congr (by simp)
  peers := by simp
  straps := by simp
  flags k hk := saturations_present n (by rintro rfl; exact hk rfl)

theorem State.sameRelease_keepStore : s.SameRelease s.keepStore where
  life := by simp
  latch := by simp
  proof := by simp
  doors := summary_congr (by simp)
  peers := by simp
  straps := by
    unfold State.keepStore
    split <;> rfl
  flags k _ := present_congr (by simp) k

theorem State.sameRelease_sharingStep : s.SameRelease s.sharingStep := by
  unfold State.sharingStep
  refine State.SameRelease.trans ?_ (sameRelease_saturations _)
  exact sameRelease_setBrake rfl rfl

theorem Brake.testing_stands (p : Pinion) (b : Brake) :
    (b.testing p).latch = b.latch ∧ (b.testing p).proof = b.proof ∧ (b.testing p).applied = b.applied
      ∧ (b.testing p).releasePending = b.releasePending := by
  cases p <;> exact ⟨rfl, rfl, rfl, rfl⟩

theorem State.modesStep_stands (s : State) :
    ∃ v : Brake, s.modesStep = s.setBrake v ∧ v.latch = s.brake.latch ∧ v.proof = s.brake.proof
      ∧ v.applied = s.brake.applied ∧ v.releasePending = s.brake.releasePending := by
  have htesting := Brake.testing_stands s.brake.proof.phase.tested s.brake
  unfold State.modesStep
  (repeat' split)
  · exact ⟨_, rfl, rfl, rfl, rfl, rfl⟩
  · exact ⟨_, rfl, htesting⟩
  · exact ⟨_, rfl, rfl, rfl, rfl, rfl⟩
  · exact ⟨_, rfl, rfl, rfl, rfl, rfl⟩
  · exact ⟨_, rfl, rfl, rfl, rfl, rfl⟩

theorem State.sameRelease_modesStep : s.SameRelease s.modesStep := by
  obtain ⟨v, hv, hlatch, hproof, -⟩ := s.modesStep_stands
  rw [hv]
  exact sameRelease_setBrake hlatch (by rw [hproof])

/-! ## The release step -/

/-- The request is tested and gone; the brake passes to released just when it is allowed (R110). -/
theorem State.releaseStep_spec (s : State) :
    s.SameRelease s.releaseStep ∧ s.releaseStep.brake.releasePending = false
      ∧ (s.releaseStep.brake.applied = true ↔
        s.brake.applied = true ∧ ¬(s.brake.releasePending = true ∧ s.releasable)) := by
  have hgone : s.SameRelease (s.setBrake { s.brake with releasePending := false }) := sameRelease_setBrake rfl rfl
  cases hpending : s.brake.releasePending with
  | false =>
    have hstep : s.releaseStep = s := by simp [State.releaseStep, hpending]
    rw [hstep]
    exact ⟨sameRelease_setBrake (v := s.brake) rfl rfl, hpending, by simp⟩
  | true =>
    by_cases hallowed : s.brake.applied = true ∧ s.releasable
    · obtain ⟨happlied, hreleasable⟩ := hallowed
      have hallowed' : (s.setBrake { s.brake with releasePending := false }).releaseAllowed = true :=
        releaseAllowed_iff.mpr (hgone.releasable_iff.mpr hreleasable)
      have hstep : s.releaseStep
          = ((s.setBrake { s.brake with releasePending := false }).setBrake
              { s.brake with releasePending := false, applied := false }).retestPermits := by
        unfold State.releaseStep
        rw [if_pos hpending]
        exact if_pos (Bool.and_eq_true_iff.mpr ⟨happlied, hallowed'⟩)
      rw [hstep]
      have hreleased : s.SameRelease ((s.setBrake { s.brake with releasePending := false }).setBrake
          { s.brake with releasePending := false, applied := false }) := sameRelease_setBrake rfl rfl
      have hclosed : s.summary = .allClosed := hreleasable.2.2.2.2.1
      refine ⟨hreleased.trans (sameRelease_retest (hreleased.doors.trans hclosed)), by simp, ?_⟩
      simp [hreleasable]
    · have hrefused : ((s.setBrake { s.brake with releasePending := false }).brake.applied
          && (s.setBrake { s.brake with releasePending := false }).releaseAllowed) = false := by
        rw [Bool.eq_false_iff, ne_eq, Bool.and_eq_true, releaseAllowed_iff, hgone.releasable_iff]
        exact hallowed
      have hstep : s.releaseStep = s.setBrake { s.brake with releasePending := false } := by
        simp only [State.releaseStep, hpending, if_true, hrefused]
        rfl
      rw [hstep]
      refine ⟨hgone, rfl, ?_⟩
      simp only [true_and]
      exact ⟨fun happlied => ⟨happlied, fun hreleasable => hallowed ⟨happlied, hreleasable⟩⟩, fun h => h.1⟩

/-! ## The steps before it -/

/-- The holding brake and its request stand as these. -/
def State.heldAs (applied pending : Bool) (s : State) : Prop :=
  s.brake.applied = applied ∧ s.brake.releasePending = pending

section Before

variable {applied pending : Bool}

theorem State.heldAs_congr (h : s.heldAs applied pending) (hbrake : t.brake = s.brake) : t.heldAs applied pending := by
  simpa only [State.heldAs, hbrake] using h

theorem State.heldAs_raise (h : s.heldAs applied pending) (hclass : faultClassOf s.straps.strict k ≠ .a) :
    (s.raise k).heldAs applied pending := heldAs_congr h (raise_brake hclass)

theorem State.heldAs_clear (h : s.heldAs applied pending) : (s.clear k).heldAs applied pending :=
  heldAs_congr h (by simp)

theorem State.heldAs_energyStep (h : s.heldAs applied pending) : s.energyStep.heldAs applied pending := by
  have hheat {u : State} (p : Pinion) (hu : u.heldAs applied pending) : (u.heatPinion p).heldAs applied pending :=
    heldAs_congr (s := u.setPinion p ((u.brake.pinions.get p).heated u.straps _)) hu (saturations_brake _)
  have hfade {u : State} (before : State) (p : Pinion) (hu : u.heldAs applied pending) :
      (u.raiseFade before p).heldAs applied pending :=
    of_ite (fun _ => heldAs_raise hu nofun) fun _ => hu
  have hfaded := hfade s .p2 (hfade s .p1 (hheat .p2 (hheat .p1 h)))
  exact of_ite (fun _ => hfaded) fun _ => heldAs_clear hfaded

theorem State.heldAs_failureStep (h : s.heldAs applied pending) : s.failureStep.heldAs applied pending := by
  have hcheck {u : State} (p : Pinion) (hu : u.heldAs applied pending) : (u.checkPinion p).heldAs applied pending := by
    refine of_ite (fun _ => ?_) fun _ => hu
    split
    · exact hu
    · exact of_ite (fun _ => heldAs_raise (s := u.setPinion p _) hu nofun) fun _ => hu
  exact hcheck _ (hcheck _ h)

theorem State.heldAs_completeProof (h : s.heldAs applied pending) : s.completeProof.heldAs applied pending := by
  have hcleared {u : State} {c : Prop} [Decidable c] (hu : u.heldAs applied pending) :
      (if c then u else u.clear .pinionFailed).heldAs applied pending :=
    of_ite (fun _ => hu) fun _ => heldAs_clear hu
  have hdone : (s.setBrake
      { s.brake.pinionsFull with
        proof := { s.brake.pinionsFull.proof with state := .done }
        settleTimer := none
        pinions :=
          { p1 := s.brake.pinionsFull.pinions.p1.restoredBy s.brake.proof.results.p1
            p2 := s.brake.pinionsFull.pinions.p2.restoredBy s.brake.proof.results.p2 } }).heldAs applied pending := h
  refine of_ite (fun _ => ?_) fun _ => heldAs_raise (hcleared hdone) nofun
  exact of_ite (fun _ => heldAs_clear (hcleared hdone)) fun _ => heldAs_clear (hcleared hdone)

theorem State.heldAs_sampleStep (h : s.heldAs applied pending) : s.sampleStep.heldAs applied pending := by
  have hread (p : Pinion) : (s.takeReading p).heldAs applied pending := by
    refine of_ite (fun _ => ?_) fun _ => h
    cases p
    · exact h
    · exact heldAs_completeProof h
  refine of_ite (fun _ => ?_) fun _ => h
  split
  · exact h
  · exact hread _
  · exact h
  · exact hread _

theorem State.heldAs_automaticStep (h : s.heldAs applied pending) : s.automaticStep.heldAs applied pending :=
  of_ite (fun _ => h) fun _ => h

end Before

/-! ## The whole cycle -/

/-- The steps from the release on leave what it reads. -/
theorem State.fromRelease_holding (s : State) :
    s.releaseStep.sharingStep.modesStep.brake.releasePending = false
      ∧ (s.releaseStep.sharingStep.modesStep.brake.applied = true ↔
        s.brake.applied = true
          ∧ ¬(s.brake.releasePending = true ∧ s.releaseStep.sharingStep.modesStep.releasable)) := by
  obtain ⟨hsame, hgone, hiff⟩ := s.releaseStep_spec
  have hlast := (hsame.trans sameRelease_sharingStep).trans sameRelease_modesStep
  obtain ⟨v, hv, -, -, happlied, hpending⟩ := s.releaseStep.sharingStep.modesStep_stands
  have hshared : s.releaseStep.sharingStep.brake.applied = s.releaseStep.brake.applied
      ∧ s.releaseStep.sharingStep.brake.releasePending = s.releaseStep.brake.releasePending := by
    simp [State.sharingStep]
  rw [hlast.releasable_iff, hv, setBrake_brake, happlied, hpending, hshared.1, hshared.2]
  exact ⟨hgone, hiff⟩

theorem State.brakeCycle_eq (s : State) :
    s.brakeCycle = s.energyStep.failureStep.sampleStep.automaticStep.releaseStep.sharingStep.modesStep := rfl

theorem State.brakeCycle_holding (s : State) :
    s.brakeCycle.brake.releasePending = false
      ∧ (s.brakeCycle.brake.applied = true ↔
        s.brake.applied = true ∧ ¬(s.brake.releasePending = true ∧ s.brakeCycle.releasable)) := by
  have hbefore : (s.energyStep.failureStep.sampleStep.automaticStep).heldAs s.brake.applied s.brake.releasePending :=
    heldAs_automaticStep (heldAs_sampleStep (heldAs_failureStep (heldAs_energyStep ⟨rfl, rfl⟩)))
  have hrest := (s.energyStep.failureStep.sampleStep.automaticStep).fromRelease_holding
  rw [hbefore.1, hbefore.2] at hrest
  rw [brakeCycle_eq]
  exact hrest

/-! ## Every other command keeps it applied -/

/-- The holding brake is applied. -/
def State.held (s : State) : Prop := s.brake.applied = true

theorem State.held_keptBlockwise : State.KeptBlockwise State.held where
  rack := id
  freeCount := id
  engagement _ _ := id
  line _ := id
  brake _ _ happlied h := eq_true_of_ne_false fun hfree => absurd (happlied hfree) (by simp [show _ = true from h])
  doors _ := id
  radio _ _ := id
  speed := id
  restrictions _ := id
  faults _ := id
  peers _ := id
  own _ _ := id

theorem State.held_keptAtChanges : State.KeptAtChanges State.held :=
  { State.held_keptBlockwise.keptFreely.kept with
    proving := fun _ h => h
    ready := fun _ h => h
    stop := fun {_} _ h => State.held_keptBlockwise.raise (k := .supplyFail) h }

theorem State.held_kept : State.KeptByEffects State.held :=
  State.held_keptAtChanges.toKept.keptByEffects State.held_keptAtChanges.stop id id id (fun h => of_ite (fun _ => h) fun _ => h)
    State.held_keptBlockwise.setLatch fun h => State.held_keptBlockwise.clear _ (by exact h)

theorem State.held_keptAtStarts : State.KeptAtStarts State.held where
  note := State.held_keptBlockwise.note
  handle := State.held_keptBlockwise.releaseByHandle
  invalid := id
  dropOut _ := rfl
  blank _ _ _ := rfl
  warm _ _ _ _ _ := rfl
  cold _ _ _ _ := rfl

theorem State.held_atMoment (m : Moment) (h : s.held) : (s.atMoment m).held := h

theorem exec_held {c : Instr} (hc : ∀ m, c ≠ .brakeCycle m) (h : s.held) (hexec : exec c s = .next t) : t.held := by
  cases hstart : isStart c with
  | true =>
    exact State.held_keptAtStarts.start State.held_keptAtChanges State.held_atMoment
      (fun h => State.of_ite (fun _ => h) fun _ => h) hstart h hexec
  | false =>
    exact State.held_kept.exec hstart (State.held_keptAtChanges.keptAt fun m hm => absurd hm (hc m))
      (State.held_atMoment _ h) hexec

/-! ## Commands that find their timer due or not -/

theorem State.whenDue_of_due {timer : Timer} {limit : Nat} {effect : State → State}
    (h : timerReached timer s.clock limit = true) : s.whenDue timer limit effect = effect s := if_pos h

theorem State.whenDue_of_not_due {timer : Timer} {limit : Nat} {effect : State → State}
    (h : timerReached timer s.clock limit = false) : s.whenDue timer limit effect = s := by
  simp [State.whenDue, h]

theorem runCommand_of_stopped (m : Moment) (effect : State → State) (h : s.running = false) :
    runCommand m effect s = .next (s.atMoment m) := by
  simp [runCommand, State.whileRunning, h]

/-! ## The brake cycle's command -/

/-- The cycle timer has started again. -/
def State.cycleBegun (s : State) : State := s.setBrake { s.brake with cycleStart := s.clock }

theorem State.cycleBegun_holding :
    s.cycleBegun.brake.applied = s.brake.applied ∧ s.cycleBegun.brake.releasePending = s.brake.releasePending := ⟨rfl, rfl⟩

/-- The effect of a BRAKE_CYCLE that is due. -/
def State.cycleDone (s : State) : State := s.cycleBegun.brakeCycle

theorem exec_brakeCycle (m : Moment) (s : State) :
    exec (.brakeCycle m) s
      = runCommand m (fun t => t.whenDue (some t.brake.cycleStart) (ms 20) State.cycleDone) s := rfl

theorem exec_brakeCycle_due {m : Moment} (hrun : s.running = true) (hdue : s.brake.cycleStart + ms 20 ≤ s.instant m) :
    exec (.brakeCycle m) s = .next (s.atMoment m).cycleDone.keepStore := by
  have hreached : timerReached (some (s.atMoment m).brake.cycleStart) (s.atMoment m).clock (ms 20) = true :=
    decide_eq_true hdue
  rw [exec_brakeCycle, runCommand_of_running m _ hrun, State.whenDue_of_due hreached]

/-- A cycle that is not due, or that comes to a stopped part, leaves the brake. -/
theorem exec_brakeCycle_not_due {m : Moment} (hexec : exec (.brakeCycle m) s = .next t)
    (hnot : ¬(s.running = true ∧ s.brake.cycleStart + ms 20 ≤ s.instant m)) : t.brake = s.brake := by
  rw [exec_brakeCycle] at hexec
  by_cases hrun : s.running = true
  · have hlate : timerReached (some (s.atMoment m).brake.cycleStart) (s.atMoment m).clock (ms 20) = false :=
      decide_eq_false fun hdue => hnot ⟨hrun, hdue⟩
    rw [runCommand_of_running m _ hrun, State.whenDue_of_not_due hlate] at hexec
    cases hexec
    simp
  · rw [runCommand_of_stopped m _ (eq_false_of_ne_true hrun)] at hexec
    cases hexec
    simp

theorem State.cycleDone_holding (s : State) :
    s.cycleDone.keepStore.brake.releasePending = false
      ∧ (s.cycleDone.keepStore.brake.applied = true ↔
        s.brake.applied = true ∧ ¬(s.brake.releasePending = true ∧ s.cycleDone.keepStore.releasable)) := by
  have hcycle := s.cycleBegun.brakeCycle_holding
  have hkept (u : State) : u.keepStore.brake = u.brake := by simp
  rw [cycleBegun_holding.1, cycleBegun_holding.2] at hcycle
  rw [State.sameRelease_keepStore.releasable_iff, hkept, cycleDone]
  exact hcycle

theorem exec_brakeCycle_holding {m : Moment} (hrun : s.running = true) (hdue : s.brake.cycleStart + ms 20 ≤ s.instant m) :
    ∃ t : State, exec (.brakeCycle m) s = .next t ∧ t.brake.releasePending = false
      ∧ (t.brake.applied = true ↔ s.brake.applied = true ∧ ¬(s.brake.releasePending = true ∧ t.releasable)) :=
  ⟨_, exec_brakeCycle_due hrun hdue, (s.atMoment m).cycleDone_holding⟩

/-- Settles O16: only a brake cycle's release step lets the holding brake pass to released, and it tests what the cycle
leaves. -/
theorem holdingFallsOnlyAtBrakeCycle : Obligations.HoldingFallsOnlyAtBrakeCycle := by
  refine ⟨fun c s t hexec hheld hfree => ?_, fun m s hrun hdue => exec_brakeCycle_holding hrun hdue⟩
  have hfree' : t.brake.applied ≠ true := by simp [hfree]
  by_cases hc : ∃ m, c = .brakeCycle m
  · obtain ⟨m, rfl⟩ := hc
    have hdue : s.running = true ∧ s.brake.cycleStart + ms 20 ≤ s.instant m := by
      by_contra hnot
      exact hfree' (by rw [exec_brakeCycle_not_due hexec hnot, hheld])
    obtain ⟨u, hnext, -, hiff⟩ := exec_brakeCycle_holding hdue.1 hdue.2
    obtain rfl : u = t := by
      rw [hnext] at hexec
      exact Host.Outcome.next.inj hexec
    obtain ⟨hpending, hreleasable⟩ : s.brake.releasePending = true ∧ u.releasable := by
      by_contra hnot
      exact hfree' (hiff.mpr ⟨hheld, hnot⟩)
    exact ⟨rfl, hpending, hreleasable⟩
  · exact absurd (exec_held (fun m hm => hc ⟨m, hm⟩) hheld hexec) hfree'

end Sys2Proof.Machine
end

section
/-! SUPPORT. The station state (R196): every command leaves it but those of its table. -/

namespace Sys2Proof.Machine

variable {s t u : State} {k : FaultKind} {m : Moment}

/-! ## What a raise leaves of the brake and the line -/

theorem Brake.abort_autoProof (reason : AbortReason) (b : Brake) : (b.abort reason).autoProof = b.autoProof := by
  unfold Brake.abort
  split <;> rfl

theorem State.applyHolding_autoProof : s.applyHolding.brake.autoProof = s.brake.autoProof := by
  unfold State.applyHolding
  split <;> simp [Brake.allFull]

theorem State.setLatch_autoProof : s.setLatch.brake.autoProof = s.brake.autoProof := by
  have habort := Brake.abort_autoProof .emergency s.brake
  have hlowered (u : State) : (u.lowerLimit 0).brake = u.brake := by simp
  unfold State.setLatch
  split
  · rfl
  · dsimp only
    rw [hlowered]
    split
    · exact applyHolding_autoProof.trans habort
    · exact habort

theorem State.assertPull_autoProof : (s.assertPull k).brake.autoProof = s.brake.autoProof := by
  have hplaced (u : State) : (u.placeAlert k).brake = u.brake := by simp
  unfold State.assertPull
  split
  · rfl
  · rw [hplaced]
    exact setLatch_autoProof

theorem State.raise_autoProof : (s.raise k).brake.autoProof = s.brake.autoProof := by
  have hlowered (u : State) : (u.lowerLimit 0).retestPermits.brake = u.brake := by simp
  unfold State.raise
  split
  · rfl
  unfold State.react
  split
  · rw [hlowered]
    exact assertPull_autoProof
  · rw [hlowered]
    rfl
  · rfl

/-- A raise may place an ALERT and changes nothing else of the line. -/
theorem State.raise_phase : (s.raise k).line.phase = s.line.phase :=
  ((raise_onlyChanges k .numbering).resolve_left (by decide)).2.1

theorem State.beginStop_stands :
    s.beginStop.station.life = s.station.life ∧ s.beginStop.line.phase = s.line.phase
      ∧ s.beginStop.brake.autoProof = s.brake.autoProof :=
  ⟨by simp [State.beginStop], raise_phase, raise_autoProof⟩

/-! ## The changes at a JOIN -/

/-- The station state stands, or changes as a complete consist or the end of RESUMING has it (R196). -/
def State.Advances (s t : State) : Prop :=
  t.station.life = s.station.life
    ∨ (s.station.life = .joining ∧ t.station.life = .proving ∧ t.line.phase = .complete ∧ t.brake.autoProof = true)
    ∨ (s.station.life = .resuming ∧ t.station.life = .ready ∧ t.line.phase = .complete
      ∧ s.brake.proof.results = { p1 := .pass, p2 := .pass })
    ∨ (s.station.life = .resuming ∧ t.station.life = .proving ∧ t.line.phase = .complete
      ∧ t.brake.autoProof = true ∧ s.brake.proof.results ≠ { p1 := .pass, p2 := .pass })

/-- What `Advances` reads before a change stands. -/
theorem State.Advances.of_before (h : u.Advances t) (hlife : u.station.life = s.station.life)
    (hresults : u.brake.proof.results = s.brake.proof.results) : s.Advances t := by
  simpa only [State.Advances, hlife, hresults] using h

/-- What `Advances` reads after a change stands. -/
theorem State.Advances.of_after (h : s.Advances u) (hlife : t.station.life = u.station.life)
    (hphase : t.line.phase = u.line.phase) (hauto : t.brake.autoProof = u.brake.autoProof) : s.Advances t := by
  simpa only [State.Advances, hlife, hphase, hauto] using h

theorem State.Advances.clear (h : s.Advances u) : s.Advances (u.clear k) :=
  h.of_after (by simp) (by simp) (by simp)

theorem PerPinion.eq_pass_iff {r : PerPinion ProofResult} :
    r = { p1 := .pass, p2 := .pass } ↔ r.p1 = .pass ∧ r.p2 = .pass := by
  obtain ⟨p1, p2⟩ := r
  simp

theorem State.rejoinDone_advances (hphase : s.line.phase = .complete) : s.Advances s.rejoinDone := by
  unfold State.rejoinDone
  split
  next hlife =>
    dsimp only
    split
    next hpass =>
      have hready : s.Advances (s.setStation { s.station with life := .ready }) :=
        .inr (.inr (.inl ⟨hlife, rfl, hphase, PerPinion.eq_pass_iff.mpr hpass⟩))
      split
      · obtain ⟨hlife', hphase', hauto'⟩ := beginStop_stands (s := s.setStation { s.station with life := .ready })
        exact hready.of_after hlife' hphase' hauto'
      · exact hready
    next hpass =>
      have hproving : s.Advances s.enterProving :=
        .inr (.inr (.inr ⟨hlife, rfl, hphase, rfl, fun hresults => hpass (PerPinion.eq_pass_iff.mp hresults)⟩))
      split
      · obtain ⟨hlife', hphase', hauto'⟩ := beginStop_stands (s := s.enterProving)
        exact hproving.of_after hlife' hphase' hauto'
      · exact hproving
  next => exact .inl rfl

theorem State.consistComplete_advances (hphase : s.line.phase = .complete) : s.Advances s.consistComplete := by
  unfold State.consistComplete
  split
  next hlife => exact .inr (.inl ⟨hlife, rfl, hphase, rfl⟩)
  next => exact .inl rfl

theorem State.joinSent_advances (last rejoin : Bool) : s.Advances (s.joinSent last rejoin) := by
  unfold State.joinSent
  dsimp only
  split
  · exact (rejoinDone_advances rfl).of_before rfl rfl
  split
  · exact (consistComplete_advances rfl).of_before rfl rfl
  · exact .inl rfl

theorem State.heldSent_advances : s.Advances s.heldSent := by
  unfold State.heldSent
  split
  · exact .inl rfl
  dsimp only
  split
  · exact .inl (by simp)
  · exact (joinSent_advances _ _).of_before (by simp) (by simp)

theorem State.frameSent_advances : s.Advances s.frameSent := by
  unfold State.frameSent
  split
  · exact .inl rfl
  · exact .inl rfl
  · exact .inl rfl
  · exact heldSent_advances.of_before rfl rfl
  · exact .inl rfl

theorem State.tryTakeNumber_of_phase (h : s.line.phase ≠ .chainWait) : s.tryTakeNumber = s := by
  simp [State.tryTakeNumber, h]

/-- A last JOIN in COMPLETION_WAIT completes the consist (R62). -/
theorem State.completeByJoin_of_last {last : Bool} (h : last = true ∧ s.line.phase = .completionWait) :
    s.completeByJoin last
      = ((s.setLine { s.line with phase := .complete, completionTimer := none }).consistComplete).clear
        .consistIncomplete := if_pos h

theorem State.completeByJoin_of_not {last : Bool} (h : ¬(last = true ∧ s.line.phase = .completionWait)) :
    s.completeByJoin last = s := if_neg h

theorem State.numberByJoin_advances (fields : JoinFields) : s.Advances (s.numberByJoin fields) := by
  have hheard (u : State) (hlife : u.station.life = s.station.life)
      (hresults : u.brake.proof.results = s.brake.proof.results) :
      s.Advances (u.completeByJoin fields.last).tryTakeNumber := by
    by_cases hlast : fields.last = true ∧ u.line.phase = .completionWait
    · rw [completeByJoin_of_last hlast]
      have hcomplete := consistComplete_advances
        (s := u.setLine { u.line with phase := .complete, completionTimer := none }) rfl
      rw [tryTakeNumber_of_phase (by simp)]
      exact hcomplete.clear.of_before hlife hresults
    · rw [completeByJoin_of_not hlast]
      exact .inl (by simp [hlife])
  unfold State.numberByJoin
  dsimp only
  split
  · exact hheard _ rfl rfl
  · exact hheard _ rfl rfl

/-! ## The change at a brake cycle -/

/-- A passed proof test takes a PROVING station to READY (R122, R196). -/
def State.Proves (s t : State) : Prop :=
  s.station.life = .proving ∧ t.station.life = .ready
    ∧ (s.brake.autoProof = false →
      t.brake.proof.state = .done ∧ t.brake.proof.results = { p1 := .pass, p2 := .pass })

/-- The station state and the proof test stand. -/
structure State.SameTest (s t : State) : Prop where
  life : t.station.life = s.station.life
  proof : t.brake.proof = s.brake.proof
  auto : t.brake.autoProof = s.brake.autoProof

theorem State.SameTest.refl (s : State) : s.SameTest s := ⟨rfl, rfl, rfl⟩

theorem State.SameTest.trans (hst : s.SameTest t) (htu : t.SameTest u) : s.SameTest u :=
  ⟨htu.life.trans hst.life, htu.proof.trans hst.proof, htu.auto.trans hst.auto⟩

theorem State.SameTest.of_brake (hlife : t.station.life = s.station.life) (hbrake : t.brake = s.brake) : s.SameTest t :=
  ⟨hlife, by rw [hbrake], by rw [hbrake]⟩

theorem State.SameTest.raise (h : s.SameTest u) (hclass : faultClassOf u.straps.strict k ≠ .a) : s.SameTest (u.raise k) :=
  h.trans (.of_brake (by simp) (raise_brake hclass))

theorem State.SameTest.clear (h : s.SameTest u) : s.SameTest (u.clear k) := h.trans (.of_brake (by simp) (by simp))

theorem State.SameTest.ite {a b : State} {c : Prop} [Decidable c] (ha : s.SameTest a) (hb : s.SameTest b) :
    s.SameTest (if c then a else b) := by
  split <;> assumption

theorem State.sameTest_setPinion (p : Pinion) (b : PinionBrake) : s.SameTest (s.setPinion p b) := ⟨rfl, rfl, rfl⟩

theorem State.sameTest_energyStep : s.SameTest s.energyStep := by
  have hheat (u : State) (p : Pinion) : u.SameTest (u.heatPinion p) :=
    (sameTest_setPinion p _).trans (.of_brake (by simp) (saturations_brake _))
  have hfade (u before : State) (p : Pinion) : u.SameTest (u.raiseFade before p) :=
    .ite ((SameTest.refl u).raise nofun) (.refl u)
  have hfaded := (((hheat s .p1).trans (hheat _ .p2)).trans (hfade _ s .p1)).trans (hfade _ s .p2)
  exact .ite hfaded hfaded.clear

theorem State.sameTest_failureStep : s.SameTest s.failureStep := by
  have hcheck (u : State) (p : Pinion) : u.SameTest (u.checkPinion p) := by
    refine .ite ?_ (sameTest_setPinion p _)
    split
    · exact sameTest_setPinion p _
    · exact .ite ((sameTest_setPinion p _).raise nofun) (.refl u)
  exact (hcheck s .p1).trans (hcheck _ .p2)

/-- The proof record DONE, both pinions FULL, the marks of those that passed returned (R118, R122). -/
def State.proofDone (s : State) : State :=
  s.setBrake
    { s.brake.pinionsFull with
      proof := { s.brake.pinionsFull.proof with state := .done }
      settleTimer := none
      pinions :=
        { p1 := s.brake.pinionsFull.pinions.p1.restoredBy s.brake.proof.results.p1
          p2 := s.brake.pinionsFull.pinions.p2.restoredBy s.brake.proof.results.p2 } }

/-- PINION_FAILED follows the marks (R118). -/
def State.marksReformed (s : State) : State :=
  if s.brake.pinions.p1.failed || s.brake.pinions.p2.failed then s else s.clear .pinionFailed

theorem State.completeProof_of_pass (h : s.brake.proof.results = { p1 := .pass, p2 := .pass }) :
    s.completeProof
      = if s.station.life = .proving then
          (s.proofDone.marksReformed.clear .proofFail).setStation { s.station with life := .ready }
        else s.proofDone.marksReformed.clear .proofFail := by
  have hstation : (s.proofDone.marksReformed.clear .proofFail).station = s.station := by
    have hdone : s.proofDone.station = s.station := rfl
    simp only [clear_frame, State.marksReformed, ite_frame, hdone, ite_self]
  rw [← hstation]
  exact if_pos (PerPinion.eq_pass_iff.mp h)

theorem State.completeProof_of_fail (h : s.brake.proof.results ≠ { p1 := .pass, p2 := .pass }) :
    s.completeProof = s.proofDone.marksReformed.raise .proofFail :=
  if_neg fun hpass => h (PerPinion.eq_pass_iff.mpr hpass)

theorem State.marksReformed_stands : s.marksReformed.brake = s.brake ∧ s.marksReformed.station = s.station := by
  unfold State.marksReformed
  split <;> simp

/-- A proof test that completes leaves the station state, or takes PROVING to READY with two passes (R122, R196). -/
theorem State.completeProof_life (s : State) :
    s.completeProof.brake.autoProof = s.brake.autoProof
      ∧ (s.completeProof.station.life = s.station.life
        ∨ s.station.life = .proving ∧ s.completeProof.station.life = .ready
          ∧ s.completeProof.brake.proof.state = .done
          ∧ s.completeProof.brake.proof.results = { p1 := .pass, p2 := .pass }) := by
  obtain ⟨hbrake, hstation⟩ := marksReformed_stands (s := s.proofDone)
  by_cases hpass : s.brake.proof.results = { p1 := .pass, p2 := .pass }
  · have hcleared : (s.proofDone.marksReformed.clear .proofFail).brake = s.proofDone.brake := by simp [hbrake]
    have hlife : (s.proofDone.marksReformed.clear .proofFail).station = s.station := by
      rw [clear_station, hstation]
      rfl
    rw [completeProof_of_pass hpass]
    split
    next hproving =>
      rw [setStation_brake, setStation_station, hcleared]
      exact ⟨rfl, .inr ⟨hproving, rfl, rfl, hpass⟩⟩
    next =>
      rw [hcleared, hlife]
      exact ⟨rfl, .inl rfl⟩
  · rw [completeProof_of_fail hpass, raise_brake (s := s.proofDone.marksReformed) (by simp [faultClassOf]), hbrake]
    rw [raise_station, hstation]
    exact ⟨rfl, .inl rfl⟩

theorem State.sampleStep_life (s : State) :
    s.sampleStep.brake.autoProof = s.brake.autoProof
      ∧ (s.sampleStep.station.life = s.station.life
        ∨ s.station.life = .proving ∧ s.sampleStep.station.life = .ready ∧ s.sampleStep.brake.proof.state = .done
          ∧ s.sampleStep.brake.proof.results = { p1 := .pass, p2 := .pass }) := by
  have hread (p : Pinion) : (s.takeReading p).brake.autoProof = s.brake.autoProof
      ∧ ((s.takeReading p).station.life = s.station.life
        ∨ s.station.life = .proving ∧ (s.takeReading p).station.life = .ready
          ∧ (s.takeReading p).brake.proof.state = .done
          ∧ (s.takeReading p).brake.proof.results = { p1 := .pass, p2 := .pass }) := by
    unfold State.takeReading
    dsimp only
    split
    · cases p
      · exact ⟨rfl, .inl rfl⟩
      · exact completeProof_life _
    · exact ⟨rfl, .inl rfl⟩
  unfold State.sampleStep
  split
  · split
    · exact ⟨rfl, .inl rfl⟩
    · exact hread _
    · exact ⟨rfl, .inl rfl⟩
    · exact hread _
  · exact ⟨rfl, .inl rfl⟩

/-- From the release step on the station state and the proof test stand. -/
theorem State.fromRelease_life (s : State) :
    s.releaseStep.sharingStep.modesStep.station.life = s.station.life
      ∧ s.releaseStep.sharingStep.modesStep.brake.proof = s.brake.proof := by
  obtain ⟨v, hv, -, hproof, -⟩ := s.releaseStep.sharingStep.modesStep_stands
  have hreleased : s.releaseStep.brake.proof = s.brake.proof := by
    unfold State.releaseStep
    dsimp only
    (repeat' split) <;> simp
  refine ⟨by simp, ?_⟩
  rw [hv, setBrake_brake, hproof, ← hreleased]
  simp [State.sharingStep]

theorem State.automaticStep_of_not_pending (h : s.brake.autoProof = false) : s.automaticStep = s := by
  simp [State.automaticStep, h]

theorem State.fromAutomatic_life (s : State) :
    s.automaticStep.releaseStep.sharingStep.modesStep.station.life = s.station.life
      ∧ (s.brake.autoProof = false →
        s.automaticStep.releaseStep.sharingStep.modesStep.brake.proof = s.brake.proof) := by
  obtain ⟨hlife, hproof⟩ := s.automaticStep.fromRelease_life
  refine ⟨hlife.trans (by simp), fun hpending => ?_⟩
  rw [hproof, automaticStep_of_not_pending hpending]

theorem State.brakeCycle_life (s : State) : s.brakeCycle.station.life = s.station.life ∨ s.Proves s.brakeCycle := by
  have hbefore := sameTest_energyStep.trans (sameTest_failureStep (s := s.energyStep))
  obtain ⟨hauto, hsampled⟩ := s.energyStep.failureStep.sampleStep_life
  obtain ⟨hlife, hproof⟩ := s.energyStep.failureStep.sampleStep.fromAutomatic_life
  rw [hbefore.life] at hsampled
  rw [brakeCycle_eq]
  refine hsampled.imp hlife.trans fun ⟨hproving, hready, hdone, hresults⟩ => ⟨hproving, hlife.trans hready, fun hpending => ?_⟩
  have hkept := hproof (hauto.trans (hbefore.auto.trans hpending))
  exact ⟨(congrArg ProofRecord.state hkept).trans hdone, (congrArg ProofRecord.results hkept).trans hresults⟩

/-! ## Every other command -/

/-- The station state is this. -/
def State.lifeIs (l : Life) (s : State) : Prop := s.station.life = l

theorem State.lifeIs_congr {l : Life} (h : s.lifeIs l) (hstation : t.station = s.station) : t.lifeIs l :=
  (congrArg Station.life hstation).trans h

theorem State.lifeIs_kept (l : Life) : State.KeptByEffects (State.lifeIs l) :=
  have hP : State.Kept (State.lifeIs l) := .of_station fun h hstation _ => lifeIs_congr h hstation
  hP.keptByEffects (fun _ h => beginStop_stands.1.trans h) id id id (fun h => lifeIs_congr h (by simp))
    (fun h => lifeIs_congr h (by simp)) fun h => (congrArg Station.life (clear_station _)).trans h

/-! ## The starts -/

theorem State.warmStart_stands (n : Fin 8) :
    (s.warmStart n).station.life = .resuming ∧ (s.warmStart n).store = s.store := by
  have hbase : (s.warmBase n).station.life = .resuming ∧ (s.warmBase n).store = s.store := ⟨rfl, rfl⟩
  rw [warmStart_eq]
  exact ⟨lifeIs_congr hbase.1 (by simp), Eq.trans (by simp) hbase.2⟩

theorem State.stopIfWarned_life : s.stopIfWarned.station.life = s.station.life := by
  unfold State.stopIfWarned
  split
  · exact beginStop_stands.1
  · rfl

theorem State.coldStart_life : s.coldStart.station.life = .joining := by
  have hbase : s.coldBase.station.life = .joining := rfl
  rw [coldStart_eq, stopIfWarned_life]
  exact lifeIs_congr hbase (by simp)

theorem exec_dropOut_life (hexec : exec (.dropOut m) s = .next t) (hchange : t.station.life ≠ s.station.life) :
    t.station.life = .off := by
  cases hexec
  by_cases hoff : (s.atMoment m).station.life = .off
  · rwa [if_pos hoff]
  · rw [if_neg hoff]
    rfl

theorem exec_storeHoldupExpiry_life (hexec : exec (.storeHoldupExpiry m) s = .next t) :
    t.station.life = s.station.life := by
  cases hexec
  unfold State.whenDue
  (repeat' split) <;> rfl

/-- Supply reaches a part in OFF: it is COLD, or with a valid store and a retained number RESUMING (R196, R199). -/
theorem exec_powerOn_life {levels : Levels} {flips : BitVec 16} (hexec : exec (.powerOn m levels flips) s = .next t)
    (hchange : t.station.life ≠ s.station.life) :
    s.station.life = .off ∧ (t.station.life = .cold
      ∨ t.station.life = .resuming ∧ s.store.valid = true ∧ t.store.valid = false ∧ s.store.items.own.isSome = true) := by
  cases hexec
  by_cases hoff : (s.atMoment m).station.life = .off
  · refine ⟨hoff, ?_⟩
    rw [if_pos hoff]
    unfold State.powerOn
    dsimp only
    split
    next hvalid =>
      split
      next n hown =>
        obtain ⟨hlife, hstore⟩ := State.warmStart_stands n
          (s := (((s.atMoment m).setPins { (s.atMoment m).pins with levels := levels }).setStore
            { s.store with valid := false }))
        exact .inr ⟨hlife, hvalid.1, congrArg Store.valid hstore, Option.isSome_of_eq_some hown⟩
      next => exact .inl rfl
    next => exact .inl rfl
  · rw [if_neg hoff] at hchange
    exact absurd rfl hchange

theorem exec_strapsRead_life {straps : Straps} {levels : Levels} (hexec : exec (.strapsRead m straps levels) s = .next t)
    (hchange : t.station.life ≠ s.station.life) : s.station.life = .cold ∧ t.station.life = .joining := by
  cases hexec
  by_cases hcold : (s.atMoment m).station.life = .cold
  · refine ⟨hcold, ?_⟩
    rw [if_pos hcold]
    rw [State.keepStore_station]
    exact State.coldStart_life
  · rw [if_neg hcold] at hchange
    exact absurd rfl hchange

/-! ## The commands of the table -/

theorem State.Advances.keepStore (h : s.Advances u) : s.Advances u.keepStore :=
  h.of_after (by simp) (by simp) (by simp)

theorem exec_frameSent_advances (hexec : exec (.frameSent m) s = .next t) : s.Advances t := by
  cases hexec
  refine State.of_ite (P := s.Advances) (fun _ => ?_) fun _ => .inl rfl
  exact (State.frameSent_advances.of_before rfl rfl).keepStore

theorem exec_receiveJoin_advances {source : Fin 8} {fields : JoinFields}
    (hexec : exec (.receiveJoin m source fields) s = .next t) : s.Advances t := by
  have hjoined (u : State) (hlife : u.station.life = s.station.life) (hproof : u.brake.proof = s.brake.proof) :
      s.Advances ((u.peerJoin source fields).numberByJoin fields) := by
    refine (State.numberByJoin_advances fields).of_before ((congrArg Station.life (by simp)).trans hlife) ?_
    rw [((peerJoin_onlyChanges source fields).same (p := .proof) (by decide)).1, hproof]
  cases hexec
  refine State.of_ite (P := s.Advances) (fun _ => State.Advances.keepStore ?_) fun _ => .inl rfl
  refine State.of_ite (P := s.Advances) (fun _ => .inl rfl) fun _ => ?_
  refine State.of_ite (P := s.Advances) (fun _ => hjoined _ (congrArg Station.life (by simp)) ?_) fun _ => .inl (by simp)
  exact ((clashTest_onlyChanges source).same (p := .proof) (by decide)).1.trans (by simp)

theorem State.cycleDone_life (hchange : s.cycleDone.keepStore.station.life ≠ s.station.life) :
    s.Proves s.cycleDone.keepStore := by
  have hbegun : s.cycleBegun.station = s.station ∧ s.cycleBegun.brake.autoProof = s.brake.autoProof := ⟨rfl, rfl⟩
  have hcycle := s.cycleBegun.brakeCycle_life
  rw [keepStore_station, cycleDone] at hchange
  rw [hbegun.1] at hcycle
  unfold State.Proves at *
  rw [hbegun.1, hbegun.2] at hcycle
  rw [keepStore_station, keepStore_brake, cycleDone]
  exact hcycle.resolve_left hchange

theorem exec_brakeCycle_life (hexec : exec (.brakeCycle m) s = .next t) (hchange : t.station.life ≠ s.station.life) :
    s.Proves t := by
  rw [exec_brakeCycle] at hexec
  by_cases hrun : s.running = true
  · rw [runCommand_of_running m _ hrun] at hexec
    cases hexec
    by_cases hdue : timerReached (some (s.atMoment m).brake.cycleStart) (s.atMoment m).clock (ms 20) = true
    · rw [State.whenDue_of_due hdue] at hchange ⊢
      exact (State.cycleDone_life (s := s.atMoment m) hchange)
    · rw [State.whenDue_of_not_due (eq_false_of_ne_true hdue)] at hchange
      exact absurd (congrArg Station.life (by simp)) hchange
  · rw [runCommand_of_stopped m _ (eq_false_of_ne_true hrun)] at hexec
    cases hexec
    exact absurd rfl hchange

/-- The commands at which the station state may change (R196). -/
def movesLife : Instr → Bool
  | .brakeCycle _ => true
  | .frameSent _ => true
  | .receiveJoin _ _ _ => true
  | c => isStart c

/-- A command that is not of the table leaves the station state. -/
theorem exec_life_of_other {c : Instr} (hc : movesLife c = false) (hexec : exec c s = .next t) :
    t.station.life = s.station.life := by
  have hstart : isStart c = false := by
    revert hc
    cases c <;> simp [movesLife, isStart]
  refine (State.lifeIs_kept s.station.life).exec hstart ⟨?_, ?_, ?_⟩ (State.lifeIs_congr (s := s) rfl rfl) hexec
  · rintro m rfl
    cases hc
  · rintro m rfl
    cases hc
  · rintro m source fields rfl
    cases hc

/-- Settles O17: the starts, the own JOIN sent, a JOIN received and the brake cycle by what each can do; any other command
leaves the station state. -/
theorem stationStateFollowsItsTable : Obligations.StationStateFollowsItsTable := by
  intro c s t hexec hchange
  have hadvances (h : s.Advances t) := h.resolve_left hchange
  have hmoves : movesLife c = true := by
    by_contra hc
    exact hchange (exec_life_of_other (eq_false_of_ne_true hc) hexec)
  cases c with
  | dropOut m => exact .inl ⟨exec_dropOut_life hexec hchange, rfl⟩
  | storeHoldupExpiry => exact absurd (exec_storeHoldupExpiry_life hexec) hchange
  | powerOn m levels flips =>
    obtain ⟨hoff, hcold | ⟨hresuming, hstored⟩⟩ := exec_powerOn_life hexec hchange
    · exact .inr (.inl ⟨⟨levels, flips, rfl⟩, hoff, hcold⟩)
    · exact .inr (.inr (.inl ⟨⟨levels, flips, rfl⟩, hoff, hresuming, hstored⟩))
  | strapsRead m straps levels =>
    exact .inr (.inr (.inr (.inl ⟨⟨straps, levels, rfl⟩, exec_strapsRead_life hexec hchange⟩)))
  | brakeCycle m =>
    obtain ⟨hproving, hready, hproof⟩ := exec_brakeCycle_life hexec hchange
    exact .inr (.inr (.inr (.inr (.inr (.inr (.inr ⟨hproving, hready, rfl, hproof⟩))))))
  | frameSent =>
    obtain h | h | h := hadvances (exec_frameSent_advances hexec)
    · exact .inr (.inr (.inr (.inr (.inl h))))
    · exact .inr (.inr (.inr (.inr (.inr (.inl h)))))
    · exact .inr (.inr (.inr (.inr (.inr (.inr (.inl h))))))
  | receiveJoin =>
    obtain h | h | h := hadvances (exec_receiveJoin_advances hexec)
    · exact .inr (.inr (.inr (.inr (.inl h))))
    · exact .inr (.inr (.inr (.inr (.inr (.inl h)))))
    · exact .inr (.inr (.inr (.inr (.inr (.inr (.inl h))))))
  | _ => cases hmoves

end Sys2Proof.Machine
end

section
/-! SUPPORT. The retained store in the controlled stop (R193, R198): within a command it stays valid, and the write at the
command's end makes it equal to the items. -/

namespace Sys2Proof.Machine

variable {s t u : State} {m : Moment}

/-- While the controlled stop runs, the blocks run and the store is valid (R193, R198). -/
def State.stopHeld (s : State) : Prop := s.station.storing = true → s.running = true ∧ s.store.valid = true

theorem State.stopHeld_congr (h : s.stopHeld) (hstation : t.station = s.station) (hvalid : t.store.valid = s.store.valid) :
    t.stopHeld := by
  simpa only [State.stopHeld, State.running, hstation, hvalid] using h

theorem State.stopHeld_of_idle (h : s.station.storing = false) : s.stopHeld := by
  simp [State.stopHeld, h]

theorem State.stopHeld_beginStop (hrun : s.running = true) : s.beginStop.stopHeld := fun _ =>
  ⟨beginStop_running hrun, rfl⟩

theorem State.stopHeld_keptInCycle : State.KeptInCycle State.stopHeld where
  toKept := .of_station fun h hstation hstore => stopHeld_congr h hstation (by rw [hstore])
  proving _ h := fun hstoring => ⟨rfl, (h hstoring).2⟩
  ready _ h := fun hstoring => ⟨rfl, (h hstoring).2⟩
  stop hrun _ := stopHeld_beginStop hrun
  cycle _ h := h
  release h := stopHeld_congr h (by simp) (by simp)

theorem State.keepStore_valid : s.keepStore.store.valid = s.store.valid := by
  unfold State.keepStore
  split <;> rfl

theorem State.stopHeld_kept : State.KeptByEffects State.stopHeld :=
  stopHeld_keptInCycle.toKept.keptByEffects stopHeld_keptInCycle.stop id id id
    (fun h => stopHeld_congr h keepStore_station keepStore_valid) (fun h => stopHeld_congr h (by simp) (by simp))
    fun _ => stopHeld_of_idle ((congrArg Station.storing (clear_station _)).trans rfl)

/-- The write at the end of a command makes the store equal to the items (R193). -/
theorem State.keepStore_storeOk (h : s.stopHeld) : s.keepStore.storeOk := by
  intro hstoring
  rw [keepStore_station] at hstoring
  have hkeep : s.keepStore
      = s.setStore { s.store with items := s.capture, check := storeCheck s.straps s.capture } := by
    simp [State.keepStore, hstoring]
  rw [hkeep]
  exact ⟨(h hstoring).1, (h hstoring).2, rfl, rfl⟩

theorem State.storeOk_of_idle (h : s.station.storing = false) : s.storeOk := by
  simp [State.storeOk, h]

theorem State.storeOk.stopHeld (h : s.storeOk) : s.stopHeld := fun hstoring =>
  have ⟨hrun, hvalid, _⟩ := h hstoring
  ⟨hrun, hvalid⟩

/-- A part in OFF or COLD keeps no store. -/
theorem State.stopHeld.idle (h : s.stopHeld) (hstopped : s.running = false) : s.station.storing = false := by
  by_contra hstoring
  simp [(h (eq_true_of_ne_false hstoring)).1] at hstopped

theorem exec_storeOk_of_effect {c : Instr} (hc : isStart c = false) (h : s.stopHeld) (hexec : exec c s = .next t) :
    t.storeOk := by
  have hheld : t.stopHeld := State.stopHeld_kept.exec hc
    (State.stopHeld_keptInCycle.keptAt fun _ _ => State.stopHeld_keptInCycle.brakeCycle) h hexec
  obtain ⟨levels, effect, hlevels⟩ := exec_eq_runLevels hc s
  rw [hlevels] at hexec
  cases hexec
  revert hheld
  unfold State.whileRunning
  split
  · exact fun hheld => State.keepStore_storeOk (State.stopHeld_congr hheld State.keepStore_station.symm
      State.keepStore_valid.symm)
  next hstopped => exact fun hheld => State.storeOk_of_idle (hheld.idle (eq_false_of_ne_true hstopped))

theorem State.warmStart_idle (n : Fin 8) : (s.warmStart n).station.storing = false := by
  have hbase : (s.warmBase n).station.storing = false := rfl
  rw [warmStart_eq]
  exact (congrArg Station.storing (by simp)).trans hbase

theorem State.coldStart_stopHeld : s.coldStart.stopHeld := by
  have hbase : s.coldBase.station = { life := .joining, storing := false, droppedAt := none } := rfl
  have hbegun : ((s.coldBase.raise .positionUnknown).releaseByHandles).station = s.coldBase.station := by simp
  rw [coldStart_eq]
  unfold State.stopIfWarned
  split
  · exact stopHeld_beginStop (running_of_life (l := .joining) (by rw [hbegun, hbase]) nofun nofun)
  · exact stopHeld_of_idle (by rw [hbegun, hbase])

theorem exec_storeOk_of_start {c : Instr} (hc : isStart c = true) (h : s.storeOk) (hexec : exec c s = .next t) :
    t.storeOk := by
  have hmoment (m : Moment) : (s.atMoment m).storeOk := h
  cases c with
  | dropOut m =>
    cases hexec
    exact State.of_ite (fun _ => hmoment m) fun _ => State.storeOk_of_idle rfl
  | storeHoldupExpiry m =>
    cases hexec
    refine State.of_ite (fun hoff => State.of_ite (fun _ => ?_) fun _ => hmoment m) fun _ => hmoment m
    refine State.storeOk_of_idle ((hmoment m).stopHeld.idle ?_)
    simp [State.running, show s.station.life = .off from hoff]
  | powerOn m levels flips =>
    cases hexec
    refine State.of_ite (fun _ => State.storeOk_of_idle ?_) fun _ => hmoment m
    unfold State.powerOn
    dsimp only
    split
    · split
      · exact State.warmStart_idle _
      · rfl
    · rfl
  | strapsRead m straps levels =>
    cases hexec
    exact State.of_ite (fun _ => State.keepStore_storeOk State.coldStart_stopHeld) fun _ => hmoment m
  | _ => cases hc

/-- Settles O12: within a command the store stays valid; the write at its end makes it equal to the items. -/
theorem storeFollowsItems : Obligations.StoreFollowsItems := by
  intro s t h hstep
  unfold step at hstep
  split at hstep
  · cases hstep
    exact h
  next c rest _ =>
    have hpending : (s.setPending rest).storeOk := h
    cases hc : isStart c with
    | true => exact exec_storeOk_of_start hc hpending hstep
    | false => exact exec_storeOk_of_effect hc hpending.stopHeld hstep

end Sys2Proof.Machine
end

section
/-! SUPPORT. The emergency state (R102, R111, R112, R123): a class A condition holds the pull, a pull the latch, the latch
the outputs; a proof test runs in none of these. -/

namespace Sys2Proof.Machine

variable {s t u : State} {k : FaultKind} {m : Moment}

/-! ## What the latch and the pull leave -/

theorem State.applyHolding_stands :
    s.applyHolding.brake.latch = s.brake.latch ∧ s.applyHolding.brake.ownPull = s.brake.ownPull
      ∧ s.applyHolding.brake.proof = s.brake.proof := by
  unfold State.applyHolding
  split <;> simp [Brake.allFull]

theorem State.applyHolding_outputsFull (h : s.brake.outputsFull) : s.applyHolding.brake.outputsFull := by
  unfold State.applyHolding
  split
  · exact h
  · simp [Brake.allFull, Brake.outputsFull]

theorem State.applyHolding_applied : s.applyHolding.brake.applied = true := by
  unfold State.applyHolding
  split
  · assumption
  · simp

/-- The brake as the latch is set, before the holding brake. -/
def Brake.latched (b : Brake) : Brake := { (b.abort .emergency).allFull with latch := true, releasePending := false }

theorem State.setLatch_of_latched (h : s.brake.latch = true) : s.setLatch = s := if_pos h

theorem State.setLatch_of_clear (h : s.brake.latch = false) :
    s.setLatch
      = (if s.rack.standstill then (s.setBrake s.brake.latched).applyHolding
          else s.setBrake s.brake.latched).lowerLimit 0 := by
  simp only [State.setLatch, h]
  rfl

theorem State.lowerLimit_brake (c : Nat) : (s.lowerLimit c).brake = s.brake := by simp

theorem Brake.latched_stands (b : Brake) :
    b.latched.latch = true ∧ b.latched.ownPull = b.ownPull ∧ b.latched.applied = b.applied
      ∧ b.latched.proof.state ≠ .running ∧ b.latched.outputsFull := by
  refine ⟨rfl, ?_, ?_, ?_, rfl, rfl, rfl⟩
  · unfold Brake.latched Brake.abort
    split <;> rfl
  · unfold Brake.latched Brake.abort
    split <;> rfl
  · unfold Brake.latched Brake.abort Brake.allFull
    split
    · simp
    · assumption

/-- The latch set: by itself where it was clear, else the brake stands. -/
theorem State.setLatch_cases :
    (s.brake.latch = true ∧ s.setLatch = s)
      ∨ (s.setLatch.brake.latch = true ∧ s.setLatch.brake.ownPull = s.brake.ownPull
        ∧ s.setLatch.brake.proof.state ≠ .running ∧ s.setLatch.brake.outputsFull
        ∧ (s.brake.applied = true → s.setLatch.brake.applied = true)) := by
  cases hlatch : s.brake.latch with
  | true => exact .inl ⟨rfl, setLatch_of_latched hlatch⟩
  | false =>
    obtain ⟨hset, hpull, happlied, hproof, hfull⟩ := s.brake.latched_stands
    refine .inr ?_
    rw [setLatch_of_clear hlatch, lowerLimit_brake]
    split
    · obtain ⟨hlatch', hpull', hproof'⟩ := applyHolding_stands (s := s.setBrake s.brake.latched)
      refine ⟨hlatch'.trans hset, hpull'.trans hpull, ?_, applyHolding_outputsFull hfull, fun _ => applyHolding_applied⟩
      rw [hproof']
      exact hproof
    · exact ⟨hset, hpull, hproof, hfull, fun h => happlied.trans h⟩

theorem State.placeAlert_brake : (s.placeAlert k).brake = s.brake := by simp

theorem State.retestPermits_brake : s.retestPermits.brake = s.brake := by simp

/-- The pull asserted: by itself where it was released, else the brake stands. -/
theorem State.assertPull_cases :
    (s.brake.ownPull = true ∧ s.assertPull k = s)
      ∨ (s.brake.ownPull = false
        ∧ (s.assertPull k).brake = (s.setBrake { s.brake with ownPull := true }).setLatch.brake) := by
  cases hpull : s.brake.ownPull with
  | true => exact .inl ⟨rfl, if_pos hpull⟩
  | false =>
    refine .inr ⟨rfl, ?_⟩
    simp only [State.assertPull, hpull]
    exact placeAlert_brake

theorem State.react_classA_brake (h : faultClassOf s.straps.strict k = .a) :
    (s.react k).brake = (s.assertPull k).brake := by
  unfold State.react
  rw [h]
  exact retestPermits_brake.trans (lowerLimit_brake 0)

/-! ## A class A condition holds the pull, a pull the latch -/

/-- A class A condition holds the own pull, the own pull holds the latch (R111, R112). -/
def State.pullsOk (s : State) : Prop :=
  (s.classA = true → s.brake.ownPull = true) ∧ (s.brake.ownPull = true → s.brake.latch = true)

theorem State.pullsOk_congr (h : s.pullsOk) (hpull : t.brake.ownPull = s.brake.ownPull)
    (hlatch : t.brake.latch = s.brake.latch) (hclass : t.classA = true → s.classA = true) : t.pullsOk := by
  refine ⟨fun hA => ?_, fun hp => ?_⟩
  · rw [hpull]
    exact h.1 (hclass hA)
  · rw [hlatch]
    exact h.2 (hpull ▸ hp)

theorem State.pullsOk_of_pulled (hpull : s.brake.ownPull = true) (hlatch : s.brake.latch = true) : s.pullsOk :=
  ⟨fun _ => hpull, fun _ => hlatch⟩

/-- With the pull asserted the latch is set. -/
theorem State.assertPull_pulled (h : s.brake.ownPull = true → s.brake.latch = true) :
    (s.assertPull k).brake.ownPull = true ∧ (s.assertPull k).brake.latch = true := by
  obtain ⟨hpull, hsame⟩ | ⟨-, hbrake⟩ := assertPull_cases (s := s) (k := k)
  · rw [hsame]
    exact ⟨hpull, h hpull⟩
  · rw [hbrake]
    obtain ⟨hlatch, hsame⟩ | ⟨hlatch, hpull, -⟩ := setLatch_cases (s := s.setBrake { s.brake with ownPull := true })
    · rw [hsame]
      exact ⟨rfl, hlatch⟩
    · exact ⟨hpull, hlatch⟩

/-- A record whose reaction has been taken, or that brings none, keeps the pull. -/
theorem State.pullsOk_react {f : Faults} (hflags : ∀ j, j ≠ k → f.present j = s.present j) (h : s.pullsOk) :
    ((s.setFaults f).react k).pullsOk := by
  by_cases hclass : faultClassOf s.straps.strict k = .a
  · have hbrake := react_classA_brake (s := s.setFaults f) (k := k) hclass
    obtain ⟨hpull, hlatch⟩ := assertPull_pulled (s := s.setFaults f) (k := k) h.2
    exact pullsOk_of_pulled (by rw [hbrake, hpull]) (by rw [hbrake, hlatch])
  · obtain ⟨hbrake, -⟩ := react_stands (s := s.setFaults f) (k := k) hclass
    refine pullsOk_congr h (by rw [hbrake]; rfl) (by rw [hbrake]; rfl) ?_
    have hstraps : ((s.setFaults f).react k).straps = s.straps := straps_congr (by simp)
    rw [classA_congr hstraps fun j hj => ?_]
    · exact id
    · rw [react_present (ne_loadSensor_of_class (by decide) hj)]
      exact hflags j (by rintro rfl; exact hclass hj)

theorem State.pullsOk_flags {f : Faults} (hflags : ∀ j, faultClassOf s.straps.strict j = .a → f.present j = s.present j)
    (h : s.pullsOk) : (s.setFaults f).pullsOk :=
  pullsOk_congr h rfl rfl fun hA => by rwa [classA_congr (t := s.setFaults f) (s := s) rfl hflags] at hA

theorem State.pullsOk_raise (k : FaultKind) (h : s.pullsOk) : (s.raise k).pullsOk := by
  refine of_ite (fun hpresent => ?_) fun _ => pullsOk_react (fun j hj => s.faults.present_occur_of_ne _ hj) h
  exact pullsOk_flags (fun j _ => present_recordOccurrence_of_present hpresent j) h

theorem State.pullsOk_note (k : FaultKind) (h : s.pullsOk) : (s.note k).pullsOk := by
  refine of_ite (fun hpresent => ?_) fun _ => pullsOk_react (fun j hj => s.faults.present_note_of_ne _ hj) h
  exact pullsOk_flags (fun j _ => present_recordNote_of_present hpresent j) h

theorem State.clear_present_le (j : FaultKind) (hj : j ≠ .loadSensor) (h : (s.clear k).present j = true) :
    s.present j = true := by
  by_cases hjk : j = k
  · rw [hjk, clear_present_self] at h
    cases h
  · rwa [clear_present_of_ne hjk hj] at h

theorem State.clear_classA (h : (s.clear k).classA = true) : s.classA = true := by
  obtain ⟨j, hj, hpresent⟩ := classA_iff.mp h
  rw [clear_straps] at hj
  exact classA_iff.mpr ⟨j, hj, clear_present_le j (ne_loadSensor_of_class (by decide) hj) hpresent⟩

theorem State.pullsOk_clear (k : FaultKind) (h : s.pullsOk) : (s.clear k).pullsOk :=
  pullsOk_congr h (by rw [clear_brake]) (by rw [clear_brake]) clear_classA

end Sys2Proof.Machine
end

section
/-! SUPPORT. The emergency state kept by the shared operations: the pulls, the outputs, the proof test. -/

namespace Sys2Proof.Machine

variable {s t u : State} {k : FaultKind} {m : Moment}

theorem Faults.present_of_flags {f g : Faults} (h : f.flags = g.flags) (j : FaultKind) : f.present j = g.present j := by
  simp [Faults.present, h]

theorem State.applyHolding_classA : s.applyHolding.classA = s.classA :=
  classA_congr (straps_congr (by simp)) fun _ hj => applyHolding_present (ne_loadSensor_of_class (by decide) hj)

/-! ## A consist reset (R113) -/

theorem State.resetPull_cases :
    s.resetPull = s ∨ (s.classA = false ∧ s.resetPull = s.setBrake { s.brake with ownPull := false }) := by
  unfold State.resetPull
  split
  next hcond =>
    simp only [Bool.and_eq_true, Bool.not_eq_true'] at hcond
    exact .inr ⟨hcond.2, rfl⟩
  next => exact .inl rfl

theorem State.resetLatch_cases :
    s.resetLatch = s
      ∨ (s.brake.ownPull = false ∧ s.loopPulled = false
        ∧ s.resetLatch = s.setBrake { s.brake with latch := false }) := by
  unfold State.resetLatch
  split
  next hcond =>
    simp only [Bool.and_eq_true, Bool.not_eq_true'] at hcond
    obtain ⟨⟨⟨⟨-, hpull⟩, -⟩, -⟩, hloop⟩ := hcond
    exact .inr ⟨hpull, hloop, rfl⟩
  next => exact .inl rfl

/-- What both steps of the brake's consist reset keep, the reset keeps. -/
theorem State.resetBrake_of {P : State → Prop}
    (hdemand : P s → P (s.setBrake { s.brake with cabDemand := 0, releasePending := false }))
    (hpull : ∀ {u : State}, u.classA = false → P u → P (u.setBrake { u.brake with ownPull := false }))
    (hlatch : ∀ {u : State}, u.brake.ownPull = false → u.loopPulled = false → P u →
      P (u.setBrake { u.brake with latch := false })) (h : P s) : P s.resetBrake := by
  have hpulled : ∀ {u : State}, P u → P u.resetPull := by
    intro u hu
    obtain hsame | ⟨hA, hset⟩ := resetPull_cases (s := u)
    · rwa [hsame]
    · rw [hset]
      exact hpull hA hu
  have hlatched : ∀ {u : State}, P u → P u.resetLatch := by
    intro u hu
    obtain hsame | ⟨hown, hloop, hset⟩ := resetLatch_cases (s := u)
    · rwa [hsame]
    · rw [hset]
      exact hlatch hown hloop hu
  exact hlatched (hpulled (hdemand h))

/-! ## The pulls -/

theorem State.pullsOk_kept : State.KeptFreely State.pullsOk where
  rack h := h
  freeCount h := h
  engagement _ _ h := h
  line _ h := h
  brake hv h := pullsOk_congr h hv.ownPull hv.latch id
  doors _ h := h
  radio _ _ h := h
  speed h := h
  restrictions _ h := h
  records hflags _ h := pullsOk_flags (fun j _ => Faults.present_of_flags hflags j) h
  peers _ h := h
  own _ _ h := h
  loadFails h := pullsOk_flags (fun _ hj => Faults.present_occur_of_ne _ _ (ne_loadSensor_of_class (by decide) hj)) h
  loadReads h := pullsOk_flags (fun _ hj => Faults.present_going_of_ne _ (ne_loadSensor_of_class (by decide) hj)) h
  raise := pullsOk_raise
  clear _ := pullsOk_clear _
  applyHolding h := pullsOk_congr h applyHolding_stands.2.1 applyHolding_stands.1 (by rw [applyHolding_classA]; exact id)
  resetBrake := resetBrake_of (fun h => h) (fun hA h => ⟨fun hA' => absurd (hA.symm.trans hA') nofun, nofun⟩)
    fun hown _ h => ⟨h.1, fun hpull => absurd (hown.symm.trans hpull) nofun⟩
  startProof _ _ h := pullsOk_congr h rfl rfl id

theorem State.pullsOk_setLatch (h : s.pullsOk) : s.setLatch.pullsOk := by
  have hclass : s.setLatch.classA = s.classA :=
    classA_congr (straps_congr (by simp)) fun _ hj => setLatch_present (ne_loadSensor_of_class (by decide) hj)
  obtain ⟨-, hsame⟩ | ⟨hlatch, hpull, -⟩ := setLatch_cases (s := s)
  · rwa [hsame]
  · refine ⟨fun hA => ?_, fun _ => hlatch⟩
    rw [hpull]
    exact h.1 (hclass ▸ hA)

/-! ## The outputs -/

/-- With the latch, a pulled loop or no running blocks every output is FULL (R102). -/
def State.fullOk (s : State) : Prop :=
  s.brake.latch = true ∨ s.loopPulled = true ∨ s.running = false → s.brake.outputsFull

theorem State.fullOk_congr (h : s.fullOk) (hbrake : t.brake = s.brake) (hpins : t.pins.levels.loopOthers = s.pins.levels.loopOthers)
    (hrun : t.running = s.running) : t.fullOk := by
  simpa only [State.fullOk, State.loopPulled, hbrake, hpins, hrun] using h

theorem State.fullOk_of_full (h : s.brake.outputsFull) : s.fullOk := fun _ => h

theorem Brake.Stays.outputsFull {b v : Brake} (hv : b.Stays v) (h : b.outputsFull) : v.outputsFull := by
  obtain ⟨h1, h2, hw⟩ := h
  exact ⟨hv.p1.mode.elim (·.trans h1) id, hv.p2.mode.elim (·.trans h2) id, hv.wheel.elim (·.trans hw) id⟩

theorem State.fullOk_setBrake {v : Brake} (h : s.fullOk) (hlatch : v.latch = true → s.brake.latch = true)
    (hpull : v.ownPull = true → s.brake.ownPull = true) (hfull : s.brake.outputsFull → v.outputsFull) :
    (s.setBrake v).fullOk := fun hcause => hfull (h (hcause.imp hlatch (Or.imp_left fun hloop => by
  simp only [State.loopPulled, Bool.or_eq_true] at hloop ⊢
  exact hloop.imp_right hpull)))

theorem State.assertPull_full (h : s.fullOk) : (s.assertPull k).brake.outputsFull := by
  obtain ⟨hpull, hsame⟩ | ⟨-, hbrake⟩ := assertPull_cases (s := s) (k := k)
  · rw [hsame]
    exact h (.inr (.inl (by simp [State.loopPulled, hpull])))
  · rw [hbrake]
    obtain ⟨hlatch, hsame⟩ | ⟨-, -, -, hfull, -⟩ := setLatch_cases (s := s.setBrake { s.brake with ownPull := true })
    · rw [hsame]
      exact h (.inl hlatch)
    · exact hfull

theorem State.fullOk_react (h : s.fullOk) : (s.react k).fullOk := by
  by_cases hclass : faultClassOf s.straps.strict k = .a
  · refine fullOk_of_full ?_
    rw [react_classA_brake hclass]
    exact assertPull_full h
  · exact fullOk_congr h (react_stands hclass).1 (by simp) (running_congr (by simp))

theorem State.fullOk_applyHolding (h : s.fullOk) : s.applyHolding.fullOk := by
  unfold State.applyHolding
  split
  · exact h
  · exact fullOk_of_full (by simp [Brake.allFull, Brake.outputsFull])

theorem State.proofRefusal_none (h : s.proofRefusal = .none) :
    s.brake.proof.state ≠ .running ∧ s.brake.latch = false ∧ s.loopPulled = false ∧ s.brake.applied = true := by
  unfold State.proofRefusal at h
  split at h
  · cases h
  split at h
  · cases h
  split at h
  · cases h
  simp_all

theorem State.fullOk_kept : State.KeptFreely State.fullOk where
  rack h := h
  freeCount h := h
  engagement _ _ h := h
  line _ h := h
  brake hv h := fullOk_setBrake h (hv.latch ▸ id) (hv.ownPull ▸ id) hv.outputsFull
  doors _ h := h
  radio _ _ h := h
  speed h := h
  restrictions _ h := h
  records _ _ h := h
  peers _ h := h
  own _ _ h := h
  loadFails h := h
  loadReads h := h
  raise _ h := of_ite (fun _ => h) fun _ => fullOk_react (s := State.recordOccurrence _ _) h
  clear _ h := fullOk_congr h (by simp) (by simp) (running_congr (by simp))
  applyHolding := fullOk_applyHolding
  resetBrake := resetBrake_of (fun h => h) (fun _ h => fullOk_setBrake h id nofun id)
    fun _ _ h => fullOk_setBrake h nofun id id
  startProof {s} hrun hrefusal _ := by
    obtain ⟨-, hlatch, hloop, -⟩ := proofRefusal_none hrefusal
    rintro (h | h | h)
    · exact absurd (hlatch.symm.trans h) nofun
    · exact absurd (hloop.symm.trans h) nofun
    · exact absurd (hrun.symm.trans h) nofun

/-! ## The proof test -/

/-- A proof test runs only in a running part that is held, with the latch clear and the loop not pulled (R120, R123). -/
def State.testOk (s : State) : Prop :=
  s.brake.proof.state = .running →
    s.running = true ∧ s.brake.applied = true ∧ s.brake.latch = false ∧ s.loopPulled = false

theorem State.testOk_congr (h : s.testOk) (hbrake : t.brake = s.brake)
    (hpins : t.pins.levels.loopOthers = s.pins.levels.loopOthers) (hrun : t.running = s.running) : t.testOk := by
  simpa only [State.testOk, State.loopPulled, hbrake, hpins, hrun] using h

theorem State.testOk_of_idle (h : s.brake.proof.state ≠ .running) : s.testOk := fun hrun => absurd hrun h

theorem State.testOk_setBrake {v : Brake} (h : s.testOk) (hproof : v.proof.state = .running → s.brake.proof.state = .running)
    (happlied : s.brake.applied = true → v.applied = true) (hlatch : v.latch = true → s.brake.latch = true)
    (hpull : v.ownPull = true → s.brake.ownPull = true) : (s.setBrake v).testOk := by
  intro hrun
  obtain ⟨hrunning, hheld, hclear, hloop⟩ := h (hproof hrun)
  refine ⟨hrunning, happlied hheld, eq_false_of_ne_true fun hset => ?_, eq_false_of_ne_true fun hset => ?_⟩
  · simp [hlatch hset] at hclear
  · simp only [State.loopPulled, Bool.or_eq_true, Bool.or_eq_false_iff] at hset hloop
    obtain hset | hset := hset
    · exact absurd (hloop.1.symm.trans hset) nofun
    · exact absurd (hloop.2.symm.trans (hpull hset)) nofun

theorem State.assertPull_idle (h : s.testOk) : (s.assertPull k).brake.proof.state ≠ .running := by
  obtain ⟨hpull, hsame⟩ | ⟨-, hbrake⟩ := assertPull_cases (s := s) (k := k)
  · rw [hsame]
    intro hrun
    have hloop := (h hrun).2.2.2
    simp [State.loopPulled, hpull] at hloop
  · rw [hbrake]
    obtain ⟨hlatch, hsame⟩ | ⟨-, -, hproof, -⟩ := setLatch_cases (s := s.setBrake { s.brake with ownPull := true })
    · rw [hsame]
      intro hrun
      exact absurd ((h hrun).2.2.1.symm.trans hlatch) nofun
    · exact hproof

theorem State.testOk_react (h : s.testOk) : (s.react k).testOk := by
  by_cases hclass : faultClassOf s.straps.strict k = .a
  · refine testOk_of_idle ?_
    rw [react_classA_brake hclass]
    exact assertPull_idle h
  · exact testOk_congr h (react_stands hclass).1 (by simp) (running_congr (by simp))

theorem State.testOk_kept : State.KeptFreely State.testOk where
  rack h := h
  freeCount h := h
  engagement _ _ h := h
  line _ h := h
  brake hv h := testOk_setBrake h hv.proof (hv.applied ▸ id) (hv.latch ▸ id) (hv.ownPull ▸ id)
  doors _ h := h
  radio _ _ h := h
  speed h := h
  restrictions _ h := h
  records _ _ h := h
  peers _ h := h
  own _ _ h := h
  loadFails h := h
  loadReads h := h
  raise _ h := of_ite (fun _ => h) fun _ => testOk_react (s := State.recordOccurrence _ _) h
  clear _ h := testOk_congr h (by simp) (by simp) (running_congr (by simp))
  applyHolding {s} h := by
    obtain ⟨hlatch, hpull, hproof⟩ := applyHolding_stands (s := s)
    intro hrun
    rw [hproof] at hrun
    obtain ⟨hrunning, -, hclear, hloop⟩ := h hrun
    refine ⟨(running_congr (by simp)).trans hrunning, applyHolding_applied, hlatch.trans hclear, ?_⟩
    have hpins : s.applyHolding.pins = s.pins := by simp
    rwa [State.loopPulled, hpull, hpins]
  resetBrake := resetBrake_of (fun h => h) (fun _ h => testOk_setBrake h id id id nofun)
    fun _ _ h => testOk_setBrake h id id nofun id
  startProof hrun hrefusal _ := by
    obtain ⟨-, hlatch, hloop, happlied⟩ := proofRefusal_none hrefusal
    exact fun _ => ⟨hrun, happlied, hlatch, hloop⟩

theorem State.testOk_setLatch (h : s.testOk) : s.setLatch.testOk := by
  obtain ⟨-, hsame⟩ | ⟨-, -, hproof, -⟩ := setLatch_cases (s := s)
  · rwa [hsame]
  · exact testOk_of_idle hproof

end Sys2Proof.Machine
end

section
/-! SUPPORT. The emergency state kept by every command: the station's changes, the brake cycle, the loop, the starts. -/

namespace Sys2Proof.Machine

variable {P Q : State → Prop} {s t u : State} {k : FaultKind} {m : Moment}

/-! ## From the shared operations to the commands -/

theorem State.KeptFreely.keptByEffects (hP : State.KeptFreely P)
    (hstop : ∀ {s : State}, s.running = true → P s → P s.beginStop)
    (hlevels : ∀ {s : State} {v}, v.loopOthers = s.pins.levels.loopOthers ∨ v.loopOthers = false → P s →
      P (s.setPins { s.pins with levels := v }))
    (hstore : ∀ {s : State}, P s → P s.keepStore)
    (hloop : ∀ {s : State}, P s →
      P ((s.setPins { s.pins with levels := { s.pins.levels with loopOthers := true } }).whileRunning State.senseLoop))
    (hsupply : ∀ {s : State}, P s →
      P (((s.setStation { s.station with storing := false }).setStore { s.store with valid := false }).clear .supplyFail)) :
    State.KeptByEffects P where
  toKept := hP.kept
  stop := hstop
  levels := hlevels
  keepStore := hstore
  tooth := hP.tooth
  wheel := hP.wheel
  mark _ := hP.mark
  disagree h := hP.kept.afterMove _ (hP.raise _ (hP.rack h))
  limits := hP.limits
  loop := hloop
  supplyGood _ := hsupply

theorem State.KeptFreely.and (hP : State.KeptFreely P) (hQ : State.KeptFreely Q) :
    State.KeptFreely fun s => P s ∧ Q s where
  rack h := ⟨hP.rack h.1, hQ.rack h.2⟩
  freeCount h := ⟨hP.freeCount h.1, hQ.freeCount h.2⟩
  engagement h1 h2 h := ⟨hP.engagement h1 h2 h.1, hQ.engagement h1 h2 h.2⟩
  line hv h := ⟨hP.line hv h.1, hQ.line hv h.2⟩
  brake hv h := ⟨hP.brake hv h.1, hQ.brake hv h.2⟩
  doors hv h := ⟨hP.doors hv h.1, hQ.doors hv h.2⟩
  radio hw ha h := ⟨hP.radio hw ha h.1, hQ.radio hw ha h.2⟩
  speed h := ⟨hP.speed h.1, hQ.speed h.2⟩
  restrictions hv h := ⟨hP.restrictions hv h.1, hQ.restrictions hv h.2⟩
  records hf hs h := ⟨hP.records hf hs h.1, hQ.records hf hs h.2⟩
  peers hv h := ⟨hP.peers hv h.1, hQ.peers hv h.2⟩
  own n hn h := ⟨hP.own n hn h.1, hQ.own n hn h.2⟩
  loadFails h := ⟨hP.loadFails h.1, hQ.loadFails h.2⟩
  loadReads h := ⟨hP.loadReads h.1, hQ.loadReads h.2⟩
  raise k h := ⟨hP.raise k h.1, hQ.raise k h.2⟩
  clear hk h := ⟨hP.clear hk h.1, hQ.clear hk h.2⟩
  applyHolding h := ⟨hP.applyHolding h.1, hQ.applyHolding h.2⟩
  resetBrake h := ⟨hP.resetBrake h.1, hQ.resetBrake h.2⟩
  startProof hrun hrefusal h := ⟨hP.startProof hrun hrefusal h.1, hQ.startProof hrun hrefusal h.2⟩

theorem State.KeptAtStarts.and (hP : State.KeptAtStarts P) (hQ : State.KeptAtStarts Q) :
    State.KeptAtStarts fun s => P s ∧ Q s where
  note k h := ⟨hP.note k h.1, hQ.note k h.2⟩
  handle d h := ⟨hP.handle d h.1, hQ.handle d h.2⟩
  invalid h := ⟨hP.invalid h.1, hQ.invalid h.2⟩
  dropOut h := ⟨hP.dropOut h.1, hQ.dropOut h.2⟩
  blank levels hoff h := ⟨hP.blank levels hoff h.1, hQ.blank levels hoff h.2⟩
  warm levels n hoff hown h := ⟨hP.warm levels n hoff hown h.1, hQ.warm levels n hoff hown h.2⟩
  cold straps levels hcold h := ⟨hP.cold straps levels hcold h.1, hQ.cold straps levels hcold h.2⟩

/-! ## The outputs -/

theorem State.running_of_station_life (h : t.station.life = s.station.life) : t.running = s.running := by
  simp [State.running, h]

theorem State.fullOk_keptAtChanges : State.KeptAtChanges State.fullOk where
  toKept := fullOk_kept.kept
  proving hrun h := fun hcause => h (hcause.imp_right fun h => h.imp_right fun hstopped => absurd hstopped (by simp [enterProving_running]))
  ready hrun h := fun hcause => h (hcause.imp_right fun h => h.imp_right fun hstopped => nomatch hstopped)
  stop hrun h := fullOk_congr (fullOk_kept.raise .supplyFail h) rfl rfl rfl

/-- A brake cycle ends with the modes that the latch and the loop ask for (R102). -/
theorem State.modesStep_fullOk (hrun : s.running = true) : s.modesStep.fullOk := by
  intro hcause
  obtain ⟨v, hv, hlatch, -, -, -⟩ := s.modesStep_stands
  have hpull : s.modesStep.brake.ownPull = s.brake.ownPull := by
    unfold State.modesStep
    (repeat' split) <;> simp [Brake.allFull, (Brake.testing_cycles _ _).ownPull]
  have hemergency : (s.brake.latch || s.loopPulled) = true := by
    rw [Bool.or_eq_true]
    refine hcause.imp (fun h => ?_) fun h => h.elim (fun h => ?_) fun h => ?_
    · rw [hv] at h
      exact hlatch.symm.trans h
    · rw [← h, State.loopPulled, State.loopPulled, hpull, hv]
      rfl
    · rw [hv] at h
      exact absurd (hrun.symm.trans h) nofun
  rw [State.modesStep, if_pos hemergency]
  exact ⟨rfl, rfl, rfl⟩

theorem State.brakeCycle_fullOk (hrun : s.running = true) : s.brakeCycle.fullOk := by
  rw [brakeCycle_eq]
  exact modesStep_fullOk (running_kept.beforeModes hrun hrun)

theorem State.senseLoop_full : s.senseLoop.brake.outputsFull := by
  unfold State.senseLoop
  obtain ⟨-, hsame⟩ | ⟨-, -, -, hfull, -⟩ := setLatch_cases (s := s.setBrake (s.brake.abort .emergency).allFull)
  · rw [hsame]
    exact ⟨rfl, rfl, rfl⟩
  · exact hfull

theorem State.fullOk_keptByEffects : State.KeptByEffects State.fullOk :=
  fullOk_kept.keptByEffects (fun hrun h => fullOk_keptAtChanges.stop hrun h)
    (fun {s v} hv h hcause => h (hcause.imp_right (Or.imp_left fun hloop => by
      simp only [State.loopPulled, Bool.or_eq_true] at hloop ⊢
      exact hloop.imp_left fun hloop => hv.elim (fun heq => heq ▸ hloop) fun heq => absurd (heq.symm.trans hloop) nofun)))
    (fun h => fullOk_congr h keepStore_brake (by simp) (running_congr keepStore_station))
    (fun {s} h => by
      unfold State.whileRunning
      split
      · exact fullOk_of_full (by rw [keepStore_brake]; exact senseLoop_full)
      next hstopped => exact fullOk_of_full (h (.inr (.inr (eq_false_of_ne_true hstopped)))))
    fun h => fullOk_congr h (clear_brake _) (by simp) (running_of_station_life ((congrArg Station.life (clear_station _)).trans rfl))

theorem State.fullOk_keptAtStarts : State.KeptAtStarts State.fullOk where
  note _ h := of_ite (fun _ => h) fun _ => fullOk_react (s := State.recordNote _ _) h
  handle _ h := fullOk_congr h (by simp) (by simp) (running_congr (by simp))
  invalid h := h
  dropOut _ := fullOk_of_full ⟨rfl, rfl, rfl⟩
  blank _ _ _ := fullOk_of_full ⟨rfl, rfl, rfl⟩
  warm _ _ _ _ _ := fullOk_of_full ⟨rfl, rfl, rfl⟩
  cold _ _ _ _ := fullOk_of_full ⟨rfl, rfl, rfl⟩

theorem State.fullOk_keptByCommands : State.KeptByCommands State.fullOk where
  toKeptByEffects := fullOk_keptByEffects
  proving := fullOk_keptAtChanges.proving
  ready := fullOk_keptAtChanges.ready
  cycle hrun _ := brakeCycle_fullOk hrun
  moment _ h := h
  pending h := h
  start hc h hexec := fullOk_keptAtStarts.start fullOk_keptAtChanges (fun _ h => h) fullOk_keptByEffects.keepStore hc h hexec

/-! ## The pulls -/

theorem State.pullsOk_keptInCycle : State.KeptInCycle State.pullsOk where
  toKept := pullsOk_kept.kept
  proving _ h := h
  ready _ h := h
  stop _ h := pullsOk_raise .supplyFail h
  cycle hv h := pullsOk_congr h hv.ownPull hv.latch id
  release h := of_ite (fun _ => of_ite (fun _ => pullsOk_kept.retest h) fun _ => h) fun _ => h

theorem State.keepStore_straps : s.keepStore.straps = s.straps := by
  unfold State.keepStore
  split <;> rfl

theorem State.keepStore_classA : s.keepStore.classA = s.classA :=
  classA_congr keepStore_straps fun _ _ => present_congr (by simp) _

theorem State.pullsOk_keepStore (h : s.pullsOk) : s.keepStore.pullsOk :=
  pullsOk_congr h (by rw [keepStore_brake]) (by rw [keepStore_brake]) (by rw [keepStore_classA]; exact id)

theorem State.pullsOk_senseLoop (h : s.pullsOk) : s.senseLoop.pullsOk := by
  have habort := Brake.abort_stays .emergency s.brake
  exact pullsOk_setLatch (pullsOk_congr h (t := s.setBrake (s.brake.abort .emergency).allFull) habort.ownPull habort.latch id)

theorem State.pullsOk_keptByEffects : State.KeptByEffects State.pullsOk :=
  pullsOk_kept.keptByEffects (fun hrun h => pullsOk_keptInCycle.stop hrun h) (fun _ h => h) pullsOk_keepStore
    (fun h => of_ite (fun _ => pullsOk_keepStore (pullsOk_senseLoop h)) fun _ => h)
    fun h => pullsOk_clear .supplyFail (by exact h)

theorem State.classA_of_no_flags (h : s.faults.flags = Faults.initial.flags) : s.classA = false := by
  rw [← Bool.not_eq_true, classA_iff]
  rintro ⟨j, -, hpresent⟩
  rw [State.present, Faults.present_of_flags h] at hpresent
  cases j <;> cases hpresent

theorem State.pullsOk_of_begun (hflags : s.faults.flags = Faults.initial.flags) (hpull : s.brake.ownPull = false) :
    s.pullsOk :=
  ⟨fun hA => absurd ((classA_of_no_flags hflags).symm.trans hA) nofun, fun h => absurd (hpull.symm.trans h) nofun⟩

theorem State.releaseByHandle_present (d : DoorId) (j : FaultKind) :
    (s.releaseByHandle d).present j = s.present j := present_congr (by simp) j

theorem State.pullsOk_keptAtStarts : State.KeptAtStarts State.pullsOk where
  note := pullsOk_note
  handle d h := pullsOk_congr h (by simp) (by simp)
    (by rw [classA_congr (straps_congr (by simp)) fun _ _ => releaseByHandle_present d _]; exact id)
  invalid h := h
  dropOut _ := pullsOk_of_begun rfl rfl
  blank _ _ _ := pullsOk_of_begun rfl rfl
  warm _ _ _ _ _ := pullsOk_of_begun rfl rfl
  cold _ _ _ _ := pullsOk_of_begun rfl rfl

theorem State.pullsOk_keptByCommands : State.KeptByCommands State.pullsOk where
  toKeptByEffects := pullsOk_keptByEffects
  proving := pullsOk_keptInCycle.proving
  ready := pullsOk_keptInCycle.ready
  cycle := pullsOk_keptInCycle.brakeCycle
  moment _ h := h
  pending h := h
  start hc h hexec := pullsOk_keptAtStarts.start pullsOk_keptInCycle.toKeptAtChanges (fun _ h => h) pullsOk_keepStore hc h hexec

theorem State.emergencyOk_iff : s.emergencyOk ↔ s.pullsOk ∧ s.fullOk := by
  simp only [State.emergencyOk, State.pullsOk, State.fullOk, and_assoc]

/-! ## The proof test and the controlled stop -/

/-- The controlled stop keeps SUPPLY_FAIL present (R192). -/
def State.stopReported (s : State) : Prop := s.station.storing = true → s.present .supplyFail = true

/-- No retained proof test runs (R193). -/
def State.storeIdle (s : State) : Prop := s.store.items.proof.state ≠ .running

theorem State.stopReported_congr (h : s.stopReported) (hstation : t.station = s.station)
    (hpresent : s.present .supplyFail = true → t.present .supplyFail = true) : t.stopReported := fun hstoring =>
  hpresent (h (hstation ▸ hstoring))

theorem State.raise_present_mono {j : FaultKind} (hj : j ≠ .loadSensor) (h : s.present j = true) :
    (s.raise k).present j = true := by
  by_cases hjk : j = k
  · rw [hjk]
    exact raise_present_self k
  · rwa [raise_present_of_ne hjk hj]

theorem State.note_present_mono {j : FaultKind} (hj : j ≠ .loadSensor) (h : s.present j = true) :
    (s.note k).present j = true := by
  have hnoted : (s.recordNote k).present j = true := by
    by_cases hjk : j = k
    · rw [hjk]
      exact s.faults.present_note_self _ k
    · exact (s.faults.present_note_of_ne _ hjk).trans h
  unfold State.note
  split
  · exact hnoted
  · rwa [react_present hj]

theorem State.stopReported_kept : State.KeptFreely State.stopReported where
  rack h := h
  freeCount h := h
  engagement _ _ h := h
  line _ h := h
  brake _ h := h
  doors _ h := h
  radio _ _ h := h
  speed h := h
  restrictions _ h := h
  records hflags _ h := fun hstoring => (Faults.present_of_flags hflags _).trans (h hstoring)
  peers _ h := h
  own _ _ h := h
  loadFails h := stopReported_congr h rfl ((Faults.present_occur_of_ne _ _ (by decide)).trans ·)
  loadReads h := stopReported_congr h rfl ((Faults.present_going_of_ne _ (by decide)).trans ·)
  raise _ h := stopReported_congr h (raise_station _) (raise_present_mono (by decide))
  clear hk h := stopReported_congr h (clear_station _) ((clear_present_of_ne hk.symm (by decide)).trans ·)
  applyHolding h := stopReported_congr h (by simp) ((applyHolding_present (by decide)).trans ·)
  resetBrake h := stopReported_congr h (by simp) ((present_congr (by simp) _).trans ·)
  startProof _ _ h := h

theorem State.storeIdle_congr (h : s.storeIdle) (hstore : t.store = s.store) : t.storeIdle := by
  rwa [State.storeIdle, hstore]

theorem State.storeIdle_kept : State.KeptFreely State.storeIdle where
  rack h := h
  freeCount h := h
  engagement _ _ h := h
  line _ h := h
  brake _ h := h
  doors _ h := h
  radio _ _ h := h
  speed h := h
  restrictions _ h := h
  records _ _ h := h
  peers _ h := h
  own _ _ h := h
  loadFails h := h
  loadReads h := h
  raise _ h := storeIdle_congr h (by simp)
  clear _ h := storeIdle_congr h (by simp)
  applyHolding h := storeIdle_congr h (by simp)
  resetBrake h := storeIdle_congr h (by simp)
  startProof _ _ h := h

/-- What `proofOk` adds to the outputs, with the pulls that the writing of the store needs. -/
def State.testsOk (s : State) : Prop := (s.pullsOk ∧ s.testOk) ∧ s.stopReported ∧ s.storeIdle

theorem State.proofOk_iff : s.proofOk ↔ s.testsOk ∧ s.fullOk := by
  simp only [State.proofOk, State.emergencyOk_iff, State.testsOk, State.testOk, State.stopReported, State.storeIdle]
  tauto

theorem State.testsOk_kept : State.KeptFreely State.testsOk :=
  (pullsOk_kept.and testOk_kept).and (stopReported_kept.and storeIdle_kept)

theorem State.testOk_releaseStep (h : s.testOk) : s.releaseStep.testOk := by
  obtain ⟨hsame, hgone, hiff⟩ := s.releaseStep_spec
  intro hrun
  rw [hsame.proof] at hrun
  obtain ⟨hrunning, happlied, hlatch, hloop⟩ := h hrun
  have hpull : s.releaseStep.brake.ownPull = s.brake.ownPull := by
    unfold State.releaseStep
    dsimp only
    (repeat' split) <;> simp
  have hpins : s.releaseStep.pins = s.pins := by simp
  refine ⟨(running_of_station_life hsame.life).trans hrunning, ?_, hsame.latch.trans hlatch, ?_⟩
  · exact hiff.mpr ⟨happlied, fun hreleasable => hreleasable.2.2.2.2.2.2.2 hrun⟩
  · rwa [State.loopPulled, hpull, hpins]

theorem State.releaseStep_present {j : FaultKind} (hj : j ≠ .loadSensor) : s.releaseStep.present j = s.present j := by
  unfold State.releaseStep
  dsimp only
  split
  · split
    · exact retestPermits_present _ hj
    · rfl
  · rfl

theorem State.testsOk_keptInCycle : State.KeptInCycle State.testsOk where
  toKept := testsOk_kept.kept
  proving hrun h := ⟨⟨h.1.1, fun htest => ⟨rfl, (h.1.2 htest).2⟩⟩, h.2⟩
  ready hrun h := ⟨⟨h.1.1, fun htest => ⟨rfl, (h.1.2 htest).2⟩⟩, h.2⟩
  stop hrun h :=
    have hraised := testsOk_kept.raise .supplyFail h
    ⟨hraised.1, fun _ => raise_present_self .supplyFail, hraised.2.2⟩
  cycle hv h :=
    ⟨⟨pullsOk_keptInCycle.cycle hv h.1.1,
      testOk_setBrake h.1.2 hv.proof (hv.applied ▸ id) (hv.latch ▸ id) (hv.ownPull ▸ id)⟩, h.2⟩
  release h :=
    ⟨⟨pullsOk_keptInCycle.release h.1.1, testOk_releaseStep h.1.2⟩,
      stopReported_congr h.2.1 (by simp) ((releaseStep_present (by decide)).trans ·), storeIdle_congr h.2.2 (by simp)⟩

/-- In the controlled stop the latch is set, so the proof record that is retained does not run (R123, R192, R193). -/
theorem State.testsOk.idle (h : s.testsOk) (hstoring : s.station.storing = true) : s.brake.proof.state ≠ .running := by
  obtain ⟨⟨hpulls, htest⟩, hstop, -⟩ := h
  have hA : s.classA = true := classA_iff.mpr ⟨.supplyFail, rfl, hstop hstoring⟩
  intro hrun
  exact absurd ((htest hrun).2.2.1.symm.trans (hpulls.2 (hpulls.1 hA))) nofun

theorem State.testsOk_keepStore (h : s.testsOk) : s.keepStore.testsOk := by
  refine ⟨⟨pullsOk_keepStore h.1.1, ?_⟩, ?_, ?_⟩
  · exact testOk_congr h.1.2 keepStore_brake (by simp) (running_congr keepStore_station)
  · exact stopReported_congr h.2.1 keepStore_station ((present_congr (by simp) _).trans ·)
  · unfold State.keepStore
    split
    next hstoring => exact h.idle hstoring
    next => exact h.2.2

theorem State.testOk_senseLoop : s.senseLoop.testOk :=
  testOk_setLatch (testOk_of_idle (s.brake.latched_stands.2.2.2.1))

theorem State.testsOk_keptByEffects : State.KeptByEffects State.testsOk :=
  testsOk_kept.keptByEffects (fun hrun h => testsOk_keptInCycle.stop hrun h)
    (fun {s v} hv h => ⟨⟨h.1.1, fun htest => by
      obtain ⟨hrun, happlied, hlatch, hloop⟩ := h.1.2 htest
      refine ⟨hrun, happlied, hlatch, ?_⟩
      simp only [State.loopPulled, Bool.or_eq_false_iff] at hloop ⊢
      exact ⟨hv.elim (fun heq => heq.trans hloop.1) id, hloop.2⟩⟩, h.2⟩)
    testsOk_keepStore
    (fun {s} h => by
      unfold State.whileRunning
      split
      · refine testsOk_keepStore ⟨⟨pullsOk_senseLoop h.1.1, testOk_senseLoop⟩, ?_, storeIdle_congr h.2.2 (by simp)⟩
        exact stopReported_congr h.2.1 (by simp) ((setLatch_present (by decide)).trans ·)
      next hstopped =>
        exact ⟨⟨h.1.1, testOk_of_idle fun htest => hstopped (h.1.2 htest).1⟩, h.2⟩)
    fun h => ⟨⟨pullsOk_clear .supplyFail (by exact h.1.1), testOk_congr h.1.2 (clear_brake _) (by simp)
      (running_of_station_life ((congrArg Station.life (clear_station _)).trans rfl))⟩,
      fun hstoring => absurd (((congrArg Station.storing (clear_station _)).trans rfl).symm.trans hstoring) nofun,
      (by simpa [State.storeIdle] using h.2.2)⟩

theorem State.testsOk_keptAtStarts : State.KeptAtStarts State.testsOk where
  note k h := ⟨⟨pullsOk_note k h.1.1, of_ite (fun _ => h.1.2) fun _ => testOk_react (s := State.recordNote _ _) h.1.2⟩,
    stopReported_congr h.2.1 (by simp) (note_present_mono (by decide)), storeIdle_congr h.2.2 (by simp)⟩
  handle d h := ⟨⟨pullsOk_keptAtStarts.handle d h.1.1, testOk_congr h.1.2 (by simp) (by simp) (running_congr (by simp))⟩,
    stopReported_congr h.2.1 (by simp) ((releaseByHandle_present d _).trans ·), storeIdle_congr h.2.2 (by simp)⟩
  invalid h := h
  dropOut h := ⟨⟨pullsOk_of_begun rfl rfl, testOk_of_idle nofun⟩, nofun, h.2.2⟩
  blank _ _ h := ⟨⟨pullsOk_of_begun rfl rfl, testOk_of_idle nofun⟩, nofun, h.2.2⟩
  warm _ _ _ _ h := ⟨⟨pullsOk_of_begun rfl rfl, testOk_of_idle h.2.2⟩, nofun, h.2.2⟩
  cold _ _ _ h := ⟨⟨pullsOk_of_begun rfl rfl, testOk_of_idle nofun⟩, nofun, h.2.2⟩

theorem State.testsOk_keptByCommands : State.KeptByCommands State.testsOk where
  toKeptByEffects := testsOk_keptByEffects
  proving := testsOk_keptInCycle.proving
  ready := testsOk_keptInCycle.ready
  cycle := testsOk_keptInCycle.brakeCycle
  moment _ h := h
  pending h := h
  start hc h hexec := testsOk_keptAtStarts.start testsOk_keptInCycle.toKeptAtChanges (fun _ h => h) testsOk_keepStore hc h hexec

/-- Settles O11: the pulls, the outputs and the proof test, each kept by every command. -/
theorem emergencyStaysInForce : Obligations.EmergencyStaysInForce := by
  refine fun s t hstep => ⟨fun h => ?_, fun h => ?_⟩
  · obtain ⟨hpulls, hfull⟩ := State.emergencyOk_iff.mp h
    exact State.emergencyOk_iff.mpr ⟨State.pullsOk_keptByCommands.step hpulls hstep, State.fullOk_keptByCommands.step hfull hstep⟩
  · obtain ⟨htests, hfull⟩ := State.proofOk_iff.mp h
    exact State.proofOk_iff.mpr ⟨State.testsOk_keptByCommands.step htests hstep, State.fullOk_keptByCommands.step hfull hstep⟩

end Sys2Proof.Machine
end

section
/-! SUPPORT. The limits (R91 to R95): the shared operations only lower the local limit, and the enforced limit and the
valley state are formed afresh where what they read changes. -/

namespace Sys2Proof.Machine

variable {P : State → Prop} {s t u : State} {k : FaultKind}

/-! ## The local limit only falls -/

/-- The rack presence and the straps stand, and the local limit does not rise. -/
def State.Lowered (s t : State) : Prop :=
  t.rack.present = s.rack.present ∧ t.straps = s.straps ∧ t.speed.localLimit ≤ s.speed.localLimit

theorem State.Lowered.refl (s : State) : s.Lowered s := ⟨rfl, rfl, le_rfl⟩

theorem State.Lowered.step (h : s.Lowered t) (hpresent : u.rack.present = t.rack.present) (hstore : u.store = t.store)
    (hlimit : u.speed.localLimit ≤ t.speed.localLimit) : s.Lowered u :=
  ⟨hpresent.trans h.1, (straps_congr hstore).trans h.2.1, hlimit.trans h.2.2⟩

theorem State.Lowered.stands (h : s.Lowered t) (hrack : u.rack = t.rack) (hstore : u.store = t.store)
    (hspeed : u.speed = t.speed) : s.Lowered u :=
  h.step (congrArg Rack.present hrack) hstore (by rw [hspeed])

theorem State.setLatch_localLimit_le : s.setLatch.speed.localLimit ≤ s.speed.localLimit := by
  cases hlatch : s.brake.latch with
  | true => rw [setLatch_of_latched hlatch]
  | false =>
    rw [setLatch_of_clear hlatch, lowerLimit_localLimit]
    exact (Nat.min_le_right _ _).trans (Nat.zero_le _)

theorem State.react_localLimit_le : (s.react k).speed.localLimit ≤ s.speed.localLimit := by
  unfold State.react
  split
  · simp
  · simp
  · exact le_rfl

theorem State.raise_localLimit_le : (s.raise k).speed.localLimit ≤ s.speed.localLimit :=
  of_ite (P := fun t => t.speed.localLimit ≤ s.speed.localLimit) (fun _ => le_rfl) fun _ => react_localLimit_le

theorem State.note_localLimit_le : (s.note k).speed.localLimit ≤ s.speed.localLimit :=
  of_ite (P := fun t => t.speed.localLimit ≤ s.speed.localLimit) (fun _ => le_rfl) fun _ => react_localLimit_le

theorem State.Lowered.raise (k : FaultKind) (h : s.Lowered t) : s.Lowered (t.raise k) :=
  h.step (by simp) (by simp) raise_localLimit_le

theorem State.Lowered.clear (h : s.Lowered t) : s.Lowered (t.clear k) := h.stands (by simp) (by simp) (by simp)

theorem State.Lowered.retest (h : s.Lowered t) : s.Lowered t.retestPermits := h.stands (by simp) (by simp) (by simp)

theorem State.Lowered.lowerLimit (c : Nat) (h : s.Lowered t) : s.Lowered (t.lowerLimit c) :=
  h.step rfl rfl (Nat.min_le_left _ _)

theorem State.Lowered.lowerLimits (cs : List Nat) (h : s.Lowered t) : s.Lowered (t.lowerLimits cs) := by
  induction cs generalizing t with
  | nil => exact h
  | cons c cs ih => exact ih (h.lowerLimit c)

theorem State.Lowered.reformValley (h : s.Lowered t) : s.Lowered t.reformValley :=
  of_ite (fun _ => State.Lowered.lowerLimit 60 h) fun _ => h

theorem State.Lowered.reformEnforced (h : s.Lowered t) : s.Lowered t.reformEnforced := h.step rfl rfl le_rfl

theorem State.Lowered.reformCabConflict (h : s.Lowered t) : s.Lowered t.reformCabConflict :=
  of_ite (fun _ => of_ite (fun _ => h) fun _ => h.raise _) fun _ => h.clear

theorem State.Lowered.reformPeerLost (h : s.Lowered t) : s.Lowered t.reformPeerLost := of_ite (fun _ => h) fun _ => h.clear

theorem State.Lowered.peersChanged (h : s.Lowered t) : s.Lowered t.peersChanged :=
  h.reformCabConflict.reformPeerLost.reformEnforced.reformValley.retest

theorem State.Lowered.placeEntry {old : Option Restriction} {e : Restriction} (h : s.Lowered t) :
    s.Lowered (t.placeEntry old e) := by
  unfold State.placeEntry
  dsimp only
  split
  · exact h
  · exact of_ite (fun _ => State.Lowered.lowerLimit _ h) fun _ => h

theorem State.Lowered.overflow (limit : Nat) (h : s.Lowered t) : s.Lowered (t.overflow limit) :=
  State.Lowered.raise _ (of_ite (fun _ => h) fun _ => State.Lowered.lowerLimit _ h)

theorem State.Lowered.restrict (e : Restriction) (h : s.Lowered t) : s.Lowered (t.restrict e).1 := by
  unfold State.restrict
  split
  · exact h.placeEntry
  · split
    · exact h.placeEntry
    · exact h.overflow _

theorem State.Lowered.monitorEntry (h : s.Lowered t) : s.Lowered t.monitorEntry := by
  refine of_ite (fun _ => State.Lowered.clear ?_) fun _ => ?_
  all_goals exact of_ite (fun _ => State.Lowered.lowerLimit _ h) fun _ => h

theorem State.lowered_kept (s : State) : State.Kept s.Lowered where
  rack hv h := h.step hv.present rfl le_rfl
  freeCount h := h
  engagement _ h := h
  line _ h := h
  brake _ h := h
  doors _ h := h
  radio _ h := h
  speed hlimit _ h := h.step rfl rfl hlimit.le
  fewer _ _ h := h
  records _ _ h := h
  alerts _ h := h
  raise k h := h.raise k
  clear _ h := h.clear
  retest h := h.retest
  latchMass h := h.stands (by simp) (by simp) (by simp)
  lowerLimit c h := h.lowerLimit c
  applyHolding h := h.stands (by simp) (by simp) (by simp)
  evaluate h := by
    rw [evaluateRestrictions_eq]
    exact State.Lowered.lowerLimits _ h
  restrict e h := h.restrict e
  entry h := h.monitorEntry
  leave d h := h.step (by simp [State.leaveStandstill, State.monitorLeft]) (by simp) (by simp)
  grade g h := of_ite (fun _ => h) fun _ => State.Lowered.retest h
  platform h := State.Lowered.retest h
  valley _ _ h := State.Lowered.reformValley h
  numbered _ _ h := State.Lowered.peersChanged h
  peer _ _ _ _ h := State.Lowered.peersChanged h
  lost _ _ h := State.Lowered.peersChanged (State.Lowered.raise _ h)
  resetBrake h := h.stands (by simp) (by simp) (by simp)
  startProof _ _ h := h

end Sys2Proof.Machine
end

section
/-! SUPPORT. What keeps a property of the limits: it reads no door, no lamp of the station and no clock, and holds where the
limits are 0 and the valley state is formed. -/

namespace Sys2Proof.Machine

variable {P : State → Prop} {s t u : State} {k : FaultKind}

/-- The limits of a part that begins: none granted, and the valley state formed. -/
structure State.BegunLimits (s : State) : Prop where
  localLimit : s.speed.localLimit = 0
  enforced : s.speed.enforced = 0
  valley : s.radio.lostWide = s.valleyLostNow

/-- A property of the limits: besides the shared operations, it is kept by any update of a block that the limits do not
read, by the reports of the starts, and by the operations that move the car or form the limits. -/
structure State.KeptWithLimits (P : State → Prop) : Prop extends State.Kept P where
  pins : ∀ {s v}, P s → P (s.setPins v)
  clock : ∀ {s v}, P s → P (s.setClock v)
  pending : ∀ {s v}, P s → P (s.setPending v)
  station : ∀ {s v}, P s → P (s.setStation v)
  valid : ∀ {s v}, P s → P (s.setStore { s.store with valid := v })
  keepStore : ∀ {s}, P s → P s.keepStore
  anyDoors : ∀ {s v}, P s → P (s.setDoors v)
  anyBrake : ∀ {s v}, v.latch = s.brake.latch → P s → P (s.setBrake v)
  setLatch : ∀ {s}, P s → P s.setLatch
  clearAny : ∀ {s k}, P s → P (s.clear k)
  note : ∀ {s} k, P s → P (s.note k)
  tooth : ∀ {s} sensor phase, P s → P (s.toothEdge sensor phase)
  wheel : ∀ {s} leads, P s → P (s.wheelPulse leads)
  mark : ∀ {s dm}, dm ≤ 1000000 → P s → P ((s.markTaken dm).afterMove s)
  disagree : ∀ {s}, P s →
    P (((s.setRack
      (if s.countingTeeth then { s.rack with disagreeTimer := none : Rack }.transfer
        else { s.rack with disagreeTimer := none })).raise .speedDisagree).afterMove s)
  limits : ∀ {s}, P s → P s.limitsFormed
  begun : ∀ {s : State}, s.BegunLimits → P s

/-! ## The parts that begin -/

theorem State.valleyLostNow_of (hstatus : s.radio.status ≠ .alive) (hfresh : ∀ i : Fin 8, s.peers[i].state ≠ .fresh) :
    s.valleyLostNow = true := by
  simp only [State.valleyLostNow, Bool.and_eq_true, bne_iff_ne, List.all_eq_true, Bool.not_eq_true',
    Bool.and_eq_false_iff, Vector.mem_toList_iff]
  refine ⟨hstatus, fun e he => .inl (beq_eq_false_iff_ne.mpr ?_)⟩
  obtain ⟨i, hi, rfl⟩ := Vector.mem_iff_getElem.mp he
  exact hfresh ⟨i, hi⟩

theorem startRadio_status (now : Nat) (p : Straps) (window : List Byte) : (startRadio now p window).status ≠ .alive := by
  simp only [startRadio]
  split <;> simp

theorem resetPeers_state : ∀ i : Fin 8, State.reset.peers[i].state ≠ .fresh := by decide

theorem restartPeer_state (now : Nat) (r : Retained) (i : Fin 8) : (restartPeer now r i).state ≠ .fresh := by
  unfold restartPeer restartEntry
  split
  · simp
  · split <;> simp [PeerEntry.blank]

theorem State.coldBase_limits (s : State) : s.coldBase.BegunLimits :=
  ⟨rfl, rfl, (valleyLostNow_of (s := s.coldBase) (startRadio_status _ _ _) resetPeers_state).symm⟩

theorem State.blank_limits (life : Life) (s : State) : (s.blank life).BegunLimits :=
  ⟨rfl, rfl, (valleyLostNow_of (s := s.blank life) nofun resetPeers_state).symm⟩

theorem State.dropOut_limits (s : State) : s.dropOut.BegunLimits :=
  ⟨rfl, rfl, (valleyLostNow_of (s := s.dropOut) nofun resetPeers_state).symm⟩

theorem State.warmBase_limits (n : Fin 8) (s : State) : (s.warmBase n).BegunLimits :=
  ⟨rfl, rfl, (valleyLostNow_of (s := s.warmBase n) (startRadio_status _ _ _) fun i =>
    (restartPeers_get _ _ i).symm ▸ restartPeer_state _ _ i).symm⟩

/-! ## Every command -/

namespace State.KeptWithLimits

variable (hP : State.KeptWithLimits P)
include hP

theorem beginStop (h : P s) : P s.beginStop := hP.valid (hP.station (hP.raise _ h))

theorem keptInCycle : State.KeptInCycle P where
  toKept := hP.toKept
  proving _ h := hP.anyBrake rfl (hP.station h)
  ready _ h := hP.station h
  stop _ h := hP.beginStop h
  cycle hv h := hP.anyBrake hv.latch h
  release h :=
    of_ite (fun _ => of_ite (fun _ => hP.retest (hP.anyBrake rfl (hP.anyBrake rfl h))) fun _ => hP.anyBrake rfl h)
      fun _ => h

theorem keptByEffects : State.KeptByEffects P where
  toKept := hP.toKept
  stop _ h := hP.beginStop h
  levels _ h := hP.pins h
  keepStore h := hP.keepStore h
  tooth := hP.tooth
  wheel := hP.wheel
  mark := hP.mark
  disagree := hP.disagree
  limits := hP.limits
  loop h := of_ite (fun _ => hP.keepStore (hP.senseLoop_of_setLatch hP.setLatch (hP.pins h))) fun _ => hP.pins h
  supplyGood _ h := hP.clearAny (hP.valid (hP.station h))

theorem keptAtStarts : State.KeptAtStarts P where
  note := hP.note
  handle _ h := of_ite (fun _ => hP.anyDoors h) fun _ => h
  invalid h := hP.valid h
  dropOut {s} _ := hP.begun s.dropOut_limits
  blank _ _ _ := hP.begun (State.blank_limits _ _)
  warm _ n _ _ _ := hP.begun (State.warmBase_limits n _)
  cold _ _ _ _ := hP.begun (State.coldBase_limits _)

theorem keptByCommands : State.KeptByCommands P where
  toKeptByEffects := hP.keptByEffects
  proving := hP.keptInCycle.proving
  ready := hP.keptInCycle.ready
  cycle := hP.keptInCycle.brakeCycle
  moment _ h := hP.pins (hP.clock h)
  pending h := hP.pending h
  start hc h hexec :=
    hP.keptAtStarts.start hP.keptInCycle.toKeptAtChanges (fun _ h => hP.pins (hP.clock h)) hP.keepStore hc h hexec

end State.KeptWithLimits

end Sys2Proof.Machine
end

section
/-! SUPPORT. The section ceiling, the valley state and the enforced limit are kept by every command (R91, R95, R165). -/

namespace Sys2Proof.Machine

variable {P : State → Prop} {s t u : State} {k : FaultKind}

/-! ## The section ceiling (R91) -/

/-- What the shared operations leave of a state, if it keeps a property, makes that property one that they keep. -/
theorem State.Kept.of_cone {Q : State → State → Prop} (hQ : ∀ s, State.Kept (Q s)) (hrefl : ∀ s, Q s s)
    (himp : ∀ {s t}, P s → Q s t → P t) : State.Kept P where
  rack hv h := himp h ((hQ _).rack hv (hrefl _))
  freeCount h := himp h ((hQ _).freeCount (hrefl _))
  engagement hv h := himp h ((hQ _).engagement hv (hrefl _))
  line hv h := himp h ((hQ _).line hv (hrefl _))
  brake hv h := himp h ((hQ _).brake hv (hrefl _))
  doors hv h := himp h ((hQ _).doors hv (hrefl _))
  radio hv h := himp h ((hQ _).radio hv (hrefl _))
  speed hl he h := himp h ((hQ _).speed hl he (hrefl _))
  fewer hs ho h := himp h ((hQ _).fewer hs ho (hrefl _))
  records hf hs h := himp h ((hQ _).records hf hs (hrefl _))
  alerts hv h := himp h ((hQ _).alerts hv (hrefl _))
  raise k h := himp h ((hQ _).raise k (hrefl _))
  clear hk h := himp h ((hQ _).clear hk (hrefl _))
  retest h := himp h ((hQ _).retest (hrefl _))
  latchMass h := himp h ((hQ _).latchMass (hrefl _))
  lowerLimit c h := himp h ((hQ _).lowerLimit c (hrefl _))
  applyHolding h := himp h ((hQ _).applyHolding (hrefl _))
  evaluate h := himp h ((hQ _).evaluate (hrefl _))
  restrict e h := himp h ((hQ _).restrict e (hrefl _))
  entry h := himp h ((hQ _).entry (hrefl _))
  leave d h := himp h ((hQ _).leave d (hrefl _))
  grade g h := himp h ((hQ _).grade g (hrefl _))
  platform h := himp h ((hQ _).platform (hrefl _))
  valley v t h := himp h ((hQ _).valley v t (hrefl _))
  numbered n hn h := himp h ((hQ _).numbered n hn (hrefl _))
  peer i _ ho he h := himp h ((hQ _).peer i ho he (hrefl _))
  lost i ho h := himp h ((hQ _).lost i ho (hrefl _))
  resetBrake h := himp h ((hQ _).resetBrake (hrefl _))
  startProof hr hp h := himp h ((hQ _).startProof hr hp (hrefl _))

/-- The local limit stands under the section ceiling. -/
def State.underSection (s : State) : Prop := s.speed.localLimit ≤ s.sectionCeiling

theorem State.Lowered.sectionCeiling (h : s.Lowered t) : t.sectionCeiling = s.sectionCeiling := by
  simp [State.sectionCeiling, h.1, h.2.1]

theorem State.Lowered.underSection (hlowered : s.Lowered t) (h : s.underSection) : t.underSection := by
  rw [State.underSection, hlowered.sectionCeiling]
  exact hlowered.2.2.trans h

theorem rackCeiling_le_adhesion (p : Straps) : p.rackCeiling ≤ p.adhesionCeiling := by
  unfold Straps.rackCeiling Straps.adhesionCeiling
  split <;> simp

theorem State.underSection_of_zero (h : s.speed.localLimit = 0) : s.underSection := by
  rw [State.underSection, h]
  exact Nat.zero_le _

theorem State.underSection_kept : State.Kept State.underSection :=
  .of_cone lowered_kept Lowered.refl fun h hlowered => hlowered.underSection h

theorem State.underSection_setRack {v : Rack} (hv : v.present = s.rack.present ∨ v.present = false) (h : s.underSection) :
    (s.setRack v).underSection := by
  refine (h : s.speed.localLimit ≤ s.sectionCeiling).trans ?_
  obtain hv | hv := hv
  · simp [State.sectionCeiling, hv]
  · have hceiling : (s.setRack v).sectionCeiling = s.straps.adhesionCeiling := by simp [State.sectionCeiling, hv]
    rw [hceiling]
    unfold State.sectionCeiling
    split
    · exact rackCeiling_le_adhesion _
    · exact le_rfl

theorem Rack.countTooth_stands (r : Rack) : r.countTooth.present = r.present ∧ r.countTooth.known = r.known := by
  unfold Rack.countTooth
  split <;> exact ⟨rfl, rfl⟩

theorem Rack.toothEdge_stands (sensor : Pinion) (teeth disagree : Bool) (r : Rack) :
    (r.toothEdge sensor teeth disagree).present = true ∧ (r.toothEdge sensor teeth disagree).known = r.known := by
  cases sensor
  · unfold Rack.toothEdge
    dsimp only
    split
    · exact Rack.countTooth_stands _
    · exact ⟨rfl, rfl⟩
  · exact ⟨rfl, rfl⟩

theorem Rack.wheelPulse_present (d : Direction) (teeth : Bool) (c : Nat) (r : Rack) :
    (r.wheelPulse d teeth c).present = r.present ∨ (r.wheelPulse d teeth c).present = false := by
  have hpresent : (r.wheelPulse d teeth c).present = (r.present && !(r.present && decide (30000 ≤ r.absence + c))) := rfl
  rw [hpresent]
  cases decide (30000 ≤ r.absence + c) <;> simp

/-- A rack entry takes the local limit under the rack ceiling, whatever stood before. -/
theorem State.announceEntry_underSection (h : s.rack.present = true) : s.announceEntry.underSection := by
  have hceiling : s.sectionCeiling = s.straps.rackCeiling := by simp [State.sectionCeiling, h]
  have hlowered : s.Lowered s.announceEntry := (Lowered.refl s).monitorEntry.lowerLimit _
  rw [State.underSection, hlowered.sectionCeiling, hceiling]
  exact Nat.min_le_right _ _

/-- The state of a tooth edge after the speeds and the end of standstill. -/
def State.toothLeft (sensor : Pinion) (s : State) : State :=
  (((s.setRack (s.rack.toothEdge sensor s.countingTeeth (s.present .speedDisagree))).toothSource
    sensor).evaluateSpeed).leaveAtTooth sensor

theorem State.toothEdge_eq (sensor : Pinion) (phase : Option (Fin 32)) (s : State) :
    s.toothEdge sensor phase
      = (((if s.rack.present then s.toothLeft sensor else (s.toothLeft sensor).announceEntry).toothEvent sensor
          phase).abortForMotion).afterMove s := rfl

theorem State.Kept.toothLeft (hP : State.Kept P) (sensor : Pinion)
    (h : P (s.setRack (s.rack.toothEdge sensor s.countingTeeth (s.present .speedDisagree)))) : P (s.toothLeft sensor) :=
  hP.leaveAtTooth sensor (hP.evaluateSpeed (hP.toothSource sensor h))

theorem State.toothLeft_present (sensor : Pinion) : (s.toothLeft sensor).rack.present = true :=
  ((lowered_kept _).toothLeft sensor (.refl _)).1.trans
    (s.rack.toothEdge_stands sensor s.countingTeeth (s.present .speedDisagree)).1

theorem State.underSection_toothEdge (sensor : Pinion) (phase : Option (Fin 32)) (h : s.underSection) :
    (s.toothEdge sensor phase).underSection := by
  have hP := underSection_kept
  rw [toothEdge_eq]
  refine hP.afterMove _ (hP.abortForMotion (hP.toothEvent _ _ (of_ite (fun hrack => ?_) fun _ => ?_)))
  · have hpresent := (s.rack.toothEdge_stands sensor s.countingTeeth (s.present .speedDisagree)).1
    exact hP.toothLeft sensor (underSection_setRack (.inl (hpresent.trans hrack.symm)) h)
  · exact announceEntry_underSection (toothLeft_present sensor)

/-! ## The result of a supervision computation (R91 to R93) -/

theorem foldl_min_le (l : List Nat) (a : Nat) : l.foldl min a ≤ a ∧ ∀ c ∈ l, l.foldl min a ≤ c := by
  induction l generalizing a with
  | nil => simp
  | cons x xs ih =>
    obtain ⟨hstart, hmem⟩ := ih (min a x)
    refine ⟨hstart.trans (Nat.min_le_left _ _), fun c hc => ?_⟩
    obtain rfl | hc := List.mem_cons.mp hc
    · exact hstart.trans (Nat.min_le_right _ _)
    · exact hmem c hc

/-- The result of a supervision computation (R92). -/
def State.superResult (s : State) : Nat := s.stageSix s.superFive.val.toNat

theorem State.stageFive_le (net : Int) :
    (s.stageFive net).val.toNat ≤ s.sectionCeiling ∧ (s.sweeping = true → (s.stageFive net).val.toNat ≤ 50)
      ∧ (net ≤ 0 → (s.stageFive net).val.toNat = 0) := by
  unfold State.stageFive
  split
  · simp
  next hpos =>
    dsimp only
    refine ⟨?_, fun hsweeping => ?_, fun h => absurd h hpos⟩
    · split <;> omega
    · rw [if_pos hsweeping]
      omega

theorem State.superResult_le : s.superResult ≤ s.superFive.val.toNat ∧ ∀ c ∈ s.ceilings, s.superResult ≤ c :=
  foldl_min_le _ _

/-- The standing local limit and the result bound what the raise hold makes of them (R93). -/
theorem Speed.takeResult_le {v : Speed} {r now c : Nat} (hlimit : v.localLimit ≤ c) (hresult : r ≤ c) :
    (v.takeResult r now).localLimit ≤ c := by
  unfold Speed.takeResult
  split
  · exact hresult
  · split
    · exact hlimit
    · split
      · exact hlimit
      · split
        · exact (Nat.min_le_right _ _).trans hresult
        · exact hlimit

theorem State.limitsFormed_le {c : Nat} (hlimit : s.superJudged.speed.localLimit ≤ c) (hresult : s.superResult ≤ c) :
    s.limitsFormed.speed.localLimit ≤ c := Speed.takeResult_le hlimit hresult

theorem State.superJudged_lowered : s.Lowered s.superJudged :=
  (lowered_kept s).judgeHoldInadequate _ ((lowered_kept s).saturations _ (.refl s))

theorem State.underSection_keptWithLimits : State.KeptWithLimits State.underSection where
  toKept := underSection_kept
  pins h := h
  clock h := h
  pending h := h
  station h := h
  valid h := h
  keepStore h := of_ite (fun _ => h) fun _ => h
  anyDoors h := h
  anyBrake _ h := h
  setLatch h := Lowered.underSection ((Lowered.refl _).step (by simp) (by simp) setLatch_localLimit_le) h
  clearAny h := (Lowered.refl _).clear.underSection h
  note _ h := Lowered.underSection ((Lowered.refl _).step (by simp) (by simp) note_localLimit_le) h
  tooth := underSection_toothEdge
  wheel _ h := underSection_kept.wheelPulse _ (underSection_setRack
    (Rack.wheelPulse_present ..) h)
  mark _ h := underSection_kept.afterMove _ (underSection_kept.clear (by decide) (underSection_setRack (.inl rfl) h))
  disagree h := underSection_kept.afterMove _ (underSection_kept.raise _ (underSection_setRack (.inl (by split <;> rfl)) h))
  limits {s} h := by
    have hceiling : s.limitsFormed.sectionCeiling = s.sectionCeiling := superJudged_lowered.sectionCeiling
    rw [State.underSection, hceiling]
    exact limitsFormed_le (superJudged_lowered.2.2.trans h) (superResult_le.1.trans (stageFive_le _).1)
  begun h := underSection_of_zero h.localLimit

/-! ## The valley state (R165) -/

/-- The consist-wide valley state is the one that its sources give. -/
def State.valleyFormed (s : State) : Prop := s.radio.lostWide = s.valleyLostNow

theorem State.valleyLostNow_iff :
    s.valleyLostNow = true ↔ s.radio.status ≠ .alive
      ∧ ∀ i : Fin 8, ¬(s.peers[i].state = .fresh ∧ s.peers[i].report.valley = 1) := by
  simp only [State.valleyLostNow, Bool.and_eq_true, bne_iff_ne, List.all_eq_true, Bool.not_eq_true',
    Vector.mem_toList_iff, Bool.and_eq_false_iff, beq_eq_false_iff_ne, not_and_or]
  refine and_congr_right fun _ => ⟨fun h i => h _ (Vector.getElem_mem i.isLt), fun h e he => ?_⟩
  obtain ⟨i, hi, rfl⟩ := Vector.mem_iff_getElem.mp he
  exact h ⟨i, hi⟩

theorem State.valleyLostNow_congr (hradio : t.radio.status = s.radio.status) (hpeers : t.peers = s.peers) :
    t.valleyLostNow = s.valleyLostNow := by
  simp [State.valleyLostNow, hradio, hpeers]

theorem State.valleyFormed_congr (h : s.valleyFormed) (hstatus : t.radio.status = s.radio.status)
    (hwide : t.radio.lostWide = s.radio.lostWide) (hpeers : t.peers = s.peers) : t.valleyFormed := by
  rw [State.valleyFormed, hwide, valleyLostNow_congr hstatus hpeers]
  exact h

theorem State.reformValley_formed : s.reformValley.valleyFormed :=
  of_ite (P := State.valleyFormed) (fun _ => rfl) fun _ => rfl

theorem State.peersChanged_valleyFormed : s.peersChanged.valleyFormed := by
  have hformed := (((s.reformCabConflict).reformPeerLost).reformEnforced).reformValley_formed
  exact valleyFormed_congr hformed (by simp [State.peersChanged]) (by simp [State.peersChanged])
    (by simp [State.peersChanged])

theorem State.valleyFormed_kept : State.Kept State.valleyFormed where
  rack _ h := h
  freeCount h := h
  engagement _ h := h
  line _ h := h
  brake _ h := h
  doors _ h := h
  radio hv h := valleyFormed_congr h hv.status hv.lostWide rfl
  speed _ _ h := h
  fewer _ _ h := h
  records _ _ h := h
  alerts {s v} hv h := by
    have hlost : (s.setPeers v).valleyLostNow = s.valleyLostNow := by
      refine Bool.eq_iff_iff.mpr ?_
      rw [valleyLostNow_iff, valleyLostNow_iff]
      refine and_congr_right fun _ => forall_congr' fun i => ?_
      obtain ⟨k, hk⟩ := hv i
      have hentry : (s.setPeers v).peers[i] = { s.peers[i] with lastAlert := k } := hk
      rw [hentry]
      exact Iff.rfl
    rw [State.valleyFormed, hlost]
    exact h
  raise _ h := valleyFormed_congr h (by simp) (by simp) (by simp)
  clear _ h := valleyFormed_congr h (by simp) (by simp) (by simp)
  retest h := valleyFormed_congr h (by simp) (by simp) (by simp)
  latchMass h := valleyFormed_congr h (by simp) (by simp) (by simp)
  lowerLimit _ h := h
  applyHolding h := valleyFormed_congr h (by simp) (by simp) (by simp)
  evaluate h := valleyFormed_congr h (by simp) (by simp) (by simp)
  restrict _ h := valleyFormed_congr h (by simp) (by simp) (by simp)
  entry h := valleyFormed_congr h (by simp) (by simp) (by simp)
  leave _ h := valleyFormed_congr h (by simp [State.leaveStandstill, State.monitorLeft]) (by simp [State.leaveStandstill, State.monitorLeft]) (by simp)
  grade _ h := valleyFormed_congr h (by simp) (by simp) (by simp)
  platform h := valleyFormed_congr h (by simp) (by simp) (by simp)
  valley _ _ _ := reformValley_formed
  numbered _ _ _ := peersChanged_valleyFormed
  peer _ _ _ _ _ := peersChanged_valleyFormed
  lost _ _ _ := peersChanged_valleyFormed
  resetBrake h := valleyFormed_congr h (by simp) (by simp) (by simp)
  startProof _ _ h := h

end Sys2Proof.Machine
end

section
/-! SUPPORT. The valley state and the enforced limit are kept by every command (R95, R165). -/

namespace Sys2Proof.Machine

variable {P : State → Prop} {s t u : State} {k : FaultKind}

theorem State.valleyFormed_keptWithLimits : State.KeptWithLimits State.valleyFormed where
  toKept := valleyFormed_kept
  pins h := h
  clock h := h
  pending h := h
  station h := h
  valid h := h
  keepStore h := of_ite (fun _ => h) fun _ => h
  anyDoors h := h
  anyBrake _ h := h
  setLatch h := valleyFormed_congr h (by simp) (by simp) (by simp)
  clearAny h := valleyFormed_congr h (by simp) (by simp) (by simp)
  note _ h := valleyFormed_congr h (by simp) (by simp) (by simp)
  tooth sensor phase h := valleyFormed_kept.toothEdge sensor phase h
  wheel leads h := valleyFormed_kept.wheelPulse leads h
  mark _ h := valleyFormed_kept.afterMove _ (valleyFormed_kept.clear (s := State.setRack _ _) (by decide) h)
  disagree h := valleyFormed_kept.afterMove _ (valleyFormed_kept.raise (s := State.setRack _ _) _ h)
  limits h := valleyFormed_kept.judgeHoldInadequate _ (valleyFormed_kept.saturations _ h)
  begun h := h.valley

/-! ## The enforced limit (R95) -/

/-- The enforced limit stands under the own local limit and those of the consist set. -/
def State.underConsist (s : State) : Prop :=
  s.speed.enforced ≤ s.speed.localLimit
    ∧ ∀ i : Fin 8, s.peers[i].inSet = true → s.speed.enforced ≤ s.peers[i].report.localLimit.toNat

theorem State.forall_consistPeers {p : PeerEntry → Prop} :
    (∀ e ∈ s.consistPeers, p e) ↔ ∀ i : Fin 8, s.peers[i].inSet = true → p s.peers[i] := by
  simp only [State.consistPeers, List.mem_filter, Vector.mem_toList_iff, and_imp]
  refine ⟨fun h i hset => h _ (Vector.getElem_mem i.isLt) hset, fun h e he hset => ?_⟩
  obtain ⟨i, hi, rfl⟩ := Vector.mem_iff_getElem.mp he
  exact h ⟨i, hi⟩ hset

theorem State.underConsist_congr (h : s.underConsist) (hlimit : t.speed.localLimit = s.speed.localLimit)
    (henforced : t.speed.enforced = s.speed.enforced) (hpeers : t.peers = s.peers) : t.underConsist := by
  rw [State.underConsist, hlimit, henforced, hpeers]
  exact h

theorem State.reformEnforced_underConsist : s.reformEnforced.underConsist := by
  obtain ⟨hlimit, hpeers⟩ :=
    foldl_min_le (s.consistPeers.map fun e => e.report.localLimit.toNat) s.speed.localLimit
  refine ⟨hlimit, ?_⟩
  exact (forall_consistPeers (s := s.reformEnforced)).mp fun e he => hpeers _ (List.mem_map.mpr ⟨e, he, rfl⟩)

theorem State.lowerLimit_underConsist (c : Nat) : (s.lowerLimit c).underConsist := reformEnforced_underConsist

theorem State.retest_underConsist (h : s.underConsist) : s.retestPermits.underConsist :=
  underConsist_congr h (by simp) (by simp) (by simp)

theorem State.react_underConsist (h : s.underConsist) : (s.react k).underConsist := by
  unfold State.react
  split
  · exact retest_underConsist (lowerLimit_underConsist 0)
  · exact retest_underConsist (lowerLimit_underConsist 0)
  · exact h

theorem State.setLatch_underConsist (h : s.underConsist) : s.setLatch.underConsist :=
  of_ite (P := State.underConsist) (fun _ => h) fun _ => lowerLimit_underConsist 0

theorem State.lowerLimits_underConsist (cs : List Nat) (h : s.underConsist) : (s.lowerLimits cs).underConsist := by
  induction cs generalizing s with
  | nil => exact h
  | cons c cs ih => exact ih (lowerLimit_underConsist c)

theorem State.reformValley_underConsist (h : s.underConsist) : s.reformValley.underConsist :=
  of_ite (P := State.underConsist) (fun _ => lowerLimit_underConsist 60) fun _ => h

theorem State.peersChanged_underConsist : s.peersChanged.underConsist :=
  retest_underConsist (reformValley_underConsist reformEnforced_underConsist)

theorem State.clear_underConsist (h : s.underConsist) : (s.clear k).underConsist :=
  underConsist_congr h (by simp) (by simp) (by simp)

theorem State.placeEntry_underConsist {old : Option Restriction} {e : Restriction} (h : s.underConsist) :
    (s.placeEntry old e).underConsist := by
  unfold State.placeEntry
  dsimp only
  split
  · exact h
  · exact of_ite (P := State.underConsist) (fun _ => lowerLimit_underConsist _) fun _ => h

theorem State.raise_underConsist (h : s.underConsist) : (s.raise k).underConsist :=
  of_ite (P := State.underConsist) (fun _ => h) fun _ => react_underConsist (s := s.recordOccurrence k) h

theorem State.restrict_underConsist (e : Restriction) (h : s.underConsist) : (s.restrict e).1.underConsist := by
  unfold State.restrict
  split
  · exact placeEntry_underConsist h
  · split
    · exact placeEntry_underConsist h
    · exact raise_underConsist (of_ite (P := State.underConsist) (fun _ => h) fun _ => lowerLimit_underConsist _)

theorem State.underConsist_kept : State.Kept State.underConsist where
  rack _ h := h
  freeCount h := h
  engagement _ h := h
  line _ h := h
  brake _ h := h
  doors _ h := h
  radio _ h := h
  speed hlimit henforced h := underConsist_congr h hlimit henforced rfl
  fewer _ _ h := h
  records _ _ h := h
  alerts {s v} hv h := by
    refine ⟨h.1, fun i hset => ?_⟩
    obtain ⟨k, hk⟩ := hv i
    have hentry : (s.setPeers v).peers[i] = { s.peers[i] with lastAlert := k } := hk
    rw [hentry] at hset ⊢
    exact h.2 i hset
  raise _ h := raise_underConsist h
  clear _ h := clear_underConsist h
  retest h := retest_underConsist h
  latchMass h := underConsist_congr h (by simp) (by simp) (by simp)
  lowerLimit c _ := lowerLimit_underConsist c
  applyHolding h := underConsist_congr h (by simp) (by simp) (by simp)
  evaluate h := by
    rw [evaluateRestrictions_eq]
    exact lowerLimits_underConsist _ h
  restrict e h := restrict_underConsist e h
  entry h := by
    refine of_ite (P := State.underConsist) (fun _ => clear_underConsist ?_) fun _ => ?_
    all_goals exact of_ite (P := State.underConsist) (fun _ => lowerLimit_underConsist 50) fun _ => h
  leave _ h := underConsist_congr h (by simp) (by simp) (by simp)
  grade _ h := underConsist_congr h (by simp) (by simp) (by simp)
  platform h := retest_underConsist h
  valley _ _ h := reformValley_underConsist h
  numbered _ _ _ := peersChanged_underConsist
  peer _ _ _ _ _ := peersChanged_underConsist
  lost _ _ _ := peersChanged_underConsist
  resetBrake h := underConsist_congr h (by simp) (by simp) (by simp)
  startProof _ _ h := h

theorem State.underConsist_keptWithLimits : State.KeptWithLimits State.underConsist where
  toKept := underConsist_kept
  pins h := h
  clock h := h
  pending h := h
  station h := h
  valid h := h
  keepStore h := of_ite (fun _ => h) fun _ => h
  anyDoors h := h
  anyBrake _ h := h
  setLatch h := setLatch_underConsist h
  clearAny h := clear_underConsist h
  note k h := of_ite (fun _ => h) fun _ => react_underConsist (s := State.recordNote k _) h
  tooth sensor phase h := underConsist_kept.toothEdge sensor phase h
  wheel leads h := underConsist_kept.wheelPulse leads h
  mark _ h := underConsist_kept.afterMove _ (underConsist_kept.clear (s := State.setRack _ _) (by decide) h)
  disagree h := underConsist_kept.afterMove _ (underConsist_kept.raise (s := State.setRack _ _) _ h)
  limits _ := reformEnforced_underConsist
  begun h := by
    rw [State.underConsist, h.localLimit, h.enforced]
    exact ⟨le_rfl, fun _ _ => Nat.zero_le _⟩

end Sys2Proof.Machine
end

section
/-! SUPPORT. The ceilings of stage 6 and the sweep cap over the local limit (R91, R92, R94), kept by every command. -/

namespace Sys2Proof.Machine

variable {P : State → Prop} {s t u : State} {k : FaultKind}

/-- The local limit stands under every ceiling besides the section's that applies (R91, R92). -/
structure State.capped (s : State) : Prop where
  sweep : s.sweeping = true → s.speed.localLimit ≤ 50
  entry : ∀ e ∈ s.restrictions.entries, e.covering = true ∨ s.rack.known = false → s.speed.localLimit ≤ e.limit
  overflow : ∀ c ∈ s.restrictions.overflow, s.speed.localLimit ≤ c
  valley : s.radio.lostWide = true → s.speed.localLimit ≤ 60
  fault : ∀ k, faultClassOf s.straps.strict k ≠ .c → s.present k = true → s.speed.localLimit = 0
  latch : s.brake.latch = true → s.speed.localLimit = 0

theorem State.classAB_iff :
    s.classA = true ∨ s.classB = true ↔ ∃ k, faultClassOf s.straps.strict k ≠ .c ∧ s.present k = true := by
  rw [classA_iff, classB_iff]
  constructor
  · rintro (⟨k, hk, hp⟩ | ⟨k, hk, hp⟩)
    · exact ⟨k, by simp [hk], hp⟩
    · exact ⟨k, by simp [hk], hp⟩
  · rintro ⟨k, hk, hp⟩
    cases hclass : faultClassOf s.straps.strict k with
    | a => exact .inl ⟨k, hclass, hp⟩
    | b => exact .inr ⟨k, hclass, hp⟩
    | c => exact absurd hclass hk

theorem State.limitOk_iff : s.limitOk ↔ s.underSection ∧ s.capped ∧ s.valleyFormed ∧ s.underConsist := by
  constructor
  · rintro ⟨hsection, hsweep, hentry, hoverflow, hformed, hvalley, hstop, henforced, hpeers⟩
    refine ⟨hsection, ⟨hsweep, hentry, hoverflow, fun h => hvalley (hformed.symm.trans h), fun k hk hp => ?_, fun h =>
      hstop (.inr (.inr h))⟩, hformed, henforced, forall_consistPeers.mp hpeers⟩
    have hclass := classAB_iff.mpr ⟨k, hk, hp⟩
    exact hstop (hclass.imp id .inl)
  · rintro ⟨hsection, hcapped, hformed, henforced, hpeers⟩
    refine ⟨hsection, hcapped.sweep, hcapped.entry, hcapped.overflow, hformed,
      fun h => hcapped.valley (hformed.trans h), ?_, henforced, forall_consistPeers.mpr hpeers⟩
    rintro (h | h | h)
    · obtain ⟨k, hk, hp⟩ := classAB_iff.mp (.inl h)
      exact hcapped.fault k hk hp
    · obtain ⟨k, hk, hp⟩ := classAB_iff.mp (.inr h)
      exact hcapped.fault k hk hp
    · exact hcapped.latch h

theorem State.capped_of_zero (h : s.speed.localLimit = 0) : s.capped := by
  constructor <;> simp [h]

/-- What raises no ceiling in force and does not raise the limit. -/
theorem State.capped.of (h : s.capped) (hsweep : t.sweeping = true → s.sweeping = true)
    (hrestrictions : t.restrictions = s.restrictions) (hknown : t.rack.known = false → s.rack.known = false)
    (hwide : t.radio.lostWide = s.radio.lostWide) (hstore : t.store = s.store)
    (hpresent : ∀ k, faultClassOf s.straps.strict k ≠ .c → t.present k = true → s.present k = true)
    (hlatch : t.brake.latch = true → s.brake.latch = true) (hlimit : t.speed.localLimit ≤ s.speed.localLimit) :
    t.capped where
  sweep ht := hlimit.trans (h.sweep (hsweep ht))
  entry e he ht := hlimit.trans (h.entry e (hrestrictions ▸ he) (ht.imp id hknown))
  overflow c hc := hlimit.trans (h.overflow c (hrestrictions ▸ hc))
  valley ht := hlimit.trans (h.valley (hwide ▸ ht))
  fault k hk hp := by
    rw [straps_congr hstore] at hk
    exact Nat.le_zero.mp (hlimit.trans (h.fault k hk (hpresent k hk hp)).le)
  latch ht := Nat.le_zero.mp (hlimit.trans (h.latch (hlatch ht)).le)

theorem State.sweeping_of (h : t.engagement = s.engagement) (ht : t.sweeping = true) : s.sweeping = true := by
  rwa [State.sweeping, h] at ht

theorem State.known_of (h : t.rack = s.rack) (ht : t.rack.known = false) : s.rack.known = false := h ▸ ht

theorem State.capped.lowerLimit (c : Nat) (h : s.capped) : (s.lowerLimit c).capped :=
  h.of (sweeping_of (by simp)) (by simp) (known_of (by simp)) (by simp) (by simp)
    (fun k _ => (lowerLimit_present c k).symm.trans) (by simp) (by simp)

theorem State.capped.lowerLimits (cs : List Nat) (h : s.capped) : (s.lowerLimits cs).capped := by
  induction cs generalizing s with
  | nil => exact h
  | cons c cs ih => exact ih (h.lowerLimit c)

theorem ne_loadSensor_of_not_classC {strict : Bool} (h : faultClassOf strict k ≠ .c) : k ≠ .loadSensor := by
  rintro rfl
  exact h rfl

theorem State.capped.retest (h : s.capped) : s.retestPermits.capped :=
  h.of (sweeping_of (by simp)) (by simp) (known_of (by simp)) (by simp) (by simp)
    (fun _ hk => (retestPermits_present _ (ne_loadSensor_of_not_classC hk)).symm.trans) (by simp) (by simp)

theorem State.capped.clear (h : s.capped) : (s.clear k).capped :=
  h.of (sweeping_of (by simp)) (by simp) (known_of (by simp)) (by simp) (by simp)
    (fun j hj => clear_present_le j (ne_loadSensor_of_not_classC hj)) (by simp) (by simp)

/-- A class A or B condition that becomes present leaves no limit at all. -/
theorem State.react_capped (hc : faultClassOf s.straps.strict k ≠ .c) : (s.react k).capped :=
  capped_of_zero (react_localLimit hc)

theorem State.capped.faults {f : Faults} (h : s.capped)
    (hf : ∀ k, faultClassOf s.straps.strict k ≠ .c → f.present k = true → s.present k = true) : (s.setFaults f).capped :=
  h.of id rfl id rfl rfl hf id le_rfl

theorem State.react_classC (hc : faultClassOf s.straps.strict k = .c) : s.react k = s := by
  rw [State.react, hc]

theorem State.capped.recordOccurrence_of (h : s.capped) (hk : s.present k = true ∨ faultClassOf s.straps.strict k = .c) :
    (s.recordOccurrence k).capped := by
  refine h.faults fun j hj hp => ?_
  obtain hk | hk := hk
  · exact (present_recordOccurrence_of_present hk j).symm.trans hp
  · exact (s.faults.present_occur_of_ne _ (by rintro rfl; exact hj hk)).symm.trans hp

theorem State.capped.recordNote_of (h : s.capped) (hk : s.present k = true ∨ faultClassOf s.straps.strict k = .c) :
    (s.recordNote k).capped := by
  refine h.faults fun j hj hp => ?_
  obtain hk | hk := hk
  · exact (present_recordNote_of_present hk j).symm.trans hp
  · exact (s.faults.present_note_of_ne _ (by rintro rfl; exact hj hk)).symm.trans hp

theorem State.capped.raise (h : s.capped) : (s.raise k).capped := by
  refine of_ite (P := State.capped) (fun hpresent => h.recordOccurrence_of (.inl hpresent)) fun _ => ?_
  by_cases hc : faultClassOf s.straps.strict k = .c
  · rw [react_classC (s := s.recordOccurrence k) hc]
    exact h.recordOccurrence_of (.inr hc)
  · exact react_capped (s := s.recordOccurrence k) hc

theorem State.capped.note (h : s.capped) : (s.note k).capped := by
  refine of_ite (P := State.capped) (fun hpresent => h.recordNote_of (.inl hpresent)) fun _ => ?_
  by_cases hc : faultClassOf s.straps.strict k = .c
  · rw [react_classC (s := s.recordNote k) hc]
    exact h.recordNote_of (.inr hc)
  · exact react_capped (s := s.recordNote k) hc

/-! ## Restrictions (R172 to R180) -/

/-- New entries and a new overflow ceiling stand over the limit just when each of them does. -/
theorem State.capped.restrictions {v : Restrictions} (h : s.capped)
    (hentry : ∀ e ∈ v.entries, e.covering = true ∨ s.rack.known = false → s.speed.localLimit ≤ e.limit)
    (hoverflow : ∀ c ∈ v.overflow, s.speed.localLimit ≤ c) : (s.setRestrictions v).capped :=
  ⟨h.sweep, hentry, hoverflow, h.valley, h.fault, h.latch⟩

theorem State.lowerLimits_eq (cs : List Nat) :
    ∃ v : Speed, s.lowerLimits cs = s.setSpeed v ∧ v.localLimit ≤ s.speed.localLimit ∧ ∀ c ∈ cs, v.localLimit ≤ c := by
  induction cs generalizing s with
  | nil => exact ⟨s.speed, rfl, le_rfl, nofun⟩
  | cons c cs ih =>
    obtain ⟨v, hv, hle, hmem⟩ := ih (s := s.lowerLimit c)
    rw [lowerLimit_localLimit] at hle
    refine ⟨v, hv, hle.trans (Nat.min_le_left _ _), fun x hx => ?_⟩
    obtain rfl | hx := List.mem_cons.mp hx
    · exact hle.trans (Nat.min_le_right _ _)
    · exact hmem x hx

theorem State.evaluateEntry_limit {e r : Restriction} (h : s.evaluateEntry e = some r) : r.limit = e.limit := by
  unfold State.evaluateEntry at h
  (repeat' split at h) <;> simp at h <;> rw [← h]

theorem State.capped.evaluate (h : s.capped) : s.evaluateRestrictions.capped := by
  rw [evaluateRestrictions_eq]
  obtain ⟨v, hv, hle, hmem⟩ := lowerLimits_eq (s := s.setRestrictions
    { s.restrictions with entries := s.restrictions.entries.filterMap s.evaluateEntry })
    (s.restrictions.entries.filterMap s.newlyCovering)
  rw [hv]
  refine ⟨fun ht => hle.trans (h.sweep ht), fun r hr ht => ?_, fun c hc => hle.trans (h.overflow c hc),
    fun ht => hle.trans (h.valley ht), fun k hk hp => Nat.le_zero.mp (hle.trans (h.fault k hk hp).le),
    fun ht => Nat.le_zero.mp (hle.trans (h.latch ht).le)⟩
  obtain ⟨e, he, hr⟩ := List.mem_filterMap.mp hr
  by_cases hcover : e.covering = true ∨ s.rack.known = false
  · rw [evaluateEntry_limit hr]
    exact hle.trans (h.entry e he hcover)
  · obtain ⟨huncovered, hknown⟩ := not_or.mp hcover
    have hcovering : r.covering = true := ht.resolve_right hknown
    exact hmem _ (List.mem_filterMap.mpr ⟨e, he, by simp [State.newlyCovering, hr, hcovering, huncovered]⟩)

/-- The placed entry is over the limit, or it does not apply. -/
theorem State.placed_le {old : Option Restriction} {e r : Restriction} (h : s.capped)
    (hold : ∀ o ∈ old, o ∈ s.restrictions.entries) (hr : s.evaluateEntry e = some r)
    (hquiet : s.announcesPlacing old r = false) (ht : r.covering = true ∨ s.rack.known = false) :
    s.speed.localLimit ≤ r.limit := by
  have hcovering : r.covering = true := by
    refine ht.elim id fun hknown => ?_
    simp only [State.evaluateEntry, State.position, hknown] at hr
    cases hr
    rfl
  cases old with
  | none => simp [State.announcesPlacing, hcovering] at hquiet
  | some o =>
    simp only [State.announcesPlacing, hcovering, Bool.true_and, Bool.or_eq_false_iff, Bool.not_eq_false',
      decide_eq_false_iff_not, Nat.not_lt] at hquiet
    obtain ⟨⟨hocovering, hlimit⟩, -⟩ := hquiet
    exact (h.entry o (hold o rfl) (.inl hocovering)).trans hlimit

theorem State.placeEntry_mem {old : Option Restriction} {e x : Restriction}
    (hx : x ∈ (match old with
      | some _ => replaceEntry e.orderId (s.evaluateEntry e) s.restrictions.entries
      | none => s.restrictions.entries ++ (s.evaluateEntry e).toList)) :
    x ∈ s.restrictions.entries ∨ s.evaluateEntry e = some x := by
  cases old with
  | none =>
    simp only [List.mem_append, Option.mem_toList] at hx
    exact hx
  | some o =>
    obtain ⟨y, hy, hyx⟩ := List.mem_filterMap.mp hx
    split at hyx
    · exact .inr hyx
    · cases hyx
      exact .inl hy

theorem State.capped.placeEntry {old : Option Restriction} {e : Restriction} (h : s.capped)
    (hold : ∀ o ∈ old, o ∈ s.restrictions.entries) : (s.placeEntry old e).capped := by
  unfold State.placeEntry
  dsimp only
  split
  next hnone =>
    refine h.restrictions (fun x hx ht => ?_) h.overflow
    obtain hx | hx := placeEntry_mem hx
    · exact h.entry x hx ht
    · cases hnone.symm.trans hx
  next r hr =>
    cases hannounced : s.announcesPlacing old r with
    | false =>
      refine h.restrictions (fun x hx ht => ?_) h.overflow
      obtain hx | hx := placeEntry_mem hx
      · exact h.entry x hx ht
      · cases hr.symm.trans hx
        exact placed_le h hold hr hannounced ht
    | true =>
      rw [if_pos rfl]
      have hle : min s.speed.localLimit r.limit ≤ s.speed.localLimit := Nat.min_le_left _ _
      refine ⟨fun ht => hle.trans (h.sweep ht), fun x hx ht => ?_, fun c hc => hle.trans (h.overflow c hc),
        fun ht => hle.trans (h.valley ht), fun k hk hp => Nat.le_zero.mp (hle.trans (h.fault k hk hp).le),
        fun ht => Nat.le_zero.mp (hle.trans (h.latch ht).le)⟩
      obtain hx | hx := placeEntry_mem hx
      · exact hle.trans (h.entry x hx ht)
      · cases hr.symm.trans hx
        exact Nat.min_le_right _ _

theorem State.capped.setOverflow {c : Nat} (h : s.capped) :
    ((s.setRestrictions { s.restrictions with overflow := some c }).lowerLimit c).capped := by
  have hle : min s.speed.localLimit c ≤ s.speed.localLimit := Nat.min_le_left _ _
  refine ⟨fun ht => hle.trans (h.sweep ht), fun e he ht => hle.trans (h.entry e he ht), fun d hd => ?_,
    fun ht => hle.trans (h.valley ht), fun k hk hp => Nat.le_zero.mp (hle.trans (h.fault k hk hp).le),
    fun ht => Nat.le_zero.mp (hle.trans (h.latch ht).le)⟩
  cases hd
  exact Nat.min_le_right _ _

theorem State.capped.placeOverflow (limit : Nat) (h : s.capped) : (s.overflow limit).capped := by
  refine State.capped.raise (of_ite (P := State.capped) (fun hsame => ?_) fun _ => h.setOverflow)
  exact h.restrictions h.entry fun c hc => h.overflow c (hsame ▸ hc)

theorem State.capped.restrict (e : Restriction) (h : s.capped) : (s.restrict e).1.capped := by
  unfold State.restrict
  split
  next o hfind => exact h.placeEntry fun x hx => Option.mem_some_iff.mp hx ▸ List.mem_of_find?_eq_some hfind
  · split
    · exact State.capped.placeEntry (old := none) (e := e) h (by simp)
    · exact h.placeOverflow _

end Sys2Proof.Machine
end

section
/-! SUPPORT. O13: the ceilings kept by every command, and with them the limits (R91 to R95, R165). -/

namespace Sys2Proof.Machine

variable {P : State → Prop} {s t u : State} {k : FaultKind}

namespace State.capped

theorem setEngagement {v : Engagement} (h : s.capped) (hv : (s.setEngagement v).sweeping = true → s.sweeping = true) :
    (s.setEngagement v).capped := h.of hv rfl id rfl rfl (fun _ _ => id) id le_rfl

theorem reformSlip (h : s.capped) : s.reformSlip.capped := of_ite (P := State.capped) (fun _ => h.clear) fun _ => h

/-- The sweep cap begins to hold with the first sweep (R94). -/
theorem monitorEntry (h : s.capped) : s.monitorEntry.capped := by
  refine reformSlip ?_
  dsimp only
  split
  next =>
    have hle : min s.speed.localLimit 50 ≤ s.speed.localLimit := Nat.min_le_left _ _
    exact ⟨fun _ => Nat.min_le_right _ _, fun e he ht => hle.trans (h.entry e he ht),
      fun c hc => hle.trans (h.overflow c hc), fun ht => hle.trans (h.valley ht),
      fun k hk hp => Nat.le_zero.mp (hle.trans (h.fault k hk hp).le), fun ht => Nat.le_zero.mp (hle.trans (h.latch ht).le)⟩
  next hquiet => exact h.setEngagement fun ht => by simpa [ht] using hquiet

theorem anyBrake {v : Brake} (hlatch : v.latch = true → s.brake.latch = true) (h : s.capped) : (s.setBrake v).capped :=
  h.of id rfl id rfl rfl (fun _ _ => id) hlatch le_rfl

theorem setRack {v : Rack} (h : s.capped) (hknown : v.known = false → s.rack.known = false) : (s.setRack v).capped :=
  h.of id rfl hknown rfl rfl (fun _ _ => id) id le_rfl

theorem latchMass (h : s.capped) : s.latchMass.capped :=
  h.of (sweeping_of (by simp)) (by simp) (known_of (by simp)) (by simp) (by simp)
    (fun _ hk => (latchMass_present _ (ne_loadSensor_of_not_classC hk)).symm.trans) (by simp) (by simp)

theorem latchIfClosed (was : DoorSummary) (h : s.capped) : (s.latchIfClosed was).capped :=
  of_ite (P := State.capped) (fun _ => h.latchMass) fun _ => h

theorem anyDoors {v : DoorControl} (h : s.capped) : (s.setDoors v).capped := h.of id rfl id rfl rfl (fun _ _ => id) id le_rfl

theorem leaveStandstill (d : Direction) (h : s.capped) : (s.leaveStandstill d).capped := by
  have hrack : (s.setRack { s.rack with standstill := false, movingDir := d, standstillTimer := none }).capped :=
    h.setRack id
  have hleft := hrack.setEngagement (v := { s.engagement with climbOutHold := none, calibrationHold := none }) id
  exact retest (latchIfClosed _ (anyDoors ⟨hleft.sweep, hleft.entry, hleft.overflow, hleft.valley, hleft.fault,
    hleft.latch⟩))

theorem applyHolding (h : s.capped) : s.applyHolding.capped :=
  h.of (sweeping_of (by simp)) (by simp) (known_of (by simp)) (by simp) (by simp)
    (fun _ hk => (applyHolding_present (ne_loadSensor_of_not_classC hk)).symm.trans)
    (applyHolding_stands.1.symm.trans ·) (by simp)

theorem setLatch (h : s.capped) : s.setLatch.capped := by
  cases hlatch : s.brake.latch with
  | true => rwa [setLatch_of_latched hlatch]
  | false =>
    refine capped_of_zero ?_
    rw [setLatch_of_clear hlatch, lowerLimit_localLimit]
    exact Nat.min_zero _

theorem reformValley (h : s.capped) : s.reformValley.capped := by
  unfold State.reformValley
  dsimp only
  split
  next =>
    have hle : min s.speed.localLimit 60 ≤ s.speed.localLimit := Nat.min_le_left _ _
    exact ⟨fun ht => hle.trans (h.sweep ht), fun e he ht => hle.trans (h.entry e he ht),
      fun c hc => hle.trans (h.overflow c hc), fun _ => Nat.min_le_right _ _,
      fun k hk hp => Nat.le_zero.mp (hle.trans (h.fault k hk hp).le), fun ht => Nat.le_zero.mp (hle.trans (h.latch ht).le)⟩
  next hquiet =>
    exact ⟨h.sweep, h.entry, h.overflow, fun ht => h.valley (by simpa [show s.valleyLostNow = true from ht] using hquiet),
      h.fault, h.latch⟩

theorem anySpeed {v : Speed} (h : s.capped) (hlimit : v.localLimit ≤ s.speed.localLimit) : (s.setSpeed v).capped :=
  h.of id rfl id rfl rfl (fun _ _ => id) id hlimit

theorem anyPeers {v : Vector PeerEntry 8} (h : s.capped) : (s.setPeers v).capped :=
  ⟨h.sweep, h.entry, h.overflow, h.valley, h.fault, h.latch⟩

theorem reformCabConflict (h : s.capped) : s.reformCabConflict.capped :=
  of_ite (P := State.capped) (fun _ => of_ite (P := State.capped) (fun _ => h) fun _ => h.raise) fun _ => h.clear

theorem reformPeerLost (h : s.capped) : s.reformPeerLost.capped := of_ite (P := State.capped) (fun _ => h) fun _ => h.clear

theorem reformEnforced (h : s.capped) : s.reformEnforced.capped := h.anySpeed le_rfl

theorem peersChanged (h : s.capped) : s.peersChanged.capped :=
  h.reformCabConflict.reformPeerLost.reformEnforced.reformValley.retest

end State.capped

theorem State.capped_kept : State.Kept State.capped where
  rack hv h := h.setRack (hv.known ▸ id)
  freeCount h := ⟨h.sweep, h.entry, h.overflow, h.valley, h.fault, h.latch⟩
  engagement hv h := h.setEngagement fun ht => by
    simp only [State.sweeping, State.setEngagement_engagement, Bool.or_eq_true, beq_iff_eq] at ht ⊢
    exact ht.imp hv.p1.sweeping hv.p2.sweeping
  line _ h := ⟨h.sweep, h.entry, h.overflow, h.valley, h.fault, h.latch⟩
  brake hv h := h.anyBrake (hv.latch ▸ id)
  doors _ h := h.anyDoors
  radio hv h := ⟨h.sweep, h.entry, h.overflow, (hv.lostWide ▸ h.valley), h.fault, h.latch⟩
  speed hlimit _ h := h.anySpeed hlimit.le
  fewer hsub hoverflow h := h.restrictions (fun e he => h.entry e (hsub.subset he)) fun c hc =>
    h.overflow c (hoverflow.elim (fun hnone => by rw [hnone] at hc; cases hc) fun hsame => hsame ▸ hc)
  records hf _ h := h.faults fun k _ hp => (Faults.present_of_flags hf k).symm.trans hp
  alerts _ h := h.anyPeers
  raise _ h := h.raise
  clear _ h := h.clear
  retest h := h.retest
  latchMass h := h.latchMass
  lowerLimit c h := h.lowerLimit c
  applyHolding h := h.applyHolding
  evaluate h := h.evaluate
  restrict e h := h.restrict e
  entry h := h.monitorEntry
  leave d h := h.leaveStandstill d
  grade {s} g h := of_ite (P := State.capped) (fun _ => h) fun _ => (h.setRack (v := { s.rack with grade := g }) id).retest
  platform h := State.capped.retest ⟨h.sweep, h.entry, h.overflow, h.valley, h.fault, h.latch⟩
  valley _ _ h := State.capped.reformValley ⟨h.sweep, h.entry, h.overflow, h.valley, h.fault, h.latch⟩
  numbered _ _ h := State.capped.peersChanged (State.capped.anyPeers ⟨h.sweep, h.entry, h.overflow, h.valley, h.fault, h.latch⟩)
  peer _ _ _ _ h := h.anyPeers.peersChanged
  lost _ _ h := h.anyPeers.raise.peersChanged
  resetBrake h := resetBrake_of (P := State.capped) (State.capped.anyBrake id) (fun _ => State.capped.anyBrake id)
    (fun _ _ => State.capped.anyBrake nofun) h
  startProof _ _ h := h.anyBrake id

/-- A net deceleration of 0 or less gives the result 0 (R89). -/
theorem State.superResult_of_net (h : s.netDecel.val ≤ 0) : s.superResult = 0 :=
  Nat.le_zero.mp (superResult_le.1.trans ((stageFive_le _).2.2 h).le)

theorem State.superResult_le_ceiling {c : Nat} (h : c ∈ s.ceilings) : s.superResult ≤ c := superResult_le.2 c h

theorem State.mem_ceilings {c : Nat} :
    c ∈ s.ceilings ↔ (∃ e ∈ s.restrictions.entries, (e.covering = true ∨ s.rack.known = false) ∧ e.limit = c)
      ∨ c ∈ s.restrictions.overflow ∨ (s.valleyLostNow = true ∧ c = 60)
      ∨ ((s.classA = true ∨ s.classB = true ∨ s.brake.latch = true) ∧ c = 0) := by
  simp only [State.ceilings, List.mem_append, List.mem_map, List.mem_filter, Bool.or_eq_true, Bool.not_eq_true',
    Option.mem_toList, Option.mem_def, or_assoc]
  refine or_congr ?_ (or_congr Iff.rfl (or_congr ?_ ?_))
  · simp only [and_assoc]
  · split <;> simp_all
  · split <;> simp_all

/-- What stands under the ceilings of the state before is under them after a supervision computation (R92, R93). -/
theorem State.superResult_bounds (hformed : s.valleyFormed) :
    (s.superJudged.sweeping = true → s.superResult ≤ 50)
      ∧ (∀ e ∈ s.superJudged.restrictions.entries, e.covering = true ∨ s.superJudged.rack.known = false →
        s.superResult ≤ e.limit)
      ∧ (∀ c ∈ s.superJudged.restrictions.overflow, s.superResult ≤ c)
      ∧ (s.superJudged.radio.lostWide = true → s.superResult ≤ 60)
      ∧ (∀ k, faultClassOf s.superJudged.straps.strict k ≠ .c → s.superJudged.present k = true → s.superResult = 0)
      ∧ (s.superJudged.brake.latch = true → s.superResult = 0) := by
  by_cases hnet : s.netDecel.val ≤ 0
  · simp [superResult_of_net hnet]
  · have hjudged : s.superJudged = (s.saturations (s.netDecel.hits + s.superFive.hits)).clear .holdInadequate :=
      if_neg fun hboth => hnet hboth.1
    have hsweeping : s.superJudged.sweeping = true → s.sweeping = true := sweeping_of (by rw [hjudged]; simp)
    have hrestrictions : s.superJudged.restrictions = s.restrictions := by rw [hjudged]; simp
    have hknown : s.superJudged.rack.known = false → s.rack.known = false := known_of (by rw [hjudged]; simp)
    have hwide : s.superJudged.radio.lostWide = s.radio.lostWide := by rw [hjudged]; simp
    have hlatch : s.superJudged.brake.latch = s.brake.latch := by
      rw [hjudged, clear_brake, saturations_brake]
    have hceiling {c : Nat} (hc : c ∈ s.ceilings) : s.superResult ≤ c := superResult_le_ceiling hc
    refine ⟨fun ht => superResult_le.1.trans ((stageFive_le _).2.1 (hsweeping ht)), fun e he ht => ?_, fun c hc => ?_,
      fun ht => ?_, fun k hk hp => ?_, fun ht => ?_⟩
    · exact hceiling (mem_ceilings.mpr (.inl ⟨e, hrestrictions ▸ he, ht.imp id hknown, rfl⟩))
    · exact hceiling (mem_ceilings.mpr (.inr (.inl (hrestrictions ▸ hc))))
    · exact hceiling (mem_ceilings.mpr (.inr (.inr (.inl ⟨hformed.symm.trans (hwide.symm.trans ht), rfl⟩))))
    · refine Nat.le_zero.mp (hceiling (mem_ceilings.mpr (.inr (.inr (.inr ⟨?_, rfl⟩)))))
      rw [superJudged_lowered.2.1] at hk
      rw [hjudged] at hp
      have hload := ne_loadSensor_of_not_classC hk
      have hpresent := clear_present_le k hload hp
      rw [saturations_present _ (by rintro rfl; exact hk rfl)] at hpresent
      have hclass := classAB_iff.mpr ⟨k, hk, hpresent⟩
      exact hclass.imp id .inl
    · exact Nat.le_zero.mp (hceiling (mem_ceilings.mpr (.inr (.inr (.inr ⟨.inr (.inr (hlatch ▸ ht)), rfl⟩)))))

theorem State.capped_limitsFormed (h : s.capped) (hformed : s.valleyFormed) : s.limitsFormed.capped := by
  have hjudged : s.superJudged.capped := capped_kept.judgeHoldInadequate _ (capped_kept.saturations _ h)
  obtain ⟨hsweep, hentry, hoverflow, hvalley, hfault, hlatch⟩ := superResult_bounds hformed
  have hle {c : Nat} (hlimit : s.superJudged.speed.localLimit ≤ c) (hresult : s.superResult ≤ c) := limitsFormed_le hlimit hresult
  exact ⟨fun ht => hle (hjudged.sweep ht) (hsweep ht), fun e he ht => hle (hjudged.entry e he ht) (hentry e he ht),
    fun c hc => hle (hjudged.overflow c hc) (hoverflow c hc), fun ht => hle (hjudged.valley ht) (hvalley ht),
    fun k hk hp => Nat.le_zero.mp (hle (hjudged.fault k hk hp).le (hfault k hk hp).le),
    fun ht => Nat.le_zero.mp (hle (hjudged.latch ht).le (hlatch ht).le)⟩

end Sys2Proof.Machine
end

section
/-! SUPPORT. O13: the limits are kept by every command (R91 to R95, R165). -/

namespace Sys2Proof.Machine

variable {P Q : State → Prop} {s t u : State} {k : FaultKind}

theorem State.Kept.and (hP : State.Kept P) (hQ : State.Kept Q) : State.Kept fun s => P s ∧ Q s where
  rack hv h := ⟨hP.rack hv h.1, hQ.rack hv h.2⟩
  freeCount h := ⟨hP.freeCount h.1, hQ.freeCount h.2⟩
  engagement hv h := ⟨hP.engagement hv h.1, hQ.engagement hv h.2⟩
  line hv h := ⟨hP.line hv h.1, hQ.line hv h.2⟩
  brake hv h := ⟨hP.brake hv h.1, hQ.brake hv h.2⟩
  doors hv h := ⟨hP.doors hv h.1, hQ.doors hv h.2⟩
  radio hv h := ⟨hP.radio hv h.1, hQ.radio hv h.2⟩
  speed hl he h := ⟨hP.speed hl he h.1, hQ.speed hl he h.2⟩
  fewer hs ho h := ⟨hP.fewer hs ho h.1, hQ.fewer hs ho h.2⟩
  records hf hs h := ⟨hP.records hf hs h.1, hQ.records hf hs h.2⟩
  alerts hv h := ⟨hP.alerts hv h.1, hQ.alerts hv h.2⟩
  raise k h := ⟨hP.raise k h.1, hQ.raise k h.2⟩
  clear hk h := ⟨hP.clear hk h.1, hQ.clear hk h.2⟩
  retest h := ⟨hP.retest h.1, hQ.retest h.2⟩
  latchMass h := ⟨hP.latchMass h.1, hQ.latchMass h.2⟩
  lowerLimit c h := ⟨hP.lowerLimit c h.1, hQ.lowerLimit c h.2⟩
  applyHolding h := ⟨hP.applyHolding h.1, hQ.applyHolding h.2⟩
  evaluate h := ⟨hP.evaluate h.1, hQ.evaluate h.2⟩
  restrict e h := ⟨hP.restrict e h.1, hQ.restrict e h.2⟩
  entry h := ⟨hP.entry h.1, hQ.entry h.2⟩
  leave d h := ⟨hP.leave d h.1, hQ.leave d h.2⟩
  grade g h := ⟨hP.grade g h.1, hQ.grade g h.2⟩
  platform h := ⟨hP.platform h.1, hQ.platform h.2⟩
  valley v t h := ⟨hP.valley v t h.1, hQ.valley v t h.2⟩
  numbered n hn h := ⟨hP.numbered n hn h.1, hQ.numbered n hn h.2⟩
  peer i _ ho he h := ⟨hP.peer i ho he h.1, hQ.peer i ho he h.2⟩
  lost i ho h := ⟨hP.lost i ho h.1, hQ.lost i ho h.2⟩
  resetBrake h := ⟨hP.resetBrake h.1, hQ.resetBrake h.2⟩
  startProof hr hp h := ⟨hP.startProof hr hp h.1, hQ.startProof hr hp h.2⟩

/-! ## Steps that move the car keep the ceilings -/

theorem Rack.transfer_known (r : Rack) : r.transfer.known = r.known := rfl

theorem Rack.wheelPulse_known (d : Direction) (teeth : Bool) (c : Nat) (r : Rack) :
    (r.wheelPulse d teeth c).known = r.known := by
  have hcounted : ((r.applyPending d).countPulse teeth d c).known = r.known := by
    unfold Rack.countPulse Rack.applyPending
    (repeat' split) <;> rfl
  unfold Rack.wheelPulse
  dsimp only
  split
  · exact (Rack.transfer_known _).trans hcounted
  · exact hcounted

theorem State.disagreeRack_known :
    (if s.countingTeeth then { s.rack with disagreeTimer := none : Rack }.transfer
      else { s.rack with disagreeTimer := none }).known = s.rack.known := by
  split
  · exact Rack.transfer_known _
  · rfl

/-! ## The ceilings are kept by every command -/

/-- The ceilings hold over the limit, with the valley state as its sources give it. -/
def State.ceilingsOk (s : State) : Prop := s.capped ∧ s.valleyFormed

theorem State.ceilingsOk_kept : State.Kept State.ceilingsOk := capped_kept.and valleyFormed_kept

theorem State.ceilingsOk_keptWithLimits : State.KeptWithLimits State.ceilingsOk where
  toKept := ceilingsOk_kept
  pins h := ⟨⟨h.1.sweep, h.1.entry, h.1.overflow, h.1.valley, h.1.fault, h.1.latch⟩, h.2⟩
  clock h := ⟨⟨h.1.sweep, h.1.entry, h.1.overflow, h.1.valley, h.1.fault, h.1.latch⟩, h.2⟩
  pending h := ⟨⟨h.1.sweep, h.1.entry, h.1.overflow, h.1.valley, h.1.fault, h.1.latch⟩, h.2⟩
  station h := ⟨⟨h.1.sweep, h.1.entry, h.1.overflow, h.1.valley, h.1.fault, h.1.latch⟩, h.2⟩
  valid h := ⟨⟨h.1.sweep, h.1.entry, h.1.overflow, h.1.valley, h.1.fault, h.1.latch⟩, h.2⟩
  keepStore h := of_ite (P := State.ceilingsOk)
    (fun _ => ⟨⟨h.1.sweep, h.1.entry, h.1.overflow, h.1.valley, h.1.fault, h.1.latch⟩, h.2⟩) fun _ => h
  anyDoors h := ⟨h.1.anyDoors, h.2⟩
  anyBrake hlatch h := ⟨h.1.anyBrake (hlatch ▸ id), h.2⟩
  setLatch h := ⟨h.1.setLatch, valleyFormed_keptWithLimits.setLatch h.2⟩
  clearAny h := ⟨h.1.clear, valleyFormed_keptWithLimits.clearAny h.2⟩
  note k h := ⟨h.1.note, valleyFormed_keptWithLimits.note k h.2⟩
  tooth sensor phase h :=
    ceilingsOk_kept.toothEdge sensor phase ⟨h.1.setRack (Rack.toothEdge_stands ..).2.symm.trans, h.2⟩
  wheel leads h := ceilingsOk_kept.wheelPulse leads ⟨h.1.setRack (Rack.wheelPulse_known ..).symm.trans, h.2⟩
  mark _ h := ceilingsOk_kept.afterMove _ (ceilingsOk_kept.clear (s := State.setRack _ _) (by decide)
    ⟨h.1.setRack nofun, h.2⟩)
  disagree h := ceilingsOk_kept.afterMove _ (ceilingsOk_kept.raise (s := State.setRack _ _) _
    ⟨h.1.setRack disagreeRack_known.symm.trans, h.2⟩)
  limits h := ⟨capped_limitsFormed h.1 h.2, valleyFormed_keptWithLimits.limits h.2⟩
  begun h := ⟨capped_of_zero h.localLimit, h.valley⟩

/-- Settles O13: each ceiling stands over the local limit at every command, and the enforced limit is formed afresh. -/
theorem limitsStayUnderCeilings : Obligations.LimitsStayUnderCeilings := by
  intro s t h hstep
  obtain ⟨hsection, hcapped, hformed, hconsist⟩ := State.limitOk_iff.mp h
  obtain ⟨hcapped', hformed'⟩ := State.ceilingsOk_keptWithLimits.keptByCommands.step ⟨hcapped, hformed⟩ hstep
  exact State.limitOk_iff.mpr ⟨State.underSection_keptWithLimits.keptByCommands.step hsection hstep, hcapped', hformed',
    State.underConsist_keptWithLimits.keptByCommands.step hconsist hstep⟩

end Sys2Proof.Machine
end

section
/-! SUPPORT. O4: a command that names an expiry which is not due leaves the state to its moment (00_scope.md 3.5). -/

namespace Sys2Proof.Machine

variable {s t : State} {m : Moment}

/-- A command whose effect leaves the state of its moment changes no part, in a running part and in a stopped one. -/
theorem runCommand_without_effect {effect : State → State} (h : effect (s.atMoment m) = s.atMoment m) :
    ∃ t : State, runCommand m effect s = .next t ∧ onlyChanges [] s t := by
  cases hrun : s.running with
  | true =>
    rw [runCommand_of_running m effect hrun, h]
    exact ⟨_, rfl, onlyChanges_of_effect (onlyChanges_refl _ _) (by simp)⟩
  | false => exact ⟨_, runCommand_of_stopped m effect hrun, atMoment_onlyChanges m s⟩

/-- A command that acts when a timer is due, given before that. -/
theorem runCommand_not_due {timer : State → Timer} {limit : Nat} {effect : State → State}
    (h : timerReached (timer (s.atMoment m)) (s.atMoment m).clock limit = false) :
    ∃ t : State, runCommand m (fun u => u.whenDue (timer u) limit effect) s = .next t ∧ onlyChanges [] s t :=
  runCommand_without_effect (State.whenDue_of_not_due h)

theorem timerReached_of_lt {start now limit : Nat} (h : now < start + limit) : timerReached (some start) now limit = false :=
  decide_eq_false (Nat.not_le.mpr h)

theorem State.accessTimeout_of_not_due (hslot : ∀ held ∈ s.line.stateSlot, held.late = true ∨ s.clock < held.placedAt + ms 20)
    (hbehind : ∀ held ∈ s.line.stateBehind, held.late = true ∨ s.clock < held.placedAt + ms 20) : s.accessTimeout = s := by
  have hearly {held : HeldFrame} (h : held.late = true ∨ s.clock < held.placedAt + ms 20) : held.overdue s.clock = false := by
    obtain h | h := h
    · simp [HeldFrame.overdue, h]
    · simp [HeldFrame.overdue, Nat.not_le.mpr h]
  unfold State.accessTimeout
  split
  · rfl
  next held hheld =>
    rw [hearly (hslot held hheld)]
    split
    next h => cases h
    · split
      · rfl
      next behind hlast =>
        rw [hearly (hbehind behind hlast)]
        rfl

theorem State.standstillConfirmed_of_not_due (h : timerReached s.rack.standstillTimer s.clock (ms 2000) = false) :
    (if s.rack.standstill then s else s.whenDue s.rack.standstillTimer (ms 2000) State.confirmStandstill) = s := by
  rw [State.whenDue_of_not_due h, ite_self]

theorem exec_storeHoldupExpiry_not_due
    (h : s.station.life ≠ .off ∨ timerReached s.station.droppedAt (s.instant m) (ms 30000) = false) :
    ∃ t : State, exec (.storeHoldupExpiry m) s = .next t ∧ onlyChanges [] s t := by
  have heffect : exec (.storeHoldupExpiry m) s = .next (s.atMoment m) := by
    refine congrArg Host.Outcome.next ?_
    obtain hlife | htimer := h
    · exact if_neg hlife
    · split
      · exact State.whenDue_of_not_due (s := s.atMoment m) htimer
      · rfl
  exact ⟨_, heffect, atMoment_onlyChanges m s⟩

/-- Settles O4: each expiry acts under its own timer, and not before it is due. -/
theorem expiryNotDueHasNoEffect : Obligations.ExpiryNotDueHasNoEffect := by
  intro m reading carEnd station pinion door s
  refine ⟨fun h => ?_, fun h => ?_, fun h => ?_, fun h => ?_, fun h => ?_, fun h => ?_, fun h => ?_, fun h => ?_,
    fun h => ?_, fun h => ?_, fun h => ?_, fun h => ?_, fun h => ?_, fun h => ?_, fun h => ?_, fun h => ?_, fun h => ?_,
    fun h => ?_, fun h => ?_, fun h => ?_, fun hslot hbehind => ?_, fun h => ?_, fun h => ?_, fun h => ?_, fun h => ?_,
    fun h => ?_, fun h => ?_, fun h => ?_, fun h => ?_, fun h => ?_, fun h => ?_, exec_storeHoldupExpiry_not_due⟩
  · exact runCommand_not_due (timer := fun u => u.rack.toothRef) h
  · exact runCommand_not_due (timer := fun u => u.rack.wheelRef) h
  · exact runCommand_not_due (timer := fun u => u.rack.disagreeTimer) h
  · exact runCommand_not_due (timer := fun u => u.rack.agreeTimer) h
  · exact runCommand_without_effect (State.standstillConfirmed_of_not_due (s := s.atMoment m) h)
  · exact runCommand_not_due (timer := fun u => some u.rack.sampleStart) (timerReached_of_lt h)
  · exact runCommand_not_due (timer := fun u => (u.line.sense carEnd).changing) h
  · exact runCommand_not_due (timer := fun u => u.line.statePeriod) h
  · exact runCommand_not_due (timer := fun u => u.peers[station].ageFrom) h
  · exact runCommand_not_due (timer := fun u => u.peers[station].ageFrom) h
  · exact runCommand_not_due (timer := fun u => some u.speed.superStart) (timerReached_of_lt h)
  · exact runCommand_not_due (timer := fun u => some u.brake.cycleStart) (timerReached_of_lt h)
  · exact runCommand_not_due (timer := fun u => (u.brake.pinions.get pinion).failTimer) h
  · exact runCommand_not_due (timer := fun u => (u.doors.doors.get door).timer) h
  · exact runCommand_not_due (timer := fun u => u.radio.linkTimer) h
  · exact runCommand_not_due (timer := fun u => u.radio.supervision) h
  · exact runCommand_not_due (timer := fun u => u.engagement.climbOutHold) h
  · exact runCommand_not_due (timer := fun u => u.engagement.calibrationHold) h
  · exact runCommand_not_due (timer := fun u => u.line.orderHoldOff) h
  · exact runCommand_not_due (timer := fun u => u.line.chainOutDue) h
  · exact runCommand_without_effect (State.accessTimeout_of_not_due (s := s.atMoment m) hslot hbehind)
  · exact runCommand_not_due (timer := fun u => u.line.joinRetry) h
  · exact runCommand_not_due (timer := fun u => some u.line.qualityStart) (timerReached_of_lt h)
  · exact runCommand_not_due (timer := fun u => u.line.clashTimer) h
  · exact runCommand_not_due (timer := fun u => u.line.listenTimer) h
  · exact runCommand_not_due (timer := fun u => u.line.chainWaitTimer) h
  · exact runCommand_not_due (timer := fun u => u.line.completionTimer) h
  · exact runCommand_not_due (timer := fun u => u.brake.settleTimer) h
  · exact runCommand_not_due (timer := fun u => (u.doors.doors.get door).timer) h
  · exact runCommand_not_due (timer := fun u => (u.doors.doors.get door).timer) h
  · exact runCommand_not_due (timer := fun u => u.radio.reportTimer) h

end Sys2Proof.Machine
end

section
/-! SUPPORT. O6 and O7: what is laid out as bytes or bits is read back (sections 3.2 to 3.4, 8.1 and 8.2). -/

namespace Sys2Proof

/-! ## Fields in bytes -/

theorem bytes16_eq (x : BitVec 16) : x.extractLsb' 8 8 ++ x.extractLsb' 0 8 = x :=
  (BitVec.extractLsb'_append_extractLsb'_eq_extractLsb' rfl).trans BitVec.extractLsb'_eq_self

theorem bytes24_eq (x : BitVec 24) : x.extractLsb' 16 8 ++ x.extractLsb' 8 8 ++ x.extractLsb' 0 8 = x := by
  have hhigh : x.extractLsb' 16 8 ++ x.extractLsb' 8 8 = x.extractLsb' 8 16 :=
    BitVec.extractLsb'_append_extractLsb'_eq_extractLsb' rfl
  rw [hhigh]
  exact (BitVec.extractLsb'_append_extractLsb'_eq_extractLsb' (start₂ := 8) (start₁ := 0) rfl).trans
    BitVec.extractLsb'_eq_self

theorem toNat_ofNat_byte {n : Nat} (h : n < 256) : (BitVec.ofNat 8 n).toNat = n := by
  simpa using h

/-! ## Valley frames (R150 to R153, R159) -/

theorem ValleyOrder.payload_length (order : ValleyOrder) : order.payload.length ≤ 10 := by
  cases order <;> simp [ValleyOrder.payload, bytes16, bytes24]

/-- A payload of defined fields is read back as its order. -/
theorem valleyOrder?_payload {order : ValleyOrder} (h : order.ok = true) :
    valleyOrder? order.code order.payload = some order := by
  cases order with
  | restrict orderId start length limit =>
    calc valleyOrder? (ValleyOrder.restrict orderId start length limit).code _
        = some (.restrict (orderId.extractLsb' 8 8 ++ orderId.extractLsb' 0 8)
            (start.extractLsb' 16 8 ++ start.extractLsb' 8 8 ++ start.extractLsb' 0 8)
            (length.extractLsb' 16 8 ++ length.extractLsb' 8 8 ++ length.extractLsb' 0 8)
            (limit.extractLsb' 8 8 ++ limit.extractLsb' 0 8)) := rfl
      _ = _ := by rw [bytes16_eq, bytes24_eq, bytes24_eq, bytes16_eq]
  | lift orderId => exact congrArg (fun x => some (ValleyOrder.lift x)) (bytes16_eq orderId)
  | platformRelease side stop =>
    calc valleyOrder? (ValleyOrder.platformRelease side stop).code _
        = if side.toNat ≤ 1 then
            some (.platformRelease side (stop.extractLsb' 16 8 ++ stop.extractLsb' 8 8 ++ stop.extractLsb' 0 8))
          else none := rfl
      _ = _ := by rw [if_pos (of_decide_eq_true h), bytes24_eq]
  | _ => rfl

theorem receivedFrame_of (address sequence kind : Byte) (payload : List Byte) (check : BitVec 16)
    (h : payload.length ≤ 16) :
    receivedFrame address sequence kind (BitVec.ofNat 8 payload.length) (payload ++ bytes16 check)
      = .received address sequence kind payload check := by
  have hlength : (BitVec.ofNat 8 payload.length).toNat = payload.length := toNat_ofNat_byte (by omega)
  simp [receivedFrame, hlength, h, bytes16, bytes16_eq]

theorem classifyMessage_received (address sequence kind : Byte) (payload : List Byte) (h : payload.length ≤ 16) :
    classifyMessage (2 :: valleyFrameBytes address sequence kind payload)
      = .received address sequence kind payload
        (valleyCheck ([address, sequence, kind, BitVec.ofNat 8 payload.length] ++ payload)) :=
  receivedFrame_of _ _ _ _ _ h

theorem acceptFrame_of_check (radioAddr address sequence kind : Byte) (payload : List Byte) :
    acceptFrame radioAddr address sequence kind payload
        (valleyCheck ([address, sequence, kind, BitVec.ofNat 8 payload.length] ++ payload))
      = if address = radioAddr ∨ address = 255 then valleyOrder? kind payload else none := by
  simp [acceptFrame]

/-- A character that a silence precedes ends the message begun and begins its own (R151). -/
theorem modemMessages_cons_of_silence {begun : Option (List Byte)} {silence : Nat} {c : ModemCharacter}
    {more : List ModemCharacter} (h : modemSilence ≤ c.silence) :
    modemMessages begun silence (c :: more) = begun.toList ++ modemMessages (some [c.byte]) silence more := if_pos h

theorem modemMessages_nil_of_silence {begun : Option (List Byte)} {silence : Nat} (h : modemSilence ≤ silence) :
    modemMessages begun silence [] = begun.toList := if_pos h

theorem modemMessages_nil_of_quick {begun : Option (List Byte)} {silence : Nat} (h : silence < modemSilence) :
    modemMessages begun silence [] = [] := if_neg (Nat.not_le.mpr h)

/-- The message of a run of characters, to what ends it. -/
theorem modemMessages_run {begun : Option (List Byte)} {silence : Nat} {first : ModemCharacter}
    {run : List ModemCharacter} (more : List ModemCharacter) (hfirst : modemSilence ≤ first.silence)
    (hrun : ∀ c ∈ run, c.silence < modemSilence) :
    modemMessages begun silence (first :: (run ++ more))
      = begun.toList ++ modemMessages (some (first.byte :: run.map fun c => c.byte)) silence more := by
  rw [modemMessages_cons_of_silence hfirst, modemMessages_append _ _ _ _ hrun]
  rfl

/-- A delimiting silence leaves nothing of the message begun to what follows. -/
theorem modemMessages_of_head {begun : Option (List Byte)} {silence : Nat} {next : ModemCharacter}
    {more : List ModemCharacter} (hnext : next ∈ more.head?) (h : modemSilence ≤ next.silence) :
    modemMessages begun silence more = begun.toList ++ modemMessages none silence more := by
  cases more with
  | nil => cases hnext
  | cons c cs =>
    cases hnext
    rw [modemMessages_cons_of_silence h, modemMessages_cons_of_silence (begun := none) h]
    rfl

/-- Settles O7: a frame's bytes are those of its order, and a message's those between its silences. -/
theorem valleyOrdersRoundTrip : Obligations.ValleyOrdersRoundTrip := by
  intro radioAddr address sequence order moment first run more begun silence
  refine ⟨fun hok => ⟨classifyMessage_received _ _ _ _ (order.payload_length.trans (by decide)), ?_⟩,
    fun hfirst hrun => ?_, fun hrun => ?_⟩
  · rw [acceptFrame_of_check, valleyOrder?_payload hok]
  · have hrun' := fun more => modemMessages_run (begun := begun) (silence := silence) more hfirst hrun
    refine ⟨fun hsilence => ⟨?_, ?_⟩, fun hsilence => ?_, fun next hnext hsilence => ?_⟩
    · have hend := hrun' []
      rw [List.append_nil] at hend
      rw [hend, modemMessages_nil_of_silence hsilence]
      rfl
    · have hend := modemMessages_run (begun := none) (silence := silence) [] hfirst hrun
      rw [List.append_nil] at hend
      rw [commandsOfCharacters, hend, modemMessages_nil_of_silence hsilence]
      rfl
    · have hend := hrun' []
      rw [List.append_nil] at hend
      rw [hend, modemMessages_nil_of_quick hsilence, List.append_nil]
    · rw [hrun', modemMessages_of_head hnext hsilence]
      rfl
  · have hend := modemMessages_append none silence run [] hrun
    rw [List.append_nil] at hend
    rw [hend]
    exact ite_self _

end Sys2Proof
end

section
/-! SUPPORT. O6: the frames of the car line (sections 3.1 to 3.4). -/

namespace Sys2Proof

/-! ## Contents and their bytes (R43 to R46) -/

theorem joinByte_fields : ∀ (kind : BitVec 2) (last rejoin : Bool),
    let b : Byte := kind ++ bit last ++ bit rejoin ++ 0#4
    b.extractLsb' 6 2 = kind ∧ b.getLsbD 5 = last ∧ b.getLsbD 4 = rejoin := by decide

theorem stateByte_fields : ∀ (station : BitVec 3) (direction : BitVec 2) (known holding latch : Bool),
    let b : Byte := station ++ direction ++ bit known ++ bit holding ++ bit latch
    b.extractLsb' 5 3 = station ∧ b.extractLsb' 3 2 = direction ∧ b.getLsbD 2 = known ∧ b.getLsbD 1 = holding
      ∧ b.getLsbD 0 = latch := by decide

theorem summaryByte_fields : ∀ (summary faultClass valley : BitVec 2) (cabActive : Bool),
    let b : Byte := summary ++ faultClass ++ valley ++ bit cabActive ++ 0#1
    b.extractLsb' 6 2 = summary ∧ b.extractLsb' 4 2 = faultClass ∧ b.extractLsb' 2 2 = valley
      ∧ b.getLsbD 1 = cabActive := by decide

theorem JoinFields.ofBytes_bytes (j : JoinFields) : JoinFields.ofBytes j.bytes = some j := by
  obtain ⟨hkind, hlast, hrejoin⟩ := joinByte_fields j.kind j.last j.rejoin
  refine congrArg some ?_
  rw [hkind, hlast, hrejoin, bytes16_eq]

theorem StateReport.ofBytes_bytes (r : StateReport) : StateReport.ofBytes r.bytes = some r := by
  obtain ⟨hstation, hdirection, hknown, hholding, hlatch⟩ :=
    stateByte_fields r.stationState r.direction r.known r.holding r.latch
  obtain ⟨hsummary, hclass, hvalley, hcab⟩ := summaryByte_fields r.summary r.faultClass r.valley r.cabActive
  refine congrArg some ?_
  rw [hstation, hdirection, hknown, hholding, hlatch, hsummary, hclass, hvalley, hcab]
  simp only [bytes16_eq, bytes24_eq]

theorem Subkind.ofCode_code (sub : Subkind) : Subkind.ofCode sub.code = some sub := by
  cases sub <;> rfl

/-- Contents in their ranges have a payload of a length that their kind admits. -/
theorem FrameBody.payload_length {source : Fin 8} {body : FrameBody} (h : body.ok source = true) :
    body.payload.length ≤ 24 ∧ kindLengthOk body.kind body.payload.length = true := by
  cases body with
  | order sequence valleyKind payload =>
    have hlength : payload.length ≤ 16 := of_decide_eq_true h
    simp only [FrameBody.payload, FrameBody.kind, kindLengthOk, List.length_append, List.length_cons, List.length_nil]
    exact ⟨by omega, by simp; omega⟩
  | inspectReply payload =>
    simp only [FrameBody.ok, Bool.and_eq_true, decide_eq_true_eq] at h
    exact ⟨h.2, Bool.and_eq_true_iff.mpr ⟨decide_eq_true h.1, decide_eq_true h.2⟩⟩
  | _ => exact ⟨Nat.le_of_ble_eq_true rfl, rfl⟩

theorem kindPriority_isSome (body : FrameBody) :
    kindPriority body.kind = some ((kindPriority body.kind).getD 0) := by
  cases body <;> rfl

theorem goodOrBad_of_ok {source : Fin 8} {body : FrameBody} (h : body.ok source = true) :
    goodOrBad source (some body) = .good source body := if_pos h

theorem classifyBody_payload {source : Fin 8} {body : FrameBody} (h : body.ok source = true) :
    classifyBody source body.kind body.payload = .good source body := by
  rw [← goodOrBad_of_ok h]
  cases body with
  | join fields => exact congrArg (goodOrBad source) (congrArg (Option.map .join) fields.ofBytes_bytes)
  | state report => exact congrArg (goodOrBad source) (congrArg (Option.map .state) report.ofBytes_bytes)
  | command target sub param =>
    have htarget : ¬8 < target.toNat := by
      simp only [FrameBody.ok, commandOk, Bool.and_eq_true, decide_eq_true_eq] at h
      omega
    calc classifyBody source (FrameBody.command target sub param).kind _
        = if 8 < target.toNat then .bad
          else match Subkind.ofCode sub.code with
            | none => .unknown
            | some sub => goodOrBad source (some (.command target sub (param.extractLsb' 8 8 ++ param.extractLsb' 0 8))) := rfl
      _ = _ := by rw [if_neg htarget, sub.ofCode_code, bytes16_eq]
  | _ => rfl

/-- A whole frame of a known kind with its priority and length is classified by its contents. -/
theorem classify_of_whole {f : LineFrame} (hshort : f.length.toNat ≤ 24) (hpayload : f.payload.length = f.length.toNat)
    (hcheck : f.check = crc16 f.checkedBits) (hclean : f.endClean = true) (hpriority : kindPriority f.kind = some f.priority)
    (hkind : kindLengthOk f.kind f.length.toNat = true) :
    classify f = classifyBody f.source.toFin f.kind f.payload := by
  have hlong : ¬24 < f.length.toNat := Nat.not_lt.mpr hshort
  unfold classify
  rw [hpriority, hkind, hpayload, hclean, hcheck]
  simp only [hlong, decide_false, bne_self_eq_false, Bool.not_true, Bool.or_false, Bool.false_eq_true, if_false]

theorem buildFrame_check (source : Fin 8) (body : FrameBody) :
    (buildFrame source body).check = crc16 (buildFrame source body).checkedBits := by
  simp only [buildFrame, LineFrame.checkedBits]

/-- A frame built for contents in their ranges is classified as those contents. -/
theorem classify_buildFrame {source : Fin 8} {body : FrameBody} (h : body.ok source = true) :
    classify (buildFrame source body) = .good source body := by
  obtain ⟨hlength, hkind⟩ := FrameBody.payload_length h
  have hfield : (buildFrame source body).length.toNat = body.payload.length := by
    refine (BitVec.toNat_ofNat _ _).trans (Nat.mod_eq_of_lt ?_)
    omega
  have hsource : (buildFrame source body).source.toFin = source :=
    Fin.ext ((BitVec.toNat_ofNat _ _).trans (Nat.mod_eq_of_lt source.isLt))
  have hkind' : kindLengthOk (buildFrame source body).kind (buildFrame source body).length.toNat = true := by
    rw [hfield]
    exact hkind
  have hwhole := classify_of_whole (hfield.trans_le hlength) hfield.symm (buildFrame_check source body) rfl
    (kindPriority_isSome body) hkind'
  rw [hwhole, hsource]
  exact classifyBody_payload h

end Sys2Proof
end

section
/-! SUPPORT. O6: the frames of the car line as bits, read whole, read back and in contention (sections 3.1 to 3.3). -/

namespace Sys2Proof

/-! ## A frame read from its bits (R40) -/

/-- The bits of a frame after its start bit. -/
def LineFrame.bodyBits (f : LineFrame) : List Bool := f.checkedBits ++ bitsMsb f.check ++ List.replicate 7 true

theorem LineFrame.wireBits_eq (f : LineFrame) : f.wireBits = false :: f.bodyBits := rfl

theorem length_flatMap_bitsMsb (payload : List Byte) : (payload.flatMap bitsMsb).length = 8 * payload.length := by
  induction payload with
  | nil => rfl
  | cons b bs ih =>
    rw [List.flatMap_cons, List.length_append, bitsMsb_length, ih, List.length_cons]
    omega

theorem LineFrame.bodyBits_length (f : LineFrame) : f.bodyBits.length = 37 + 8 * f.payload.length := by
  simp only [LineFrame.bodyBits, LineFrame.checkedBits, List.length_append, bitsMsb_length, length_flatMap_bitsMsb,
    List.length_replicate]
  omega

theorem LineFrame.wireBits_length (f : LineFrame) : f.wireBits.length = 38 + 8 * f.payload.length := by
  rw [wireBits_eq, List.length_cons, bodyBits_length]
  omega

/-- The header of a frame, its payload and check still empty. -/
def LineFrame.header (f : LineFrame) : LineFrame := { f with payload := [], check := 0, endClean := true }

theorem readHeader_append (f : LineFrame) (more : List Bool) :
    readHeader (bitsMsb f.priority ++ bitsMsb f.source ++ bitsMsb f.kind ++ bitsMsb f.length ++ more) = f.header := by
  have hpassed {w n : Nat} (x : BitVec w) (h : w ≤ n) : (bitsMsb x).drop n = [] := List.drop_eq_nil_of_le (by simpa using h)
  simp [readHeader, List.drop_append, LineFrame.header, hpassed]

theorem readHeader_bodyBits (f : LineFrame) (rest : List Bool) : readHeader (f.bodyBits ++ rest) = f.header := by
  have hbits : f.bodyBits ++ rest = bitsMsb f.priority ++ bitsMsb f.source ++ bitsMsb f.kind ++ bitsMsb f.length
      ++ (f.payload.flatMap bitsMsb ++ bitsMsb f.check ++ List.replicate 7 true ++ rest) := by
    simp [LineFrame.bodyBits, LineFrame.checkedBits]
  rw [hbits, readHeader_append]

/-- The bits after the length field. -/
theorem drop_bodyBits (f : LineFrame) (rest : List Bool) :
    (f.bodyBits ++ rest).drop 14
      = f.payload.flatMap bitsMsb ++ (bitsMsb f.check ++ (List.replicate 7 true ++ rest)) := by
  have hbits : f.bodyBits ++ rest = (bitsMsb f.priority ++ bitsMsb f.source ++ bitsMsb f.kind ++ bitsMsb f.length)
      ++ (f.payload.flatMap bitsMsb ++ (bitsMsb f.check ++ (List.replicate 7 true ++ rest))) := by
    simp [LineFrame.bodyBits, LineFrame.checkedBits]
  rw [hbits]
  exact List.drop_left' (by simp)

theorem readFields_bodyBits (f : LineFrame) (rest : List Bool) (hpayload : f.payload.length = f.length.toNat)
    (hclean : f.endClean = true) : readFields (f.bodyBits ++ rest) = f := by
  have htail : ((f.bodyBits ++ rest).drop 14).drop (8 * f.length.toNat)
      = bitsMsb f.check ++ (List.replicate 7 true ++ rest) := by
    rw [drop_bodyBits]
    exact List.drop_left' (by rw [length_flatMap_bitsMsb, hpayload])
  have hcheck : ofBitsMsb 16 ((bitsMsb f.check ++ (List.replicate 7 true ++ rest)).take 16) = f.check := by
    rw [List.take_left' (bitsMsb_length _), ofBitsMsb_bitsMsb]
  have hend : (((bitsMsb f.check ++ (List.replicate 7 true ++ rest)).drop 16).take 7).all id = true := by
    rw [List.drop_left' (bitsMsb_length _), List.take_left' (List.length_replicate ..)]
    rfl
  have hbytes : readBytes f.length.toNat ((f.bodyBits ++ rest).drop 14) = f.payload := by
    rw [drop_bodyBits, ← hpayload, readBytes_flatMap_bitsMsb]
  unfold readFields
  rw [readHeader_bodyBits]
  simp only [LineFrame.header, htail, hcheck, hend, hbytes]
  rw [← hclean]

theorem readFrame_wireBits {f : LineFrame} (rest : List Bool) (hshort : f.length.toNat ≤ 24)
    (hpayload : f.payload.length = f.length.toNat) (hclean : f.endClean = true) :
    readFrame (f.wireBits ++ rest) = .whole f rest := by
  have hlength : (f.bodyBits ++ rest).length = 37 + 8 * f.length.toNat + rest.length := by
    rw [List.length_append, f.bodyBits_length, hpayload]
  have hheader : (readHeader (f.bodyBits ++ rest)).length = f.length := by rw [readHeader_bodyBits, LineFrame.header]
  rw [LineFrame.wireBits_eq, List.cons_append, readFrame, hheader, if_neg (by omega), if_neg (by omega), if_neg (by omega),
    readFields_bodyBits f rest hpayload hclean]
  rw [List.drop_left' (by rw [f.bodyBits_length, hpayload])]

theorem readHeader_take {n : Nat} (bits : List Bool) (h : 14 ≤ n) : readHeader (bits.take n) = readHeader bits := by
  simp only [readHeader, List.take_take, List.drop_take]
  rw [Nat.min_eq_left (by omega), Nat.min_eq_left (by omega), Nat.min_eq_left (by omega), Nat.min_eq_left (by omega)]

/-- Before the last end bit the bits are no frame yet. -/
theorem readFrame_cut {f : LineFrame} {cut : Nat} (hshort : f.length.toNat ≤ 24)
    (hpayload : f.payload.length = f.length.toNat) (hcut : cut < 38 + 8 * f.length.toNat) :
    readFrame (f.wireBits.take cut) = .unfinished := by
  cases cut with
  | zero => rfl
  | succ n =>
    have hlength : (f.bodyBits.take n).length = n := by
      rw [List.length_take, f.bodyBits_length, hpayload]
      omega
    rw [LineFrame.wireBits_eq, List.take_succ_cons, readFrame, hlength]
    by_cases hn : n < 14
    · exact if_pos hn
    · have hheader : (readHeader (f.bodyBits.take n)).length = f.length := by
        have hwhole := readHeader_bodyBits f []
        rw [List.append_nil] at hwhole
        rw [readHeader_take _ (Nat.not_lt.mp hn), hwhole, LineFrame.header]
      rw [hheader, if_neg hn, if_neg (by omega), if_pos (by omega)]

/-- A length field above 24 makes the frame bad there. -/
theorem readFrame_badLength {f : LineFrame} (rest : List Bool) (hlong : 24 < f.length.toNat) :
    readFrame (f.wireBits ++ rest) = .badLength f.header (f.wireBits.drop 15 ++ rest) := by
  have hlength : 14 ≤ f.bodyBits.length := by
    rw [f.bodyBits_length]
    omega
  rw [LineFrame.wireBits_eq, List.cons_append, readFrame, readHeader_bodyBits]
  rw [if_neg (by rw [List.length_append]; omega), if_pos (show 24 < f.header.length.toNat from hlong), List.drop_append_of_le_length hlength]
  rfl

theorem readFrame_badLength_take {f : LineFrame} (hlong : 24 < f.length.toNat) :
    readFrame (f.wireBits.take 15) = .badLength f.header [] := by
  have hlength : 14 ≤ f.bodyBits.length := by
    rw [f.bodyBits_length]
    omega
  have hheader : readHeader (f.bodyBits.take 14) = f.header := by
    have hwhole := readHeader_bodyBits f []
    rw [List.append_nil] at hwhole
    rw [readHeader_take _ le_rfl, hwhole]
  rw [LineFrame.wireBits_eq, List.take_succ_cons, readFrame, hheader]
  have hfull : (f.bodyBits.take 14).length = 14 := List.length_take_of_le hlength
  rw [if_neg (by omega), if_pos (show 24 < f.header.length.toNat from hlong), List.drop_eq_nil_of_le hfull.le]

theorem commandOfFrame_badLength {f : LineFrame} (m : Moment) (hlong : 24 < f.length.toNat) :
    commandOfFrame m f = .badFrame m f := by
  have hbad : classify f = .bad := by
    unfold classify
    rw [if_pos]
    simp [hlong]
  rw [commandOfFrame, hbad]

/-! ## A frame read back by its sender (R42) -/

theorem losesAt_self (bit : Nat) (level : Bool) : losesAt bit level level = false := by
  cases level <;> simp [losesAt]

theorem losesAt_differs {bit : Nat} (level : Bool) (h : 6 ≤ bit) : losesAt bit level (!level) = true := by
  have hheader : bit ≠ 0 ∧ ¬bit < 6 := by omega
  cases level <;> simp [losesAt, hheader]

/-- What is read as it was sent loses nothing. -/
theorem readBackFrom_append (bit : Nat) (common sent read : List Bool) :
    readBackFrom bit (common ++ sent) (common ++ read) = readBackFrom (bit + common.length) sent read := by
  induction common generalizing bit with
  | nil => rfl
  | cons b bs ih =>
    simp only [List.cons_append, readBackFrom, losesAt_self, Bool.false_eq_true, if_false, ih, List.length_cons]
    rw [Nat.add_assoc, Nat.add_comm 1]

theorem LineFrame.readBack_self (f : LineFrame) (rest : List Bool) : f.readBack (f.wireBits ++ rest) = .sent := by
  have hall := readBackFrom_append 0 f.wireBits [] rest
  rw [List.append_nil] at hall
  rw [LineFrame.readBack, hall, readBackFrom]

theorem LineFrame.readBack_differs {f : LineFrame} {cut : Nat} {level : Bool} (rest : List Bool) (hcut : 6 ≤ cut)
    (hlevel : f.wireBits[cut]? = some level) :
    f.readBack (f.wireBits.take cut ++ (!level) :: rest) = .lost cut := by
  obtain ⟨hlt, hget⟩ := List.getElem?_eq_some_iff.mp hlevel
  have hsplit : f.wireBits = f.wireBits.take cut ++ level :: f.wireBits.drop (cut + 1) := by
    rw [← hget, List.getElem_cons_drop, List.take_append_drop]
  have hlength : (f.wireBits.take cut).length = cut := List.length_take_of_le hlt.le
  rw [LineFrame.readBack]
  conv => lhs; arg 2; rw [hsplit]
  rw [readBackFrom_append, hlength, Nat.zero_add, readBackFrom, losesAt_differs level hcut]
  rfl

end Sys2Proof
end

section
/-! SUPPORT. O6: two stations that begin together (R42), and the settling theorem. -/

namespace Sys2Proof

/-! ## The value of a list of bits -/

/-- The value of bits that arrive most significant first, going on from `n`. -/
def bitsValue (n : Nat) (bits : List Bool) : Nat := bits.foldl (fun n b => 2 * n + b.toNat) n

theorem bitsValue_eq (n : Nat) (bits : List Bool) :
    bitsValue n bits = n * 2 ^ bits.length + bitsValue 0 bits ∧ bitsValue 0 bits < 2 ^ bits.length := by
  induction bits generalizing n with
  | nil => simp [bitsValue]
  | cons b bs ih =>
    obtain ⟨hn, hlt⟩ := ih (2 * n + b.toNat)
    have hzero := (ih (2 * 0 + b.toNat)).1
    have hcons (k : Nat) : bitsValue k (b :: bs) = bitsValue (2 * k + b.toNat) bs := rfl
    have hbit : b.toNat ≤ 1 := b.toNat_le
    rw [hcons, hcons, hn, hzero, List.length_cons, Nat.pow_succ]
    constructor
    · ring
    · nlinarith

theorem bitsValue_bitsMsb {w : Nat} (x : BitVec w) : bitsValue 0 (bitsMsb x) = x.toNat := by
  have hvalue := foldl_bitsMsb_prefix x w le_rfl
  rwa [Nat.sub_self, Nat.shiftRight_zero] at hvalue

/-- Of two lists of one length, the one of lower value has 0 where they first differ. -/
theorem exists_first_difference {xs ys : List Bool} (hlength : xs.length = ys.length)
    (h : bitsValue 0 xs < bitsValue 0 ys) :
    ∃ common a b, xs = common ++ false :: a ∧ ys = common ++ true :: b := by
  induction xs generalizing ys with
  | nil =>
    obtain rfl := List.length_eq_zero_iff.mp hlength.symm
    exact absurd h (lt_irrefl _)
  | cons x xs ih =>
    cases ys with
    | nil => cases hlength
    | cons y ys =>
      have hrest : xs.length = ys.length := Nat.succ.inj hlength
      have hx : bitsValue 0 (x :: xs) = x.toNat * 2 ^ xs.length + bitsValue 0 xs := by
        simpa [bitsValue] using (bitsValue_eq x.toNat xs).1
      have hy : bitsValue 0 (y :: ys) = y.toNat * 2 ^ ys.length + bitsValue 0 ys := by
        simpa [bitsValue] using (bitsValue_eq y.toNat ys).1
      rw [hx, hy, hrest] at h
      have hbound := (bitsValue_eq 0 ys).2
      cases x <;> cases y
      case false.true => exact ⟨[], xs, ys, rfl, rfl⟩
      case true.false =>
        simp only [Bool.toNat_true, Bool.toNat_false] at h
        omega
      all_goals
        obtain ⟨common, a, b, hxs, hys⟩ := ih hrest (by simpa using h)
        exact ⟨_ :: common, a, b, congrArg _ hxs, congrArg _ hys⟩

/-! ## Contention (R42) -/

/-- The bits in which two stations may contend: priority and source. -/
def LineFrame.contentionBits (f : LineFrame) : List Bool := bitsMsb f.priority ++ bitsMsb f.source

theorem LineFrame.contentionBits_length (f : LineFrame) : f.contentionBits.length = 5 := by
  simp [LineFrame.contentionBits]

theorem LineFrame.contentionBits_value (f : LineFrame) : bitsValue 0 f.contentionBits = f.contention := by
  have hsplit : bitsValue 0 f.contentionBits = bitsValue (bitsValue 0 (bitsMsb f.priority)) (bitsMsb f.source) :=
    List.foldl_append
  rw [hsplit, (bitsValue_eq _ _).1, bitsValue_bitsMsb, bitsValue_bitsMsb, bitsMsb_length]
  rfl

theorem LineFrame.wireBits_contention (f : LineFrame) : ∃ more, f.wireBits = false :: (f.contentionBits ++ more) := by
  refine ⟨bitsMsb f.kind ++ bitsMsb f.length ++ f.payload.flatMap bitsMsb ++ bitsMsb f.check ++ List.replicate 7 true, ?_⟩
  simp [LineFrame.wireBits, LineFrame.checkedBits, LineFrame.contentionBits]

/-- While two stations send the same they both go on. -/
theorem lineOfTwo_append (bit : Nat) (common a b : List Bool) :
    lineOfTwo bit (common ++ a) (common ++ b) = common ++ lineOfTwo (bit + common.length) a b := by
  induction common generalizing bit with
  | nil => rfl
  | cons x xs ih =>
    simp only [List.cons_append, lineOfTwo, Bool.and_self, losesAt_self, Bool.false_eq_true, if_false, ih, List.length_cons]
    rw [Nat.add_assoc, Nat.add_comm 1]

theorem losesAt_contention {bit : Nat} (hpos : bit ≠ 0) (hlt : bit < 6) :
    losesAt bit true false = true := by
  simp [losesAt, hpos, hlt]

/-- The dominant bit stands on the line, and who sent the recessive one has lost. -/
theorem lineOfTwo_differs {bit : Nat} (a b : List Bool) (hpos : bit ≠ 0) (hlt : bit < 6) :
    lineOfTwo bit (false :: a) (true :: b) = false :: a ∧ lineOfTwo bit (true :: b) (false :: a) = false :: a := by
  simp [lineOfTwo, losesAt_self, losesAt_contention hpos hlt]

theorem LineFrame.contention_first_difference {f other : LineFrame} (h : f.contention < other.contention) :
    ∃ common a b, f.wireBits = (false :: common) ++ false :: a ∧ other.wireBits = (false :: common) ++ true :: b
      ∧ common.length < 5 := by
  obtain ⟨more, hf⟩ := f.wireBits_contention
  obtain ⟨others, hother⟩ := other.wireBits_contention
  rw [← f.contentionBits_value, ← other.contentionBits_value] at h
  obtain ⟨common, a, b, ha, hb⟩ :=
    exists_first_difference (f.contentionBits_length.trans other.contentionBits_length.symm) h
  refine ⟨common, a ++ more, b ++ others, ?_, ?_, ?_⟩
  · rw [hf, ha]
    simp
  · rw [hother, hb]
    simp
  · have hlength := f.contentionBits_length
    rw [ha, List.length_append, List.length_cons] at hlength
    omega

/-- Settles O6: what is laid out is read back, and of two frames that differ one is lost at the first bit that does. -/
theorem lineFramesRoundTrip : Obligations.LineFramesRoundTrip := by
  intro m ended source body frame other rest cut
  refine ⟨fun hok => ?_, fun hshort hpayload hclean => ?_, fun hlong => ?_, ?_, fun hlower => ?_,
    fun hcut level hlevel => ?_⟩
  · obtain ⟨hlength, -⟩ := FrameBody.payload_length hok
    have hfield : (buildFrame source body).length.toNat = body.payload.length :=
      (BitVec.toNat_ofNat _ _).trans (Nat.mod_eq_of_lt (by omega))
    exact ⟨classify_buildFrame hok, (buildFrame source body).wireBits_length,
      readFrame_wireBits rest (hfield.trans_le hlength) hfield.symm rfl⟩
  · have hread := readFrame_wireBits rest hshort hpayload hclean
    refine ⟨hpayload ▸ frame.wireBits_length, hread, ?_, fun hcut => ?_⟩
    · rw [commandOfBits, hread]
    · rw [commandOfBits, readFrame_cut hshort hpayload hcut]
  · have hbad : commandOfFrame m frame.header = .badFrame m frame.header := commandOfFrame_badLength m hlong
    refine ⟨readFrame_badLength rest hlong, ?_, ?_⟩
    · rw [commandOfBits, readFrame_badLength rest hlong]
      exact congrArg some hbad
    · rw [commandOfBits, readFrame_badLength_take hlong]
      exact congrArg some hbad
  · rw [commandsOfTransmission, frame.readBack_self]
  · obtain ⟨common, a, b, hframe, hother, hlength⟩ := LineFrame.contention_first_difference hlower
    have hbit : 0 + (false :: common).length = common.length + 1 := by simp
    obtain ⟨hfirst, hsecond⟩ := lineOfTwo_differs a b (bit := common.length + 1) (by omega) (by omega)
    refine ⟨?_, ?_, common.length + 1, ?_, ?_⟩
    · rw [hframe, hother, lineOfTwo_append, hbit, hfirst]
    · rw [hframe, hother, lineOfTwo_append, hbit, hsecond]
    · simp only [List.mem_cons, List.not_mem_nil, or_false]
      omega
    · rw [LineFrame.readBack, hframe, hother, readBackFrom_append, hbit, readBackFrom,
        losesAt_contention (by omega) (by omega)]
      rfl
  · have hlost := LineFrame.readBack_differs rest hcut hlevel
    exact ⟨hlost, by rw [commandsOfTransmission, hlost]⟩

end Sys2Proof
end

section
/-! SUPPORT. What a running part leaves of a command: the command's effect on the state of its moment, and the retained
store written after it. -/

namespace Sys2Proof.Machine

variable {ps : List Part} {s t u : State} {m : Moment} {k : FaultKind}

/-- A command that acts when a timer is due, given then. -/
theorem runCommand_due {timer : State → Timer} {limit : Nat} {effect : State → State} (hrun : s.running = true)
    (h : timerReached (timer (s.atMoment m)) (s.atMoment m).clock limit = true) :
    runCommand m (fun u => u.whenDue (timer u) limit effect) s = .next (effect (s.atMoment m)).keepStore := by
  rw [runCommand_of_running m _ hrun, State.whenDue_of_due h]

@[simp] theorem State.keepStore_present (k : FaultKind) : s.keepStore.present k = s.present k := present_congr (by simp) k

@[simp] theorem State.atMoment_present (m : Moment) (k : FaultKind) : (s.atMoment m).present k = s.present k :=
  present_congr (by simp) k

@[simp] theorem State.atMoment_clock (m : Moment) : (s.atMoment m).clock = s.instant m := rfl

@[simp] theorem State.setRack_present (v : Rack) (k : FaultKind) : (s.setRack v).present k = s.present k := rfl

@[simp] theorem State.setLine_present (v : Line) (k : FaultKind) : (s.setLine v).present k = s.present k := rfl

theorem State.afterMove_localLimit_le (before : State) : (s.afterMove before).speed.localLimit ≤ s.speed.localLimit :=
  ((lowered_kept s).afterMove before (.refl s)).2.2

/-- What follows a new class A or B condition leaves no limit either. -/
theorem State.raise_afterMove_localLimit (before : State) (h : faultClassOf s.straps.strict k ≠ .c)
    (habsent : s.present k = false) : ((s.raise k).afterMove before).speed.localLimit = 0 :=
  Nat.le_zero.mp ((afterMove_localLimit_le before).trans (raise_localLimit h habsent).le)

/-! ## The speed timers (R3, R7, R8, R12) -/

/-- The rack when the disagreement timer runs out: the counting source passes from teeth to the wheel (R12). -/
def State.disagreeRack (s : State) : Rack :=
  if s.countingTeeth then
    { s.rack with disagreeTimer := none, travel := clampTravel (s.rack.travel + s.rack.uncounted), uncounted := 0 }
  else { s.rack with disagreeTimer := none }

/-- The rack when the agreement timer runs out: with rack PRESENT counting goes back to teeth (R12). -/
def State.agreeRack (s : State) : Rack :=
  if s.rack.present then { s.rack with agreeTimer := none, uncounted := 0 } else { s.rack with agreeTimer := none }

theorem State.countingTeeth_congr (hrack : t.rack = s.rack) (hfaults : t.faults = s.faults) :
    t.countingTeeth = s.countingTeeth := by
  simp [State.countingTeeth, hrack, present_congr hfaults]

theorem setRack_disagreeRack_onlyChanges : onlyChanges [.speedSources, .odometer] s (s.setRack s.disagreeRack) := by
  intro p
  unfold State.disagreeRack
  cases p <;> simp [Part.same] <;> split <;> simp

theorem setRack_agreeRack_onlyChanges : onlyChanges [.speedSources, .odometer] s (s.setRack s.agreeRack) := by
  intro p
  unfold State.agreeRack
  cases p <;> simp [Part.same] <;> split <;> simp

theorem exec_speedDisagreeExpiry_due (hrun : s.running = true)
    (hdue : timerReached s.rack.disagreeTimer (s.instant m) (ms 1000) = true) :
    exec (.speedDisagreeExpiry m) s
      = .next ((((s.atMoment m).setRack (s.atMoment m).disagreeRack).raise .speedDisagree).afterMove (s.atMoment m)).keepStore :=
  runCommand_due (timer := fun u => u.rack.disagreeTimer) hrun hdue

theorem exec_speedAgreeExpiry_due (hrun : s.running = true)
    (hdue : timerReached s.rack.agreeTimer (s.instant m) (ms 1000) = true) :
    exec (.speedAgreeExpiry m) s
      = .next (((s.atMoment m).setRack (s.atMoment m).agreeRack).clear .speedDisagree).keepStore :=
  runCommand_due (timer := fun u => u.rack.agreeTimer) hrun hdue

/-- The rack as the tooth source comes to rest. -/
def Rack.toothRest (r : Rack) : Rack := { r with toothRef := none, toothEdgeSpeed := 0, toothSpeed := 0, reported := r.wheelSpeed }

/-- The rack as the wheel source comes to rest. -/
def Rack.wheelRest (r : Rack) : Rack :=
  { r with wheelRef := none, wheelEdgeSpeed := 0, wheelSpeed := 0, reported := if r.present then r.toothSpeed else 0 }

theorem Rack.toothRest_eq (r : Rack) : ({ r with toothRef := none, toothEdgeSpeed := 0, toothSpeed := 0 } : Rack).report
    = r.toothRest := by
  simp [Rack.report, Rack.toothRest]

theorem Rack.wheelRest_eq (r : Rack) : ({ r with wheelRef := none, wheelEdgeSpeed := 0, wheelSpeed := 0 } : Rack).report
    = r.wheelRest := by
  simp [Rack.report, Rack.wheelRest]

theorem setRack_toothRest_onlyChanges : onlyChanges [.speedSources] s (s.setRack s.rack.toothRest) := by
  intro p
  cases p <;> simp [Part.same, Rack.toothRest]

theorem setRack_wheelRest_onlyChanges : onlyChanges [.speedSources] s (s.setRack s.rack.wheelRest) := by
  intro p
  cases p <;> simp [Part.same, Rack.wheelRest]

theorem exec_sourceRest_tooth_due (hrun : s.running = true)
    (hdue : timerReached s.rack.toothRef (s.instant m) 2000000 = true) :
    exec (.sourceRest m .tooth) s = .next ((s.atMoment m).setRack (s.atMoment m).rack.toothRest).keepStore := by
  refine (runCommand_due (timer := fun u => u.rack.toothRef) hrun hdue).trans ?_
  rw [Rack.toothRest_eq]

theorem exec_sourceRest_wheel_due (hrun : s.running = true)
    (hdue : timerReached s.rack.wheelRef (s.instant m) 2000000 = true) :
    exec (.sourceRest m .wheel) s = .next ((s.atMoment m).setRack (s.atMoment m).rack.wheelRest).keepStore := by
  refine (runCommand_due (timer := fun u => u.rack.wheelRef) hrun hdue).trans ?_
  rw [Rack.wheelRest_eq]

/-- Settles O22: each timer's own change of the rack, and the condition that follows. -/
theorem speedTimersRunOut : Obligations.SpeedTimersRunOut := by
  intro m s hrun
  refine ⟨fun hdue => ⟨_, exec_sourceRest_tooth_due hrun hdue, by simp [Rack.toothRest],
      onlyChanges_of_effect setRack_toothRest_onlyChanges (by simp)⟩,
    fun hdue => ⟨_, exec_sourceRest_wheel_due hrun hdue, by simp [Rack.wheelRest],
      onlyChanges_of_effect setRack_wheelRest_onlyChanges (by simp)⟩,
    fun hdue => ⟨_, exec_speedDisagreeExpiry_due hrun hdue, ?_, fun habsent => ?_, ?_, ?_⟩,
    fun hdue => ⟨_, exec_speedAgreeExpiry_due hrun hdue, ?_, ?_, ?_⟩⟩
  · rw [State.keepStore_present, State.afterMove_present _ _ (by decide)]
    exact State.raise_present_self _
  · have hkeep (u : State) : u.keepStore.speed = u.speed := by simp
    rw [hkeep]
    exact State.raise_afterMove_localLimit _ nofun habsent
  · simp [State.disagreeRack, State.countingTeeth_congr (t := s.atMoment m) (s := s) (by simp) (by simp)]
  · refine onlyChanges_of_effect (m := m) ?_ (by simp)
    have hraised := (setRack_disagreeRack_onlyChanges (s := s.atMoment m)).mono
      (qs := Part.also Part.ofPosition [.speedSources, .odometer]) (by decide)
    have hcondition := hraised.trans ((raise_onlyChanges_ofClassB (k := .speedDisagree) nofun).mono (by decide)) (by simp)
    exact hcondition.trans ((afterMove_onlyChanges _ _).mono (by decide)) (by simp)
  · rw [State.keepStore_present]
    exact State.clear_present_self _ _
  · simp [State.agreeRack]
  · refine onlyChanges_of_effect (m := m) ?_ (by simp)
    have hcounted := (setRack_agreeRack_onlyChanges (s := s.atMoment m)).mono
      (qs := Part.also Part.ofClassB [.speedSources, .odometer]) (by decide)
    exact hcounted.trans ((clear_onlyChanges_ofClassB _).mono (by decide)) (by simp)

end Sys2Proof.Machine
end

section
/-! SUPPORT. O23: standstill confirmed, and the held conditions (R9, R34, R109). -/

namespace Sys2Proof.Machine

variable {ps : List Part} {s t u : State} {m : Moment} {k : FaultKind}

theorem setRack_standstill_onlyChanges :
    onlyChanges [.speedSources, .motion] s (s.setRack { s.rack with standstill := true, standstillTimer := none }) := by
  intro p
  cases p <;> simp [Part.same]

theorem setEngagement_holds_onlyChanges {v : Engagement} (h : v.pinions = s.engagement.pinions) :
    onlyChanges [.holdTimers] s (s.setEngagement v) := by
  intro p
  cases p <;> simp [Part.same, h]

theorem monitorConfirmed_onlyChanges : onlyChanges (Part.also Part.ofPosition [.holdTimers]) s s.monitorConfirmed := by
  have hholds := (setEngagement_holds_onlyChanges (s := s)
    (v := { s.engagement with climbOutHold := none, calibrationHold := none }) rfl).mono
    (qs := Part.also Part.ofPosition [.holdTimers]) (by decide)
  exact (hholds.trans ((clear_onlyChanges_ofClassB _).mono (by decide)) rfl).trans
    ((clear_onlyChanges_ofClassB _).mono (by decide)) (by simp)

/-- The parts that a confirmed standstill may change. -/
def Part.ofStandstill : List Part := Part.also Part.ofPosition [.speedSources, .motion, .holdTimers, .holding, .outputs]

theorem confirmStandstill_onlyChanges : onlyChanges Part.ofStandstill s s.confirmStandstill := by
  have hrack := (setRack_standstill_onlyChanges (s := s)).mono (qs := Part.ofStandstill) (by decide)
  have hheld := hrack.trans (applyHolding_onlyChanges.mono (by decide)) rfl
  have hconfirmed := hheld.trans (monitorConfirmed_onlyChanges.mono (by decide)) (by simp)
  have hcleared := hconfirmed.trans ((clear_onlyChanges_ofClassB .overspeedHard).mono (by decide)) (by simp)
  have htested := hcleared.trans ((retestPermits_onlyChanges _).mono (by decide)) (by simp)
  exact htested.trans ((afterMove_onlyChanges _ _).mono (by decide)) (by simp)

theorem State.confirmStandstill_rack :
    s.confirmStandstill.rack = { s.rack with standstill := true, standstillTimer := none } := by
  simp [State.confirmStandstill]

theorem State.confirmStandstill_holds :
    s.confirmStandstill.engagement.climbOutHold = none ∧ s.confirmStandstill.engagement.calibrationHold = none := by
  simp [State.confirmStandstill, State.monitorConfirmed]

/-- The holding brake applied for a standstill, the rack read with it. -/
theorem State.confirmStandstill_brake :
    s.confirmStandstill.brake
      = (s.setRack { s.rack with standstill := true, standstillTimer := none }).applyHolding.brake := by
  simp [State.confirmStandstill]

theorem State.confirmStandstill_held :
    s.confirmStandstill.brake.applied = true ∧ (s.brake.applied = false → s.confirmStandstill.brake.outputsFull) := by
  rw [confirmStandstill_brake]
  refine ⟨applyHolding_applied, fun hfree => ?_⟩
  have hbrake : (s.setRack { s.rack with standstill := true, standstillTimer := none }).applyHolding.brake
      = { s.brake.allFull with applied := true } := by
    simp [State.applyHolding, hfree]
  rw [hbrake]
  exact ⟨rfl, rfl, rfl⟩

theorem State.confirmStandstill_present :
    s.confirmStandstill.present .climbOut = false ∧ s.confirmStandstill.present .calibrationFail = false
      ∧ s.confirmStandstill.present .overspeedHard = false := by
  have hend (u : State) (j : FaultKind) (hj : j ≠ .loadSensor) (before : State) :
      (u.retestPermits.afterMove before).present j = u.present j := by
    rw [afterMove_present _ _ hj, retestPermits_present _ hj]
  unfold State.confirmStandstill State.monitorConfirmed
  dsimp only
  rw [hend _ _ (by decide), hend _ _ (by decide), hend _ _ (by decide)]
  refine ⟨?_, ?_, clear_present_self _ _⟩
  · rw [clear_present_of_ne (by decide) (by decide), clear_present_of_ne (by decide) (by decide), clear_present_self]
  · rw [clear_present_of_ne (by decide) (by decide), clear_present_self]

theorem exec_standstillConfirmed_due (hrun : s.running = true) (hmoving : s.rack.standstill = false)
    (hdue : timerReached s.rack.standstillTimer (s.instant m) (ms 2000) = true) :
    exec (.standstillConfirmed m) s = .next (s.atMoment m).confirmStandstill.keepStore := by
  have hmoving' : ¬(s.atMoment m).rack.standstill = true := by simp [hmoving]
  refine (runCommand_of_running m _ hrun).trans ?_
  have hdue' : timerReached (s.atMoment m).rack.standstillTimer (s.atMoment m).clock (ms 2000) = true := hdue
  rw [if_neg hmoving', State.whenDue_of_due hdue']

/-- Settles O23: standstill holds the car and ends what was held; each held condition ends with its own timer. -/
theorem standstillEndsHeldConditions : Obligations.StandstillEndsHeldConditions := by
  intro m s hrun
  refine ⟨fun hmoving hdue => ?_, fun hdue => ?_, fun hdue => ?_⟩
  · have hrack : (s.atMoment m).confirmStandstill.keepStore.rack
        = { s.rack with standstill := true, standstillTimer := none } := by
      simp [State.confirmStandstill_rack]
    have hstand : (s.atMoment m).confirmStandstill.keepStore.rack.standstill = true := congrArg Rack.standstill hrack
    have hkeep (u : State) : u.keepStore.brake = u.brake ∧ u.keepStore.engagement = u.engagement := by simp
    obtain ⟨hbrake, hengagement⟩ := hkeep (s.atMoment m).confirmStandstill
    obtain ⟨happlied, hfull⟩ := (s.atMoment m).confirmStandstill_held
    obtain ⟨hclimb, hcalibration, hspeed⟩ := (s.atMoment m).confirmStandstill_present
    refine ⟨_, exec_standstillConfirmed_due hrun hmoving hdue, hrack, ?_, ?_, ?_, ?_, ?_, ?_, ?_, ?_, ?_,
      onlyChanges_of_effect confirmStandstill_onlyChanges (by simp)⟩
    · exact if_pos hstand
    · exact if_pos hstand
    · rw [hbrake]
      exact happlied
    · rw [hbrake]
      exact hfull
    · rw [State.keepStore_present, hclimb]
    · rw [State.keepStore_present, hcalibration]
    · rw [State.keepStore_present, hspeed]
    · rw [hengagement, State.confirmStandstill_holds.1]
    · rw [hengagement, State.confirmStandstill_holds.2]
  · refine ⟨_, runCommand_due (timer := fun u => u.engagement.climbOutHold) hrun hdue, ?_, by simp, ?_⟩
    · rw [State.keepStore_present, State.clear_present_self]
    · have hholds := (setEngagement_holds_onlyChanges (s := s.atMoment m)
        (v := { (s.atMoment m).engagement with climbOutHold := none }) rfl).mono
        (qs := Part.also Part.ofClassB [.holdTimers]) (by decide)
      exact onlyChanges_of_effect (hholds.trans ((clear_onlyChanges_ofClassB _).mono (by decide)) rfl) (by simp)
  · refine ⟨_, runCommand_due (timer := fun u => u.engagement.calibrationHold) hrun hdue, ?_, by simp, ?_⟩
    · rw [State.keepStore_present, State.clear_present_self]
    · have hholds := (setEngagement_holds_onlyChanges (s := s.atMoment m)
        (v := { (s.atMoment m).engagement with calibrationHold := none }) rfl).mono
        (qs := Part.also Part.ofClassB [.holdTimers]) (by decide)
      exact onlyChanges_of_effect (hholds.trans ((clear_onlyChanges_ofClassB _).mono (by decide)) rfl) (by simp)

end Sys2Proof.Machine
end

section
/-! SUPPORT. O26 and O27: the slots at an idle of the line, and as a transmission ends (sections 3.1, 3.3 and 3.5). -/

namespace Sys2Proof.Machine

variable {ps : List Part} {s t u : State} {m : Moment} {k : FaultKind}

@[simp] theorem State.setLine_setLine (l v : Line) : (s.setLine l).setLine v = s.setLine v := rfl

/-! ## The slot chosen at an idle (R39, R48, R51) -/

/-- The first slot of R48's order that holds a frame. -/
theorem Line.choice_eq (l : Line) :
    l.choice
      = if l.alert.isSome then some .alert
        else if l.orders ≠ [] ∧ l.orderHoldOff = none ∧ l.orderPassed = false then some .order
        else if l.stateSlot.isSome then some .state
        else if l.replies ≠ [] then some .reply
        else none := by
  have horder : l.hasWaiting .order = decide (l.orders ≠ [] ∧ l.orderHoldOff = none ∧ l.orderPassed = false) := by
    cases horders : l.orders <;> cases hpassed : l.orderPassed <;> cases hheld : l.orderHoldOff <;>
      simp [Line.hasWaiting, horders, hpassed, hheld]
  have hreply : l.hasWaiting .reply = decide (l.replies ≠ []) := by
    cases hreplies : l.replies <;> simp [Line.hasWaiting, hreplies]
  have halert : l.hasWaiting .alert = decide (l.alert.isSome = true) := by simp [Line.hasWaiting]
  have hstate : l.hasWaiting .state = decide (l.stateSlot.isSome = true) := by simp [Line.hasWaiting]
  rw [Line.choice, List.find?_cons, List.find?_cons, List.find?_cons, List.find?_cons, List.find?_nil, halert, horder,
    hstate, hreply]
  split_ifs with h1 h2 h3 h4
  · rw [decide_eq_true h1]
  · rw [decide_eq_false h1, decide_eq_true h2]
  · rw [decide_eq_false h1, decide_eq_false h2, decide_eq_true h3]
  · rw [decide_eq_false h1, decide_eq_false h2, decide_eq_false h3, decide_eq_true h4]
  · rw [decide_eq_false h1, decide_eq_false h2, decide_eq_false h3, decide_eq_false h4]

/-- An idle of the line begins with the chosen slot in transmission, or with none. -/
theorem Line.beginIdle_eq {l : Line} (h : l.sending = none) :
    l.beginIdle
      = { l with
          sending := ({ l with orderPassed := false } : Line).choice
          bus := if ({ l with orderPassed := false } : Line).choice.isSome then .busy else .idle
          orderPassed := false } := by
  have hchoice : ({ l with bus := .idle, orderPassed := false } : Line).choice
      = ({ l with orderPassed := false } : Line).choice := rfl
  unfold Line.beginIdle
  obtain ⟨slot, -, -, hslot, hoffer⟩ | ⟨hoffer, hnone⟩ :=
    ({ l with bus := .idle, orderPassed := false } : Line).offer_cases
  · rw [hoffer, ← hchoice, hslot]
    rfl
  · rw [hoffer, ← hchoice, hnone rfl h]
    simp [h]

theorem beginIdle_onlyChanges (h : s.line.sending = none) : onlyChanges [.transmission] s (s.setLine s.line.beginIdle) := by
  rw [Line.beginIdle_eq h]
  intro p
  cases p <;> simp [Part.same]

theorem occupied_onlyChanges : onlyChanges [.transmission] s (s.setLine s.line.occupied) := by
  intro p
  cases p <;> simp [Part.same, Line.occupied]

theorem exec_lineIdle_free (hrun : s.running = true) (hsending : s.line.sending = none)
    (hbus : s.line.bus = .busy ∨ s.line.bus = .idle) :
    exec (.lineIdle m) s = .next ((s.atMoment m).setLine (s.atMoment m).line.beginIdle).keepStore := by
  have hfree : (s.atMoment m).line.sending = none ∧ ((s.atMoment m).line.bus = .busy ∨ (s.atMoment m).line.bus = .idle) :=
    ⟨hsending, hbus⟩
  refine (runCommand_of_running m _ hrun).trans ?_
  rw [if_pos hfree]

theorem exec_tenRecessiveBitTimes_awaited (hrun : s.running = true)
    (hbus : s.line.bus = .awaitingTen ∨ s.line.bus = .ignoringUntilTen) :
    exec (.tenRecessiveBitTimes m) s = .next ((s.atMoment m).setLine (s.atMoment m).line.beginIdle).keepStore := by
  have hawaited : (s.atMoment m).line.bus = .awaitingTen ∨ (s.atMoment m).line.bus = .ignoringUntilTen := hbus
  refine (runCommand_of_running m _ hrun).trans ?_
  rw [if_pos hawaited]

/-- What an idle offers, said of the line before it. -/
theorem begunIdle_offers (hsending : s.line.sending = none) :
    let chosen : Option Slot :=
      if s.line.alert.isSome then some .alert
      else if s.line.orders ≠ [] ∧ s.line.orderHoldOff = none then some .order
      else if s.line.stateSlot.isSome then some .state
      else if s.line.replies ≠ [] then some .reply
      else none
    s.line.beginIdle.sending = chosen ∧ s.line.beginIdle.bus = (if chosen.isSome then .busy else .idle)
      ∧ s.line.beginIdle.orderPassed = false := by
  have hchosen := Line.choice_eq { s.line with orderPassed := false }
  simp only [and_true] at hchosen
  rw [Line.beginIdle_eq hsending, hchosen]
  exact ⟨rfl, rfl, rfl⟩

/-- Settles O26: an idle is one offer of the chosen slot; a start bit makes the line busy. -/
theorem idleLineOffersChosenSlot : Obligations.IdleLineOffersChosenSlot := by
  intro m s hrun
  have hkeep (u : State) : u.keepStore.line = u.line := by simp
  refine ⟨fun hsending hbus => ?_, fun hsending hbus => ?_, ?_, fun hsending => ?_⟩
  · obtain ⟨hchosen, hbus', hpassed⟩ := begunIdle_offers (s := s) hsending
    refine ⟨_, exec_lineIdle_free hrun hsending hbus, ?_, ?_, ?_,
      onlyChanges_of_effect (beginIdle_onlyChanges hsending) (by simp)⟩
    · rw [hkeep]
      exact hchosen
    · rw [hkeep]
      exact hbus'
    · rw [hkeep]
      exact hpassed
  · obtain ⟨hchosen, hbus', hpassed⟩ := begunIdle_offers (s := s) hsending
    refine ⟨_, exec_tenRecessiveBitTimes_awaited hrun hbus, ?_, ?_, ?_,
      onlyChanges_of_effect (beginIdle_onlyChanges hsending) (by simp)⟩
    · rw [hkeep]
      exact hchosen
    · rw [hkeep]
      exact hbus'
    · rw [hkeep]
      exact hpassed
  · exact ⟨_, runCommand_of_running m _ hrun, by simp [Line.occupied], by simp [Line.occupied],
      by simp [Line.occupied], onlyChanges_of_effect occupied_onlyChanges (by simp)⟩
  · refine runCommand_without_effect (if_neg fun hfree => ?_)
    rw [show (s.atMoment m).line = s.line from rfl] at hfree
    simp [hfree.1] at hsending

/-! ## The frame in transmission leaves its slot (R42, R49) -/

theorem State.frameSent_of_alert (h : s.line.sending = some .alert) :
    s.frameSent
      = s.setLine { s.line with sending := none, bus := .busy, alert := s.line.alertBehind, alertBehind := none } := by
  simp only [State.frameSent, h]
  rfl

theorem State.frameSent_of_order (h : s.line.sending = some .order) :
    s.frameSent
      = s.setLine
        { s.line with sending := none, bus := .busy, orders := s.line.orders.tail, orderHoldOff := some s.clock } := by
  simp only [State.frameSent, h]
  rfl

theorem State.frameSent_of_reply (h : s.line.sending = some .reply) :
    s.frameSent = s.setLine { s.line with sending := none, bus := .busy, replies := s.line.replies.tail } := by
  simp only [State.frameSent, h]
  rfl

/-- The STATE slot as its frame has been sent, and LINE_CONGESTION gone. -/
def State.slotSent (s : State) : State :=
  (s.setLine { s.line with
    sending := none, bus := .busy, stateSlot := s.line.stateBehind, stateBehind := none, discards := 0 }).clear .lineCongestion

theorem State.frameSent_of_state {held : HeldFrame} (h : s.line.sending = some .state)
    (hslot : s.line.stateSlot = some held) :
    s.frameSent = match held.kind with
      | .state => s.slotSent
      | .join last rejoin => s.slotSent.joinSent last rejoin := by
  simp only [State.frameSent, h, State.heldSent, State.setLine_line, hslot]
  rfl

theorem slotSent_onlyChanges : onlyChanges [.slots, .transmission, .lineTimers, .faults] s s.slotSent := by
  have hline : onlyChanges [.slots, .transmission, .lineTimers, .faults] s (s.setLine { s.line with
      sending := none, bus := .busy, stateSlot := s.line.stateBehind, stateBehind := none, discards := 0 }) := by
    intro p
    cases p <;> simp [Part.same]
  exact hline.trans ((clear_onlyChanges_ofClassC rfl).mono (by decide)) rfl

theorem State.slotSent_line : s.slotSent.line = { s.line with
    sending := none, bus := .busy, stateSlot := s.line.stateBehind, stateBehind := none, discards := 0 } := by
  simp [State.slotSent]

theorem State.contentionLost_of_alert (h : s.line.sending = some .alert) :
    s.contentionLost = s.setLine { s.line with
      sending := none, bus := .busy
      alert := if s.line.alertBehind.isSome then s.line.alertBehind else s.line.alert, alertBehind := none } := by
  cases hbehind : s.line.alertBehind <;> simp [State.contentionLost, h, hbehind]

theorem State.contentionLost_of_waiting (h : s.line.sending = some .order ∨ s.line.sending = some .reply) :
    s.contentionLost = s.setLine { s.line with sending := none, bus := .busy } := by
  obtain h | h := h <;> simp only [State.contentionLost, h]

/-! ## A frame of the STATE slot discarded (R52, R53) -/

/-- The line as a frame of the STATE slot is discarded. -/
def Line.afterDiscard (f : HeldFrame) (l : Line) : Line :=
  { l with
    discards := l.discards + 1
    joinRetry := match f.kind with
      | .join _ _ => some f.placedAt
      | .state => l.joinRetry }

theorem State.discarded_eq (f : HeldFrame) :
    s.discarded f
      = if 3 ≤ s.line.discards + 1 then (s.setLine (s.line.afterDiscard f)).raise .lineCongestion
        else s.setLine (s.line.afterDiscard f) := rfl

theorem State.discarded_line (f : HeldFrame) : (s.discarded f).line = s.line.afterDiscard f := by
  rw [discarded_eq]
  split
  · exact raise_line (k := .lineCongestion) (s := s.setLine (s.line.afterDiscard f)) nofun
  · rfl

theorem State.discarded_present (f : HeldFrame) (h : 3 ≤ s.line.discards + 1) :
    (s.discarded f).present .lineCongestion = true := by
  rw [discarded_eq, if_pos h]
  exact raise_present_self _

theorem discarded_onlyChanges (f : HeldFrame) : onlyChanges [.lineTimers, .faults] s (s.discarded f) := by
  have hline : onlyChanges [.lineTimers, .faults] s (s.setLine (s.line.afterDiscard f)) := by
    intro p
    cases p <;> simp [Part.same, Line.afterDiscard]
  rw [State.discarded_eq]
  split
  · exact hline.trans ((raise_onlyChanges_ofClassC (k := .lineCongestion) rfl).mono (by decide)) rfl
  · exact hline

theorem State.contentionLost_of_state {held : HeldFrame} (h : s.line.sending = some .state)
    (hslot : s.line.stateSlot = some held) (hlate : held.late = false) :
    s.contentionLost = s.setLine { s.line with
      sending := none, bus := .busy
      stateSlot := if s.line.stateBehind.isSome then s.line.stateBehind else some held, stateBehind := none } := by
  cases hbehind : s.line.stateBehind <;> simp [State.contentionLost, h, hslot, hlate, hbehind]

theorem State.contentionLost_of_late {held : HeldFrame} (h : s.line.sending = some .state)
    (hslot : s.line.stateSlot = some held) (hlate : held.late = true) :
    s.contentionLost = (s.setLine { s.line with
      sending := none, bus := .busy, stateSlot := s.line.stateBehind, stateBehind := none }).discarded held := by
  simp [State.contentionLost, h, hslot, hlate]

theorem exec_frameSent_running (hrun : s.running = true) :
    exec (.frameSent m) s = .next (s.atMoment m).frameSent.keepStore := runCommand_of_running m _ hrun

theorem exec_contentionLost_running (hrun : s.running = true) :
    exec (.contentionLost m) s = .next (s.atMoment m).contentionLost.keepStore := runCommand_of_running m _ hrun

end Sys2Proof.Machine
end

section
/-! SUPPORT. O27 and O30: the slots and the timers of the line (sections 3.3 and 3.5 to 3.7). -/

namespace Sys2Proof.Machine

variable {ps : List Part} {s t u : State} {m : Moment} {k : FaultKind}

@[simp] theorem State.keepStore_line : s.keepStore.line = s.line := by simp

@[simp] theorem State.atMoment_line (m : Moment) : (s.atMoment m).line = s.line := rfl

/-- Settles O27: each slot's own move at the end of a transmission. -/
theorem transmissionEndsMoveSlots : Obligations.TransmissionEndsMoveSlots := by
  intro m s hrun
  have hsent := exec_frameSent_running (m := m) hrun
  have hlost := exec_contentionLost_running (m := m) hrun
  refine ⟨fun h => ?_, fun h => ?_, fun h => ?_, fun h => ?_, fun h => ?_, fun h => ?_, fun h => ?_,
    fun held hslot h hlate => ?_, fun held hslot h hlate => ?_⟩
  · rw [State.frameSent_of_alert (s := s.atMoment m) h] at hsent
    refine ⟨_, hsent, by simp, onlyChanges_of_effect (m := m) (fun p => ?_) (by simp)⟩
    cases p <;> simp [Part.same]
  · rw [State.frameSent_of_order (s := s.atMoment m) h] at hsent
    refine ⟨_, hsent, by simp, onlyChanges_of_effect (m := m) (fun p => ?_) (by simp)⟩
    cases p <;> simp [Part.same]
  · rw [State.frameSent_of_reply (s := s.atMoment m) h] at hsent
    refine ⟨_, hsent, by simp, onlyChanges_of_effect (m := m) (fun p => ?_) (by simp)⟩
    cases p <;> simp [Part.same]
  · intro hheld
    obtain ⟨held, hslot, hkind⟩ := hheld
    rw [State.frameSent_of_state (s := s.atMoment m) h hslot, hkind] at hsent
    refine ⟨_, hsent, ?_, ?_, onlyChanges_of_effect slotSent_onlyChanges (by simp [State.slotSent])⟩
    · rw [State.keepStore_present]
      exact State.clear_present_self _ _
    · rw [State.keepStore_line]
      exact State.slotSent_line
  · have hnone : (s.atMoment m).frameSent = s.atMoment m := by simp [State.frameSent, h]
    exact runCommand_without_effect hnone
  · rw [State.contentionLost_of_waiting (s := s.atMoment m) h] at hlost
    refine ⟨_, hlost, by simp, onlyChanges_of_effect (m := m) (fun p => ?_) (by simp)⟩
    cases p <;> simp [Part.same]
  · rw [State.contentionLost_of_alert (s := s.atMoment m) h] at hlost
    refine ⟨_, hlost, by simp, by simp, by simp, by simp, onlyChanges_of_effect (m := m) (fun p => ?_) (by simp)⟩
    cases p <;> simp [Part.same]
  · rw [State.contentionLost_of_state (s := s.atMoment m) h hslot hlate] at hlost
    refine ⟨_, hlost, by simp, by simp, by simp, by simp, onlyChanges_of_effect (m := m) (fun p => ?_) (by simp)⟩
    cases p <;> simp [Part.same]
  · rw [State.contentionLost_of_late (s := s.atMoment m) h hslot hlate] at hlost
    refine ⟨_, hlost, ?_, ?_, ?_, ?_, ?_, fun hmany => ?_, onlyChanges_of_effect (m := m) ?_ ?_⟩
    · simp [State.discarded_line, Line.afterDiscard]
    · simp [State.discarded_line, Line.afterDiscard]
    · simp [State.discarded_line, Line.afterDiscard]
    · simp [State.discarded_line, Line.afterDiscard]
    · simp [State.discarded_line, Line.afterDiscard]
    · rw [State.keepStore_line, State.discarded_line] at hmany
      rw [State.keepStore_present]
      exact State.discarded_present _ hmany
    · have hfreed : onlyChanges [.slots, .transmission, .lineTimers, .faults] (s.atMoment m)
          ((s.atMoment m).setLine { (s.atMoment m).line with
            sending := none, bus := .busy, stateSlot := (s.atMoment m).line.stateBehind, stateBehind := none }) := by
        intro p
        cases p <;> simp [Part.same]
      exact hfreed.trans ((discarded_onlyChanges held).mono (by decide)) rfl
    · simp

/-! ## A frame placed in the STATE slot (R52) -/

/-- A frame placed now. -/
def State.heldNow (f : LineFrame) (kind : StateSlotKind) (s : State) : HeldFrame :=
  { frame := f, kind := kind, placedAt := s.clock, late := false }

theorem State.placeHeld_of_sending (f : LineFrame) (kind : StateSlotKind) (h : s.line.sending = some .state) :
    s.placeHeld f kind = s.setLine { s.line with stateBehind := some (s.heldNow f kind) } := if_pos h

theorem State.placeHeld_of_free (f : LineFrame) (kind : StateSlotKind) (h : s.line.sending ≠ some .state) :
    s.placeHeld f kind = s.setLine { s.line with stateSlot := some (s.heldNow f kind) }.offer := if_neg h

/-- An offer leaves the slots. -/
theorem Line.offer_stateSlot (l : Line) : l.offer.stateSlot = l.stateSlot := by
  obtain ⟨sending, bus, h⟩ := l.offer_eq
  rw [h]

theorem Line.offer_joinRetry (l : Line) : l.offer.joinRetry = l.joinRetry := by
  obtain ⟨sending, bus, h⟩ := l.offer_eq
  rw [h]

theorem State.placeHeld_slot (f : LineFrame) (kind : StateSlotKind) :
    (if s.line.sending = some .state then (s.placeHeld f kind).line.stateBehind else (s.placeHeld f kind).line.stateSlot)
      = some (s.heldNow f kind) := by
  split
  next h => rw [placeHeld_of_sending f kind h]; rfl
  next h =>
    rw [placeHeld_of_free f kind h]
    exact Line.offer_stateSlot _

theorem placeHeld_onlyChanges (f : LineFrame) (kind : StateSlotKind) :
    onlyChanges [.slots, .transmission] s (s.placeHeld f kind) := by
  by_cases h : s.line.sending = some .state
  · rw [State.placeHeld_of_sending f kind h]
    intro p
    cases p <;> simp [Part.same]
  · rw [State.placeHeld_of_free f kind h]
    have hplaced : onlyChanges [.slots, .transmission] s (s.setLine { s.line with stateSlot := some (s.heldNow f kind) }) := by
      intro p
      cases p <;> simp [Part.same]
    exact hplaced.trans (offer_onlyChanges.mono (by decide)) rfl

/-- The JOIN that a station builds now (R45, R61). -/
def State.joinNow (n : Fin 8) (s : State) : LineFrame :=
  buildFrame n
    (.join
      { number := BitVec.ofNat 8 (n.val + 1), kind := 0, last := !s.summitNeighbour, rejoin := s.line.rejoin
        tare := BitVec.ofNat 16 (100 + s.straps.tare.toNat) })

theorem narrow_of_lt {w n : Nat} (h : n < 2 ^ w) : narrow w n = BitVec.ofNat w n := by
  rw [narrow, Nat.min_eq_left (by omega)]

theorem Straps.tareField (p : Straps) : narrow 16 (p.tareKg / 100) = BitVec.ofNat 16 (100 + p.tare.toNat) := by
  have hsum : p.tareKg / 100 = 100 + p.tare.toNat := by
    unfold Straps.tareKg
    omega
  have hlt := p.tare.isLt
  rw [hsum, narrow_of_lt (by omega)]

theorem State.placeJoin_eq (n : Fin 8) :
    s.placeJoin n = s.placeHeld (s.joinNow n) (.join (!s.summitNeighbour) s.line.rejoin) := by
  simp only [State.placeJoin, State.joinNow, Straps.tareField]

/-! ## The line's own timers -/

/-- The waiting retry of a discarded JOIN is over. -/
def State.retryEnded (s : State) : State := s.setLine { s.line with joinRetry := none }

theorem retryEnded_onlyChanges : onlyChanges [.lineTimers] s s.retryEnded := by
  intro p
  cases p <;> simp [Part.same, State.retryEnded]

theorem State.retryEnded_slot (f : LineFrame) (kind : StateSlotKind) :
    (if s.line.sending = some .state then (s.retryEnded.placeHeld f kind).line.stateBehind
      else (s.retryEnded.placeHeld f kind).line.stateSlot) = some (s.heldNow f kind) :=
  State.placeHeld_slot (s := s.retryEnded) f kind

theorem State.retryEnded_placeJoin (n : Fin 8) :
    s.retryEnded.placeJoin n = s.retryEnded.placeHeld (s.joinNow n) (.join (!s.summitNeighbour) s.line.rejoin) :=
  State.placeJoin_eq n

theorem State.placeHeld_joinRetry (f : LineFrame) (kind : StateSlotKind) :
    (s.placeHeld f kind).line.joinRetry = s.line.joinRetry := by
  by_cases h : s.line.sending = some .state
  · rw [State.placeHeld_of_sending f kind h]
    rfl
  · rw [State.placeHeld_of_free f kind h]
    exact Line.offer_joinRetry _

theorem exec_joinRetry_due {n : Fin 8} (hrun : s.running = true)
    (hdue : timerReached s.line.joinRetry (s.instant m) (ms 50) = true) (hphase : s.line.phase = .joinWaiting)
    (hown : s.line.own = some n) :
    exec (.joinRetry m) s
      = .next ((s.atMoment m).retryEnded.placeJoin n).keepStore := by
  have heffect : (match (s.atMoment m).retryEnded.line.phase, (s.atMoment m).retryEnded.line.own with
      | .joinWaiting, some n => (s.atMoment m).retryEnded.placeJoin n
      | _, _ => (s.atMoment m).retryEnded) = (s.atMoment m).retryEnded.placeJoin n := by
    have hphase' : (s.atMoment m).retryEnded.line.phase = .joinWaiting := hphase
    have hown' : (s.atMoment m).retryEnded.line.own = some n := hown
    rw [hphase', hown']
  refine (runCommand_due (timer := fun u => u.line.joinRetry) hrun hdue).trans ?_
  exact congrArg (fun u => Host.Outcome.next u.keepStore) heffect

theorem State.accessTimeout_of_sending {held : HeldFrame} (hslot : s.line.stateSlot = some held)
    (hdue : held.overdue s.clock = true) (hsending : s.line.sending = some .state) :
    s.accessTimeout = s.setLine { s.line with stateSlot := some { held with late := true } } := by
  simp [State.accessTimeout, hslot, hdue, hsending]

theorem State.accessTimeout_of_waiting {held : HeldFrame} (hslot : s.line.stateSlot = some held)
    (hdue : held.overdue s.clock = true) (hsending : s.line.sending ≠ some .state) :
    s.accessTimeout = (s.setLine { s.line with stateSlot := s.line.stateBehind, stateBehind := none }).discarded held := by
  simp [State.accessTimeout, hslot, hdue, hsending]

theorem setLine_quality_onlyChanges {start count : Nat} {clash : Timer} :
    onlyChanges [.quality] s
      (s.setLine { s.line with qualityStart := start, badCount := count, clashTimer := clash }) := by
  intro p
  cases p <;> simp [Part.same]

/-- Settles O30: each timer of the line at its own limit. -/
theorem lineTimersRunOut : Obligations.LineTimersRunOut := by
  intro m n s hrun
  refine ⟨fun held hslot hearly hplaced => ?_, fun hdue hphase hown => ?_, fun hdue => ?_, fun hdue => ?_, fun hdue => ?_⟩
  · have hoverdue : held.overdue (s.atMoment m).clock = true := by simp [HeldFrame.overdue, hearly, hplaced]
    have hexec : exec (.accessTimeout m) s = .next (s.atMoment m).accessTimeout.keepStore :=
      runCommand_of_running m _ hrun
    by_cases hsending : s.line.sending = some .state
    · rw [State.accessTimeout_of_sending (s := s.atMoment m) hslot hoverdue hsending] at hexec
      refine ⟨_, hexec, fun _ => ⟨by simp, onlyChanges_of_effect (m := m) (fun p => ?_) (by simp)⟩,
        fun hfree => absurd hsending hfree⟩
      cases p <;> simp [Part.same]
    · rw [State.accessTimeout_of_waiting (s := s.atMoment m) hslot hoverdue hsending] at hexec
      refine ⟨_, hexec, fun h => absurd h hsending, fun _ => ⟨?_, ?_, ?_, ?_, fun hmany => ?_, ?_⟩⟩
      · simp [State.discarded_line, Line.afterDiscard]
      · simp [State.discarded_line, Line.afterDiscard]
      · simp [State.discarded_line, Line.afterDiscard]
      · rw [State.keepStore_line, State.discarded_line]
        cases hkind : held.kind <;> simp [Line.afterDiscard, hkind]
      · rw [State.keepStore_line, State.discarded_line] at hmany
        rw [State.keepStore_present]
        exact State.discarded_present _ hmany
      · have hfreed : onlyChanges [.slots, .lineTimers, .faults] (s.atMoment m)
            ((s.atMoment m).setLine { (s.atMoment m).line with
              stateSlot := (s.atMoment m).line.stateBehind, stateBehind := none }) := by
          intro p
          cases p <;> simp [Part.same]
        exact onlyChanges_of_effect (hfreed.trans ((discarded_onlyChanges held).mono (by decide)) rfl) (by simp)
  · have hexec := exec_joinRetry_due hrun hdue hphase hown
    rw [State.retryEnded_placeJoin] at hexec
    have hended : onlyChanges [.slots, .transmission, .lineTimers] (s.atMoment m) (s.atMoment m).retryEnded :=
      retryEnded_onlyChanges.mono (by decide)
    refine ⟨_, hexec, ?_, ?_, onlyChanges_of_effect (hended.trans ((placeHeld_onlyChanges _ _).mono (by decide)) rfl)
      (by simp [State.retryEnded])⟩
    · rw [State.keepStore_line, State.placeHeld_joinRetry]
      rfl
    · rw [State.keepStore_line]
      exact State.retryEnded_slot (s := s.atMoment m) _ _
  · refine ⟨_, runCommand_due (timer := fun u => u.line.orderHoldOff) hrun hdue, ?_, onlyChanges_of_effect (m := m) (fun p => ?_) ?_⟩
    · simp [State.endHoldOff]
    · cases p <;> simp [Part.same, State.endHoldOff]
    · simp [State.endHoldOff]
  · refine ⟨_, runCommand_due (timer := fun u => u.line.clashTimer) hrun hdue, by simp, ?_, onlyChanges_of_effect (m := m) ?_ (by simp)⟩
    · rw [State.keepStore_present]
      exact State.clear_present_self _ _
    · have htimer := (setLine_quality_onlyChanges (s := s.atMoment m) (start := (s.atMoment m).line.qualityStart)
        (count := (s.atMoment m).line.badCount) (clash := none)).mono (qs := Part.also Part.ofClassB [.quality]) (by decide)
      exact htimer.trans ((clear_onlyChanges_ofClassB _).mono (by decide)) rfl
  · have hdue' : timerReached (some s.line.qualityStart) (s.instant m) (ms 1000) = true := decide_eq_true hdue
    have hwindow := (setLine_quality_onlyChanges (s := s.atMoment m) (start := (s.atMoment m).clock)
        (count := 0) (clash := (s.atMoment m).line.clashTimer)).mono (qs := [.quality, .faults]) (by decide)
    have hexec := runCommand_due (m := m) (timer := fun u => some u.line.qualityStart) (limit := ms 1000)
      (effect := fun u =>
        let u1 := u.setLine { u.line with qualityStart := u.clock, badCount := 0 }
        if u.line.badCount ≤ 2 then u1.clear .lineQuality else u1) hrun hdue'
    by_cases hfew : s.line.badCount ≤ 2
    · have hfew' : (s.atMoment m).line.badCount ≤ 2 := hfew
      dsimp only at hexec
      rw [if_pos hfew'] at hexec
      refine ⟨_, hexec, by simp, ?_, onlyChanges_of_effect
        (hwindow.trans ((clear_onlyChanges_ofClassC rfl).mono (by decide)) rfl) (by simp)⟩
      rw [if_pos hfew, State.keepStore_present]
      exact State.clear_present_self _ _
    · have hmany : ¬(s.atMoment m).line.badCount ≤ 2 := hfew
      dsimp only at hexec
      rw [if_neg hmany] at hexec
      refine ⟨_, hexec, by simp, ?_, onlyChanges_of_effect hwindow (by simp)⟩
      rw [if_neg hfew]
      simp

end Sys2Proof.Machine
end

section
/-! SUPPORT. O31 and O32: frames heard on the line, the bad ones counted (section 3.6); neighbour senses (section 3.7). -/

namespace Sys2Proof.Machine

variable {ps : List Part} {s t u : State} {m : Moment} {k : FaultKind}

/-! ## A frame heard -/

theorem State.hears_iff : s.hears = true ↔ s.running = true ∧ s.line.bus ≠ .ignoringUntilTen := by
  simp [State.hears]

/-- The state of the moment, in which the frame has made an idle line busy (R39). -/
def State.heardAt (m : Moment) (s : State) : State := (s.atMoment m).setLine s.line.occupied

theorem runFrame_of_hears (effect : State → State) (h : s.hears = true) :
    runFrame m effect s = .next (effect (s.heardAt m)).keepStore := by
  obtain ⟨hrun, hbus⟩ := State.hears_iff.mp h
  have hhear : State.hear effect (s.atMoment m) = effect (s.heardAt m) := if_neg hbus
  rw [runFrame, runCommand_of_running m _ hrun, hhear]

@[simp] theorem State.heardAt_faults (m : Moment) : (s.heardAt m).faults = s.faults := rfl

@[simp] theorem State.heardAt_station (m : Moment) : (s.heardAt m).station = s.station := rfl

@[simp] theorem State.heardAt_present (m : Moment) (k : FaultKind) : (s.heardAt m).present k = s.present k :=
  present_congr rfl k

@[simp] theorem State.heardAt_line (m : Moment) : (s.heardAt m).line = s.line.occupied := rfl

theorem heardAt_onlyChanges : onlyChanges [.transmission] (s.atMoment m) (s.heardAt m) :=
  occupied_onlyChanges (s := s.atMoment m)

/-- A frame's effect with the hearing of it. -/
theorem onlyChanges_of_heard (h : onlyChanges ps (s.heardAt m) t) (hstation : t.station = s.station)
    (hbus : Part.transmission ∈ ps) : onlyChanges ps s t.keepStore := by
  have hheard : onlyChanges ps (s.atMoment m) (s.heardAt m) := heardAt_onlyChanges.mono (by simpa using hbus)
  exact onlyChanges_of_effect (hheard.trans h rfl) hstation

/-! ## Bad frames (R55, R56) -/

theorem State.countBad_line : s.countBad.line = { s.line with badCount := s.line.badCount + 1 } := by
  unfold State.countBad
  dsimp only
  split
  · exact State.raise_line (k := .lineQuality) nofun
  · rfl

theorem State.countBad_faults (h : s.line.badCount ≠ 10) : s.countBad.faults = s.faults := by
  unfold State.countBad
  rw [if_neg (by simpa using h)]
  rfl

theorem State.countBad_present (h : s.line.badCount = 10) : s.countBad.present .lineQuality = true := by
  unfold State.countBad
  rw [if_pos (by simpa using h)]
  exact State.raise_present_self _

theorem State.countBad_station : s.countBad.station = s.station := by
  unfold State.countBad
  dsimp only
  split
  · exact State.raise_station _
  · rfl

theorem countBad_onlyChanges : onlyChanges [.quality, .faults] s s.countBad := by
  have hcounted : onlyChanges [.quality, .faults] s (s.setLine { s.line with badCount := s.line.badCount + 1 }) := by
    intro p
    cases p <;> simp [Part.same]
  unfold State.countBad
  dsimp only
  split
  · exact hcounted.trans ((raise_onlyChanges_ofClassC rfl).mono (by decide)) rfl
  · exact hcounted

theorem classify_of_spoiled {frame : LineFrame}
    (h : frame.check ≠ crc16 frame.checkedBits ∨ frame.endClean = false ∨ 24 < frame.length.toNat) :
    classify frame = .bad := by
  refine if_pos ?_
  rcases h with h | h | h <;> simp [h]

/-- A bad frame, one longer than a frame may be or not. -/
theorem exec_badFrame_of_long {frame : LineFrame} (h : s.hears = true) (hbad : classify frame = .bad)
    (hlong : 24 < frame.length.toNat) :
    exec (.badFrame m frame) s
      = .next (((s.heardAt m).countBad).setLine { ((s.heardAt m).countBad).line with bus := .ignoringUntilTen }).keepStore := by
  refine (runFrame_of_hears _ h).trans ?_
  rw [if_pos hbad]
  dsimp only
  rw [if_pos hlong]

theorem exec_badFrame_of_short {frame : LineFrame} (h : s.hears = true) (hbad : classify frame = .bad)
    (hshort : frame.length.toNat ≤ 24) :
    exec (.badFrame m frame) s = .next ((s.heardAt m).countBad).keepStore := by
  refine (runFrame_of_hears _ h).trans ?_
  rw [if_pos hbad]
  dsimp only
  rw [if_neg (by omega)]

/-- Settles O31: a spoiled frame is bad, a bad one is counted, an unknown one is not. -/
theorem badFramesAreCounted : Obligations.BadFramesAreCounted := by
  intro m frame s hhears
  have hcounted : onlyChanges [.transmission, .quality, .faults] (s.heardAt m) (s.heardAt m).countBad :=
    countBad_onlyChanges.mono (by decide)
  have hsame (h : s.line.badCount ≠ 10) : (s.heardAt m).countBad.faults = s.faults :=
    State.countBad_faults (s := s.heardAt m) h
  refine ⟨classify_of_spoiled, fun hbad => ?_, ?_⟩
  · by_cases hlong : 24 < frame.length.toNat
    · refine ⟨_, exec_badFrame_of_long hhears hbad hlong, ?_, fun hten => ?_, fun hten => ?_, fun _ => ?_,
        fun h => absurd hlong (by omega), ?_, onlyChanges_of_heard (hcounted.trans (fun p => ?_) ?_) ?_ (by decide)⟩
      · simp [State.countBad_line, Line.occupied]
      · rw [State.keepStore_present, State.setLine_present]
        exact State.countBad_present hten
      · simpa using hsame hten
      · simp
      · simp [State.countBad_line, Line.occupied]
      · cases p <;> simp [Part.same]
      · exact State.countBad_station
      · exact State.countBad_station
    · refine ⟨_, exec_badFrame_of_short hhears hbad (by omega), ?_, fun hten => ?_, fun hten => ?_,
        fun h => absurd h hlong, fun _ => ?_, ?_, onlyChanges_of_heard hcounted State.countBad_station (by decide)⟩
      · simp [State.countBad_line, Line.occupied]
      · rw [State.keepStore_present]
        exact State.countBad_present hten
      · simpa using hsame hten
      · simp [State.countBad_line, Line.occupied]
      · simp [State.countBad_line, Line.occupied]
  · refine ⟨_, runFrame_of_hears _ hhears, ?_, ?_, onlyChanges_of_heard (onlyChanges_refl _ _) rfl (by decide)⟩
    · simp [Line.occupied]
    · simp [Line.occupied]

/-! ## Neighbour senses (R58, R64) -/

theorem runLevels_of_running (m : Moment) (levels : Levels → Levels) (effect : State → State) (h : s.running = true) :
    runLevels m levels effect s
      = .next (effect ((s.atMoment m).setPins { (s.atMoment m).pins with levels := levels s.pins.levels })).keepStore := by
  have hrun : ((s.atMoment m).setPins { (s.atMoment m).pins with levels := levels s.pins.levels }).running = true := h
  exact congrArg Host.Outcome.next (if_pos hrun)

theorem setPins_levels_onlyChanges (v : Levels) :
    onlyChanges [.levels] s (s.setPins { s.pins with levels := v }) := by
  intro p
  cases p <;> simp [Part.same]

theorem Line.mapSense_sense (carEnd : CarEnd) (f : Sense → Sense) (l : Line) :
    (l.mapSense carEnd f).sense carEnd = f (l.sense carEnd) := by
  cases carEnd <;> rfl

theorem Line.mapSense_senseB (carEnd : CarEnd) (f : Sense → Sense) (l : Line) (h : carEnd = .endA) :
    (l.mapSense carEnd f).senseB = l.senseB := by
  subst h
  rfl

theorem Line.mapSense_senseA (carEnd : CarEnd) (f : Sense → Sense) (l : Line) (h : carEnd = .endB) :
    (l.mapSense carEnd f).senseA = l.senseA := by
  subst h
  rfl

theorem mapSense_onlyChanges (carEnd : CarEnd) (f : Sense → Sense) :
    onlyChanges [.senses] s (s.setLine (s.line.mapSense carEnd f)) := by
  intro p
  cases carEnd <;> cases p <;> simp [Part.same, Line.mapSense]

theorem Sense.input_filtered (now : Nat) (level : Bool) (v : Sense) : (v.input now level).filtered = v.filtered := by
  unfold Sense.input
  split <;> rfl

theorem Sense.input_changing (now : Nat) (level : Bool) (v : Sense) :
    (v.input now level).changing = if level = v.filtered then none else some (v.changing.getD now) := by
  unfold Sense.input
  split <;> rfl

/-- With references taken CONSIST_CHANGED is present exactly while a sense differs from its reference. -/
theorem State.reformConsistChanged_present (h : s.line.phase = .completionWait ∨ s.line.phase = .complete) :
    s.reformConsistChanged.present .consistChanged = s.line.changed := by
  unfold State.reformConsistChanged
  rw [if_pos h]
  split
  next hchanged =>
    rw [hchanged]
    split
    next hpresent => exact hpresent
    next => exact raise_present_self _
  next hsame =>
    rw [clear_present_self]
    exact (Bool.eq_false_iff.mpr hsame).symm

theorem State.reformConsistChanged_of_before (h : s.line.phase ≠ .completionWait) (h' : s.line.phase ≠ .complete) :
    s.reformConsistChanged = s := if_neg (by simp [h, h'])

theorem reformConsistChanged_onlyChanges : onlyChanges Part.ofClassB s s.reformConsistChanged := by
  unfold State.reformConsistChanged
  split
  · split
    · split
      · exact onlyChanges_refl _ _
      · exact raise_onlyChanges_ofClassB nofun
    · exact clear_onlyChanges_ofClassB _
  · exact onlyChanges_refl _ _

theorem State.reformConsistChanged_stands :
    s.reformConsistChanged.line = s.line ∧ s.reformConsistChanged.station = s.station := by
  unfold State.reformConsistChanged
  split
  · split
    · split
      · exact ⟨rfl, rfl⟩
      · exact ⟨raise_line (k := .consistChanged) nofun, raise_station _⟩
    · exact ⟨clear_line _, by simp⟩
  · exact ⟨rfl, rfl⟩

theorem Line.changed_of_references {l : Line} {refs : Bool × Bool} (h : l.references = some refs) :
    l.changed = decide (l.senseA.filtered ≠ refs.1 ∨ l.senseB.filtered ≠ refs.2) := by
  obtain ⟨a, b⟩ := refs
  rw [Line.changed, h]
  simp only [ne_eq, Bool.decide_or, decide_not, bne, ← Bool.beq_eq_decide_eq]

/-- The state of the moment with one sense settled. -/
def State.senseSettled (m : Moment) (carEnd : CarEnd) (s : State) : State :=
  (s.atMoment m).setLine (s.line.mapSense carEnd Sense.settle)

theorem Line.mapSense_stands (carEnd : CarEnd) (f : Sense → Sense) (l : Line) :
    (l.mapSense carEnd f).phase = l.phase ∧ (l.mapSense carEnd f).references = l.references := by
  cases carEnd <;> exact ⟨rfl, rfl⟩

/-- The level inputs with one sense input at a level. -/
def sensedLevels (carEnd : CarEnd) (level : Bool) (v : Levels) : Levels :=
  match carEnd with
  | .endA => { v with senseA := level }
  | .endB => { v with senseB := level }

theorem exec_neighbourSenseInput (carEnd : CarEnd) (level : Bool) (h : s.running = true) :
    exec (.neighbourSenseInput m carEnd level) s
      = .next (((s.atMoment m).setPins { (s.atMoment m).pins with levels := sensedLevels carEnd level s.pins.levels }).setLine
          (s.line.mapSense carEnd (Sense.input (s.instant m) level))).keepStore :=
  runLevels_of_running m (sensedLevels carEnd level)
    (fun t => t.setLine (t.line.mapSense carEnd (Sense.input t.clock level))) h

/-- Settles O32: the filter times a level that differs, and its result is held against the references. -/
theorem neighbourSenseIsFiltered : Obligations.NeighbourSenseIsFiltered := by
  intro m carEnd level s hrun
  refine ⟨⟨_, exec_neighbourSenseInput carEnd level hrun, fun h => ?_, fun h => ?_, ?_, ?_, fun h => ?_, fun h => ?_,
    onlyChanges_of_effect (m := m) (((setPins_levels_onlyChanges _).mono (by decide)).trans
      ((mapSense_onlyChanges _ _).mono (by decide)) rfl) rfl⟩, fun hdue => ?_⟩
  · simp [h, sensedLevels]
  · simp [h, sensedLevels]
  · rw [State.keepStore_line]
    exact (congrArg Sense.filtered (Line.mapSense_sense _ _ _)).trans (Sense.input_filtered _ _ _)
  · rw [State.keepStore_line]
    exact (congrArg Sense.changing (Line.mapSense_sense _ _ _)).trans (Sense.input_changing _ _ _)
  · rw [State.keepStore_line]
    exact Line.mapSense_senseB _ _ _ h
  · rw [State.keepStore_line]
    exact Line.mapSense_senseA _ _ _ h
  · obtain ⟨hline, hstation⟩ := State.reformConsistChanged_stands (s := s.senseSettled m carEnd)
    obtain ⟨hphase, hrefs⟩ := Line.mapSense_stands carEnd Sense.settle s.line
    have hsettled : onlyChanges (Part.also Part.ofClassB [.senses]) (s.atMoment m) (s.senseSettled m carEnd) :=
      (mapSense_onlyChanges (s := s.atMoment m) carEnd Sense.settle).mono (by decide)
    have hkept : ((s.senseSettled m carEnd).reformConsistChanged).keepStore.line = s.line.mapSense carEnd Sense.settle := by
      rw [State.keepStore_line, hline]
      rfl
    refine ⟨((s.senseSettled m carEnd).reformConsistChanged).keepStore,
      runCommand_due (timer := fun u => (u.line.sense carEnd).changing) hrun hdue, ?_, fun h => ?_, fun h => ?_,
      fun refs hmem h => ?_, fun h h' => ?_,
      onlyChanges_of_effect (hsettled.trans (reformConsistChanged_onlyChanges.mono (by decide)) rfl) hstation⟩
    · rw [hkept]
      exact Line.mapSense_sense _ _ _
    · rw [hkept]
      exact Line.mapSense_senseB _ _ _ h
    · rw [hkept]
      exact Line.mapSense_senseA _ _ _ h
    · rw [hkept, State.keepStore_present, State.reformConsistChanged_present (by rwa [← hphase] at h)]
      exact Line.changed_of_references (hrefs.trans hmem)
    · rw [State.reformConsistChanged_of_before (by rwa [← hphase] at h) (by rwa [← hphase] at h')]
      simp [State.senseSettled]

end Sys2Proof.Machine
end

section
/-! SUPPORT. O29: the STATE of this moment (sections 3.4 and 3.5), and the values that blocks take of each other. -/

namespace Sys2Proof.Machine

variable {ps : List Part} {s t u : State} {m : Moment} {k : FaultKind}

/-! ## Fields of a STATE (R44, R85) -/

theorem toNat_narrow (w x : Nat) : (narrow w x).toNat = min x (2 ^ w - 1) := by
  have hpos := Nat.two_pow_pos w
  rw [narrow, BitVec.toNat_ofNat, Nat.mod_eq_of_lt (by omega)]

theorem toNat_narrow_sixteen (x : Nat) : (narrow 16 x).toNat = min 65535 x :=
  (toNat_narrow 16 x).trans (Nat.min_comm _ _)

theorem clampInt_le {lo hi x : Int} (h : lo ≤ hi) : lo ≤ clampInt lo hi x ∧ clampInt lo hi x ≤ hi := by
  unfold clampInt
  split
  · omega
  · split <;> omega

theorem clampInt_of_mem {lo hi x : Int} (hlo : lo ≤ x) (hhi : x ≤ hi) : clampInt lo hi x = x := by
  rw [clampInt, if_neg (by omega), if_neg (by omega)]

theorem State.position_le {p : Nat} (h : s.position = some p) : p ≤ 1000000 := by
  unfold State.position at h
  split at h
  · have hclamped := clampInt_le (x := s.rack.markBase + s.rack.travel / 10000) (show (0 : Int) ≤ 1000000 by decide)
    injection h with h
    omega
  · cases h

theorem State.publishedSpeed_le (s : State) : s.publishedSpeed ≤ 400 := by
  unfold State.publishedSpeed
  split <;> omega

theorem toInt_ofInt_clamped {x : Int} (hlo : -500 ≤ x) (hhi : x ≤ 500) :
    (BitVec.ofInt 16 (clampInt (-500) 500 x)).toInt = x := by
  rw [clampInt_of_mem hlo hhi, BitVec.toInt_ofInt, Int.bmod_eq_of_le (by omega) (by omega)]

/-! ## The values that blocks take of each other (R73, R74, R88, R96, R103, R106) -/

theorem State.gravityTerm_eq :
    s.gravityTerm
      = if s.rack.standstill = false ∧ s.rack.movingDir = .up then -gravity s.rack.grade else gravity s.rack.grade := by
  unfold State.gravityTerm State.direction State.gravityHere
  cases s.rack.standstill <;> cases s.rack.movingDir <;> rfl

theorem PeerEntry.inSet_eq (e : PeerEntry) : e.inSet = decide (e.state = .fresh ∨ e.state = .stale) := by
  unfold PeerEntry.inSet
  cases e.state <;> rfl

theorem valuesFormed (s : State) : s.valuesFormed := by
  refine ⟨?_, rfl, State.gravityTerm_eq, ?_, fun e _ => ⟨rfl, fun h => ⟨if_pos h, if_pos h⟩, fun h => ⟨?_, ?_⟩⟩⟩
  · rfl
  · exact List.filter_congr fun e _ => e.inSet_eq
  · exact if_neg (by simp [h])
  · exact if_neg (by simp [h])

/-! ## The STATE placed at the period's end (R44, R52) -/

/-- The period begun anew, and the sequence risen. -/
def State.periodNumbered (s : State) : State :=
  s.setLine { s.line with statePeriod := some s.clock, nextSequence := s.line.nextSequence + 1 }

theorem State.placeState_of_period (n : Fin 8) :
    (s.setLine { s.line with statePeriod := some s.clock }).placeState n
      = s.periodNumbered.placeHeld (buildFrame n (.state s.stateReport)) .state := by
  have hreport : (s.setLine { s.line with statePeriod := some s.clock }).stateReport = s.stateReport := rfl
  rw [State.placeState, hreport]
  rfl

theorem exec_statePeriodExpiry_due {n : Fin 8} (hrun : s.running = true) (hown : s.line.own = some n)
    (hdue : timerReached s.line.statePeriod (s.instant m) (ms 50) = true) :
    exec (.statePeriodExpiry m) s
      = .next ((s.atMoment m).periodNumbered.placeHeld
          (buildFrame n (.state (s.atMoment m).stateReport)) .state).keepStore := by
  have hown' : ((s.atMoment m).setLine { (s.atMoment m).line with statePeriod := some (s.atMoment m).clock }).line.own
      = some n := hown
  refine (runCommand_due (timer := fun u => u.line.statePeriod) hrun hdue).trans ?_
  dsimp only
  rw [hown']
  dsimp only
  rw [State.placeState_of_period]

theorem periodNumbered_onlyChanges : onlyChanges [.lineTimers] s s.periodNumbered := by
  intro p
  cases p <;> simp [Part.same, State.periodNumbered]

/-- A frame placed behind another leaves that one. -/
theorem State.placeHeld_stateSlot (f : LineFrame) (kind : StateSlotKind) (h : s.line.sending = some .state) :
    (s.placeHeld f kind).line.stateSlot = s.line.stateSlot := by
  rw [placeHeld_of_sending f kind h]
  rfl

theorem State.placeHeld_station (f : LineFrame) (kind : StateSlotKind) : (s.placeHeld f kind).station = s.station := by
  unfold State.placeHeld
  dsimp only
  split <;> rfl

theorem Line.offer_timers (l : Line) :
    l.offer.statePeriod = l.statePeriod ∧ l.offer.nextSequence = l.nextSequence := by
  obtain ⟨sending, bus, h⟩ := l.offer_eq
  rw [h]
  exact ⟨rfl, rfl⟩

theorem State.placeHeld_timers (f : LineFrame) (kind : StateSlotKind) :
    (s.placeHeld f kind).line.statePeriod = s.line.statePeriod
      ∧ (s.placeHeld f kind).line.nextSequence = s.line.nextSequence := by
  by_cases h : s.line.sending = some .state
  · rw [placeHeld_of_sending f kind h]
    exact ⟨rfl, rfl⟩
  · rw [placeHeld_of_free f kind h]
    exact Line.offer_timers _

/-- An offer on an idle line begins the chosen slot, of which there is one while the STATE slot holds a frame. -/
theorem Line.offer_of_stateSlot {l : Line} (hbus : l.bus = .idle) (hsending : l.sending = none)
    (hslot : l.stateSlot.isSome = true) :
    l.offer.bus = .busy
      ∧ l.offer.sending
        = if l.alert.isSome then some .alert
          else if l.orders ≠ [] ∧ l.orderHoldOff = none ∧ l.orderPassed = false then some .order
          else some .state := by
  have hchoice := l.choice_eq
  rw [if_pos hslot] at hchoice
  rw [← hchoice]
  obtain ⟨slot, -, -, hsome, hoffer⟩ | ⟨-, hnone⟩ := l.offer_cases
  · rw [hoffer, hsome]
    exact ⟨rfl, rfl⟩
  · rw [hnone hbus hsending] at hchoice
    split_ifs at hchoice

/-- On an idle line the slot of R48's order is begun at once. -/
theorem State.placeHeld_of_idle (f : LineFrame) (kind : StateSlotKind) (hbus : s.line.bus = .idle)
    (hsending : s.line.sending = none) :
    (s.placeHeld f kind).line.bus = .busy
      ∧ (s.placeHeld f kind).line.sending
        = if s.line.alert.isSome then some .alert
          else if s.line.orders ≠ [] ∧ s.line.orderHoldOff = none ∧ s.line.orderPassed = false then some .order
          else some .state := by
  rw [placeHeld_of_free f kind (by simp [hsending])]
  exact Line.offer_of_stateSlot (l := { s.line with stateSlot := some (s.heldNow f kind) }) hbus hsending rfl

/-- Settles O29: the STATE that a due period places. -/
theorem statePeriodPlacesState : Obligations.StatePeriodPlacesState := by
  intro m n s hrun hown hdue
  have hslot := State.placeHeld_slot (s := (s.atMoment m).periodNumbered)
    (buildFrame n (.state (s.atMoment m).stateReport)) .state
  have htimers := State.placeHeld_timers (s := (s.atMoment m).periodNumbered)
    (buildFrame n (.state (s.atMoment m).stateReport)) .state
  have hplaced : onlyChanges [.slots, .transmission, .lineTimers] (s.atMoment m)
      ((s.atMoment m).periodNumbered.placeHeld (buildFrame n (.state (s.atMoment m).stateReport)) .state) :=
    (periodNumbered_onlyChanges.mono (by decide)).trans ((placeHeld_onlyChanges _ _).mono (by decide)) rfl
  refine ⟨_, exec_statePeriodExpiry_due hrun hown hdue, ?_, ?_, ?_, fun h => ?_, fun hbus hsending => ?_,
    rfl, rfl, rfl, rfl, rfl, rfl, ?_, fun p hp => ?_, fun hp => ?_, toNat_narrow_sixteen _, toNat_narrow_sixteen _,
    toNat_narrow_sixteen _, toNat_narrow_sixteen _, toNat_narrow_sixteen _, rfl, rfl, rfl, rfl, rfl, toInt_ofInt_clamped, valuesFormed s,
    onlyChanges_of_effect hplaced ?_⟩
  · rw [State.keepStore_line]
    exact htimers.1
  · rw [State.keepStore_line]
    exact htimers.2
  · rw [State.keepStore_line]
    exact hslot
  · rw [State.keepStore_line]
    exact State.placeHeld_stateSlot (s := (s.atMoment m).periodNumbered) _ _ h
  · rw [State.keepStore_line]
    exact State.placeHeld_of_idle (s := (s.atMoment m).periodNumbered) _ _ hbus hsending
  · have hspeed := s.publishedSpeed_le
    exact (toNat_narrow 16 s.publishedSpeed).trans (Nat.min_eq_left (by omega))
  · have hbound := State.position_le hp
    have hfield : (s.atMoment m).stateReport.position = narrow 24 (s.position.getD 0) := rfl
    rw [hfield, toNat_narrow, hp]
    exact Nat.min_eq_left (hbound.trans (by decide))
  · have hfield : (s.atMoment m).stateReport.position = narrow 24 (s.position.getD 0) := rfl
    rw [hfield, hp]
    rfl
  · exact State.placeHeld_station _ _

end Sys2Proof.Machine
end

section
/-! SUPPORT. O28: what the own JOIN sent opens (sections 3.7, 11.1 and 11.2). -/

namespace Sys2Proof.Machine

variable {ps : List Part} {s t u : State} {m : Moment} {k : FaultKind}

/-! ## A frame of parts that holds the store -/

theorem Part.same_trans_of_ne_store {p : Part} (hp : p ≠ .store) (hst : p.same s t) (htu : p.same t u) : p.same s u := by
  cases p
  case store => exact absurd rfl hp
  all_goals simp_all [Part.same]

theorem onlyChanges.trans_of_store (hst : onlyChanges ps s t) (htu : onlyChanges ps t u) (hstore : Part.store ∈ ps) :
    onlyChanges ps s u := by
  intro p
  by_cases hp : p = .store
  · exact .inl (hp ▸ hstore)
  obtain hmem | hst := hst p
  · exact .inl hmem
  · exact (htu p).imp_right (Part.same_trans_of_ne_store hp hst)

/-- `onlyChanges_of_effect` where the station may change, with the store among the parts. -/
theorem onlyChanges_of_effect_of_store (h : onlyChanges ps (s.atMoment m) t) (hstore : Part.store ∈ ps) :
    onlyChanges ps s t.keepStore := by
  have hmoment : onlyChanges ps s (s.atMoment m) := (atMoment_onlyChanges m s).mono (List.nil_subset _)
  have hkeep : onlyChanges ps t t.keepStore := (keepStore_onlyChanges t).mono (List.nil_subset _)
  exact (hmoment.trans h (by simp)).trans_of_store hkeep hstore

/-! ## The line as an ALERT is placed (R49, R111) -/

/-- The line is another's but for the ALERT slot and the transmission. -/
def Line.Alerted (l l' : Line) : Prop :=
  ∃ alert behind sending bus, l' = { l with alert := alert, alertBehind := behind, sending := sending, bus := bus }

theorem Line.Alerted.refl (l : Line) : l.Alerted l := ⟨_, _, _, _, rfl⟩

theorem placeAlert_alerted (k : FaultKind) : s.line.Alerted (s.placeAlert k).line := by
  unfold State.placeAlert
  split
  · exact .refl _
  · dsimp only
    split
    · exact ⟨_, _, _, _, rfl⟩
    · rename_i n _ _
      obtain ⟨sending, bus, h⟩ := Line.offer_eq
        { s.line with alert := some (buildFrame n (.alert (BitVec.ofNat 8 k.code) (BitVec.ofNat 8 (n.val + 1)))) }
      exact ⟨_, _, _, _, h⟩

theorem assertPull_alerted (k : FaultKind) : s.line.Alerted (s.assertPull k).line := by
  have hlatch : ((s.setBrake { s.brake with ownPull := true }).setLatch).line = s.line := by simp
  unfold State.assertPull
  split
  · exact .refl _
  · exact hlatch ▸ placeAlert_alerted k

theorem raise_alerted (k : FaultKind) : s.line.Alerted (s.raise k).line := by
  unfold State.raise
  split
  · exact .refl _
  have hrest (u : State) : ((u.lowerLimit 0).retestPermits).line = u.line := by simp
  unfold State.react
  split
  · rw [hrest]
    exact assertPull_alerted (s := s.recordOccurrence k) k
  · rw [hrest]
    exact .refl _
  · exact .refl _

/-! ## The end of RESUMING (R196, R198) -/

theorem beginStop_alerted : s.line.Alerted s.beginStop.line := raise_alerted .supplyFail

theorem stopStored_onlyChanges :
    onlyChanges [.station, .store] s
      ((s.setStation { s.station with storing := true }).setStore { s.store with valid := true }) := by
  intro p
  cases p <;> simp [Part.same]

theorem beginStop_onlyChanges : onlyChanges (Part.also Part.ofClassA [.station, .store]) s s.beginStop := by
  have hraised : onlyChanges (Part.also Part.ofClassA [.station, .store]) s (s.raise .supplyFail) :=
    (raise_onlyChanges .supplyFail).mono (by decide)
  exact hraised.trans_of_store (stopStored_onlyChanges.mono (by decide)) (by decide)

theorem State.beginStop_station : s.beginStop.station = { s.station with storing := true } := by
  simp [State.beginStop]

/-- The station as a rejoin is done, before the supply is asked. -/
def State.rejoined (s : State) : State :=
  if s.brake.proof.results.p1 = .pass ∧ s.brake.proof.results.p2 = .pass then
    s.setStation { s.station with life := .ready }
  else s.enterProving

theorem State.rejoined_station :
    s.rejoined.station
      = { s.station with
          life := if s.brake.proof.results = { p1 := .pass, p2 := .pass } then .ready else .proving } := by
  unfold State.rejoined
  split
  next h => rw [if_pos (PerPinion.eq_pass_iff.mpr h)]; rfl
  next h => rw [if_neg fun hresults => h (PerPinion.eq_pass_iff.mp hresults)]; rfl

theorem State.rejoined_stands : s.rejoined.line = s.line ∧ s.rejoined.pins = s.pins := by
  unfold State.rejoined
  split <;> exact ⟨rfl, rfl⟩

theorem enterProving_onlyChanges : onlyChanges [.station, .store, .proof] s s.enterProving := by
  intro p
  cases p <;> simp [Part.same, State.enterProving]

theorem rejoined_onlyChanges : onlyChanges [.station, .store, .proof] s s.rejoined := by
  unfold State.rejoined
  split
  · intro p
    cases p <;> simp [Part.same]
  · exact enterProving_onlyChanges

theorem State.rejoinDone_of_resuming (h : s.station.life = .resuming) :
    s.rejoinDone = if s.pins.levels.supplyWarn then s.rejoined.beginStop else s.rejoined := by
  have hpins : s.rejoined.pins = s.pins := State.rejoined_stands.2
  rw [State.rejoinDone, if_pos h, ← hpins]
  rfl

theorem State.rejoinDone_station (h : s.station.life = .resuming) :
    s.rejoinDone.station
      = { s.station with
          life := if s.brake.proof.results = { p1 := .pass, p2 := .pass } then .ready else .proving
          storing := s.station.storing || s.pins.levels.supplyWarn } := by
  rw [rejoinDone_of_resuming h]
  cases hwarn : s.pins.levels.supplyWarn
  · rw [if_neg nofun, rejoined_station, Bool.or_false]
  · rw [if_pos rfl, beginStop_station, rejoined_station, Bool.or_true]

theorem rejoinDone_alerted : s.line.Alerted s.rejoinDone.line := by
  by_cases h : s.station.life = .resuming
  · rw [State.rejoinDone_of_resuming h, ← (State.rejoined_stands (s := s)).1]
    split
    · exact beginStop_alerted
    · exact .refl _
  · rw [State.rejoinDone, if_neg h]
    exact .refl _

theorem rejoinDone_onlyChanges : onlyChanges (Part.also Part.ofClassA [.station, .store]) s s.rejoinDone := by
  have hrejoined : onlyChanges (Part.also Part.ofClassA [.station, .store]) s s.rejoined :=
    rejoined_onlyChanges.mono (by decide)
  by_cases h : s.station.life = .resuming
  · rw [State.rejoinDone_of_resuming h]
    split
    · exact hrejoined.trans_of_store beginStop_onlyChanges (by decide)
    · exact hrejoined
  · rw [State.rejoinDone, if_neg h]
    exact onlyChanges_refl _ _

/-! ## The own JOIN sent (R61, R63) -/

/-- The line as the own JOIN has been sent, in the phase that follows. -/
def Line.joinOpened (now : Nat) (phase : LinePhase) (completion : Timer) (l : Line) : Line :=
  { l with
    sending := none, bus := .busy, stateSlot := l.stateBehind, stateBehind := none, discards := 0
    statePeriod := some now, chainOutDue := some now, references := some (l.senseA.filtered, l.senseB.filtered)
    joinRetry := none, phase := phase, completionTimer := completion }

/-- The state as the own JOIN has left its slot, in the phase that follows. -/
def State.joinOpened (phase : LinePhase) (completion : Timer) (s : State) : State :=
  s.slotSent.setLine (s.line.joinOpened s.clock phase completion)

theorem State.slotSent_clock : s.slotSent.clock = s.clock := by simp [State.slotSent]

theorem State.joinSent_of_rejoin (last : Bool) :
    s.slotSent.joinSent last true = (s.joinOpened .complete s.line.completionTimer).rejoinDone := by
  simp only [State.joinSent, State.joinOpened, State.slotSent_line, State.slotSent_clock, Line.joinOpened,
    State.setLine_line, State.setLine_setLine, if_pos]

theorem State.joinSent_of_last :
    s.slotSent.joinSent true false = (s.joinOpened .complete s.line.completionTimer).consistComplete := by
  simp only [State.joinSent, State.joinOpened, State.slotSent_line, State.slotSent_clock, Line.joinOpened,
    State.setLine_line, State.setLine_setLine, if_pos, Bool.false_eq_true, if_neg, not_false_eq_true]

theorem State.joinSent_of_other :
    s.slotSent.joinSent false false = s.joinOpened .completionWait (some s.clock) := by
  simp [State.joinSent, State.joinOpened, State.slotSent_line, State.slotSent_clock, Line.joinOpened]

theorem joinOpened_onlyChanges (phase : LinePhase) (completion : Timer) :
    onlyChanges (Part.also Part.ofClassA [.numbering, .chainOut, .lineTimers, .station, .store]) s
      (s.joinOpened phase completion) := by
  have hsent : onlyChanges (Part.also Part.ofClassA [.numbering, .chainOut, .lineTimers, .station, .store]) s s.slotSent :=
    slotSent_onlyChanges.mono (by decide)
  have hopened : onlyChanges [.slots, .transmission, .numbering, .chainOut, .lineTimers] s.slotSent
      (s.joinOpened phase completion) := by
    intro p
    cases p <;> simp [Part.same, State.joinOpened, State.slotSent_line, Line.joinOpened]
  exact hsent.trans_of_store (hopened.mono (by decide)) (by decide)

/-- Whatever follows, the line of the own JOIN is opened, but for an ALERT. -/
theorem joinSent_alerted (last rejoin : Bool) :
    ∃ phase completion, (s.line.joinOpened s.clock phase completion).Alerted (s.slotSent.joinSent last rejoin).line
      ∧ (last = true ∨ rejoin = true → phase = .complete)
      ∧ (last = false → rejoin = false → phase = .completionWait ∧ completion = some s.clock) := by
  have hline : (s.joinOpened .complete s.line.completionTimer).consistComplete.line
      = s.line.joinOpened s.clock .complete s.line.completionTimer := by
    unfold State.consistComplete
    split <;> rfl
  cases rejoin
  · cases last
    · exact ⟨_, _, State.joinSent_of_other ▸ .refl _, by simp, fun _ _ => ⟨rfl, rfl⟩⟩
    · refine ⟨.complete, s.line.completionTimer, ?_, fun _ => rfl, by simp⟩
      rw [State.joinSent_of_last, hline]
      exact .refl _
  · refine ⟨.complete, s.line.completionTimer, ?_, fun _ => rfl, by simp⟩
    rw [State.joinSent_of_rejoin]
    exact rejoinDone_alerted (s := s.joinOpened .complete s.line.completionTimer)

theorem joinSent_onlyChanges (last rejoin : Bool) :
    onlyChanges (Part.also Part.ofClassA [.numbering, .chainOut, .lineTimers, .station, .store]) s
      (s.slotSent.joinSent last rejoin) := by
  cases rejoin
  · cases last
    · exact State.joinSent_of_other ▸ joinOpened_onlyChanges _ _
    · rw [State.joinSent_of_last]
      refine (joinOpened_onlyChanges .complete s.line.completionTimer).trans_of_store ?_ (by decide)
      unfold State.consistComplete
      split
      · exact enterProving_onlyChanges.mono (by decide)
      · exact onlyChanges_refl _ _
  · rw [State.joinSent_of_rejoin]
    exact (joinOpened_onlyChanges _ _).trans_of_store (rejoinDone_onlyChanges.mono (by decide)) (by decide)

theorem State.joinOpened_stands (phase : LinePhase) (completion : Timer) :
    (s.joinOpened phase completion).brake = s.brake ∧ (s.joinOpened phase completion).pins = s.pins := by
  simp [State.joinOpened, State.slotSent]

theorem State.consistComplete_of_joining (h : s.station.life = .joining) : s.consistComplete = s.enterProving := if_pos h

theorem State.joinOpened_station (phase : LinePhase) (completion : Timer) :
    (s.joinOpened phase completion).station = s.station := by
  simp [State.joinOpened, State.slotSent]

theorem exec_frameSent_of_join {held : HeldFrame} {last rejoin : Bool} (hrun : s.running = true)
    (hsending : s.line.sending = some .state) (hslot : s.line.stateSlot = some held)
    (hkind : held.kind = .join last rejoin) :
    exec (.frameSent m) s = .next ((s.atMoment m).slotSent.joinSent last rejoin).keepStore := by
  rw [exec_frameSent_running hrun, State.frameSent_of_state (s := s.atMoment m) hsending hslot, hkind]

/-- Settles O28: the own JOIN sent opens the line, and chain-out follows. -/
theorem ownJoinSentOpensConsist : Obligations.OwnJoinSentOpensConsist := by
  intro m last rejoin s hrun
  refine ⟨fun hsending hheld => ?_, fun hdue => ?_⟩
  · obtain ⟨held, hslot, hkind⟩ := hheld
    obtain ⟨phase, completion, ⟨alert, behind, sending, bus, hline⟩, hcomplete, hwait⟩ :=
      joinSent_alerted (s := s.atMoment m) last rejoin
    refine ⟨_, exec_frameSent_of_join hrun hsending hslot hkind, ?_, ?_, ?_, ?_, ?_, ?_, ?_, fun h => ?_,
      fun hlast hrejoin => ⟨?_, ?_, ?_⟩, fun hrejoin hlast hjoining => ?_, fun hrejoin hresuming => ?_,
      onlyChanges_of_effect_of_store (joinSent_onlyChanges last rejoin) (by decide)⟩
    · rw [State.keepStore_line, hline]; rfl
    · rw [State.keepStore_line, hline]; rfl
    · rw [State.keepStore_line, hline]; rfl
    · rw [State.keepStore_line, hline]; rfl
    · rw [State.keepStore_line, hline]; rfl
    · rw [State.keepStore_line, hline]; rfl
    · rw [State.keepStore_line, hline]; rfl
    · rw [State.keepStore_line, hline]
      exact hcomplete h
    · rw [State.keepStore_line, hline]
      exact (hwait hlast hrejoin).1
    · rw [State.keepStore_line, hline]
      exact (hwait hlast hrejoin).2
    · subst hlast hrejoin
      rw [State.keepStore_station, State.joinSent_of_other]
      exact State.joinOpened_station _ _
    · subst hlast hrejoin
      have hjoining' : ((s.atMoment m).joinOpened .complete s.line.completionTimer).station.life = .joining :=
        (congrArg Station.life (State.joinOpened_station _ _)).trans hjoining
      rw [State.keepStore_station, State.keepStore_brake, State.joinSent_of_last, State.atMoment_line,
        State.consistComplete_of_joining hjoining']
      exact ⟨rfl, rfl⟩
    · subst hrejoin
      have hstation := State.joinOpened_station (s := s.atMoment m) .complete s.line.completionTimer
      have hdone := State.rejoinDone_station (s := (s.atMoment m).joinOpened .complete s.line.completionTimer)
        ((congrArg Station.life hstation).trans hresuming)
      obtain ⟨hbrake, hpins⟩ := State.joinOpened_stands (s := s.atMoment m) .complete s.line.completionTimer
      rw [hstation, hbrake, hpins] at hdone
      rw [State.keepStore_station, State.joinSent_of_rejoin, State.atMoment_line, hdone]
      exact ⟨rfl, rfl⟩
  · exact ⟨_, runCommand_due (timer := fun u => u.line.chainOutDue) hrun hdue, by simp, by simp,
      onlyChanges_of_effect (m := m) (fun p => by cases p <;> simp [Part.same]) (by simp)⟩

end Sys2Proof.Machine
end

section
/-! SUPPORT. The peer table as it changes: claims, LOST entries, and the conditions that follow them (sections 4.2 to
4.4). -/

namespace Sys2Proof.Machine

variable {ps : List Part} {s t u : State} {m : Moment} {j k : FaultKind}

theorem State.reformEnforced_present (k : FaultKind) : s.reformEnforced.present k = s.present k := rfl

theorem State.reformValley_present (k : FaultKind) : s.reformValley.present k = s.present k := by
  unfold State.reformValley
  dsimp only
  split
  · exact lowerLimit_present _ _
  · rfl

theorem State.reformCabConflict_present_of_ne (h : j ≠ .cabConflict) (hj : j ≠ .loadSensor) :
    s.reformCabConflict.present j = s.present j := by
  unfold State.reformCabConflict
  split
  · split
    · rfl
    · exact raise_present_of_ne h hj
  · exact clear_present_of_ne h hj

/-- CAB_CONFLICT is present exactly with two claims or more (R77). -/
theorem State.reformCabConflict_present_self : s.reformCabConflict.present .cabConflict = decide (2 ≤ s.claimCount) := by
  unfold State.reformCabConflict
  split
  next h =>
    rw [decide_eq_true h]
    split
    next hpresent => exact hpresent
    next => exact raise_present_self _
  next h => rw [decide_eq_false h, clear_present_self]

theorem State.reformPeerLost_present_of_ne (h : j ≠ .peerLost) (hj : j ≠ .loadSensor) :
    s.reformPeerLost.present j = s.present j := by
  unfold State.reformPeerLost
  split
  · rfl
  · exact clear_present_of_ne h hj

/-- PEER_LOST goes with the last LOST entry (R71). -/
theorem State.reformPeerLost_present_self : s.reformPeerLost.present .peerLost = (s.present .peerLost && s.anyLost) := by
  unfold State.reformPeerLost
  split
  next h => rw [h, Bool.and_true]
  next h => rw [Bool.eq_false_iff.mpr h, Bool.and_false, clear_present_self]

theorem State.anyLost_congr (h : t.peers = s.peers) : t.anyLost = s.anyLost := by simp [State.anyLost, h]

theorem State.reformCabConflict_peers : s.reformCabConflict.peers = s.peers := by simp

/-- The conditions of a change in the peer table, but for the mass latch's. -/
theorem State.peersChanged_present (hj : j ≠ .loadSensor) :
    s.peersChanged.present j = s.reformCabConflict.reformPeerLost.present j := by
  unfold State.peersChanged
  rw [retestPermits_present _ hj, reformValley_present, reformEnforced_present]

theorem State.peersChanged_present_of_ne (hconflict : j ≠ .cabConflict) (hlost : j ≠ .peerLost) (hj : j ≠ .loadSensor) :
    s.peersChanged.present j = s.present j :=
  (peersChanged_present hj).trans
    ((reformPeerLost_present_of_ne hlost hj).trans (reformCabConflict_present_of_ne hconflict hj))

theorem State.peersChanged_cabConflict : s.peersChanged.present .cabConflict = decide (2 ≤ s.claimCount) :=
  (peersChanged_present (j := .cabConflict) nofun).trans
    ((reformPeerLost_present_of_ne (j := .cabConflict) nofun nofun).trans reformCabConflict_present_self)

theorem State.peersChanged_peerLost : s.peersChanged.present .peerLost = (s.present .peerLost && s.anyLost) := by
  rw [peersChanged_present (j := .peerLost) nofun, reformPeerLost_present_self,
    reformCabConflict_present_of_ne (j := .peerLost) nofun nofun,
    anyLost_congr reformCabConflict_peers]

theorem State.reformValley_localLimit_le : s.reformValley.speed.localLimit ≤ s.speed.localLimit := by
  unfold State.reformValley
  dsimp only
  split
  · exact Nat.min_le_left _ _
  · exact le_rfl

/-- As CAB_CONFLICT arises the local limit falls to 0 (R94). -/
theorem State.peersChanged_localLimit (h : s.present .cabConflict = false) (hclaims : 2 ≤ s.claimCount) :
    s.peersChanged.speed.localLimit = 0 := by
  have hraised : s.reformCabConflict = s.raise .cabConflict := by
    rw [State.reformCabConflict, if_pos hclaims, h]
    rfl
  have hzero : s.reformCabConflict.reformPeerLost.speed.localLimit = 0 := by
    have hclear : s.reformCabConflict.reformPeerLost.speed = s.reformCabConflict.speed := by
      unfold State.reformPeerLost
      split
      · rfl
      · exact clear_speed _
    rw [hclear, hraised]
    exact raise_localLimit nofun h
  have hrest : (s.reformCabConflict.reformPeerLost.reformEnforced.reformValley.retestPermits).speed
      = (s.reformCabConflict.reformPeerLost.reformEnforced.reformValley).speed := by simp
  refine Nat.le_zero.mp ?_
  calc s.peersChanged.speed.localLimit
      = (s.reformCabConflict.reformPeerLost.reformEnforced.reformValley).speed.localLimit := congrArg Speed.localLimit hrest
    _ ≤ s.reformCabConflict.reformPeerLost.speed.localLimit := reformValley_localLimit_le
    _ = 0 := hzero

theorem State.reformCabConflict_stands :
    s.reformCabConflict.line = s.line ∧ s.reformCabConflict.brake = s.brake := by
  unfold State.reformCabConflict
  split
  · split
    · exact ⟨rfl, rfl⟩
    · exact ⟨raise_line (k := .cabConflict) nofun, raise_brake (k := .cabConflict) nofun⟩
  · exact ⟨clear_line _, clear_brake _⟩

theorem State.reformPeerLost_stands : s.reformPeerLost.line = s.line ∧ s.reformPeerLost.brake = s.brake := by
  unfold State.reformPeerLost
  split
  · exact ⟨rfl, rfl⟩
  · exact ⟨clear_line _, clear_brake _⟩

/-- A change in the peer table is no matter of the line and the brake. -/
theorem State.peersChanged_stands : s.peersChanged.line = s.line ∧ s.peersChanged.brake = s.brake := by
  have hrest (u : State) : (u.reformEnforced.reformValley.retestPermits).line = u.line
      ∧ (u.reformEnforced.reformValley.retestPermits).brake = u.brake := by simp
  exact ⟨(hrest _).1.trans (reformPeerLost_stands.1.trans reformCabConflict_stands.1),
    (hrest _).2.trans (reformPeerLost_stands.2.trans reformCabConflict_stands.2)⟩

/-! ## The conditions as the obligations state them -/

theorem PeerEntry.claims_eq (e : PeerEntry) :
    e.claims
      = decide (e.kind = .cab ∧ (e.state = .fresh ∨ e.state = .stale ∨ e.state = .lost) ∧ e.report.cabActive = true) := by
  have hstate : (e.state == .fresh || e.state == .stale || e.state == .lost)
      = decide (e.state = .fresh ∨ e.state = .stale ∨ e.state = .lost) := by
    cases e.state <;> rfl
  have hkind : (e.kind == .cab) = decide (e.kind = .cab) := by
    cases e.kind <;> rfl
  rw [PeerEntry.claims, hstate, hkind, Bool.decide_and, Bool.decide_and, Bool.decide_eq_true, Bool.and_assoc]

theorem State.claimCount_eq :
    s.claimCount
      = (s.peers.toList.filter fun e =>
          decide (e.kind = .cab ∧ (e.state = .fresh ∨ e.state = .stale ∨ e.state = .lost) ∧ e.report.cabActive = true)).length := by
  rw [State.claimCount, List.countP_eq_length_filter, List.filter_congr fun e _ => e.claims_eq]

theorem State.anyLost_iff : s.anyLost = true ↔ ∃ i : Fin 8, s.peers[i].state = .lost := by
  rw [State.anyLost, List.any_eq_true, List.exists_mem_iff_getElem]
  simp [Fin.exists_iff]

/-- The conditions follow what a change has left of the table. -/
theorem State.peersChanged_claimsFollow (h : u.present .cabConflict = s.present .cabConflict) :
    u.peersChanged.claimsFollow s := by
  have hpeers : u.peersChanged.peers = u.peers := by simp
  refine ⟨?_, fun habsent hpresent => ?_⟩
  · rw [peersChanged_cabConflict, decide_eq_true_iff, claimCount_eq, hpeers]
  · rw [peersChanged_cabConflict, decide_eq_true_iff] at hpresent
    exact peersChanged_localLimit (h.trans habsent) hpresent

theorem State.peersChanged_lossesFollow (h : u.present .peerLost = s.present .peerLost) :
    u.peersChanged.lossesFollow s := by
  have hpeers : u.peersChanged.peers = u.peers := by simp
  have hlost : (∃ i : Fin 8, u.peersChanged.peers[i].state = .lost) ↔ u.anyLost = true := by
    rw [anyLost_iff, hpeers]
  unfold State.lossesFollow
  rw [peersChanged_peerLost, hlost, Bool.and_eq_true, h]

/-- The conditions follow also where only other parts differ. -/
theorem State.claimsFollow_congr (h : u.claimsFollow s) (hpeers : t.peers = u.peers)
    (hconflict : t.present .cabConflict = u.present .cabConflict) (hlimit : t.speed.localLimit = u.speed.localLimit) :
    t.claimsFollow s := by
  unfold State.claimsFollow
  rw [hpeers, hconflict, hlimit]
  exact h

theorem State.lossesFollow_congr (h : u.lossesFollow s) (hpeers : t.peers = u.peers)
    (hlost : t.present .peerLost = u.present .peerLost) : t.lossesFollow s := by
  unfold State.lossesFollow
  rw [hpeers, hlost]
  exact h

end Sys2Proof.Machine
end

section
/-! SUPPORT. O33: a number taken in chain order (section 3.7). -/

namespace Sys2Proof.Machine

variable {ps : List Part} {s t u : State} {m : Moment} {j k : FaultKind} {n : Fin 8}

/-! ## A number taken (R59 to R61, R66) -/

/-- The line with the number taken. -/
def State.numberTaken (n : Fin 8) (s : State) : State :=
  s.setLine { s.line with own := some n, phase := .joinWaiting, listenTimer := none, chainWaitTimer := none }

theorem numberTaken_onlyChanges : onlyChanges [.numbering] s (s.numberTaken n) := by
  intro p
  cases p <;> simp [Part.same, State.numberTaken]

theorem markSelf_onlyChanges : onlyChanges Part.ofPeers s (s.markSelf n) :=
  ((setPeer_onlyChanges _ _).mono (by decide)).trans (peersChanged_onlyChanges (s := s.setPeer n _)) rfl

theorem startReports_onlyChanges : onlyChanges [.outgoing] s s.startReports := by
  unfold State.startReports
  split
  · intro p
    cases p <;> simp [Part.same]
  · exact onlyChanges_refl _ _

theorem State.startReports_stands :
    s.startReports.line = s.line ∧ s.startReports.peers = s.peers ∧ s.startReports.faults = s.faults
      ∧ s.startReports.speed = s.speed ∧ s.startReports.station = s.station := by
  unfold State.startReports
  split <;> exact ⟨rfl, rfl, rfl, rfl, rfl⟩

/-- The line is another's but for the STATE slot and the transmission. -/
def Line.Slotted (l l' : Line) : Prop :=
  ∃ slot behind sending bus, l' = { l with stateSlot := slot, stateBehind := behind, sending := sending, bus := bus }

theorem State.placeHeld_slotted (f : LineFrame) (kind : StateSlotKind) : s.line.Slotted (s.placeHeld f kind).line := by
  by_cases h : s.line.sending = some .state
  · rw [placeHeld_of_sending f kind h]
    exact ⟨_, _, _, _, rfl⟩
  · rw [placeHeld_of_free f kind h]
    obtain ⟨sending, bus, hoffer⟩ := Line.offer_eq { s.line with stateSlot := some (s.heldNow f kind) }
    exact ⟨_, _, _, _, hoffer⟩

theorem State.placeHeld_stands (f : LineFrame) (kind : StateSlotKind) :
    (s.placeHeld f kind).peers = s.peers ∧ (s.placeHeld f kind).faults = s.faults
      ∧ (s.placeHeld f kind).speed = s.speed := by
  unfold State.placeHeld
  dsimp only
  split <;> exact ⟨rfl, rfl, rfl⟩

/-- The table as the own entry becomes SELF. -/
def State.selfMarked (n : Fin 8) (s : State) : State := ((s.numberTaken n).markSelf n).startReports

theorem State.takeNumber_eq : s.takeNumber n = (s.selfMarked n).placeJoin n := rfl

theorem State.selfMarked_line : (s.selfMarked n).line = (s.numberTaken n).line :=
  startReports_stands.1.trans peersChanged_stands.1

/-- The line with the number, but for the STATE slot and the transmission. -/
theorem State.takeNumber_slotted : (s.numberTaken n).line.Slotted (s.takeNumber n).line := by
  have hslotted := placeHeld_slotted (s := s.selfMarked n) ((s.selfMarked n).joinNow n)
    (.join (!(s.selfMarked n).summitNeighbour) (s.selfMarked n).line.rejoin)
  rw [← placeJoin_eq, selfMarked_line] at hslotted
  exact hslotted

theorem State.takeNumber_line :
    (s.takeNumber n).line.own = some n ∧ (s.takeNumber n).line.phase = .joinWaiting
      ∧ (s.takeNumber n).line.listenTimer = none ∧ (s.takeNumber n).line.chainWaitTimer = none := by
  obtain ⟨slot, behind, sending, bus, h⟩ := takeNumber_slotted (s := s) (n := n)
  rw [h]
  exact ⟨rfl, rfl, rfl, rfl⟩

/-- What the placing of the JOIN and the report timer leave of the table's change. -/
theorem State.takeNumber_stands :
    (s.takeNumber n).peers = ((s.numberTaken n).markSelf n).peers ∧ (s.takeNumber n).faults = ((s.numberTaken n).markSelf n).faults
      ∧ (s.takeNumber n).speed = ((s.numberTaken n).markSelf n).speed := by
  obtain ⟨-, hpeers, hfaults, hspeed, -⟩ := startReports_stands (s := (s.numberTaken n).markSelf n)
  have hplaced := placeHeld_stands (s := s.selfMarked n) ((s.selfMarked n).joinNow n)
    (.join (!(s.selfMarked n).summitNeighbour) (s.selfMarked n).line.rejoin)
  rw [← placeJoin_eq] at hplaced
  exact ⟨hplaced.1.trans hpeers, hplaced.2.1.trans hfaults, hplaced.2.2.trans hspeed⟩

theorem State.takeNumber_station : (s.takeNumber n).station = s.station := by
  have hplaced := placeHeld_station (s := s.selfMarked n) ((s.selfMarked n).joinNow n)
    (.join (!(s.selfMarked n).summitNeighbour) (s.selfMarked n).line.rejoin)
  rw [← placeJoin_eq] at hplaced
  refine hplaced.trans (startReports_stands.2.2.2.2.trans ?_)
  simp [State.markSelf, State.setPeer, State.numberTaken]

theorem State.takeNumber_self : (s.takeNumber n).peers[n].state = .self := by
  have hpeers : (s.takeNumber n).peers = s.peers.set n { PeerEntry.blank with state := .self } := by
    rw [takeNumber_stands.1]
    simp [State.markSelf, State.setPeer, State.numberTaken]
  simp [hpeers]

theorem State.takeNumber_claimsFollow (h : u.present .cabConflict = s.present .cabConflict) :
    (u.takeNumber n).claimsFollow s := by
  obtain ⟨hpeers, hfaults, hspeed⟩ := takeNumber_stands (s := u) (n := n)
  exact claimsFollow_congr (peersChanged_claimsFollow (u := (u.numberTaken n).setPeer n _) h) hpeers
    (present_congr hfaults _) (congrArg Speed.localLimit hspeed)

theorem State.takeNumber_lossesFollow (h : u.present .peerLost = s.present .peerLost) :
    (u.takeNumber n).lossesFollow s := by
  obtain ⟨hpeers, hfaults, -⟩ := takeNumber_stands (s := u) (n := n)
  exact lossesFollow_congr (peersChanged_lossesFollow (u := (u.numberTaken n).setPeer n _) h) hpeers
    (present_congr hfaults _)

theorem takeNumber_onlyChanges :
    onlyChanges (Part.also Part.ofPeers [.numbering, .slots, .transmission, .outgoing]) s (s.takeNumber n) := by
  have hnumbered : onlyChanges (Part.also Part.ofPeers [.numbering, .slots, .transmission, .outgoing]) s (s.numberTaken n) :=
    numberTaken_onlyChanges.mono (by decide)
  have hmarked := hnumbered.trans ((markSelf_onlyChanges (n := n)).mono (by decide))
    (by simp [State.numberTaken])
  have hstarted := hmarked.trans (startReports_onlyChanges.mono (by decide))
    (by simp [State.markSelf, State.setPeer, State.numberTaken])
  rw [State.takeNumber_eq, State.placeJoin_eq]
  exact hstarted.trans ((placeHeld_onlyChanges _ _).mono (by decide))
    (State.startReports_stands.2.2.2.2.trans (by simp [State.markSelf, State.setPeer, State.numberTaken]))

/-! ## Silence (R60) -/

theorem State.goSilent_line : s.goSilent.line = { s.line with phase := .silent, chainWaitTimer := none } :=
  raise_line (k := .consistIncomplete) nofun

theorem State.goSilent_present : s.goSilent.present .consistIncomplete = true := raise_present_self _

theorem State.goSilent_station : s.goSilent.station = s.station := raise_station _

theorem goSilent_onlyChanges : onlyChanges (Part.also Part.ofClassB [.numbering]) s s.goSilent := by
  have hline : onlyChanges (Part.also Part.ofClassB [.numbering]) s
      (s.setLine { s.line with phase := .silent, chainWaitTimer := none }) := by
    intro p
    cases p <;> simp [Part.same, Part.also, Part.ofClassB]
  exact hline.trans ((raise_onlyChanges_ofClassB (k := .consistIncomplete) nofun).mono (by decide)) rfl

/-! ## The chain wait (R60) -/

theorem State.tryTakeNumber_of_free (hphase : s.line.phase = .chainWait) (hchain : s.chainIn = true)
    (hheard : 1 ≤ s.line.highestHeard) (hn : n.val = s.line.highestHeard) : s.tryTakeNumber = s.takeNumber n := by
  have hlt : s.line.highestHeard < 8 := hn ▸ n.isLt
  obtain rfl : n = ⟨s.line.highestHeard, hlt⟩ := Fin.ext hn
  rw [State.tryTakeNumber, if_pos ⟨hphase, hchain, hheard⟩, dif_pos hlt]

theorem State.tryTakeNumber_of_full (hphase : s.line.phase = .chainWait) (hchain : s.chainIn = true)
    (h : 8 ≤ s.line.highestHeard) : s.tryTakeNumber = s.goSilent := by
  rw [State.tryTakeNumber, if_pos ⟨hphase, hchain, by omega⟩, dif_neg (by omega)]

theorem State.tryTakeNumber_of_not (h : ¬(s.line.phase = .chainWait ∧ s.chainIn = true ∧ 1 ≤ s.line.highestHeard)) :
    s.tryTakeNumber = s := if_neg h

/-- The chain wait begun at the end of the listen window. -/
def State.chainWaiting (s : State) : State :=
  s.setLine { s.line with listenTimer := none, phase := .chainWait, chainWaitTimer := some s.clock }

theorem chainWaiting_onlyChanges : onlyChanges [.numbering] s s.chainWaiting := by
  intro p
  cases p <;> simp [Part.same, State.chainWaiting]

/-- The listen window over, with no number yet. -/
def State.listened (s : State) : State := s.setLine { s.line with listenTimer := none }

theorem listened_onlyChanges : onlyChanges [.numbering] s s.listened := by
  intro p
  cases p <;> simp [Part.same, State.listened]

theorem exec_listenWindowEnd_due (hrun : s.running = true)
    (hdue : timerReached s.line.listenTimer (s.instant m) (ms 300) = true) :
    exec (.listenWindowEnd m) s
      = .next (if s.valleyNeighbour then (s.atMoment m).chainWaiting.tryTakeNumber
        else (s.atMoment m).listened.takeNumber 0).keepStore :=
  runCommand_due (timer := fun u => u.line.listenTimer) hrun hdue

/-- The level inputs with one chain input at a level. -/
def chainLevels (carEnd : CarEnd) (level : Bool) (v : Levels) : Levels :=
  match carEnd with
  | .endA => { v with chainA := level }
  | .endB => { v with chainB := level }

/-- The state of the moment with one chain input at a level. -/
def State.chained (m : Moment) (carEnd : CarEnd) (level : Bool) (s : State) : State :=
  (s.atMoment m).setPins { (s.atMoment m).pins with levels := chainLevels carEnd level s.pins.levels }

theorem exec_chainInChange_running (carEnd : CarEnd) (level : Bool) (hrun : s.running = true) :
    exec (.chainInChange m carEnd level) s = .next (s.chained m carEnd level).tryTakeNumber.keepStore :=
  runLevels_of_running m (chainLevels carEnd level) State.tryTakeNumber hrun

theorem chained_onlyChanges (carEnd : CarEnd) (level : Bool) :
    onlyChanges [.levels] (s.atMoment m) (s.chained m carEnd level) :=
  setPins_levels_onlyChanges (s := s.atMoment m) _

/-- The chain-in follows the input at the valley-side end alone. -/
theorem State.chained_chainIn (carEnd : CarEnd) (level : Bool) :
    (s.chained m carEnd level).chainIn = if carEnd = s.straps.orient then level else s.chainIn := by
  have hstraps : (s.chained m carEnd level).straps = s.straps := rfl
  unfold State.chainIn
  rw [hstraps]
  cases s.straps.orient <;> cases carEnd <;> rfl

/-! ## The number with everything that follows it -/

theorem State.claimsFollow.keepStore (h : u.claimsFollow s) : u.keepStore.claimsFollow s :=
  claimsFollow_congr h (by simp) (keepStore_present _) (by simp)

theorem State.lossesFollow.keepStore (h : u.lossesFollow s) : u.keepStore.lossesFollow s :=
  lossesFollow_congr h (by simp) (keepStore_present _)

/-- What O33 asks of the state `t` in which the number `n` has been taken. -/
def State.tookNumber (n : Fin 8) (s t : State) : Prop :=
  t.line.own = some n ∧ t.peers[n].state = .self ∧ t.line.phase = .joinWaiting ∧ t.line.listenTimer = none
    ∧ t.line.chainWaitTimer = none ∧ t.claimsFollow s ∧ t.lossesFollow s

theorem takeNumber_tookNumber (h : ∀ k, u.present k = s.present k) : s.tookNumber n (u.takeNumber n).keepStore := by
  have hkeep (v : State) : v.keepStore.peers = v.peers := by simp
  obtain ⟨hown, hphase, hlisten, hwait⟩ := State.takeNumber_line (s := u) (n := n)
  refine ⟨?_, ?_, ?_, ?_, ?_, (State.takeNumber_claimsFollow (h _)).keepStore,
    (State.takeNumber_lossesFollow (h _)).keepStore⟩
  · rw [State.keepStore_line, hown]
  · simp only [hkeep]
    exact State.takeNumber_self
  · rw [State.keepStore_line, hphase]
  · rw [State.keepStore_line, hlisten]
  · rw [State.keepStore_line, hwait]

/-- Settles O33: the number of the chain, or silence. -/
theorem numbersAreTakenInChainOrder : Obligations.NumbersAreTakenInChainOrder := by
  intro m carEnd level s hrun
  have hchain := State.chained_chainIn (m := m) (s := s) carEnd level
  refine ⟨fun hdue hvalley => ?_, fun hdue hvalley hnot => ?_, fun hdue hvalley hin h1 h8 => ?_,
    fun hdue hvalley hin h8 => ?_, fun hin hphase h1 h8 => ?_, fun hnot => ?_, fun hin hphase h8 => ?_, fun hdue => ?_,
    fun hdue => ?_⟩
  · obtain ⟨hown, hself, hphase, hlisten, -, hclaims, hlosses⟩ :=
      takeNumber_tookNumber (u := (s.atMoment m).listened) (s := s) (n := 0) fun _ => rfl
    have hexec := exec_listenWindowEnd_due hrun hdue
    rw [hvalley, if_neg nofun] at hexec
    exact ⟨_, hexec, hown, hphase, hlisten, hself, hclaims, hlosses, onlyChanges_of_effect
      ((listened_onlyChanges.mono (by decide)).trans takeNumber_onlyChanges rfl) State.takeNumber_station⟩
  · have hexec := exec_listenWindowEnd_due hrun hdue
    rw [hvalley, if_pos rfl, State.tryTakeNumber_of_not ?_] at hexec
    · exact ⟨_, hexec, by simp [State.chainWaiting], by simp [State.chainWaiting], by simp [State.chainWaiting],
        by simp [State.chainWaiting], onlyChanges_of_effect chainWaiting_onlyChanges rfl⟩
    · rintro ⟨-, hin, hheard⟩
      obtain hnone | hnone := hnot
      · exact absurd hin (by rw [show (s.atMoment m).chainWaiting.chainIn = s.chainIn from rfl, hnone]; nofun)
      · exact absurd hheard (by simp [State.chainWaiting, hnone])
  · have hexec := exec_listenWindowEnd_due hrun hdue
    obtain ⟨number, hnumber⟩ : ∃ n : Fin 8, n.val = s.line.highestHeard := ⟨⟨_, h8⟩, rfl⟩
    rw [hvalley, if_pos rfl, State.tryTakeNumber_of_free (s := (s.atMoment m).chainWaiting) rfl hin h1 hnumber] at hexec
    obtain ⟨hown, hself, hphase, hlisten, hwait, hclaims, hlosses⟩ :=
      takeNumber_tookNumber (u := (s.atMoment m).chainWaiting) (s := s) (n := number) fun _ => rfl
    refine ⟨_, hexec, fun n hn => ?_, by rw [hown]; rfl, hphase, hlisten, hwait, hclaims, hlosses, onlyChanges_of_effect
      ((chainWaiting_onlyChanges.mono (by decide)).trans takeNumber_onlyChanges rfl) State.takeNumber_station⟩
    obtain rfl : number = n := Option.some.inj (hown.symm.trans hn)
    exact ⟨hnumber, hself⟩
  · have hexec := exec_listenWindowEnd_due hrun hdue
    rw [hvalley, if_pos rfl, State.tryTakeNumber_of_full (s := (s.atMoment m).chainWaiting) rfl hin h8] at hexec
    refine ⟨_, hexec, ?_, ?_, ?_, ?_, ?_, onlyChanges_of_effect
      ((chainWaiting_onlyChanges.mono (by decide)).trans goSilent_onlyChanges rfl) State.goSilent_station⟩
    · rw [State.keepStore_line, State.goSilent_line]
    · rw [State.keepStore_line, State.goSilent_line]
      rfl
    · rw [State.keepStore_line, State.goSilent_line]
      rfl
    · rw [State.keepStore_line, State.goSilent_line]
    · rw [State.keepStore_present]
      exact State.goSilent_present
  · have hexec := exec_chainInChange_running (m := m) carEnd level hrun
    obtain ⟨number, hnumber⟩ : ∃ n : Fin 8, n.val = s.line.highestHeard := ⟨⟨_, h8⟩, rfl⟩
    rw [State.tryTakeNumber_of_free (s := s.chained m carEnd level) hphase (hchain.trans hin) h1 hnumber] at hexec
    obtain ⟨hown, hself, hphase', -, hwait, hclaims, hlosses⟩ :=
      takeNumber_tookNumber (u := s.chained m carEnd level) (s := s) (n := number) fun _ => rfl
    refine ⟨_, hexec, fun n hn => ?_, by rw [hown]; rfl, hphase', hwait, hclaims, hlosses, onlyChanges_of_effect
      (((chained_onlyChanges carEnd level).mono (by decide)).trans (takeNumber_onlyChanges.mono (by decide)) rfl)
      State.takeNumber_station⟩
    obtain rfl : number = n := Option.some.inj (hown.symm.trans hn)
    exact ⟨hnumber, hself⟩
  · have hexec := exec_chainInChange_running (m := m) carEnd level hrun
    rw [State.tryTakeNumber_of_not ?_] at hexec
    · refine ⟨_, hexec, ?_, onlyChanges_of_effect (chained_onlyChanges carEnd level) rfl⟩
      cases carEnd <;> simp [State.chained, chainLevels]
    · rintro ⟨hphase, hin, hheard⟩
      obtain hnone | hnone | hnone := hnot
      · exact hnone hphase
      · exact absurd hheard (by simp [State.chained, hnone])
      · exact absurd (hchain.symm.trans hin) (by simp [hnone])
  · have hexec := exec_chainInChange_running (m := m) carEnd level hrun
    rw [State.tryTakeNumber_of_full (s := s.chained m carEnd level) hphase (hchain.trans hin) h8] at hexec
    refine ⟨_, hexec, ?_, ?_, ?_, onlyChanges_of_effect
      (((chained_onlyChanges carEnd level).mono (by decide)).trans (goSilent_onlyChanges.mono (by decide)) rfl)
      State.goSilent_station⟩
    · rw [State.keepStore_line, State.goSilent_line]
    · rw [State.keepStore_line, State.goSilent_line]
      rfl
    · rw [State.keepStore_present]
      exact State.goSilent_present
  · refine ⟨_, runCommand_due (timer := fun u => u.line.chainWaitTimer) hrun hdue, ?_, ?_, ?_, ?_,
      onlyChanges_of_effect (m := m) goSilent_onlyChanges State.goSilent_station⟩
    · rw [State.keepStore_line, State.goSilent_line]
    · rw [State.keepStore_line, State.goSilent_line]
    · rw [State.keepStore_line, State.goSilent_line]
      rfl
    · rw [State.keepStore_present]
      exact State.goSilent_present
  · have hended : onlyChanges (Part.also Part.ofClassB [.numbering]) (s.atMoment m)
        ((s.atMoment m).setLine { (s.atMoment m).line with completionTimer := none }) := by
      intro p
      cases p <;> simp [Part.same, Part.also, Part.ofClassB]
    have hline (v : State) : (v.raise .consistIncomplete).keepStore.line = v.line := by
      rw [State.keepStore_line, State.raise_line (k := .consistIncomplete) nofun]
    refine ⟨_, runCommand_due (timer := fun u => u.line.completionTimer) hrun hdue, ?_, ?_, ?_,
      onlyChanges_of_effect (hended.trans ((raise_onlyChanges_ofClassB (k := .consistIncomplete) nofun).mono (by decide)) rfl)
        (State.raise_station _)⟩
    · rw [hline]
      rfl
    · rw [hline]
      rfl
    · rw [State.keepStore_present]
      exact State.raise_present_self _

end Sys2Proof.Machine
end

section
/-! SUPPORT. The fault manager through an occurrence, a going and the permit tests that follow them: the report of the mass
latch (sections 7.8 and 10.2). -/

namespace Sys2Proof.Machine

variable {ps : List Part} {s t u v : State} {m : Moment} {j k : FaultKind} {f g : Faults}

/-! ## The report of the mass latch (R144, R145) -/

/-- The fault manager after the load sensor has been read. -/
def massReport (load : Option Int) (strict : Bool) (f : Faults) : Faults :=
  match load with
  | some x => if -1000 ≤ x ∧ x ≤ 10000 then f.going .loadSensor else f.occur strict .loadSensor
  | none => f.occur strict .loadSensor

theorem State.latchMass_faults : s.latchMass.faults = massReport s.pins.load s.straps.strict s.faults := by
  unfold State.latchMass massReport
  cases s.pins.load with
  | none => rfl
  | some x =>
    dsimp only
    split <;> rfl

/-- The mass is latched on the way from `s` to `t`. -/
def State.latches (s t : State) : Prop :=
  s.summary ≠ .allClosed ∧ t.summary = .allClosed ∧ s.doors.latchPending = true ∧ s.rack.standstill = true

theorem State.latchReports_of_latches (h : s.latches t) :
    s.latchReports m t f = massReport m.load s.straps.strict f := (if_pos h).trans rfl

theorem State.latchReports_of_not (h : ¬s.latches t) : s.latchReports m t f = f := if_neg h

theorem State.latchReports_of_same (h : t.summary = s.summary) : s.latchReports m t f = f :=
  latchReports_of_not fun hlatch => hlatch.1 (h.symm.trans hlatch.2.1)

/-- The report depends on the door summaries, latch pending, standstill and the straps alone. -/
theorem State.latchReports_congr (hsummary : u.summary = s.summary) (hpending : u.doors.latchPending = s.doors.latchPending)
    (hstill : u.rack.standstill = s.rack.standstill) (hstraps : u.straps = s.straps) (hafter : v.summary = t.summary) :
    u.latchReports m v f = s.latchReports m t f := by
  have hiff : u.latches v ↔ s.latches t := by simp only [State.latches, hsummary, hpending, hstill, hafter]
  by_cases h : s.latches t
  · rw [latchReports_of_latches h, latchReports_of_latches (hiff.mpr h), hstraps]
  · rw [latchReports_of_not h, latchReports_of_not (mt hiff.mp h)]

theorem State.latchIfClosed_summary (was : DoorSummary) : (s.latchIfClosed was).summary = s.summary :=
  summary_congr (by simp)

theorem State.retestSide_stands (side : CarSide) :
    (s.retestSide side).doors.latchPending = s.doors.latchPending ∧ (s.retestSide side).rack = s.rack
      ∧ (s.retestSide side).faults = s.faults ∧ (s.retestSide side).pins = s.pins := by
  refine ⟨?_, by simp, by simp, by simp⟩
  unfold State.retestSide State.clearSide
  split
  · split
    · cases side <;> rfl
    · rfl
  · rfl

/-- A retest of the permits reports nothing but the mass latch it brings (R129, R144). -/
theorem State.retestPermits_faults (hload : s.pins.load = m.load) :
    s.retestPermits.faults = s.latchReports m s.retestPermits s.faults := by
  obtain ⟨hpendingA, hrackA, hfaultsA, hpinsA⟩ := retestSide_stands (s := s) .a
  obtain ⟨hpendingB, hrackB, hfaultsB, hpinsB⟩ := retestSide_stands (s := s.retestSide .a) .b
  have hstraps : ((s.retestSide .a).retestSide .b).straps = s.straps := by simp
  have hsummary : s.retestPermits.summary = ((s.retestSide .a).retestSide .b).summary := latchIfClosed_summary _
  have hiff : (s.summary ≠ .allClosed ∧ ((s.retestSide .a).retestSide .b).summary = .allClosed
      ∧ ((s.retestSide .a).retestSide .b).doors.latchPending = true
      ∧ ((s.retestSide .a).retestSide .b).rack.standstill = true) ↔ s.latches s.retestPermits := by
    rw [State.latches, hsummary, hpendingB, hpendingA, hrackB, hrackA]
  by_cases h : s.latches s.retestPermits
  · have hlatched : s.retestPermits = ((s.retestSide .a).retestSide .b).latchMass := if_pos (hiff.mpr h)
    rw [latchReports_of_latches h, hlatched, latchMass_faults, hpinsB, hpinsA, hload, hstraps, hfaultsB, hfaultsA]
  · have hstands : s.retestPermits = (s.retestSide .a).retestSide .b := if_neg (mt hiff.mp h)
    rw [latchReports_of_not h, hstands, hfaultsB, hfaultsA]

/-- One occurrence of a class B kind leaves the fault manager as `afterOccurrence` has it (R129, R183, R184). -/
theorem State.raise_faults (hclass : faultClassOf s.straps.strict k = .b) (hload : s.pins.load = m.load) :
    (s.raise k).faults = s.afterOccurrence m k (s.raise k) := by
  cases hpresent : s.present k
  · have hraise : s.raise k = ((s.recordOccurrence k).lowerLimit 0).retestPermits := by
      simp [State.raise, State.react, hpresent, hclass]
    rw [hraise, retestPermits_faults (m := m) (by simpa using hload)]
    exact latchReports_congr rfl rfl rfl rfl rfl
  · have hraise : s.raise k = s.recordOccurrence k := by simp [State.raise, hpresent]
    rw [hraise]
    exact (latchReports_of_same rfl).symm

/-- The going of a class B kind, with the permit tests it brings. -/
theorem State.clear_faults (hclass : faultClassOf s.straps.strict k = .b) (hload : s.pins.load = m.load) :
    (s.clear k).faults = s.latchReports m (s.clear k) (s.faults.going k) := by
  cases hpresent : s.present k
  · rw [State.clear_of_absent hpresent, latchReports_of_same rfl]
    have habsent : s.faults.present k = false := hpresent
    exact (if_neg (by simp [habsent])).symm
  · have hclear : s.clear k = (s.recordGoing k).retestPermits := by simp [State.clear, hpresent, hclass]
    rw [hclear, retestPermits_faults (m := m) (by simpa using hload)]
    exact latchReports_congr rfl rfl rfl rfl rfl

end Sys2Proof.Machine
end

section
/-! SUPPORT. The record of one kind while other kinds come and go (section 10.2). -/

namespace Sys2Proof.Machine

variable {ps : List Part} {s t u v : State} {m : Moment} {j k : FaultKind} {f g e : Faults}

/-! ## The record of a kind -/

/-- The records of a kind are active, so that a full table gives none of them up (R185). -/
def Faults.activeOf (j : FaultKind) (f : Faults) : Prop := ∀ r ∈ f.table, r.kind = j → r.active = true

/-- The record of a kind stands from one fault manager to the other while it is active. -/
def Faults.Keeps (j : FaultKind) (f g : Faults) : Prop :=
  f.activeOf j → g.activeOf j ∧ g.recordOf j = f.recordOf j

theorem Faults.Keeps.refl (f : Faults) : f.Keeps j f := fun h => ⟨h, rfl⟩

theorem Faults.Keeps.trans (hfg : f.Keeps j g) (hge : g.Keeps j e) : f.Keeps j e := fun h =>
  ⟨(hge (hfg h).1).1, (hge (hfg h).1).2.trans (hfg h).2⟩

theorem Faults.setFlag_keeps (k : FaultKind) (b : Bool) : f.Keeps j (f.setFlag k b) := fun h => ⟨h, rfl⟩

theorem find?_map_of_stands {α : Type} {p : α → Bool} {g : α → α} (l : List α) (hp : ∀ r, p (g r) = p r)
    (hg : ∀ r, p r = true → g r = r) : (l.map g).find? p = l.find? p := by
  induction l with
  | nil => rfl
  | cons r l ih =>
    rw [List.map_cons, List.find?_cons, List.find?_cons, hp, ih]
    cases h : p r
    · rfl
    · rw [hg r h]

theorem Faults.mapRecord_keeps {g : FaultRecord → FaultRecord} (hg : ∀ r, (g r).kind = r.kind) (h : j ≠ k) :
    f.Keeps j (f.mapRecord k g) := by
  have hkind (r : FaultRecord) : (if r.kind = k then g r else r).kind = r.kind := by
    split
    · exact hg r
    · rfl
  have hsame (r : FaultRecord) (hr : r.kind = j) : (if r.kind = k then g r else r) = r :=
    if_neg (by rw [hr]; exact h)
  refine fun hactive => ⟨fun r hr hj => ?_, ?_⟩
  · obtain ⟨r', hr', rfl⟩ := List.mem_map.mp hr
    have hj' : r'.kind = j := (hkind r').symm.trans hj
    rw [hsame r' hj']
    exact hactive r' hr' hj'
  · refine find?_map_of_stands _ (fun r => ?_) fun r hr => hsame r (by simpa using hr)
    rw [hkind]

theorem find?_eraseP_of_ne {α : Type} {p q : α → Bool} (l : List α) (h : ∀ r ∈ l, q r = true → p r = false) :
    (l.eraseP q).find? p = l.find? p := by
  induction l with
  | nil => rfl
  | cons r l ih =>
    have hrest := ih fun r' hr' => h r' (List.mem_cons_of_mem _ hr')
    cases hq : q r
    · rw [List.eraseP_cons_of_neg (by simp [hq]), List.find?_cons, List.find?_cons, hrest]
    · rw [List.eraseP_cons_of_pos hq, List.find?_cons, h r (List.mem_cons_self) hq]

theorem Faults.addRecord_keeps {r : FaultRecord} (h : r.kind ≠ j) : f.Keeps j (f.addRecord r) := by
  intro hactive
  have hnew : (r.kind == j) = false := by simpa using h
  have happend (l : List FaultRecord) : (l ++ [r]).find? (fun r => r.kind == j) = l.find? fun r => r.kind == j := by
    rw [List.find?_append, List.find?_cons, hnew, List.find?_nil, Option.or_none]
  have hstays (l : List FaultRecord) (hl : ∀ r' ∈ l, r' ∈ f.table) : ∀ r' ∈ l ++ [r], r'.kind = j → r'.active = true := by
    intro r' hr' hj
    obtain hr' | hr' := List.mem_append.mp hr'
    · exact hactive r' (hl r' hr') hj
    · exact absurd (List.mem_singleton.mp hr' ▸ hj) h
  unfold Faults.addRecord
  split
  · exact ⟨hstays _ fun _ hr' => hr', happend _⟩
  split
  · refine ⟨hstays _ fun _ hr' => List.mem_of_mem_eraseP hr', (happend _).trans (find?_eraseP_of_ne _ ?_)⟩
    intro r' hr' hreplaceable
    refine beq_eq_false_iff_ne.mpr fun hj => ?_
    simp [FaultRecord.replaceable, hactive r' hr' hj] at hreplaceable
  · exact ⟨hactive, rfl⟩

theorem Faults.occur_keeps (strict : Bool) (h : j ≠ k) : f.Keeps j (f.occur strict k) := by
  unfold Faults.occur
  dsimp only
  split
  · exact (setFlag_keeps k true).trans (mapRecord_keeps (fun _ => rfl) h)
  · exact (setFlag_keeps k true).trans (addRecord_keeps h.symm)

theorem Faults.going_keeps (h : j ≠ k) : f.Keeps j (f.going k) := by
  unfold Faults.going
  split
  · exact (setFlag_keeps k false).trans (mapRecord_keeps (fun _ => rfl) h)
  · exact .refl _

theorem Faults.massReport_keeps (load : Option Int) (strict : Bool) (h : j ≠ .loadSensor) :
    f.Keeps j (massReport load strict f) := by
  unfold massReport
  split
  · split
    · exact going_keeps h
    · exact occur_keeps strict h
  · exact occur_keeps strict h

/-- After an occurrence of a kind its records are active. -/
theorem Faults.occur_activeOf (strict : Bool) : (f.occur strict k).activeOf k := by
  intro r hr hk
  unfold Faults.occur at hr
  dsimp only at hr
  split at hr
  · obtain ⟨r', -, rfl⟩ := List.mem_map.mp hr
    dsimp only at hk ⊢
    split
    next => rfl
    next hne =>
      rw [if_neg hne] at hk
      exact absurd hk hne
  next hnone =>
    have hold : ∀ r' ∈ f.table, r'.kind ≠ k := by
      simpa [Faults.hasRecord] using hnone
    unfold Faults.addRecord at hr
    split at hr
    · obtain hr | hr := List.mem_append.mp hr
      · exact absurd hk (hold r hr)
      · rw [List.mem_singleton.mp hr]
    split at hr
    · obtain hr | hr := List.mem_append.mp hr
      · exact absurd hk (hold r (List.mem_of_mem_eraseP hr))
      · rw [List.mem_singleton.mp hr]
    · exact absurd hk (hold r hr)

end Sys2Proof.Machine
end

section
/-! SUPPORT. What a JOIN does in the own numbering (section 3.7), and the record of another kind through it. -/

namespace Sys2Proof.Machine

variable {ps : List Part} {s t u v : State} {m : Moment} {j k : FaultKind} {n : Fin 8} {fields : JoinFields}

/-! ## The record of another kind -/

theorem State.retestPermits_keeps (h : j ≠ .loadSensor) : s.faults.Keeps j s.retestPermits.faults := by
  rw [retestPermits_faults (m := { elapsed := 0, load := s.pins.load, force1 := 0, force2 := 0 }) rfl]
  by_cases hlatch : s.latches s.retestPermits
  · rw [latchReports_of_latches hlatch]
    exact Faults.massReport_keeps _ _ h
  · rw [latchReports_of_not hlatch]
    exact .refl _

theorem State.raise_keeps (hclass : faultClassOf s.straps.strict k ≠ .a) (hk : j ≠ k) (h : j ≠ .loadSensor) :
    s.faults.Keeps j (s.raise k).faults := by
  have hrecord : s.faults.Keeps j (s.recordOccurrence k).faults := Faults.occur_keeps _ hk
  unfold State.raise
  split
  · exact hrecord
  unfold State.react
  split
  next ha => exact absurd ha hclass
  next => exact hrecord.trans (retestPermits_keeps (s := (s.recordOccurrence k).lowerLimit 0) h)
  next => exact hrecord

theorem State.clear_keeps (hk : j ≠ k) (h : j ≠ .loadSensor) : s.faults.Keeps j (s.clear k).faults := by
  have hgone : s.faults.Keeps j (s.recordGoing k).faults := Faults.going_keeps hk
  unfold State.clear
  split
  · split
    · exact hgone.trans (retestPermits_keeps h)
    · exact hgone.trans (retestPermits_keeps h)
    · exact hgone
  · exact .refl _

theorem State.peersChanged_keeps (hconflict : j ≠ .cabConflict) (hlost : j ≠ .peerLost) (h : j ≠ .loadSensor) :
    s.faults.Keeps j s.peersChanged.faults := by
  have hclaims : s.faults.Keeps j s.reformCabConflict.faults := by
    unfold State.reformCabConflict
    split
    · split
      · exact .refl _
      · exact raise_keeps nofun hconflict h
    · exact clear_keeps hconflict h
  have hlosses : s.reformCabConflict.faults.Keeps j s.reformCabConflict.reformPeerLost.faults := by
    unfold State.reformPeerLost
    split
    · exact .refl _
    · exact clear_keeps hlost h
  have hvalley : (s.reformCabConflict.reformPeerLost.reformEnforced.reformValley).faults
      = s.reformCabConflict.reformPeerLost.faults := by simp
  have hretest := retestPermits_keeps (s := s.reformCabConflict.reformPeerLost.reformEnforced.reformValley) h
  rw [hvalley] at hretest
  exact (hclaims.trans hlosses).trans hretest

theorem State.takeNumber_keeps (hconflict : j ≠ .cabConflict) (hlost : j ≠ .peerLost) (h : j ≠ .loadSensor) :
    s.faults.Keeps j (s.takeNumber n).faults := by
  rw [takeNumber_stands.2.1]
  exact peersChanged_keeps (s := (s.numberTaken n).setPeer n _) hconflict hlost h

theorem State.goSilent_keeps (hk : j ≠ .consistIncomplete) (h : j ≠ .loadSensor) :
    s.faults.Keeps j s.goSilent.faults :=
  raise_keeps (s := s.setLine { s.line with phase := .silent, chainWaitTimer := none }) (k := .consistIncomplete) nofun hk h

/-! ## A JOIN in the own numbering (R59, R60, R62) -/

/-- The highest number heard follows a JOIN until a number is taken. -/
def State.heardJoin (fields : JoinFields) (s : State) : State :=
  if s.line.own = none then s.setLine { s.line with highestHeard := max s.line.highestHeard fields.number.toNat } else s

theorem State.heardJoin_of_none (h : s.line.own = none) :
    s.heardJoin fields = s.setLine { s.line with highestHeard := max s.line.highestHeard fields.number.toNat } := if_pos h

theorem State.heardJoin_of_some (h : s.line.own.isSome = true) : s.heardJoin fields = s :=
  if_neg (Option.isSome_iff_ne_none.mp h)

theorem State.heardJoin_eq : ∃ heard, s.heardJoin fields = s.setLine { s.line with highestHeard := heard } := by
  unfold State.heardJoin
  split
  · exact ⟨_, rfl⟩
  · exact ⟨s.line.highestHeard, rfl⟩

theorem heardJoin_onlyChanges : onlyChanges [.numbering] s (s.heardJoin fields) := by
  obtain ⟨heard, h⟩ := State.heardJoin_eq (s := s) (fields := fields)
  rw [h]
  intro p
  cases p <;> simp [Part.same]

/-- The line as the consist is complete (R62). -/
def State.completed (s : State) : State := s.setLine { s.line with phase := .complete, completionTimer := none }

theorem completed_onlyChanges : onlyChanges [.numbering] s s.completed := by
  intro p
  cases p <;> simp [Part.same, State.completed]

theorem State.numberByJoin_eq :
    s.numberByJoin fields = ((s.heardJoin fields).completeByJoin fields.last).tryTakeNumber := rfl

theorem State.heardJoin_stands :
    (s.heardJoin fields).line.phase = s.line.phase ∧ (s.heardJoin fields).chainIn = s.chainIn := by
  obtain ⟨heard, h⟩ := heardJoin_eq (s := s) (fields := fields)
  rw [h]
  exact ⟨rfl, rfl⟩

theorem State.completed_phase : s.completed.consistComplete.line.phase = .complete := by
  unfold State.consistComplete
  split <;> rfl

/-- A last JOIN in COMPLETION_WAIT completes the consist. -/
theorem State.numberByJoin_of_last (hphase : s.line.phase = .completionWait) (hlast : fields.last = true) :
    s.numberByJoin fields = ((s.heardJoin fields).completed.consistComplete).clear .consistIncomplete := by
  have hphase' : (s.heardJoin fields).line.phase = .completionWait := heardJoin_stands.1.trans hphase
  have hcomplete : ((s.heardJoin fields).completed.consistComplete.clear .consistIncomplete).line.phase ≠ .chainWait := by
    rw [clear_line, completed_phase]
    nofun
  rw [numberByJoin_eq, completeByJoin_of_last ⟨hlast, hphase'⟩]
  exact tryTakeNumber_of_phase hcomplete

/-- In CHAIN_WAIT no JOIN completes the consist. -/
theorem State.numberByJoin_of_wait (hphase : s.line.phase = .chainWait) :
    s.numberByJoin fields = (s.heardJoin fields).tryTakeNumber := by
  have hphase' : (s.heardJoin fields).line.phase = .chainWait := heardJoin_stands.1.trans hphase
  rw [numberByJoin_eq, completeByJoin_of_not (by simp [hphase'])]

theorem State.numberByJoin_of_taken (hphase : s.line.phase = .chainWait) (hchain : s.chainIn = true)
    (hown : s.line.own = none) (hnumber : 1 ≤ fields.number.toNat)
    (hn : n.val = max s.line.highestHeard fields.number.toNat) :
    s.numberByJoin fields = (s.heardJoin fields).takeNumber n := by
  have hheard : (s.heardJoin fields).line.highestHeard = max s.line.highestHeard fields.number.toNat := by
    rw [heardJoin_of_none hown]
    rfl
  obtain ⟨hphase', hchain'⟩ := heardJoin_stands (s := s) (fields := fields)
  rw [numberByJoin_of_wait hphase]
  exact tryTakeNumber_of_free (hphase'.trans hphase) (hchain'.trans hchain) (by omega) (hn.trans hheard.symm)

theorem State.numberByJoin_of_full (hphase : s.line.phase = .chainWait) (hchain : s.chainIn = true)
    (hown : s.line.own = none) (h : 8 ≤ max s.line.highestHeard fields.number.toNat) :
    s.numberByJoin fields = (s.heardJoin fields).goSilent := by
  have hheard : (s.heardJoin fields).line.highestHeard = max s.line.highestHeard fields.number.toNat := by
    rw [heardJoin_of_none hown]
    rfl
  obtain ⟨hphase', hchain'⟩ := heardJoin_stands (s := s) (fields := fields)
  rw [numberByJoin_of_wait hphase]
  exact tryTakeNumber_of_full (hphase'.trans hphase) (hchain'.trans hchain) (h.trans_eq hheard.symm)

theorem State.numberByJoin_of_other (hlast : s.line.phase = .completionWait → fields.last = false)
    (hchain : s.line.phase = .chainWait → s.chainIn = false) : s.numberByJoin fields = s.heardJoin fields := by
  obtain ⟨hphase', hchain'⟩ := heardJoin_stands (s := s) (fields := fields)
  rw [numberByJoin_eq, completeByJoin_of_not ?_, tryTakeNumber_of_not ?_]
  · rintro ⟨hphase, hin, -⟩
    rw [hphase'] at hphase
    rw [hchain', hchain hphase] at hin
    cases hin
  · rintro ⟨htrue, hphase⟩
    rw [hphase'] at hphase
    rw [hlast hphase] at htrue
    cases htrue

end Sys2Proof.Machine
end

section
/-! SUPPORT. O34: a JOIN in the table and in the own numbering (sections 3.7 and 4.2). -/

namespace Sys2Proof.Machine

variable {ps : List Part} {s t u v : State} {m : Moment} {j k : FaultKind} {n : Fin 8} {fields : JoinFields}

/-! ## A frame of parts that leaves the store -/

theorem Part.same_trans_of_storing {p : Part} (hstoring : t.station.storing = s.station.storing) (hst : p.same s t)
    (htu : p.same t u) : p.same s u := by
  by_cases hp : p = .store
  · subst hp
    obtain ⟨hstraps, hvalid, hstore⟩ := hst
    obtain ⟨hstraps', hvalid', hstore'⟩ := htu
    rw [hstoring] at hstore'
    exact ⟨hstraps'.trans hstraps, hvalid'.trans hvalid, fun h => (hstore' h).trans (hstore h)⟩
  · exact same_trans_of_ne_store hp hst htu

theorem onlyChanges.trans_of_storing (hst : onlyChanges ps s t) (htu : onlyChanges ps t u)
    (hstoring : t.station.storing = s.station.storing) : onlyChanges ps s u := by
  intro p
  obtain hp | hst := hst p
  · exact .inl hp
  · exact (htu p).imp_right (Part.same_trans_of_storing hstoring hst)

/-- A frame's effect with the hearing of it, where the station state may change. -/
theorem onlyChanges_of_heard_of_storing (h : onlyChanges ps (s.heardAt m) t)
    (hstoring : t.station.storing = s.station.storing) (hbus : Part.transmission ∈ ps) : onlyChanges ps s t.keepStore := by
  have hmoment : onlyChanges ps s (s.atMoment m) := (atMoment_onlyChanges m s).mono (List.nil_subset _)
  have hheard : onlyChanges ps (s.atMoment m) (s.heardAt m) := heardAt_onlyChanges.mono (by simpa using hbus)
  have hkeep : onlyChanges ps t t.keepStore := (keepStore_onlyChanges t).mono (List.nil_subset _)
  exact ((hmoment.trans hheard rfl).trans h rfl).trans_of_storing hkeep hstoring

/-! ## The conditions of the table through a second change -/

theorem State.claimsFollow.trans (h : u.claimsFollow s) (h' : t.claimsFollow u)
    (hlimit : t.speed.localLimit ≤ u.speed.localLimit) : t.claimsFollow s := by
  refine ⟨h'.1, fun habsent hpresent => ?_⟩
  cases hu : u.present .cabConflict
  · exact h'.2 hu hpresent
  · exact Nat.le_zero.mp (hlimit.trans (h.2 habsent hu).le)

theorem State.lossesFollow.trans (h : u.lossesFollow s) (h' : t.lossesFollow u)
    (hsub : (∃ i : Fin 8, t.peers[i].state = .lost) → ∃ i : Fin 8, u.peers[i].state = .lost) : t.lossesFollow s := by
  have hu : u.present .peerLost = true ↔ s.present .peerLost = true ∧ ∃ i : Fin 8, u.peers[i].state = .lost := h
  have ht : t.present .peerLost = true ↔ u.present .peerLost = true ∧ ∃ i : Fin 8, t.peers[i].state = .lost := h'
  refine ht.trans ⟨fun ⟨hpresent, hlost⟩ => ⟨(hu.mp hpresent).1, hlost⟩,
    fun ⟨hpresent, hlost⟩ => ⟨hu.mpr ⟨hpresent, hsub hlost⟩, hlost⟩⟩

/-- Conditions and table stand: so does what follows. -/
theorem State.claimsFollow_of_le (h : u.claimsFollow s) (hpeers : t.peers = u.peers)
    (hconflict : t.present .cabConflict = u.present .cabConflict) (hlimit : t.speed.localLimit ≤ u.speed.localLimit) :
    t.claimsFollow s := by
  unfold State.claimsFollow
  rw [hpeers, hconflict]
  exact ⟨h.1, fun habsent hpresent => Nat.le_zero.mp (hlimit.trans (h.2 habsent hpresent).le)⟩

/-! ## What the own numbering leaves of a JOIN's entry -/

/-- What the own numbering makes of a JOIN leaves the entries below the number heard, the clash and what follows the
table. -/
structure State.Numbers (fields : JoinFields) (v t : State) : Prop where
  entries : ∀ i : Fin 8, i.val < fields.number.toNat → t.peers[i] = v.peers[i]
  clashTimer : t.line.clashTimer = v.line.clashTimer
  present : t.present .numberClash = v.present .numberClash
  record : v.faults.Keeps .numberClash t.faults
  limit : t.speed.localLimit ≤ v.speed.localLimit
  claims : ∀ {before : State}, v.claimsFollow before → t.claimsFollow before
  losses : ∀ {before : State}, v.lossesFollow before → t.lossesFollow before
  storing : t.station.storing = v.station.storing
  changes : onlyChanges (Part.also Part.ofPeers [.transmission, .numbering, .slots, .quality, .outgoing, .station, .proof]) v t

theorem State.Numbers.trans (h : s.Numbers fields t) (h' : t.Numbers fields u) : s.Numbers fields u where
  entries i hi := (h'.entries i hi).trans (h.entries i hi)
  clashTimer := h'.clashTimer.trans h.clashTimer
  present := h'.present.trans h.present
  record := h.record.trans h'.record
  limit := h'.limit.trans h.limit
  claims hs := h'.claims (h.claims hs)
  losses hs := h'.losses (h.losses hs)
  storing := h'.storing.trans h.storing
  changes := h.changes.trans_of_storing h'.changes h.storing

/-- Where entries, conditions and limit stand. -/
theorem State.Numbers.of_stands (hpeers : t.peers = v.peers) (hfaults : t.faults = v.faults)
    (hlimit : t.speed.localLimit = v.speed.localLimit) (hclash : t.line.clashTimer = v.line.clashTimer)
    (hstoring : t.station.storing = v.station.storing) (hsub : ps ⊆ [.numbering, .station, .proof])
    (hchanges : onlyChanges ps v t) : v.Numbers fields t where
  entries i _ := by rw [hpeers]
  clashTimer := hclash
  present := present_congr hfaults _
  record := hfaults ▸ .refl _
  limit := hlimit.le
  claims hs := claimsFollow_congr hs hpeers (present_congr hfaults _) hlimit
  losses hs := lossesFollow_congr hs hpeers (present_congr hfaults _)
  storing := hstoring
  changes := hchanges.mono fun _ hp => (show [Part.numbering, .station, .proof] ⊆ _ by decide) (hsub hp)

theorem State.numbers_heardJoin : s.Numbers fields (s.heardJoin fields) := by
  obtain ⟨heard, h⟩ := heardJoin_eq (s := s) (fields := fields)
  have hchanges := heardJoin_onlyChanges (s := s) (fields := fields)
  rw [h] at hchanges ⊢
  exact .of_stands rfl rfl rfl rfl rfl (by decide) hchanges

theorem State.numbers_completed : s.Numbers fields s.completed.consistComplete := by
  have hline : s.Numbers fields s.completed := .of_stands rfl rfl rfl rfl rfl (by decide) completed_onlyChanges
  refine hline.trans ?_
  unfold State.consistComplete
  split
  · refine .of_stands (ps := [.station, .proof]) rfl rfl rfl rfl rfl (by decide) fun p => ?_
    cases p <;> simp [Part.same, State.enterProving]
  · exact .of_stands rfl rfl rfl rfl rfl (by decide) (onlyChanges_refl [] _)

theorem State.numbers_clear : s.Numbers fields (s.clear .consistIncomplete) where
  entries i _ := by simp
  clashTimer := by rw [clear_line]
  present := clear_present_of_ne (j := .numberClash) nofun nofun
  record := clear_keeps (j := .numberClash) nofun nofun
  limit := by rw [clear_speed]
  claims hs := claimsFollow_congr hs (by simp) (clear_present_of_ne (j := .cabConflict) nofun nofun) (by rw [clear_speed])
  losses hs := lossesFollow_congr hs (by simp) (clear_present_of_ne (j := .peerLost) nofun nofun)
  storing := by rw [clear_station]
  changes := (clear_onlyChanges_ofClassB _).mono (by decide)

theorem State.numbers_goSilent : s.Numbers fields s.goSilent where
  entries i _ := by rw [show s.goSilent.peers = s.peers from raise_peers _]
  clashTimer := by rw [goSilent_line]
  present := raise_present_of_ne (j := .numberClash) nofun nofun
  record := goSilent_keeps (j := .numberClash) nofun nofun
  limit := raise_localLimit_le
  claims hs := claimsFollow_of_le hs (raise_peers _) (raise_present_of_ne (j := .cabConflict) nofun nofun)
    raise_localLimit_le
  losses hs := lossesFollow_congr hs (raise_peers _) (raise_present_of_ne (j := .peerLost) nofun nofun)
  storing := by rw [goSilent_station]
  changes := goSilent_onlyChanges.mono (by decide)

theorem State.takeNumber_peers : (s.takeNumber n).peers = s.peers.set n { PeerEntry.blank with state := .self } := by
  rw [takeNumber_stands.1]
  simp [State.markSelf, State.setPeer, State.numberTaken]

/-- Marking the own entry SELF makes no entry LOST. -/
theorem State.takeNumber_lost (h : ∃ i : Fin 8, (s.takeNumber n).peers[i].state = .lost) :
    ∃ i : Fin 8, s.peers[i].state = .lost := by
  obtain ⟨i, hi⟩ := h
  refine ⟨i, ?_⟩
  simp only [takeNumber_peers, Fin.getElem_fin, Vector.getElem_set] at hi
  split at hi
  · cases hi
  · exact hi

theorem State.takeNumber_localLimit_le : (s.takeNumber n).speed.localLimit ≤ s.speed.localLimit := by
  rw [takeNumber_stands.2.2]
  exact (State.Lowered.peersChanged (.refl ((s.numberTaken n).setPeer n _))).2.2

theorem State.numbers_takeNumber (h : fields.number.toNat ≤ n.val) : s.Numbers fields (s.takeNumber n) where
  entries i hi := by
    have hne : (n : Nat) ≠ i := by omega
    simp [takeNumber_peers, Vector.getElem_set_ne _ _ hne]
  clashTimer := by
    obtain ⟨slot, behind, sending, bus, hline⟩ := takeNumber_slotted (s := s) (n := n)
    rw [hline]
    rfl
  present := by
    rw [present_congr takeNumber_stands.2.1]
    exact peersChanged_present_of_ne (j := .numberClash) nofun nofun nofun
  record := takeNumber_keeps (j := .numberClash) nofun nofun nofun
  limit := takeNumber_localLimit_le
  claims hs := hs.trans (takeNumber_claimsFollow rfl) takeNumber_localLimit_le
  losses hs := hs.trans (takeNumber_lossesFollow rfl) takeNumber_lost
  storing := by rw [takeNumber_station]
  changes := takeNumber_onlyChanges.mono (by decide)

/-- Whatever the own numbering does, it numbers. -/
theorem State.numbers_numberByJoin (hown : s.line.phase = .chainWait → s.line.own = none)
    (hnumber : 1 ≤ fields.number.toNat) : s.Numbers fields (s.numberByJoin fields) := by
  by_cases hlast : s.line.phase = .completionWait ∧ fields.last = true
  · rw [numberByJoin_of_last hlast.1 hlast.2]
    exact (numbers_heardJoin.trans numbers_completed).trans numbers_clear
  by_cases hchain : s.line.phase = .chainWait ∧ s.chainIn = true
  · obtain ⟨hphase, hin⟩ := hchain
    by_cases hfull : 8 ≤ max s.line.highestHeard fields.number.toNat
    · rw [numberByJoin_of_full hphase hin (hown hphase) hfull]
      exact numbers_heardJoin.trans numbers_goSilent
    · rw [numberByJoin_of_taken (n := ⟨_, not_le.mp hfull⟩) hphase hin (hown hphase) hnumber rfl]
      exact numbers_heardJoin.trans (numbers_takeNumber (Nat.le_max_right _ _))
  · have hlast' (hphase : s.line.phase = .completionWait) : fields.last = false :=
      Bool.eq_false_iff.mpr fun h => hlast ⟨hphase, h⟩
    have hchain' (hphase : s.line.phase = .chainWait) : s.chainIn = false :=
      Bool.eq_false_iff.mpr fun h => hchain ⟨hphase, h⟩
    rw [numberByJoin_of_other hlast' hchain']
    exact numbers_heardJoin

end Sys2Proof.Machine
end

section
/-! SUPPORT. O34: a JOIN received (sections 3.6, 3.7 and 4.2). -/

namespace Sys2Proof.Machine

variable {ps : List Part} {s t u v : State} {m : Moment} {j k : FaultKind} {n source : Fin 8} {fields : JoinFields}

/-! ## One clash (R57, R67) -/

theorem State.clash_line : s.clash.line = { s.line with clashTimer := some s.clock } :=
  raise_line (k := .numberClash) nofun

theorem State.clash_present : s.clash.present .numberClash = true := raise_present_self _

theorem State.clash_stands : s.clash.peers = s.peers ∧ s.clash.station = s.station ∧ s.clash.pins = s.pins
    ∧ s.clash.straps = s.straps := by
  simp [State.clash]

theorem State.clash_localLimit (h : s.present .numberClash = false) : s.clash.speed.localLimit = 0 :=
  raise_localLimit (s := s.setLine { s.line with clashTimer := some s.clock }) (k := .numberClash) nofun h

theorem State.clash_faults (hload : s.pins.load = m.load) (h : t.summary = s.clash.summary) :
    s.clash.faults = s.afterOccurrence m .numberClash t := by
  refine (raise_faults (s := s.setLine { s.line with clashTimer := some s.clock }) (k := .numberClash) rfl hload).trans ?_
  exact latchReports_congr rfl rfl rfl rfl h.symm

/-- The clash stands in its record whatever the mass latch reports. -/
theorem State.clash_record :
    s.clash.faults.activeOf .numberClash
      ∧ s.clash.faults.recordOf .numberClash = (s.faults.occur s.straps.strict .numberClash).recordOf .numberClash := by
  have hfaults := clash_faults (s := s) (m := { elapsed := 0, load := s.pins.load, force1 := 0, force2 := 0 }) rfl rfl
  have hactive := s.faults.occur_activeOf (k := .numberClash) s.straps.strict
  have hkeeps : (s.faults.occur s.straps.strict .numberClash).Keeps .numberClash s.clash.faults := by
    rw [hfaults]
    by_cases hlatch : s.latches s.clash
    · rw [State.afterOccurrence, latchReports_of_latches hlatch]
      exact Faults.massReport_keeps _ _ nofun
    · rw [State.afterOccurrence, latchReports_of_not hlatch]
      exact .refl _
  exact hkeeps hactive

theorem State.clashTest_of_own (h : s.line.own = some source) : s.clashTest source = s.clash := if_pos h

theorem State.clashTest_of_other (h : s.line.own ≠ some source) : s.clashTest source = s := if_neg h

theorem handOn_of_ok {effect : State → State} {ok : Bool} (h : ok = true) :
    State.handOn ok source effect s = effect (s.clashTest source) := if_pos h

theorem handOn_of_bad {effect : State → State} {ok : Bool} (h : ok = false) :
    State.handOn ok source effect s = s.countBad := by
  subst h
  rfl

/-! ## A JOIN in the table (R66, R67) -/

theorem State.peerJoin_of_own (h : s.line.own = some source) : s.peerJoin source fields = s := if_pos (.inl h)

theorem State.peerJoin_of_mismatch (hown : s.line.own ≠ some source) (hself : s.peers[source].state ≠ .self)
    (h : s.peers[source].mismatch (peerKindOf fields.kind) = true) : s.peerJoin source fields = s.clash := by
  rw [State.peerJoin, if_neg (not_or.mpr ⟨hown, hself⟩), if_pos h]

theorem State.peerJoin_of_match (hown : s.line.own ≠ some source) (hself : s.peers[source].state ≠ .self)
    (h : s.peers[source].mismatch (peerKindOf fields.kind) = false) :
    s.peerJoin source fields = (s.setPeer source (PeerEntry.joinedBy s.clock fields)).peersChanged := by
  rw [State.peerJoin, if_neg (not_or.mpr ⟨hown, hself⟩), h, if_neg nofun]

theorem JoinFields.ok_iff : fields.ok source = true ↔
    fields.number.toNat = source.val + 1 ∧ fields.kind.toNat ≤ 2 ∧ 100 ≤ fields.tare.toNat ∧ fields.tare.toNat ≤ 355 := by
  simp [JoinFields.ok, and_assoc]

theorem peerKindOf_eq {code : BitVec 2} (h : code.toNat ≤ 2) :
    peerKindOf code = if code = 0 then .car else if code = 1 then .traction else .cab := by
  revert h
  revert code
  decide

theorem PeerEntry.mismatch_iff {e : PeerEntry} {kind : PeerKind} :
    e.mismatch kind = true ↔ e.state ≠ .empty ∧ e.kind ≠ .notKnown ∧ e.kind ≠ kind := by
  simp [PeerEntry.mismatch, and_assoc]

/-! ## What the own numbering reads -/

/-- The own numbering of two states is the same. -/
structure State.SameNumbering (s v : State) : Prop where
  own : v.line.own = s.line.own
  phase : v.line.phase = s.line.phase
  heard : v.line.highestHeard = s.line.highestHeard
  chain : v.chainIn = s.chainIn
  station : v.station = s.station

theorem State.chainIn_congr (hpins : t.pins.levels = s.pins.levels) (hstraps : t.straps = s.straps) :
    t.chainIn = s.chainIn := by
  simp only [State.chainIn, hpins, hstraps]

theorem State.sameNumbering_heardAt : s.SameNumbering (s.heardAt m) := ⟨rfl, rfl, rfl, rfl, rfl⟩

theorem State.SameNumbering.trans (h : s.SameNumbering t) (h' : t.SameNumbering u) : s.SameNumbering u :=
  ⟨h'.own.trans h.own, h'.phase.trans h.phase, h'.heard.trans h.heard, h'.chain.trans h.chain, h'.station.trans h.station⟩

theorem State.sameNumbering_clash : s.SameNumbering s.clash := by
  obtain ⟨-, hstation, hpins, hstraps⟩ := clash_stands (s := s)
  refine ⟨?_, ?_, ?_, chainIn_congr (congrArg Pins.levels hpins) hstraps, hstation⟩ <;> rw [clash_line]

theorem State.sameNumbering_entered (e : PeerEntry) : s.SameNumbering (s.setPeer source e).peersChanged := by
  have hline : (s.setPeer source e).peersChanged.line = s.line := peersChanged_stands.1
  exact ⟨by rw [hline], by rw [hline], by rw [hline],
    chainIn_congr (by simp [State.setPeer]) (straps_congr (by simp [State.setPeer])), by simp [State.setPeer]⟩

/-! ## What the own numbering makes of it -/

theorem State.numberByJoin_highestHeard (hown : s.line.phase = .chainWait → s.line.own = none)
    (hnumber : 1 ≤ fields.number.toNat) :
    (s.numberByJoin fields).line.highestHeard = (s.heardJoin fields).line.highestHeard := by
  by_cases hlast : s.line.phase = .completionWait ∧ fields.last = true
  · rw [numberByJoin_of_last hlast.1 hlast.2, clear_line]
    unfold State.consistComplete
    split <;> rfl
  by_cases hchain : s.line.phase = .chainWait ∧ s.chainIn = true
  · obtain ⟨hphase, hin⟩ := hchain
    by_cases hfull : 8 ≤ max s.line.highestHeard fields.number.toNat
    · rw [numberByJoin_of_full hphase hin (hown hphase) hfull, goSilent_line]
    · rw [numberByJoin_of_taken (n := ⟨_, not_le.mp hfull⟩) hphase hin (hown hphase) hnumber rfl]
      obtain ⟨slot, behind, sending, bus, hline⟩ :=
        takeNumber_slotted (s := s.heardJoin fields) (n := ⟨_, not_le.mp hfull⟩)
      rw [hline]
      rfl
  · rw [numberByJoin_of_other (fun hphase => Bool.eq_false_iff.mpr fun h => hlast ⟨hphase, h⟩)
      fun hphase => Bool.eq_false_iff.mpr fun h => hchain ⟨hphase, h⟩]

theorem State.numberByJoin_complete (hphase : s.line.phase = .completionWait) (hlast : fields.last = true) :
    (s.numberByJoin fields).line.phase = .complete ∧ (s.numberByJoin fields).line.completionTimer = none
      ∧ (s.numberByJoin fields).present .consistIncomplete = false
      ∧ (s.station.life = .joining →
        (s.numberByJoin fields).station.life = .proving ∧ (s.numberByJoin fields).brake.autoProof = true) := by
  have hline : (s.heardJoin fields).completed.consistComplete.line = (s.heardJoin fields).completed.line := by
    unfold State.consistComplete
    split <;> rfl
  have hstation : (s.heardJoin fields).completed.station = s.station := by
    obtain ⟨heard, h⟩ := heardJoin_eq (s := s) (fields := fields)
    rw [h]
    rfl
  rw [numberByJoin_of_last hphase hlast, clear_line, clear_station, clear_brake, hline]
  refine ⟨rfl, rfl, clear_present_self _ _, fun hjoining => ?_⟩
  rw [consistComplete_of_joining ((congrArg Station.life hstation).trans hjoining)]
  exact ⟨rfl, rfl⟩

/-- In CHAIN_WAIT with chain-in active the next number is taken, and none above 8. -/
theorem State.numberByJoin_own (hphase : s.line.phase = .chainWait) (hchain : s.chainIn = true) (hown : s.line.own = none)
    (hnumber : 1 ≤ fields.number.toNat) (h : max s.line.highestHeard fields.number.toNat < 8) :
    ∃ n : Fin 8, (s.numberByJoin fields).line.own = some n ∧ n.val = max s.line.highestHeard fields.number.toNat := by
  refine ⟨⟨_, h⟩, ?_, rfl⟩
  rw [numberByJoin_of_taken (n := ⟨_, h⟩) hphase hchain hown hnumber rfl]
  exact takeNumber_line.1

/-! ## The moment and the store -/

theorem State.afterOccurrence_heardAt : (s.heardAt m).afterOccurrence m k t = s.afterOccurrence m k t :=
  latchReports_congr rfl rfl rfl rfl rfl

theorem State.keepStore_summary : s.keepStore.summary = s.summary := summary_congr (by simp)

theorem State.keepStore_peers : s.keepStore.peers = s.peers := by simp

theorem State.keepStore_speed : s.keepStore.speed = s.speed := by simp

theorem State.keepStore_faults : s.keepStore.faults = s.faults := by simp

theorem exec_receiveJoin_heard (h : s.hears = true) (hok : fields.ok source = true) :
    exec (.receiveJoin m source fields) s
      = .next ((((s.heardAt m).clashTest source).peerJoin source fields).numberByJoin fields).keepStore :=
  (runFrame_of_hears _ h).trans (congrArg (fun u => Host.Outcome.next u.keepStore) (handOn_of_ok hok))

/-- What O34 asks of the own numbering, whatever the JOIN has made of the table. -/
theorem joinNumbers (hsame : s.SameNumbering v) (hown : s.line.phase = .chainWait → s.line.own = none)
    (hok : fields.ok source = true) :
    (s.line.own = none → (v.numberByJoin fields).line.highestHeard = max s.line.highestHeard (source.val + 1))
      ∧ (s.line.own.isSome = true → (v.numberByJoin fields).line.highestHeard = s.line.highestHeard)
      ∧ (s.line.phase = .completionWait → fields.last = true →
        (v.numberByJoin fields).line.phase = .complete ∧ (v.numberByJoin fields).line.completionTimer = none
          ∧ (v.numberByJoin fields).present .consistIncomplete = false
          ∧ (s.station.life = .joining →
            (v.numberByJoin fields).station.life = .proving ∧ (v.numberByJoin fields).brake.autoProof = true))
      ∧ (s.line.phase = .chainWait → s.chainIn = true → max s.line.highestHeard (source.val + 1) < 8 →
        s.line.own = none →
        ∃ n ∈ (v.numberByJoin fields).line.own, n.val = max s.line.highestHeard (source.val + 1)) := by
  obtain ⟨hnumber, -, -, -⟩ := JoinFields.ok_iff.mp hok
  have hown' (h : v.line.phase = .chainWait) : v.line.own = none := hsame.own.trans (hown (hsame.phase.symm.trans h))
  have hheard := State.numberByJoin_highestHeard (fields := fields) hown' (by omega)
  rw [← hnumber]
  refine ⟨fun hnone => ?_, fun hsome => ?_, fun hphase hlast => ?_, fun hphase hchain hlt hnone => ?_⟩
  · rw [hheard, State.heardJoin_of_none (hsame.own.trans hnone), ← hsame.heard]
    rfl
  · rw [hheard, State.heardJoin_of_some (by rw [hsame.own, hsome]), hsame.heard]
  · rw [← hsame.station]
    exact State.numberByJoin_complete (hsame.phase.trans hphase) hlast
  · rw [← hsame.heard] at hlt ⊢
    exact State.numberByJoin_own (hsame.phase.trans hphase) (hsame.chain.trans hchain) (hsame.own.trans hnone) (by omega) hlt

/-! ## No released side (R128, R129) -/

/-- No side is released. -/
def State.unreleased (s : State) : Prop := ∀ side, s.doors.sideRelease side = false

/-- With a class B condition no permit holds, so a state that keeps its permits has no released side. -/
theorem State.unreleased_of_classB (hpermits : s.permitsOk) (hclass : faultClassOf s.straps.strict k = .b)
    (hpresent : s.present k = true) : s.unreleased := by
  have hB : s.classB = true := classB_iff.mpr ⟨k, hclass, hpresent⟩
  intro side
  refine Bool.eq_false_iff.mpr fun hset => ?_
  simpa [State.permit, hB] using hpermits side hset

/-- Without a released side a retest leaves the doors. -/
theorem State.unreleased.retest (h : s.unreleased) :
    s.retestPermits.doors.doors = s.doors.doors ∧ s.retestPermits.unreleased := by
  refine ⟨PerDoor.ext fun d => ?_, fun side => ?_⟩
  · rw [retestPermits_get, if_neg (by simp [h _])]
  · rw [retestPermits_sideRelease, h side, Bool.false_and]

theorem State.unreleased.raise (h : s.unreleased) (hclass : faultClassOf s.straps.strict k ≠ .a) :
    (s.raise k).doors.doors = s.doors.doors ∧ (s.raise k).unreleased := by
  unfold State.raise
  split
  · exact ⟨rfl, h⟩
  unfold State.react
  split
  next ha => exact absurd ha hclass
  next => exact retest (s := (s.recordOccurrence k).lowerLimit 0) h
  next => exact ⟨rfl, h⟩

theorem State.unreleased.clear (h : s.unreleased) : (s.clear k).doors.doors = s.doors.doors ∧ (s.clear k).unreleased := by
  unfold State.clear
  split
  · split
    · exact retest (s := s.recordGoing k) h
    · exact retest (s := s.recordGoing k) h
    · exact ⟨rfl, h⟩
  · exact ⟨rfl, h⟩

/-! ## A clash that also completes the consist -/

theorem State.completed_stands :
    s.completed.consistComplete.faults = s.faults ∧ s.completed.consistComplete.doors = s.doors
      ∧ s.completed.consistComplete.pins = s.pins ∧ s.completed.consistComplete.straps = s.straps := by
  unfold State.consistComplete
  split <;> exact ⟨rfl, rfl, rfl, rfl⟩

theorem State.completed_line : s.completed.consistComplete.line = s.completed.line := by
  unfold State.consistComplete
  split <;> rfl

theorem State.completed_storing : s.completed.consistComplete.station.storing = s.station.storing := by
  unfold State.consistComplete
  split <;> rfl

theorem completedConsist_onlyChanges : onlyChanges [.numbering, .station, .proof] s s.completed.consistComplete := by
  refine (completed_onlyChanges.mono (by decide)).trans ?_ rfl
  unfold State.consistComplete
  split
  · intro p
    cases p <;> simp [Part.same, State.enterProving]
  · exact onlyChanges_refl _ _

/-- The clash is reported with its mass latch, then the end of CONSIST_INCOMPLETE; as one of the two conditions was absent
before, or no side was released, their order does not show. -/
theorem State.clash_completed_faults (hload : s.pins.load = m.load) (hpermits : s.permitsOk)
    (ht : t.summary = (s.clash.completed.consistComplete.clear .consistIncomplete).summary) :
    (s.clash.completed.consistComplete.clear .consistIncomplete).faults
      = s.latchReports m t ((s.faults.occur s.straps.strict .numberClash).going .consistIncomplete) := by
  obtain ⟨hfaults, hdoors, hpins, hstraps⟩ := completed_stands (s := s.clash)
  have hsummary : s.clash.completed.consistComplete.summary = s.clash.summary := summary_congr (congrArg _ hdoors)
  have hload' : s.clash.completed.consistComplete.pins.load = m.load := by
    rw [hpins, clash_stands.2.2.1, hload]
  cases hpresent : s.present .consistIncomplete
  · have habsent : s.clash.completed.consistComplete.present .consistIncomplete = false := by
      rw [present_congr hfaults]
      exact (raise_present_of_ne (s := s.setLine { s.line with clashTimer := some s.clock }) (j := .consistIncomplete)
        (k := .numberClash) nofun nofun).trans hpresent
    have hgoing : (s.faults.occur s.straps.strict .numberClash).going .consistIncomplete
        = s.faults.occur s.straps.strict .numberClash :=
      if_neg (by
        rw [Faults.present_occur_of_ne (k := .consistIncomplete) (j := .numberClash) _ _ nofun]
        exact Bool.eq_false_iff.mp hpresent)
    rw [clear_of_absent habsent] at ht ⊢
    rw [hfaults, hgoing]
    exact clash_faults hload (ht.trans hsummary)
  · have hnone : s.unreleased := unreleased_of_classB hpermits (k := .consistIncomplete) rfl hpresent
    obtain ⟨hclash, hnone'⟩ :=
      hnone.raise (s := s.setLine { s.line with clashTimer := some s.clock }) (k := .numberClash) nofun
    have hnone'' : s.clash.completed.consistComplete.unreleased := by
      intro side
      rw [hdoors]
      exact hnone' side
    have hcleared : (s.clash.completed.consistComplete.clear .consistIncomplete).summary
        = s.clash.completed.consistComplete.summary := summary_congr hnone''.clear.1
    have hsame : s.clash.summary = s.summary := summary_congr hclash
    rw [clear_faults (m := m) rfl hload', latchReports_of_same hcleared,
      latchReports_of_same (ht.trans (hcleared.trans (hsummary.trans hsame))), hfaults,
      clash_faults (m := m) (t := s) hload hsame.symm, State.afterOccurrence, latchReports_of_same rfl]

/-- The JOIN's entry made in the table. -/
def State.joinEntered (m : Moment) (source : Fin 8) (fields : JoinFields) (s : State) : State :=
  ((s.heardAt m).setPeer source (PeerEntry.joinedBy (s.heardAt m).clock fields)).peersChanged

theorem State.joinEntered_line : (s.joinEntered m source fields).line = s.line.occupied := peersChanged_stands.1

theorem State.joinEntered_entry :
    (s.joinEntered m source fields).peers[source] = PeerEntry.joinedBy (s.instant m) fields := by
  simp [State.joinEntered, State.setPeer, State.heardAt]

theorem joinEntered_onlyChanges : onlyChanges Part.ofPeers (s.heardAt m) (s.joinEntered m source fields) :=
  ((setPeer_onlyChanges _ _).mono (by decide)).trans peersChanged_onlyChanges rfl

/-- Settles O34: the table's entry or the clash, and the own numbering after it. -/
theorem joinEntersTable : Obligations.JoinEntersTable := by
  intro m source fields s hhears hok hwait
  obtain ⟨hnumber, hkind, -, -⟩ := JoinFields.ok_iff.mp hok
  have hexec := exec_receiveJoin_heard (m := m) hhears hok
  refine ⟨fun hown hself => ?_, fun hown => ?_⟩
  · rw [State.clashTest_of_other (s := s.heardAt m) hown] at hexec
    have hclashes : s.peers[source].mismatch (peerKindOf fields.kind) = true ↔ _ := PeerEntry.mismatch_iff
    rw [peerKindOf_eq hkind] at hclashes
    cases hmismatch : s.peers[source].mismatch (peerKindOf fields.kind)
    · rw [State.peerJoin_of_match (s := s.heardAt m) hown hself hmismatch] at hexec
      change exec _ _ = .next ((s.joinEntered m source fields).numberByJoin fields).keepStore at hexec
      rw [peerKindOf_eq hkind] at hmismatch
      have hsame : s.SameNumbering (s.joinEntered m source fields) :=
        State.sameNumbering_heardAt.trans (State.sameNumbering_entered _)
      obtain ⟨hnone, hsome, hcomplete, htaken⟩ := joinNumbers hsame hwait hok
      have hnumbers := State.numbers_numberByJoin (s := s.joinEntered m source fields) (fields := fields)
        (fun h => hsame.own.trans (hwait (hsame.phase.symm.trans h))) (by omega)
      refine ⟨_, hexec, fun hclash => absurd (hclashes.mpr hclash) (by rw [hmismatch]; nofun), fun _ => ⟨?_, ?_, ?_, ?_⟩,
        ?_, ?_, ?_, ?_, ?_⟩
      · rw [State.keepStore_peers, hnumbers.entries source (by omega), State.joinEntered_entry, PeerEntry.joinedBy,
          peerKindOf_eq hkind]
      · rw [State.keepStore_line, hnumbers.clashTimer, State.joinEntered_line]
        rfl
      · exact (hnumbers.claims (State.peersChanged_claimsFollow rfl)).keepStore
      · exact (hnumbers.losses (State.peersChanged_lossesFollow rfl)).keepStore
      · rw [State.keepStore_line]
        exact hnone
      · rw [State.keepStore_line]
        exact hsome
      · rw [State.keepStore_line, State.keepStore_present, State.keepStore_station, State.keepStore_brake]
        exact hcomplete
      · rw [State.keepStore_line]
        exact htaken
      · exact onlyChanges_of_heard_of_storing ((joinEntered_onlyChanges.mono (by decide)).trans_of_storing hnumbers.changes
          (congrArg Station.storing hsame.station)) (hnumbers.storing.trans (congrArg Station.storing hsame.station))
          (by decide)
    · rw [State.peerJoin_of_mismatch (s := s.heardAt m) hown hself hmismatch] at hexec
      rw [peerKindOf_eq hkind] at hmismatch
      have hsame : s.SameNumbering (s.heardAt m).clash := State.sameNumbering_heardAt.trans State.sameNumbering_clash
      obtain ⟨hnone, hsome, hcomplete, htaken⟩ := joinNumbers hsame hwait hok
      have hnumbers := State.numbers_numberByJoin (s := (s.heardAt m).clash) (fields := fields)
        (fun h => hsame.own.trans (hwait (hsame.phase.symm.trans h))) (by omega)
      obtain ⟨hactive, hrecord⟩ := State.clash_record (s := s.heardAt m)
      refine ⟨_, hexec, fun _ => ⟨?_, ?_, ?_, ?_, fun habsent => ?_, fun hphase hlast => ?_⟩,
        fun hno => absurd (hclashes.mp hmismatch) hno, ?_, ?_, ?_, ?_, ?_⟩
      · rw [State.keepStore_peers, hnumbers.entries source (by omega), State.clash_stands.1]
        rfl
      · rw [State.keepStore_present, hnumbers.present]
        exact State.clash_present
      · rw [State.keepStore_line, hnumbers.clashTimer, State.clash_line]
        rfl
      · rw [State.keepStore_faults, (hnumbers.record hactive).2, hrecord]
        rfl
      · rw [State.keepStore_speed]
        exact Nat.le_zero.mp (hnumbers.limit.trans (State.clash_localLimit (s := s.heardAt m) habsent).le)
      · obtain ⟨heard, hjoined⟩ := State.heardJoin_eq (s := (s.heardAt m).clash) (fields := fields)
        have hother : (s.heardAt m).clash.numberByJoin fields
            = (s.heardAt m).clash.setLine { (s.heardAt m).clash.line with highestHeard := heard } := by
          rw [State.numberByJoin_of_other (fun h => hlast (hsame.phase.symm.trans h))
            fun h => absurd (hsame.phase.symm.trans h) hphase, hjoined]
        rw [hother, State.keepStore_faults]
        refine (State.clash_faults (s := s.heardAt m) (m := m) rfl ?_).trans State.afterOccurrence_heardAt
        exact State.keepStore_summary
      · rw [State.keepStore_line]
        exact hnone
      · rw [State.keepStore_line]
        exact hsome
      · rw [State.keepStore_line, State.keepStore_present, State.keepStore_station, State.keepStore_brake]
        exact hcomplete
      · rw [State.keepStore_line]
        exact htaken
      · exact onlyChanges_of_heard_of_storing ((clash_onlyChanges.mono (by decide)).trans_of_storing hnumbers.changes
          (congrArg Station.storing State.clash_stands.2.1)) (hnumbers.storing.trans (congrArg Station.storing hsame.station))
          (by decide)
  · rw [State.clashTest_of_own (s := s.heardAt m) hown,
      State.peerJoin_of_own (s := (s.heardAt m).clash) (by rw [State.clash_line]; exact hown)] at hexec
    have hsame : s.SameNumbering (s.heardAt m).clash := State.sameNumbering_heardAt.trans State.sameNumbering_clash
    obtain ⟨-, hheard, hcomplete, -⟩ := joinNumbers hsame hwait hok
    have hnumbers := State.numbers_numberByJoin (s := (s.heardAt m).clash) (fields := fields)
      (fun h => hsame.own.trans (hwait (hsame.phase.symm.trans h))) (by omega)
    obtain ⟨hactive, hrecord⟩ := State.clash_record (s := s.heardAt m)
    refine ⟨_, hexec, ?_, ?_, fun habsent => ?_, ?_, fun ⟨hphase, hlast⟩ => ?_, fun hother => ?_⟩
    · rw [State.keepStore_present, hnumbers.present]
      exact State.clash_present
    · rw [State.keepStore_line, hnumbers.clashTimer, State.clash_line]
      rfl
    · rw [State.keepStore_speed]
      exact Nat.le_zero.mp (hnumbers.limit.trans (State.clash_localLimit (s := s.heardAt m) habsent).le)
    · rw [State.keepStore_faults, (hnumbers.record hactive).2, hrecord]
      rfl
    · have hlast' := State.numberByJoin_of_last (s := (s.heardAt m).clash) (hsame.phase.trans hphase) hlast
      rw [State.heardJoin_of_some (by rw [hsame.own, hown]; rfl)] at hlast'
      obtain ⟨hphase', htimer, hpresent, hlife⟩ := hcomplete hphase hlast
      have hown' : ((s.heardAt m).clash.numberByJoin fields).line.own = s.line.own := by
        rw [hlast', State.clear_line, State.completed_line]
        exact hsame.own
      refine ⟨?_, ?_, ?_, fun hpermits => ?_, fun hjoining => ?_, ?_, ?_, ?_⟩
      · rw [State.keepStore_line, hphase']
      · rw [State.keepStore_line, htimer]
      · rw [State.keepStore_present, hpresent]
      · rw [State.keepStore_faults, hlast', State.clash_completed_faults (s := s.heardAt m) (m := m) rfl hpermits
          State.keepStore_summary]
        exact State.latchReports_congr rfl rfl rfl rfl rfl
      · rw [State.keepStore_station, State.keepStore_brake]
        exact hlife hjoining
      · rw [State.keepStore_line, hown']
      · rw [State.keepStore_line, hheard (by rw [hown]; rfl)]
      · have hchanges : onlyChanges (Part.also Part.ofClassB [.transmission, .quality, .numbering, .station, .proof])
            (s.heardAt m) ((s.heardAt m).clash.numberByJoin fields) := by
          rw [hlast']
          exact ((clash_onlyChanges.mono (by decide)).trans_of_storing (completedConsist_onlyChanges.mono (by decide))
            (congrArg Station.storing State.clash_stands.2.1)).trans_of_storing
            ((clear_onlyChanges_ofClassB _).mono (by decide))
            (State.completed_storing.trans (congrArg Station.storing State.clash_stands.2.1))
        exact onlyChanges_of_heard_of_storing hchanges (hnumbers.storing.trans (congrArg Station.storing hsame.station))
          (by decide)
    · have hother' : (s.heardAt m).clash.numberByJoin fields = (s.heardAt m).clash := by
        rw [State.numberByJoin_of_other, State.heardJoin_of_some (by rw [hsame.own, hown]; rfl)]
        · intro hphase
          exact hother.resolve_left (not_not.mpr (hsame.phase.symm.trans hphase))
        · intro hphase
          exact absurd ((hwait (hsame.phase.symm.trans hphase)).symm.trans hown) nofun
      rw [hother']
      refine ⟨?_, onlyChanges_of_heard (clash_onlyChanges.mono (by decide)) State.clash_stands.2.1 (by decide)⟩
      rw [State.keepStore_faults, State.clash_faults (s := s.heardAt m) (m := m) rfl State.keepStore_summary,
        State.afterOccurrence_heardAt]

end Sys2Proof.Machine
end

section
/-! SUPPORT. O35 and O36: frames of other stations in the table, and the ages of its entries (sections 3.6, 4.2 and 4.4). -/

namespace Sys2Proof.Machine

variable {ps : List Part} {s t u v : State} {m : Moment} {j k : FaultKind} {n source station : Fin 8}

/-! ## A frame under the own number (R57) -/

/-- What a frame under the own number leaves where it is a clash and nothing else. -/
theorem clashed_facts (m : Moment) (s : State) :
    (s.heardAt m).clash.keepStore.present .numberClash = true
      ∧ (s.heardAt m).clash.keepStore.line.clashTimer = some (s.instant m)
      ∧ (s.present .numberClash = false → (s.heardAt m).clash.keepStore.speed.localLimit = 0)
      ∧ (s.heardAt m).clash.keepStore.faults = s.afterOccurrence m .numberClash (s.heardAt m).clash.keepStore
      ∧ onlyChanges (Part.also Part.ofClassB [.transmission, .quality]) s (s.heardAt m).clash.keepStore := by
  refine ⟨?_, ?_, fun habsent => ?_, ?_,
    onlyChanges_of_heard (clash_onlyChanges.mono (by decide)) State.clash_stands.2.1 (by decide)⟩
  · rw [State.keepStore_present]
    exact State.clash_present
  · rw [State.keepStore_line, State.clash_line]
    rfl
  · rw [State.keepStore_speed]
    exact State.clash_localLimit (s := s.heardAt m) habsent
  · rw [State.keepStore_faults, State.clash_faults (s := s.heardAt m) (m := m) rfl State.keepStore_summary,
      State.afterOccurrence_heardAt]

theorem State.heardAt_clash_own : (s.heardAt m).clash.line.own = s.line.own := by
  rw [clash_line]
  rfl

/-! ## A STATE, an ALERT, a reply (R55, R68, R72) -/

theorem runFrame_handOn_of_ok {effect : State → State} {ok : Bool} (h : s.hears = true) (hok : ok = true) :
    runFrame m (State.handOn ok source effect) s = .next (effect ((s.heardAt m).clashTest source)).keepStore :=
  (runFrame_of_hears _ h).trans (congrArg (fun u => Host.Outcome.next u.keepStore) (handOn_of_ok hok))

theorem runFrame_handOn_of_bad {effect : State → State} {ok : Bool} (h : s.hears = true) (hok : ok = false) :
    runFrame m (State.handOn ok source effect) s = .next (s.heardAt m).countBad.keepStore :=
  (runFrame_of_hears _ h).trans (congrArg (fun u => Host.Outcome.next u.keepStore) (handOn_of_bad hok))

/-- What a bad frame leaves. -/
theorem counted_facts (m : Moment) (s : State) :
    (s.heardAt m).countBad.keepStore.line.badCount = s.line.badCount + 1
      ∧ onlyChanges [.transmission, .quality, .faults] s (s.heardAt m).countBad.keepStore := by
  refine ⟨?_, onlyChanges_of_heard (countBad_onlyChanges.mono (by decide)) State.countBad_station (by decide)⟩
  rw [State.keepStore_line, State.countBad_line]
  rfl

theorem State.peerState_of_own {report : StateReport} (h : s.line.own = some source) : s.peerState source report = s :=
  if_pos (.inl h)

theorem State.peerAlert_of_own {kind : Byte} (h : s.line.own = some source) : s.peerAlert source kind = s :=
  if_pos (.inl h)

/-- The entry of a STATE. -/
def PeerEntry.reported (now : Nat) (report : StateReport) (e : PeerEntry) : PeerEntry :=
  { e with state := .fresh, contents := some report, ageFrom := some now }

theorem State.peerState_of_other {report : StateReport} (hown : s.line.own ≠ some source)
    (hself : s.peers[source].state ≠ .self) :
    s.peerState source report = (s.setPeer source (s.peers[source].reported s.clock report)).peersChanged :=
  if_neg (not_or.mpr ⟨hown, hself⟩)

theorem State.peerAlert_of_other {kind : Byte} (hown : s.line.own ≠ some source)
    (hself : s.peers[source].state ≠ .self) :
    s.peerAlert source kind = s.setPeer source { s.peers[source] with lastAlert := faultKindOfCode kind.toNat } :=
  if_neg (not_or.mpr ⟨hown, hself⟩)

theorem State.setPeer_entry (e : PeerEntry) : (s.setPeer source e).peers[source] = e := by
  simp [State.setPeer]

theorem State.enforced_le_report {e : PeerEntry} (h : e.inSet = true) :
    (s.setPeer source e).peersChanged.speed.enforced ≤ e.report.localLimit.toNat := by
  have hpeers : (s.setPeer source e).peersChanged.peers[source] = e := by simp [State.setPeer]
  have hunder := (State.peersChanged_underConsist (s := s.setPeer source e)).2 source (by rw [hpeers, h])
  rwa [hpeers] at hunder

theorem entered_onlyChanges (e : PeerEntry) : onlyChanges Part.ofPeers s (s.setPeer source e).peersChanged :=
  ((setPeer_onlyChanges _ _).mono (by decide)).trans peersChanged_onlyChanges rfl

theorem State.entered_stands (e : PeerEntry) :
    (s.setPeer source e).peersChanged.station = s.station
      ∧ (s.setPeer source e).peersChanged.peers = s.peers.set source e := by
  simp [State.setPeer]

/-- Each code of the table of section 10.1 is its kind's. -/
theorem faultKindOfCode_code {code : Nat} (h1 : 1 ≤ code) (h29 : code ≤ 29) :
    (faultKindOfCode code).map FaultKind.code = some code := by
  interval_cases code <;> rfl

theorem alertOk_iff {kind station : Byte} : alertOk kind station = true ↔
    1 ≤ kind.toNat ∧ kind.toNat ≤ 29 ∧ 1 ≤ station.toNat ∧ station.toNat ≤ 8 := by
  simp [alertOk, and_assoc]

/-- Settles O35: a frame of another station in the table, one under the own number as a clash. -/
theorem peerFramesEnterTable : Obligations.PeerFramesEnterTable := by
  intro m source report kind station payload s hhears
  have hreply (h4 : 4 ≤ payload.length) (h24 : payload.length ≤ 24) :
      (FrameBody.inspectReply payload).ok source = true := by
    simp [FrameBody.ok, h4, h24]
  refine ⟨fun hown hself => ⟨fun hok => ?_, fun hok => ?_, fun h4 h24 => ?_, fun hbad => ?_⟩,
    fun hown => ⟨fun hok => ?_, fun hok => ?_, fun h4 h24 => ?_⟩⟩
  · have hexec : exec (.receiveState m source report) s = _ := runFrame_handOn_of_ok (m := m) hhears hok
    rw [State.clashTest_of_other (s := s.heardAt m) hown, State.peerState_of_other (s := s.heardAt m) hown hself] at hexec
    obtain ⟨hstation, hpeers⟩ := State.entered_stands (s := s.heardAt m) (source := source)
      (s.peers[source].reported (s.instant m) report)
    refine ⟨_, hexec, ?_, ?_, (State.peersChanged_claimsFollow rfl).keepStore,
      (State.peersChanged_lossesFollow rfl).keepStore,
      onlyChanges_of_heard ((entered_onlyChanges _).mono (by decide)) hstation (by decide)⟩
    · rw [State.keepStore_peers]
      exact hpeers
    · rw [State.keepStore_speed]
      exact State.enforced_le_report rfl
  · obtain ⟨h1, h29, -, -⟩ := alertOk_iff.mp hok
    have hexec : exec (.receiveAlert m source kind station) s = _ := runFrame_handOn_of_ok (m := m) hhears hok
    rw [State.clashTest_of_other (s := s.heardAt m) hown, State.peerAlert_of_other (s := s.heardAt m) hown hself] at hexec
    refine ⟨_, hexec, ?_, ?_, onlyChanges_of_heard ((setPeer_onlyChanges _ _).mono (by decide)) rfl (by decide)⟩
    · rw [State.keepStore_peers, State.setPeer_entry]
      exact faultKindOfCode_code h1 h29
    · rw [State.keepStore_peers, State.setPeer_entry]
      rfl
  · have hexec : exec (.receiveInspectReply m source payload) s = _ := runFrame_handOn_of_ok (m := m) hhears (hreply h4 h24)
    rw [State.clashTest_of_other (s := s.heardAt m) hown] at hexec
    exact ⟨_, hexec, onlyChanges_of_heard (onlyChanges_refl _ _) rfl (by decide)⟩
  · exact ⟨_, runFrame_handOn_of_bad hhears hbad, counted_facts m s⟩
  · have hexec : exec (.receiveState m source report) s = _ := runFrame_handOn_of_ok (m := m) hhears hok
    rw [State.clashTest_of_own (s := s.heardAt m) hown, State.peerState_of_own (State.heardAt_clash_own.trans hown)] at hexec
    exact ⟨_, hexec, clashed_facts m s⟩
  · have hexec : exec (.receiveAlert m source kind station) s = _ := runFrame_handOn_of_ok (m := m) hhears hok
    rw [State.clashTest_of_own (s := s.heardAt m) hown, State.peerAlert_of_own (State.heardAt_clash_own.trans hown)] at hexec
    obtain ⟨hpresent, htimer, hlimit, hfaults, hchanges⟩ := clashed_facts m s
    exact ⟨_, hexec, hpresent, htimer, hfaults, hlimit, hchanges⟩
  · have hexec : exec (.receiveInspectReply m source payload) s = _ := runFrame_handOn_of_ok (m := m) hhears (hreply h4 h24)
    rw [State.clashTest_of_own (s := s.heardAt m) hown] at hexec
    obtain ⟨hpresent, htimer, hlimit, hfaults, hchanges⟩ := clashed_facts m s
    exact ⟨_, hexec, hpresent, htimer, hfaults, hlimit, hchanges⟩

/-! ## Ages (R69 to R71) -/

theorem State.peerStale_of_other (h : s.peers[station].state ≠ .fresh) : s.peerStale station = s := if_neg h

theorem State.peerLost_of_aged (h : s.peers[station].state = .stale ∨ s.peers[station].state = .joined) :
    s.peerLost station
      = ((s.setPeer station { s.peers[station] with state := .lost }).raise .peerLost).peersChanged := if_pos h

theorem State.peerLost_of_other (h : s.peers[station].state ≠ .stale) (h' : s.peers[station].state ≠ .joined) :
    s.peerLost station = s := if_neg (not_or.mpr ⟨h, h'⟩)

/-- The entry made STALE, with what follows it. -/
def State.entryStaled (station : Fin 8) (s : State) : State :=
  (s.setPeer station { s.peers[station] with state := .stale }).peersChanged

theorem State.entryStaled_peers :
    (s.entryStaled station).peers = s.peers.set station { s.peers[station] with state := .stale } :=
  (entered_stands _).2

theorem State.peerStale_of_fresh (h : s.peers[station].state = .fresh) :
    s.peerStale station = s.entryStaled station := if_pos h

theorem State.entryStaled_claims : (s.entryStaled station).claimsFollow s := peersChanged_claimsFollow rfl

theorem State.entryStaled_losses : (s.entryStaled station).lossesFollow s := peersChanged_lossesFollow rfl

theorem exec_peerStale_due (hrun : s.running = true)
    (hdue : timerReached s.peers[station].ageFrom (s.instant m) (ms 150) = true) :
    exec (.peerStale m station) s = .next ((s.atMoment m).peerStale station).keepStore :=
  runCommand_due (timer := fun u => u.peers[station].ageFrom) hrun hdue

theorem exec_peerLost_due (hrun : s.running = true)
    (hdue : timerReached s.peers[station].ageFrom (s.instant m) (ms 500) = true) :
    exec (.peerLost m station) s = .next ((s.atMoment m).peerLost station).keepStore :=
  runCommand_due (timer := fun u => u.peers[station].ageFrom) hrun hdue

theorem State.allFresh_false_of_stale (h : s.peers[station].state = .stale) : s.allFresh = false := by
  refine Bool.eq_false_iff.mpr fun hall => ?_
  have hentry := (peers_all_iff (s := s) _).mp hall station
  simp only [PeerEntry.inSet, h] at hentry
  cases hentry

theorem entry_of_set {e : PeerEntry} (h : t.peers = s.peers.set station e) : t.peers[station] = e := by
  simp [h]

theorem State.peersChanged_entries : s.peersChanged.peers = s.peers := by simp

theorem anyLost_setPeer {e : PeerEntry} (h : e.state = .lost) : (s.setPeer station e).anyLost = true :=
  State.anyLost_iff.mpr ⟨station, by rw [State.setPeer_entry, h]⟩

/-- The entry made LOST, and PEER_LOST with it. -/
def State.entryLost (station : Fin 8) (s : State) : State :=
  (s.setPeer station { s.peers[station] with state := .lost }).raise .peerLost

theorem State.entryLost_peers :
    (s.entryLost station).peers = s.peers.set station { s.peers[station] with state := .lost } := raise_peers _

theorem State.entryLost_present : (s.entryLost station).peersChanged.present .peerLost = true := by
  have hlost : (s.entryLost station).anyLost = true :=
    (anyLost_congr (raise_peers _)).trans (anyLost_setPeer (s := s) (station := station) rfl)
  rw [peersChanged_peerLost, hlost, Bool.and_true]
  exact raise_present_self _

theorem State.entryLost_claims : (s.entryLost station).peersChanged.claimsFollow s :=
  peersChanged_claimsFollow (raise_present_of_ne (j := .cabConflict) (k := .peerLost) nofun nofun)

theorem State.entryLost_localLimit (h : s.present .peerLost = false) :
    (s.entryLost station).peersChanged.speed.localLimit = 0 := by
  have hzero : (s.entryLost station).speed.localLimit = 0 :=
    raise_localLimit (s := s.setPeer station { s.peers[station] with state := .lost }) (k := .peerLost) nofun h
  exact Nat.le_zero.mp ((State.Lowered.peersChanged (.refl (s.entryLost station))).2.2.trans hzero.le)

theorem entryLost_onlyChanges : onlyChanges Part.ofPeers s (s.entryLost station).peersChanged := by
  have hset : onlyChanges Part.ofPeers s (s.setPeer station { s.peers[station] with state := .lost }) :=
    (setPeer_onlyChanges _ _).mono (by decide)
  exact (hset.trans ((raise_onlyChanges_ofClassB (k := .peerLost) nofun).mono (by decide)) rfl).trans
    peersChanged_onlyChanges (State.raise_station _)

/-- Settles O36: an entry ages to STALE and to LOST. -/
theorem peersAge : Obligations.PeersAge := by
  intro m station s hrun
  refine ⟨fun hdue => ?_, fun hdue => ?_⟩
  · have hexec := exec_peerStale_due hrun hdue
    by_cases hfresh : s.peers[station].state = .fresh
    · rw [State.peerStale_of_fresh (s := s.atMoment m) hfresh] at hexec
      have hpeers := State.keepStore_peers.trans (State.entryStaled_peers (s := s.atMoment m) (station := station))
      refine ⟨_, hexec, fun _ => ⟨hpeers, ?_,
        State.claimsFollow.keepStore (State.entryStaled_claims (s := s.atMoment m)),
        State.lossesFollow.keepStore (State.entryStaled_losses (s := s.atMoment m))⟩, fun h => absurd hfresh h, ?_⟩
      · exact State.allFresh_false_of_stale (station := station) (congrArg PeerEntry.state (entry_of_set hpeers))
      · exact onlyChanges_of_effect (entered_onlyChanges _) (State.entered_stands _).1
    · rw [State.peerStale_of_other (s := s.atMoment m) hfresh] at hexec
      exact ⟨_, hexec, fun h => absurd h hfresh, fun _ => onlyChanges_of_effect (onlyChanges_refl _ _) rfl,
        onlyChanges_of_effect (onlyChanges_refl _ _) rfl⟩
  · have hexec := exec_peerLost_due hrun hdue
    by_cases haged : s.peers[station].state = .stale ∨ s.peers[station].state = .joined
    · rw [State.peerLost_of_aged (s := s.atMoment m) haged] at hexec
      change exec _ _ = .next ((s.atMoment m).entryLost station).peersChanged.keepStore at hexec
      refine ⟨_, hexec, fun _ => ⟨?_, ?_, fun habsent => ?_, ?_⟩, fun h h' => absurd haged (not_or.mpr ⟨h, h'⟩), ?_⟩
      · rw [State.keepStore_peers, State.peersChanged_entries, State.entryLost_peers]
        rfl
      · rw [State.keepStore_present]
        exact State.entryLost_present
      · rw [State.keepStore_speed]
        exact State.entryLost_localLimit (s := s.atMoment m) habsent
      · exact State.claimsFollow.keepStore (State.entryLost_claims (s := s.atMoment m))
      · exact onlyChanges_of_effect entryLost_onlyChanges (by simp [State.entryLost, State.setPeer])
    · obtain ⟨hstale, hjoined⟩ := not_or.mp haged
      rw [State.peerLost_of_other (s := s.atMoment m) hstale hjoined] at hexec
      exact ⟨_, hexec, fun h => absurd h haged, fun _ _ => onlyChanges_of_effect (onlyChanges_refl _ _) rfl,
        onlyChanges_of_effect (onlyChanges_refl _ _) rfl⟩

end Sys2Proof.Machine
end

section
/-! SUPPORT. O38: which COMMAND frames take effect (sections 3.4, 3.6, 4.4 and 11.3). -/

namespace Sys2Proof.Machine

variable {ps : List Part} {s t u v : State} {m : Moment} {j k : FaultKind} {source : Fin 8} {sub : Subkind} {target : Byte}
  {param : BitVec 16}

theorem PeerEntry.claims_iff {e : PeerEntry} : e.claims = true ↔
    e.kind = .cab ∧ (e.state = .fresh ∨ e.state = .stale ∨ e.state = .lost) ∧ e.report.cabActive = true := by
  rw [claims_eq, decide_eq_true_iff]

theorem State.activeCab_iff : s.activeCab source = true ↔
    s.present .cabConflict = false ∧ s.peers[source].kind = .cab ∧ s.peers[source].state = .fresh
      ∧ s.peers[source].report.cabActive = true := by
  simp only [State.activeCab, Bool.and_eq_true, Bool.not_eq_true', beq_iff_eq, PeerEntry.claims_iff]
  tauto

/-- A target is a station's number or ALL. -/
theorem State.targeted_iff :
    (target.toNat == 0 || (s.line.own.isSome && target == s.stationByte)) = true
      ↔ target.toNat = 0 ∨ ∃ n : Fin 8, s.line.own = some n ∧ target.toNat = n.val + 1 := by
  have hbyte (n : Fin 8) : target = BitVec.ofNat 8 (n.val + 1) ↔ target.toNat = n.val + 1 := by
    rw [← BitVec.toNat_inj, BitVec.toNat_ofNat, Nat.mod_eq_of_lt (by omega)]
  cases hown : s.line.own with
  | none => simp
  | some n => simp [State.stationByte, hown, hbyte]

theorem State.accepts_iff : s.accepts source target = true ↔
    s.present .cabConflict = false ∧ s.peers[source].kind = .cab ∧ s.peers[source].state = .fresh
      ∧ s.peers[source].report.cabActive = true
      ∧ (target.toNat = 0 ∨ ∃ n : Fin 8, s.line.own = some n ∧ target.toNat = n.val + 1) := by
  rw [State.accepts, Bool.and_eq_true, activeCab_iff, targeted_iff]
  tauto

theorem admits_iff {life : Life} : admits sub life = true ↔
    life = .ready ∨ life = .proving ∧ (sub = .proof ∨ sub = .consistReset)
      ∨ (life = .joining ∨ life = .resuming) ∧ sub = .consistReset := by
  cases sub <;> cases life <;> decide

theorem commandOk_false_iff : commandOk target sub param = false ↔
    8 < target.toNat ∨ sub = .doorsRelease ∧ 1 < param.toNat
      ∨ sub = .inspect ∧ (param.toNat = 0 ∨ 5 < param.toNat) := by
  cases sub <;> simp [commandOk] <;> omega

/-! ## A COMMAND frame not taken -/

theorem exec_subkindCommand (m : Moment) (sub : Subkind) (source : Fin 8) (target : Byte) (param : BitVec 16) (s : State) :
    ∃ effect, exec (subkindCommand m source target param sub) s = runCommandFrame m sub source target param effect s := by
  cases sub <;> exact ⟨_, rfl⟩

/-- A good frame is taken where the state after the clash test accepts and admits it. -/
theorem runCommandFrame_of_good {effect : State → State} (h : s.hears = true) (hok : commandOk target sub param = true) :
    runCommandFrame m sub source target param effect s
      = .next (if ((s.heardAt m).clashTest source).accepts source target
            && admits sub ((s.heardAt m).clashTest source).station.life then effect ((s.heardAt m).clashTest source)
          else (s.heardAt m).clashTest source).keepStore := runFrame_handOn_of_ok h hok

theorem State.accepts_congr (hconflict : t.present .cabConflict = s.present .cabConflict) (hpeers : t.peers = s.peers)
    (hown : t.line.own = s.line.own) : t.accepts source target = s.accepts source target := by
  simp only [State.accepts, State.activeCab, State.stationByte, hconflict, hpeers, hown]

/-- The clash test reads and leaves what acceptance and admission read. -/
theorem State.clashTest_accepts :
    ((s.heardAt m).clashTest source).accepts source target = s.accepts source target
      ∧ ((s.heardAt m).clashTest source).station = s.station := by
  unfold State.clashTest
  split
  · exact ⟨accepts_congr (raise_present_of_ne (j := .cabConflict) (k := .numberClash) nofun nofun) clash_stands.1
      heardAt_clash_own, clash_stands.2.1⟩
  · exact ⟨rfl, rfl⟩

theorem runCommandFrame_of_refused {effect : State → State} (h : s.hears = true)
    (hok : commandOk target sub param = true)
    (hnot : s.accepts source target = false ∨ admits sub s.station.life = false) :
    runCommandFrame m sub source target param effect s = .next ((s.heardAt m).clashTest source).keepStore := by
  obtain ⟨haccepts, hstation⟩ := State.clashTest_accepts (s := s) (m := m) (source := source) (target := target)
  have hfalse : (s.accepts source target && admits sub s.station.life) = false := by
    obtain hnot | hnot := hnot <;> simp [hnot]
  rw [runCommandFrame_of_good h hok, haccepts, hstation, hfalse, if_neg nofun]

/-- Settles O38: a frame that is not taken does nothing of its own. -/
theorem commandsNotTakenChangeNothing : Obligations.CommandsNotTakenChangeNothing := by
  intro m sub source target param s hhears
  obtain ⟨effect, hexec⟩ := exec_subkindCommand m sub source target param s
  refine ⟨State.accepts_iff, admits_iff, commandOk_false_iff, fun hok hown hnot => ?_, fun _ hself => ?_,
    fun hok hown hnot => ?_, fun hbad => ?_⟩
  · rw [hexec, runCommandFrame_of_refused hhears hok hnot, State.clashTest_of_other (s := s.heardAt m) hown]
    exact ⟨_, rfl, onlyChanges_of_heard (onlyChanges_refl _ _) rfl (by decide)⟩
  · refine Bool.eq_false_iff.mpr fun haccepts => ?_
    obtain ⟨-, -, hfresh, -, -⟩ := State.accepts_iff.mp haccepts
    rw [hself] at hfresh
    cases hfresh
  · rw [hexec, runCommandFrame_of_refused hhears hok hnot, State.clashTest_of_own (s := s.heardAt m) hown]
    exact ⟨_, rfl, clashed_facts m s⟩
  · rw [hexec]
    exact ⟨_, runFrame_handOn_of_bad hhears hbad, counted_facts m s⟩

/-! ## A COMMAND frame taken -/

theorem State.takes_iff : s.takes sub source target param = true ↔
    s.hears = true ∧ commandOk target sub param = true ∧ s.line.own ≠ some source ∧ s.accepts source target = true
      ∧ admits sub s.station.life = true := by
  simp [State.takes, and_assoc]

theorem runCommandFrame_of_takes {effect : State → State} (h : s.takes sub source target param = true) :
    runCommandFrame m sub source target param effect s = .next (effect (s.heardAt m)).keepStore := by
  obtain ⟨hhears, hok, hown, haccepts, hadmits⟩ := State.takes_iff.mp h
  obtain ⟨haccepts', hstation⟩ := State.clashTest_accepts (s := s) (m := m) (source := source) (target := target)
  rw [runCommandFrame_of_good hhears hok, haccepts', hstation, haccepts, hadmits, Bool.and_true, if_pos rfl,
    State.clashTest_of_other (s := s.heardAt m) hown]

end Sys2Proof.Machine
end

section
/-! SUPPORT. O39: SERVICE, RELEASE and PROOF (sections 6.3, 6.6 and 6.12). -/

namespace Sys2Proof.Machine

variable {ps : List Part} {s t u v : State} {m : Moment} {j k : FaultKind} {source : Fin 8} {sub : Subkind} {target : Byte}
  {param : BitVec 16}

/-- The first failing condition of a PROOF command, if any (R120). -/
def State.refusal (s : State) : Option ProofRefusal :=
  if s.brake.proof.state = .running then some .running
  else if s.brake.latch = true ∨ s.loopPulled = true then some .emergency
  else if s.brake.applied = false then some .notHeld
  else if s.consistStandstill = false then some .notStandstill
  else none

/-- The model's refusal is that one. -/
theorem State.refusal_cases :
    s.refusal = none ∧ s.proofRefusal = .none
      ∨ s.refusal = some s.proofRefusal ∧ s.proofRefusal ≠ .none := by
  unfold State.refusal State.proofRefusal
  simp only [Bool.or_eq_true]
  split_ifs <;> simp

theorem State.proof_of_none (h : s.proofRefusal = .none) : s.proof = s.setBrake (s.brake.startProof s.clock) := by
  rw [State.proof, h]

theorem State.proof_of_refused (h : s.proofRefusal ≠ .none) :
    s.proof = s.setBrake { s.brake with proof := s.brake.proof.refused s.proofRefusal } := by
  cases hwhy : s.proofRefusal
  case none => exact absurd hwhy h
  all_goals rw [State.proof, hwhy]

theorem proof_onlyChanges : onlyChanges [.proof, .outputs] s s.proof := by
  obtain ⟨-, h⟩ | ⟨-, h⟩ := State.refusal_cases (s := s)
  · rw [State.proof_of_none h]
    intro p
    cases p <;> simp [Part.same, Brake.startProof, Brake.testing]
  · rw [State.proof_of_refused h]
    intro p
    cases p <;> simp [Part.same]

/-- Settles O39: the cab demand, the release request, the start of a proof test or its refusal. -/
theorem brakeCommandsTakeEffect : Obligations.BrakeCommandsTakeEffect := by
  intro m source target param s
  refine ⟨fun htakes => ?_, fun htakes => ?_, fun htakes => ?_⟩
  · refine ⟨_, runCommandFrame_of_takes htakes, by simp [State.heardAt],
      onlyChanges_of_heard (m := m) (fun p => ?_) rfl (by decide)⟩
    cases p <;> simp [Part.same]
  · have hexec : exec (.release m source target param) s = _ := runCommandFrame_of_takes (m := m) htakes
    by_cases hrunning : s.brake.proof.state = .running
    · rw [if_pos (show (s.heardAt m).brake.proof.state = .running from hrunning)] at hexec
      exact ⟨_, hexec, fun _ => by simp [State.heardAt], fun h => absurd hrunning h,
        onlyChanges_of_heard (m := m) (onlyChanges_refl _ _) rfl (by decide)⟩
    · rw [if_neg (show (s.heardAt m).brake.proof.state ≠ .running from hrunning)] at hexec
      refine ⟨_, hexec, fun h => absurd h hrunning, fun _ => by simp [State.heardAt],
        onlyChanges_of_heard (m := m) (fun p => ?_) rfl (by decide)⟩
      cases p <;> simp [Part.same]
  · have hexec : exec (.proof m source target param) s = .next (s.heardAt m).proof.keepStore :=
      runCommandFrame_of_takes (m := m) htakes
    have hrefusal : (s.heardAt m).refusal = s.refusal := rfl
    refine ⟨_, hexec, fun hnone => ?_, fun why hwhy => ?_,
      onlyChanges_of_heard (proof_onlyChanges.mono (by decide)) (by simp) (by decide)⟩
    · have hnone' : (s.heardAt m).refusal = none := hnone
      obtain ⟨-, h⟩ | ⟨h, -⟩ := State.refusal_cases (s := s.heardAt m)
      · rw [State.keepStore_brake, State.proof_of_none h]
        exact ⟨rfl, rfl, rfl, rfl, rfl, rfl⟩
      · exact absurd (h.symm.trans hnone') nofun
    · have hwhy' : (s.heardAt m).refusal = some why := hwhy
      obtain ⟨h, -⟩ | ⟨h, hne⟩ := State.refusal_cases (s := s.heardAt m)
      · exact absurd (h.symm.trans hwhy') nofun
      · obtain rfl : (s.heardAt m).proofRefusal = why := Option.some.inj (h.symm.trans hwhy')
        rw [State.keepStore_brake, State.proof_of_refused hne]
        rfl

end Sys2Proof.Machine
end

section
/-! SUPPORT. O52 and O53: the modem port and the timers of the valley radio (sections 8.1, 8.2, 8.6 and 8.7). -/

namespace Sys2Proof.Machine

variable {ps : List Part} {s t u v : State} {m : Moment} {j k : FaultKind}

/-! ## The modem port (R151, R152, R169) -/

theorem Radio.nextSend_eq (r : Radio) :
    r.nextSend = if r.acks ≠ [] then some .ack else if r.report.isSome then some .report else none := by
  unfold Radio.nextSend
  cases r.acks <;> rfl

theorem keepStore_radio : s.keepStore.radio = s.radio := by simp

/-- The last link level, with its timer restarted. -/
def State.linked (level : Byte) (s : State) : State :=
  s.setRadio { s.radio with linkTimer := some s.clock, lastLink := level }

theorem linked_onlyChanges (level : Byte) : onlyChanges [.valley] s (s.linked level) := by
  intro p
  cases p <;> simp [Part.same, State.linked]

theorem exec_linkStatus_fitted (level : Byte) (hrun : s.running = true) (hfitted : s.straps.radioFitted = true) :
    exec (.linkStatus m level) s = .next ((s.atMoment m).linked level).keepStore := by
  have heffect : (if (s.atMoment m).straps.radioFitted then (s.atMoment m).linked level else s.atMoment m)
      = (s.atMoment m).linked level := if_pos hfitted
  rw [← heffect]
  exact runCommand_of_running m (fun t => if t.straps.radioFitted then t.linked level else t) hrun

/-- The message begun, if a frame waits. -/
def State.sendBegun (s : State) : State := s.setRadio { s.radio with sending := s.radio.nextSend }

theorem sendBegun_onlyChanges : onlyChanges [.outgoing] s s.sendBegun := by
  intro p
  cases p <;> simp [Part.same, State.sendBegun]

theorem exec_sendMessageStart_free (hrun : s.running = true)
    (hfree : s.straps.radioFitted = true ∧ s.radio.sending = none ∧ s.pins.levels.channelBusy = false) :
    exec (.sendMessageStart m) s = .next (s.atMoment m).sendBegun.keepStore := by
  have heffect : (if (s.atMoment m).straps.radioFitted ∧ (s.atMoment m).radio.sending = none
        ∧ (s.atMoment m).pins.levels.channelBusy = false then (s.atMoment m).sendBegun else s.atMoment m)
      = (s.atMoment m).sendBegun := if_pos hfree
  rw [← heffect]
  exact runCommand_of_running m (fun t => if t.straps.radioFitted ∧ t.radio.sending = none
    ∧ t.pins.levels.channelBusy = false then t.sendBegun else t) hrun

theorem exec_channelBusyChange_running (busy : Bool) (hrun : s.running = true) :
    exec (.channelBusyChange m busy) s
      = .next ((s.atMoment m).setPins
          { (s.atMoment m).pins with levels := { s.pins.levels with channelBusy := busy } }).keepStore :=
  runLevels_of_running m (fun v => { v with channelBusy := busy }) id hrun

/-- The frame of an ended message gone. -/
def State.sendEnded (s : State) : State := s.setRadio s.radio.sent

theorem exec_sendMessageDone_running (hrun : s.running = true) :
    exec (.sendMessageDone m) s = .next (s.atMoment m).sendEnded.keepStore :=
  runCommand_of_running m State.sendEnded hrun

theorem sendEnded_onlyChanges : onlyChanges [.outgoing] s s.sendEnded := by
  intro p
  unfold State.sendEnded Radio.sent
  cases p <;> simp [Part.same] <;> split <;> simp

/-- Settles O52: each command of the modem port. -/
theorem modemPortSendsAndReceives : Obligations.ModemPortSendsAndReceives := by
  intro m level bytes busy s hrun
  refine ⟨fun hfitted => ?_, fun hfitted => ?_, ?_, ?_, fun hfitted hsending hfree => ?_, fun hnot => ?_, fun hsending => ?_,
    fun hsending => ?_⟩
  · refine ⟨_, exec_linkStatus_fitted level hrun hfitted, ?_, onlyChanges_of_effect (linked_onlyChanges level) rfl⟩
    rw [keepStore_radio]
    rfl
  · exact runCommand_without_effect (if_neg (Bool.eq_false_iff.mp hfitted))
  · exact runCommand_without_effect rfl
  · exact ⟨_, exec_channelBusyChange_running busy hrun, by simp,
      onlyChanges_of_effect (m := m) (setPins_levels_onlyChanges (s := s.atMoment m) _) rfl⟩
  · refine ⟨_, exec_sendMessageStart_free hrun ⟨hfitted, hsending, hfree⟩, ?_,
      onlyChanges_of_effect sendBegun_onlyChanges rfl⟩
    rw [keepStore_radio, ← Radio.nextSend_eq]
    rfl
  · refine runCommand_without_effect (if_neg ?_)
    rintro ⟨hfitted, hsending, hfree⟩
    obtain h | h | h := hnot
    · exact absurd (h.symm.trans hfitted) nofun
    · rw [show s.radio.sending = none from hsending] at h
      cases h
    · exact absurd (h.symm.trans hfree) nofun
  · refine ⟨_, exec_sendMessageDone_running hrun, ?_, onlyChanges_of_effect sendEnded_onlyChanges rfl⟩
    have hsent : s.radio.sent = { s.radio with sending := none, acks := s.radio.acks.drop 1 } := by
      rw [Radio.sent, hsending]
    rw [keepStore_radio, ← List.drop_one]
    exact hsent
  · refine ⟨_, exec_sendMessageDone_running hrun, ?_, onlyChanges_of_effect sendEnded_onlyChanges rfl⟩
    have hsent : s.radio.sent = { s.radio with sending := none, report := s.radio.reportBehind, reportBehind := none } := by
      rw [Radio.sent, hsending]
    rw [keepStore_radio]
    exact hsent

/-! ## Valley contact lost (R152, R154, R165) -/

/-- The status and the timers stand as the valley state is formed. -/
theorem State.reformValley_radio : s.reformValley.radio = { s.radio with lostWide := s.valleyLostNow } := by
  unfold State.reformValley
  dsimp only
  split <;> rfl

theorem State.reformValley_localLimit (h : s.radio.lostWide = false) (hlost : s.reformValley.radio.lostWide = true) :
    s.reformValley.speed.localLimit = min s.speed.localLimit 60 := by
  have hnow : s.valleyLostNow = true := by rwa [reformValley_radio] at hlost
  simp [State.reformValley, hnow, h]

/-- The status LOST, before the fault. -/
def State.statusLost (s : State) : State := (s.setRadio { s.radio with status := .lost }).reformValley

theorem State.valleyGone_eq :
    s.valleyGone = if s.statusLost.present .valleyLost then s.statusLost else s.statusLost.raise .valleyLost := rfl

theorem State.valleyGone_stands :
    s.valleyGone.radio = s.statusLost.radio ∧ s.valleyGone.speed = s.statusLost.speed
      ∧ s.valleyGone.station = s.station := by
  have hstation : s.statusLost.station = s.station := by simp [State.statusLost]
  rw [valleyGone_eq]
  split
  · exact ⟨rfl, rfl, hstation⟩
  · rw [raise_of_classC rfl]
    exact ⟨rfl, rfl, hstation⟩

theorem State.valleyGone_present : s.valleyGone.present .valleyLost = true := by
  rw [valleyGone_eq]
  split
  next h => exact h
  next => exact raise_present_self _

theorem valleyGone_onlyChanges : onlyChanges [.valley, .limit, .faults] s s.valleyGone := by
  have hlost : onlyChanges [.valley, .limit, .faults] s (s.setRadio { s.radio with status := .lost }) := by
    intro p
    cases p <;> simp [Part.same]
  have hformed : onlyChanges [.valley, .limit, .faults] s s.statusLost :=
    hlost.trans (reformValley_onlyChanges.mono (by decide)) rfl
  rw [State.valleyGone_eq]
  split
  · exact hformed
  · exact hformed.trans ((raise_onlyChanges_ofClassC rfl).mono (by decide)) (by simp [State.statusLost])

theorem State.valleyGone_radio :
    s.valleyGone.radio
      = { s.radio with status := .lost, lostWide := (s.setRadio { s.radio with status := .lost }).valleyLostNow } :=
  valleyGone_stands.1.trans reformValley_radio

theorem State.valleyGone_localLimit (h : s.radio.lostWide = false) (hlost : s.valleyGone.radio.lostWide = true) :
    s.valleyGone.speed.localLimit = min s.speed.localLimit 60 := by
  rw [valleyGone_stands.1] at hlost
  rw [valleyGone_stands.2.1]
  exact reformValley_localLimit (s := s.setRadio { s.radio with status := .lost }) h hlost

/-- Without contact in the own radio the consist has it where a FRESH peer is ALIVE. -/
theorem State.valleyLostNow_of_lost (h : s.radio.status = .lost) :
    s.valleyLostNow = true ↔ ∀ i : Fin 8, s.peers[i].state = .fresh → s.peers[i].report.valley ≠ 1 := by
  rw [valleyLostNow_iff, h]
  simp only [not_and, ne_eq, reduceCtorEq, not_false_eq_true, true_and]

/-- The link timer stopped. -/
def State.linkEnded (s : State) : State := s.setRadio { s.radio with linkTimer := none }

/-- The supervision stopped. -/
def State.supervisionEnded (s : State) : State := s.setRadio { s.radio with supervision := none }

/-- The report period begun anew. -/
def State.reportBegun (s : State) : State := s.setRadio { s.radio with reportTimer := some s.clock }

theorem buildReport_onlyChanges : onlyChanges [.outgoing] s s.reportBegun.buildReport := by
  intro p
  unfold State.buildReport
  dsimp only
  split <;> cases p <;> simp [Part.same, State.reportBegun]

theorem State.buildReport_radio :
    s.buildReport.radio.reportTimer = s.radio.reportTimer
      ∧ s.buildReport.radio.radioSequence = s.radio.radioSequence + 1
      ∧ (if s.radio.sending = some .report then s.buildReport.radio.reportBehind else s.buildReport.radio.report)
        = some (s.outFrame s.positionReport)
      ∧ s.buildReport.radio.acks = s.radio.acks ∧ s.buildReport.radio.sending = s.radio.sending := by
  unfold State.buildReport
  dsimp only
  by_cases h : s.radio.sending = some .report
  · simp only [h, if_pos]
    exact ⟨rfl, rfl, rfl, rfl, rfl⟩
  · simp only [if_neg h]
    exact ⟨rfl, rfl, rfl, rfl, rfl⟩

/-- Settles O53: contact lost by either timer, and the report of this moment. -/
theorem radioTimersRunOut : Obligations.RadioTimersRunOut := by
  intro m s hrun
  refine ⟨fun hdue => ?_, fun hdue => ?_, fun hdue => ?_⟩
  · have hexec : exec (.linkStatusTimeout m) s = .next (s.atMoment m).linkEnded.valleyGone.keepStore :=
      runCommand_due (timer := fun u => u.radio.linkTimer) hrun hdue
    have hended : onlyChanges [.valley, .limit, .faults] (s.atMoment m) (s.atMoment m).linkEnded := by
      intro p
      cases p <;> simp [Part.same, State.linkEnded]
    have hradio := State.valleyGone_radio (s := (s.atMoment m).linkEnded)
    refine ⟨_, hexec, ?_, ?_, ?_, ?_, ?_, fun hwide hlost => ?_,
      onlyChanges_of_effect (hended.trans valleyGone_onlyChanges rfl) State.valleyGone_stands.2.2⟩
    · rw [keepStore_radio, hradio]
    · rw [keepStore_radio, hradio]
      rfl
    · rw [keepStore_radio, hradio]
      rfl
    · rw [State.keepStore_present]
      exact State.valleyGone_present
    · rw [keepStore_radio, hradio]
      exact State.valleyLostNow_of_lost
        (s := (s.atMoment m).linkEnded.setRadio { (s.atMoment m).linkEnded.radio with status := .lost }) rfl
    · rw [keepStore_radio] at hlost
      rw [State.keepStore_speed]
      exact State.valleyGone_localLimit (s := (s.atMoment m).linkEnded) hwide hlost
  · have hexec : exec (.radioSupervisionExpiry m) s = .next (s.atMoment m).supervisionEnded.valleyGone.keepStore :=
      runCommand_due (timer := fun u => u.radio.supervision) hrun hdue
    have hended : onlyChanges [.valley, .limit, .faults] (s.atMoment m) (s.atMoment m).supervisionEnded := by
      intro p
      cases p <;> simp [Part.same, State.supervisionEnded]
    have hradio := State.valleyGone_radio (s := (s.atMoment m).supervisionEnded)
    refine ⟨_, hexec, ?_, ?_, ?_, ?_, fun hwide hlost => ?_,
      onlyChanges_of_effect (hended.trans valleyGone_onlyChanges rfl) State.valleyGone_stands.2.2⟩
    · rw [keepStore_radio, hradio]
    · rw [keepStore_radio, hradio]
      rfl
    · rw [keepStore_radio, hradio]
      rfl
    · rw [State.keepStore_present]
      exact State.valleyGone_present
    · rw [keepStore_radio] at hlost
      rw [State.keepStore_speed]
      exact State.valleyGone_localLimit (s := (s.atMoment m).supervisionEnded) hwide hlost
  · have hexec : exec (.positionReportExpiry m) s = .next (s.atMoment m).reportBegun.buildReport.keepStore :=
      runCommand_due (timer := fun u => u.radio.reportTimer) hrun hdue
    obtain ⟨htimer, hsequence, hslot, hacks, hsending⟩ := State.buildReport_radio (s := (s.atMoment m).reportBegun)
    refine ⟨_, hexec, ?_, ?_, ?_, ?_, ?_, onlyChanges_of_effect buildReport_onlyChanges rfl⟩
    · rw [keepStore_radio]
      exact htimer
    · rw [keepStore_radio]
      exact hsequence
    · rw [keepStore_radio]
      exact hslot
    · rw [keepStore_radio]
      exact hacks
    · rw [keepStore_radio]
      exact hsending

end Sys2Proof.Machine
end

section
/-! SUPPORT. O58: the records of the fault manager (section 10.2). -/

namespace Sys2Proof.Machine

variable {j k : FaultKind} {f : Faults} {strict : Bool} {r : FaultRecord}

/-! ## A record added (R184, R185) -/

theorem Faults.hasRecord_false (h : ∀ r ∈ f.table, r.kind ≠ k) : f.hasRecord k = false :=
  Bool.eq_false_iff.mpr fun hhas => by
    obtain ⟨r, hr, hkind⟩ := hasRecord_iff.mp hhas
    exact h r hr hkind

theorem Faults.addRecord_of_room (h : f.table.length < 16) : (f.addRecord r).table = f.table ++ [r] := by
  rw [Faults.addRecord, if_pos h]

theorem Faults.addRecord_of_held (hfull : f.table.length = 16) (h : ∀ q ∈ f.table, q.cls = .c → q.active = true) :
    (f.addRecord r).table = f.table := by
  have hnone : f.table.any FaultRecord.replaceable = false := by
    rw [List.any_eq_false]
    intro q hq hreplaceable
    simp only [FaultRecord.replaceable, Bool.and_eq_true, beq_iff_eq, Bool.not_eq_true'] at hreplaceable
    exact absurd (h q hq hreplaceable.1) (by simp [hreplaceable.2])
  rw [Faults.addRecord, if_neg (by omega), hnone, if_neg nofun]

/-- With no kind twice the record given up is the one of its kind. -/
theorem eraseP_eq_filter {p : FaultRecord → Bool} {l : List FaultRecord} (hnodup : (l.map fun q => q.kind).Nodup)
    (hfind : l.find? p = some r) : l.eraseP p = l.filter fun q => q.kind != r.kind := by
  induction l with
  | nil => cases hfind
  | cons q l ih =>
    rw [List.map_cons, List.nodup_cons] at hnodup
    obtain ⟨hfresh, hnodup⟩ := hnodup
    cases hq : p q
    · rw [List.find?_cons, hq] at hfind
      have hne : (q.kind != r.kind) = true :=
        bne_iff_ne.mpr fun hkind => hfresh (List.mem_map.mpr ⟨r, List.mem_of_find?_eq_some hfind, hkind.symm⟩)
      rw [List.eraseP_cons_of_neg (by simp [hq]), List.filter_cons_of_pos (p := fun q : FaultRecord => q.kind != r.kind) hne, ih hnodup hfind]
    · rw [List.find?_cons, hq] at hfind
      obtain rfl : q = r := Option.some.inj hfind
      rw [List.eraseP_cons_of_pos hq, List.filter_cons_of_neg (by simp)]
      refine (List.filter_eq_self.mpr fun q' hq' => bne_iff_ne.mpr fun hkind => ?_).symm
      exact hfresh (List.mem_map.mpr ⟨q', hq', hkind⟩)

theorem Faults.addRecord_of_full {old : FaultRecord} (hfull : f.table.length = 16)
    (hnodup : (f.table.map fun q => q.kind).Nodup)
    (hold : f.table.find? (fun q => q.cls == .c && !q.active) = some old) :
    (f.addRecord r).table = (f.table.filter fun q => q.kind != old.kind) ++ [r] := by
  have hany : f.table.any FaultRecord.replaceable = true := by
    rw [List.any_eq_true]
    exact ⟨old, List.mem_of_find?_eq_some hold, List.find?_some hold⟩
  have herase : f.table.eraseP FaultRecord.replaceable = f.table.filter fun q => q.kind != old.kind :=
    eraseP_eq_filter hnodup hold
  rw [Faults.addRecord, if_neg (by omega), hany, if_pos rfl, herase]

/-! ## No kind twice -/

theorem faultTableOk_mapRecord {g : FaultRecord → FaultRecord} (hg : ∀ q, (g q).kind = q.kind) (h : faultTableOk f.table) :
    faultTableOk (f.mapRecord k g).table := by
  obtain ⟨hlength, hnodup⟩ := h
  have hkinds : (f.mapRecord k g).table.map (fun q => q.kind) = f.table.map fun q => q.kind := by
    rw [Faults.mapRecord, List.map_map]
    refine List.map_congr_left fun q _ => ?_
    dsimp only [Function.comp_apply]
    split
    · exact hg q
    · rfl
  exact ⟨(List.length_map _).trans_le hlength, hkinds ▸ hnodup⟩

theorem faultTableOk_addRecord (hnew : ∀ q ∈ f.table, q.kind ≠ r.kind) (h : faultTableOk f.table) :
    faultTableOk (f.addRecord r).table := by
  obtain ⟨hlength, hnodup⟩ := h
  have happend (l : List FaultRecord) (hl : l.Sublist f.table) (hroom : l.length < 16) : faultTableOk (l ++ [r]) := by
    refine ⟨by simpa using hroom, ?_⟩
    rw [List.map_append, List.nodup_append]
    refine ⟨hnodup.sublist (hl.map _), List.nodup_singleton _, fun kind hkind kind' hkind' => ?_⟩
    obtain ⟨q, hq, rfl⟩ := List.mem_map.mp hkind
    obtain rfl := List.mem_singleton.mp hkind'
    exact hnew q (hl.subset hq)
  unfold Faults.addRecord
  split
  next hroom => exact happend _ (List.Sublist.refl _) hroom
  split
  next hfull hany =>
    obtain ⟨q, hq, hreplaceable⟩ := List.any_eq_true.mp hany
    have hlt := List.length_eraseP_of_mem hq hreplaceable
    have hpos := List.length_pos_of_mem hq
    exact happend _ List.eraseP_sublist (by omega)
  · exact ⟨hlength, hnodup⟩

/-! ## An occurrence, a presence, a going -/

/-- The kind recorded with its flag set: the record it has is changed by `g`, or `r` is added. -/
def Faults.recorded (k : FaultKind) (g : FaultRecord → FaultRecord) (r : FaultRecord) (f : Faults) : Faults :=
  if f.hasRecord k then (f.setFlag k true).mapRecord k g else (f.setFlag k true).addRecord r

theorem Faults.occur_eq :
    f.occur strict k
      = f.recorded k (fun r => { r with active := true, count := min 255 (r.count + 1) })
        { kind := k, cls := faultClassOf strict k, active := true, count := 1 } := rfl

theorem Faults.note_eq :
    f.note strict k
      = f.recorded k (fun r => { r with active := true })
        { kind := k, cls := faultClassOf strict k, active := true, count := 0 } := rfl

variable {g : FaultRecord → FaultRecord}

theorem Faults.recorded_present : (f.recorded k g r).present k = true := by
  unfold Faults.recorded
  split
  · exact f.present_setFlag_self k true
  · exact (Faults.present_addRecord _ r).trans (f.present_setFlag_self k true)

theorem Faults.recorded_present_of_ne (h : j ≠ k) : (f.recorded k g r).present j = f.present j := by
  unfold Faults.recorded
  split
  · exact f.present_setFlag_of_ne true h
  · exact (Faults.present_addRecord _ r).trans (f.present_setFlag_of_ne true h)

theorem Faults.recorded_of_has (h : ∃ q ∈ f.table, q.kind = k) :
    (f.recorded k g r).table = f.table.map fun q => if q.kind = k then g q else q := by
  rw [Faults.recorded, if_pos (hasRecord_iff.mpr h)]
  rfl

theorem Faults.recorded_of_new (h : ∀ q ∈ f.table, q.kind ≠ k) :
    f.recorded k g r = (f.setFlag k true).addRecord r := by
  rw [Faults.recorded, hasRecord_false h, if_neg nofun]

theorem faultTableOk_recorded (hg : ∀ q, (g q).kind = q.kind) (hr : r.kind = k) (h : faultTableOk f.table) :
    faultTableOk (f.recorded k g r).table := by
  unfold Faults.recorded
  split
  · exact faultTableOk_mapRecord (f := f.setFlag k true) hg h
  next hnone =>
    refine faultTableOk_addRecord (f := f.setFlag k true) (fun q hq hkind => hnone ?_) h
    exact Faults.hasRecord_iff.mpr ⟨q, hq, hkind.trans hr⟩

/-- Settles O58: the record of an occurrence, of a presence without one, and of a going. -/
theorem occurrencesMakeRecords : Obligations.OccurrencesMakeRecords := by
  intro strict k other f hok
  have hnodup := hok.2
  refine ⟨⟨Faults.recorded_present, Faults.recorded_present_of_ne⟩, Faults.recorded_of_has, fun hnew hroom => ?_,
    fun hnew hfull hheld => ?_, fun hnew hfull old hold => ?_,
    ⟨Faults.recorded_present, Faults.recorded_present_of_ne, Faults.recorded_of_has, fun hnew hroom => ?_,
      fun hnew hfull hheld => ?_, fun hnew hfull old hold => ?_⟩,
    ⟨f.present_going_self k, f.present_going_of_ne, fun habsent => ?_, fun hpresent => ?_⟩,
    faultTableOk_recorded (fun _ => rfl) rfl hok, faultTableOk_recorded (fun _ => rfl) rfl hok, ?_⟩
  · rw [Faults.occur_eq, Faults.recorded_of_new hnew]
    exact Faults.addRecord_of_room hroom
  · rw [Faults.occur_eq, Faults.recorded_of_new hnew]
    exact Faults.addRecord_of_held hfull hheld
  · rw [Faults.occur_eq, Faults.recorded_of_new hnew]
    exact Faults.addRecord_of_full hfull hnodup hold
  · rw [Faults.note_eq, Faults.recorded_of_new hnew]
    exact Faults.addRecord_of_room hroom
  · rw [Faults.note_eq, Faults.recorded_of_new hnew]
    exact Faults.addRecord_of_held hfull hheld
  · rw [Faults.note_eq, Faults.recorded_of_new hnew]
    exact Faults.addRecord_of_full hfull hnodup hold
  · exact if_neg (Bool.eq_false_iff.mp habsent)
  · rw [Faults.going, if_pos hpresent]
    rfl
  · unfold Faults.going
    split
    · exact faultTableOk_mapRecord (f := f.setFlag k false) (fun _ => rfl) hok
    · exact hok

end Sys2Proof.Machine
end

section
/-! SUPPORT. O48: a pinion marked FAILED, and the brake loop sensed pulled (sections 6.7, 6.11 and 6.12). -/

namespace Sys2Proof.Machine

variable {ps : List Part} {s t u v : State} {m : Moment} {j k : FaultKind} {b : Brake} {p : Pinion}

/-! ## A pinion marked (R117, R118) -/

/-- The pinion's mark, before the fault. -/
def State.pinionMarked (p : Pinion) (s : State) : State :=
  s.setPinion p { s.brake.pinions.get p with failed := true, failTimer := none }

theorem State.markFailed_eq : s.markFailed p = (s.pinionMarked p).raise .pinionFailed := rfl

theorem pinionMarked_onlyChanges : onlyChanges [.pinions] s (s.pinionMarked p) := by
  intro q
  cases p <;> cases q <;> simp [Part.same, State.pinionMarked, State.setPinion, PerPinion.set, PerPinion.get]

theorem State.markFailed_pinions :
    (s.markFailed p).brake.pinions
      = s.brake.pinions.set p { s.brake.pinions.get p with failed := true, failTimer := none } := by
  rw [markFailed_eq, raise_brake (k := .pinionFailed) nofun]
  rfl

theorem markFailed_onlyChanges : onlyChanges (Part.also Part.ofClassB [.pinions]) s (s.markFailed p) :=
  (pinionMarked_onlyChanges.mono (by decide)).trans ((raise_onlyChanges_ofClassB (k := .pinionFailed) nofun).mono (by decide))
    (by simp [State.pinionMarked])

theorem State.failsCheck_iff :
    s.failsCheck p = true ↔ (s.brake.pinions.get p).failed = false ∧ 5000 ≤ (s.brake.pinions.get p).mode.command
      ∧ 2 * s.feedbackOf p < (s.brake.pinions.get p).mode.command := by
  simp [State.failsCheck, and_assoc]

theorem State.atMoment_feedbackOf :
    (s.atMoment m).feedbackOf p = match p with | .p1 => m.force1.toNat | .p2 => m.force2.toNat := by
  cases p <;> rfl

/-! ## The loop sensed pulled (R102, R111, R123) -/

/-- An aborted test: its record, and nothing else that the latch asks for. -/
theorem Brake.abort_stands (reason : AbortReason) :
    (b.abort reason).latch = b.latch ∧ (b.abort reason).ownPull = b.ownPull ∧ (b.abort reason).proof.state ≠ .running
      ∧ (b.proof.state = .running → (b.abort reason).proof = { b.proof with state := .aborted, reason := reason }) := by
  unfold Brake.abort
  split
  next h => exact ⟨rfl, rfl, by simp, fun _ => rfl⟩
  next h => exact ⟨rfl, rfl, h, fun h' => absurd h' h⟩

theorem Brake.abort_of_idle (reason : AbortReason) (h : b.proof.state ≠ .running) : b.abort reason = b := if_neg h

/-- The brake as the loop is sensed pulled, before the latch. -/
def Brake.loopSensed (b : Brake) : Brake := (b.abort .emergency).allFull

theorem Brake.loopSensed_stands :
    b.loopSensed.latch = b.latch ∧ b.loopSensed.ownPull = b.ownPull ∧ b.loopSensed.proof.state ≠ .running
      ∧ (b.proof.state = .running → b.loopSensed.proof = { b.proof with state := .aborted, reason := .emergency })
      ∧ b.loopSensed.outputsFull := by
  obtain ⟨hlatch, hpull, hidle, hproof⟩ := b.abort_stands .emergency
  exact ⟨hlatch, hpull, hidle, hproof, rfl, rfl, rfl⟩

theorem Brake.latched_proof (h : b.proof.state ≠ .running) : b.latched.proof = b.proof := by
  rw [Brake.latched, Brake.abort_of_idle _ h]
  rfl

/-- What setting the latch leaves where no test runs. -/
theorem State.setLatch_proof (h : s.brake.proof.state ≠ .running) : s.setLatch.brake.proof = s.brake.proof := by
  cases hlatch : s.brake.latch with
  | true => rw [setLatch_of_latched hlatch]
  | false =>
    rw [setLatch_of_clear hlatch, lowerLimit_brake]
    split
    · exact applyHolding_stands.2.2.trans (Brake.latched_proof h)
    · exact Brake.latched_proof h

theorem State.applyHolding_releasePending (h : s.brake.releasePending = false) :
    s.applyHolding.brake.releasePending = false := by
  unfold State.applyHolding
  split
  · exact h
  · simpa [Brake.allFull] using h

/-- What setting a clear latch does to the holding brake and the limit. -/
theorem State.setLatch_sets (h : s.brake.latch = false) :
    s.setLatch.brake.releasePending = false ∧ s.setLatch.speed.localLimit = 0
      ∧ (s.rack.standstill = true → s.setLatch.brake.applied = true) := by
  rw [setLatch_of_clear h, lowerLimit_brake]
  refine ⟨?_, by simp, fun hstill => ?_⟩
  · split
    · exact applyHolding_releasePending rfl
    · rfl
  · rw [if_pos hstill]
    exact applyHolding_applied

theorem State.senseLoop_eq : s.senseLoop = (s.setBrake s.brake.loopSensed).setLatch := rfl

theorem State.senseLoop_brake :
    s.senseLoop.brake.latch = true ∧ s.senseLoop.brake.ownPull = s.brake.ownPull ∧ s.senseLoop.brake.outputsFull
      ∧ s.senseLoop.brake.proof.state ≠ .running
      ∧ (s.brake.proof.state = .running →
        s.senseLoop.brake.proof = { s.brake.proof with state := .aborted, reason := .emergency }) := by
  obtain ⟨hlatch, hpull, hidle, hproof, hfull⟩ := s.brake.loopSensed_stands
  have hkept : s.senseLoop.brake.proof = s.brake.loopSensed.proof :=
    setLatch_proof (s := s.setBrake s.brake.loopSensed) hidle
  obtain ⟨hset, hsame⟩ | ⟨hset, hpull', -, hfull', -⟩ := setLatch_cases (s := s.setBrake s.brake.loopSensed)
  · rw [senseLoop_eq, hsame]
    exact ⟨hset, hpull, hfull, hidle, hproof⟩
  · refine ⟨hset, hpull'.trans hpull, hfull', ?_, fun hrunning => hkept.trans (hproof hrunning)⟩
    rw [hkept]
    exact hidle

theorem senseLoop_onlyChanges : onlyChanges Part.ofLatch s s.senseLoop := by
  have hsensed : onlyChanges Part.ofLatch s (s.setBrake s.brake.loopSensed) := by
    have habort := (abort_onlyChanges (s := s) .emergency).mono (qs := Part.ofLatch) (by decide)
    exact habort.trans ((allFull_onlyChanges (s := s.setBrake (s.brake.abort .emergency))).mono (by decide)) rfl
  exact hsensed.trans setLatch_onlyChanges rfl

theorem State.senseLoop_station : s.senseLoop.station = s.station := by simp [State.senseLoop]

/-- The level of the other stations' pull. -/
def loopLevels (pulled : Bool) (v : Levels) : Levels := { v with loopOthers := pulled }

/-- The state of the moment with that level. -/
def State.looped (m : Moment) (pulled : Bool) (s : State) : State :=
  (s.atMoment m).setPins { (s.atMoment m).pins with levels := loopLevels pulled s.pins.levels }

/-- Settles O48: the mark and the latch. -/
theorem pinionFailsAndLoopLatches : Obligations.PinionFailsAndLoopLatches := by
  intro m pinion s hrun
  refine ⟨fun hdue hok hcommand hlow => ?_, ?_, ?_⟩
  · have hfails : (s.atMoment m).failsCheck pinion = true :=
      State.failsCheck_iff.mpr ⟨hok, hcommand, State.atMoment_feedbackOf ▸ hlow⟩
    have hexec : exec (.pinionFailureTimeout m pinion) s = _ :=
      runCommand_due (m := m) (timer := fun u => (u.brake.pinions.get pinion).failTimer) hrun hdue
    rw [if_pos hfails] at hexec
    refine ⟨_, hexec, ?_, ?_, fun habsent => ?_, onlyChanges_of_effect markFailed_onlyChanges (by simp)⟩
    · rw [State.keepStore_brake, State.markFailed_pinions]
      rfl
    · rw [State.keepStore_present]
      exact State.raise_present_self _
    · rw [State.keepStore_speed]
      exact State.raise_localLimit (s := (s.atMoment m).pinionMarked pinion) (k := .pinionFailed) nofun habsent
  · have hexec : exec (.loopPulled m) s = .next (s.looped m true).senseLoop.keepStore :=
      runLevels_of_running m (loopLevels true) State.senseLoop hrun
    obtain ⟨hlatch, hpull, hfull, hidle, hproof⟩ := State.senseLoop_brake (s := s.looped m true)
    have hlevels : onlyChanges (Part.also Part.ofClassB [.levels, .emergency, .holding, .outputs, .proof]) (s.atMoment m)
        (s.looped m true) := (setPins_levels_onlyChanges (s := s.atMoment m) _).mono (by decide)
    refine ⟨_, hexec, ?_, ?_, ?_, ?_, ?_, fun hrunning => ?_, fun hclear => ?_,
      onlyChanges_of_effect (hlevels.trans (senseLoop_onlyChanges.mono (by decide)) rfl) State.senseLoop_station⟩
    · simp [State.senseLoop, State.looped, loopLevels]
    · rw [State.keepStore_brake, hlatch]
    · rw [State.keepStore_brake, hpull]
      rfl
    · rw [State.keepStore_brake]
      exact hfull
    · rw [State.keepStore_brake]
      exact hidle
    · rw [State.keepStore_brake]
      exact hproof hrunning
    · rw [State.keepStore_brake, State.keepStore_speed]
      exact State.setLatch_sets (s := (s.looped m true).setBrake (s.looped m true).brake.loopSensed)
        ((Brake.loopSensed_stands (b := s.brake)).1.trans hclear)
  · have hexec : exec (.loopReleased m) s = .next (s.looped m false).keepStore :=
      runLevels_of_running m (loopLevels false) id hrun
    exact ⟨_, hexec, by simp [State.looped, loopLevels],
      onlyChanges_of_effect (m := m) (setPins_levels_onlyChanges (s := s.atMoment m) _) rfl⟩

end Sys2Proof.Machine
end

section
/-! SUPPORT. O59: the supply warned and good again, the loss of supply and the end of the hold-up time (section 10.6). -/

namespace Sys2Proof.Machine

variable {ps : List Part} {s t u v : State} {m : Moment} {j k : FaultKind}

/-! ## The own pull (R111, R112) -/

theorem State.setLatch_latch : s.setLatch.brake.latch = true := by
  obtain ⟨hset, hsame⟩ | ⟨hset, -⟩ := setLatch_cases (s := s)
  · rwa [hsame]
  · exact hset

theorem State.setLatch_ownPull : s.setLatch.brake.ownPull = s.brake.ownPull := by
  obtain ⟨-, hsame⟩ | ⟨-, hpull, -⟩ := setLatch_cases (s := s)
  · rw [hsame]
  · exact hpull

theorem State.assertPull_ownPull : (s.assertPull k).brake.ownPull = true := by
  obtain ⟨hset, hsame⟩ | ⟨-, hbrake⟩ := assertPull_cases (s := s) (k := k)
  · rwa [hsame]
  · rw [hbrake, setLatch_ownPull]
    rfl

theorem State.assertPull_latch (h : s.brake.ownPull = false) : (s.assertPull k).brake.latch = true := by
  obtain ⟨hset, -⟩ | ⟨-, hbrake⟩ := assertPull_cases (s := s) (k := k)
  · rw [hset] at h
    cases h
  · rw [hbrake, setLatch_latch]

theorem State.raise_of_classA (h : faultClassOf s.straps.strict k = .a) (habsent : s.present k = false) :
    s.raise k = ((((s.recordOccurrence k).assertPull k).lowerLimit 0).retestPermits) := by
  have hclass : faultClassOf (s.recordOccurrence k).straps.strict k = .a := h
  rw [State.raise, habsent]
  change (s.recordOccurrence k).react k = _
  rw [State.react, hclass]

/-- A class A condition that becomes present pulls the loop, which sets the latch. -/
theorem State.raise_pulls (h : faultClassOf s.straps.strict k = .a) (habsent : s.present k = false) :
    (s.raise k).brake.ownPull = true ∧ (s.brake.ownPull = false → (s.raise k).brake.latch = true) := by
  have hbrake : (s.raise k).brake = ((s.recordOccurrence k).assertPull k).brake := by
    rw [raise_of_classA h habsent]
    simp
  rw [hbrake]
  exact ⟨assertPull_ownPull, fun hfree => assertPull_latch hfree⟩

/-! ## The store kept -/

theorem State.keepStore_kept (h : s.station.storing = true) :
    s.keepStore.store = { s.store with items := s.keepStore.capture, check := storeCheck s.keepStore.straps s.keepStore.capture } := by
  rw [State.keepStore, if_pos h]
  rfl

theorem State.keepStore_of_idle (h : s.station.storing = false) : s.keepStore = s := by
  rw [State.keepStore, h]
  rfl

theorem State.keepStore_pins : s.keepStore.pins = s.pins := by
  unfold State.keepStore
  split <;> rfl

/-! ## The stop -/

theorem State.beginStop_pins : s.beginStop.pins = s.pins := by simp [State.beginStop]

/-- What the onset leaves and sets besides the station state. -/
theorem State.beginStop_supplyFail : s.beginStop.present .supplyFail = true := raise_present_self (s := s) .supplyFail

theorem State.beginStop_pulls (h : s.present .supplyFail = false) :
    s.beginStop.brake.ownPull = true ∧ s.beginStop.speed.localLimit = 0
      ∧ (s.brake.ownPull = false → s.beginStop.brake.latch = true) := by
  obtain ⟨hpull, hlatch⟩ := raise_pulls (s := s) (k := .supplyFail) rfl h
  exact ⟨hpull, raise_localLimit (s := s) (k := .supplyFail) nofun h, hlatch⟩

/-- The level of the supply monitor. -/
def supplyLevels (warned : Bool) (v : Levels) : Levels := { v with supplyWarn := warned }

/-- The state of the moment with that level. -/
def State.supplyRead (m : Moment) (warned : Bool) (s : State) : State :=
  (s.atMoment m).setPins { (s.atMoment m).pins with levels := supplyLevels warned s.pins.levels }

theorem supplyRead_onlyChanges {warned : Bool} : onlyChanges [.levels] (s.atMoment m) (s.supplyRead m warned) :=
  setPins_levels_onlyChanges (s := s.atMoment m) _

/-- The stop ended, before SUPPLY_FAIL goes. -/
def State.stopEnded (s : State) : State :=
  (s.setStation { s.station with storing := false }).setStore { s.store with valid := false }

theorem stopEnded_onlyChanges : onlyChanges [.station, .store] s s.stopEnded := by
  intro p
  cases p <;> simp [Part.same, State.stopEnded]

theorem exec_supplyWarn (hrun : s.running = true) :
    exec (.supplyWarn m) s
      = .next (if s.pins.levels.supplyWarn = false ∧ s.station.life ≠ .resuming then (s.supplyRead m true).beginStop
          else s.supplyRead m true).keepStore :=
  runLevels_of_running m (supplyLevels true)
    (fun t => if s.pins.levels.supplyWarn = false ∧ t.station.life ≠ .resuming then t.beginStop else t) hrun

/-- The part without supply: its outputs FULL, its line silent. -/
theorem State.dropOut_stands :
    s.dropOut.station = { life := .off, storing := false, droppedAt := some s.clock } ∧ s.dropOut.store = s.store
      ∧ s.dropOut.brake.outputsFull ∧ s.dropOut.running = false ∧ s.dropOut.line.own = none
      ∧ s.dropOut.line.chainOut = false :=
  ⟨rfl, rfl, ⟨rfl, rfl, rfl⟩, rfl, rfl, rfl⟩

/-- Settles O59: the supply commands. -/
theorem supplyRunsAndEndsStop : Obligations.SupplyRunsAndEndsStop := by
  intro m s
  refine ⟨fun hrun hgood hlife => ?_, fun hrun hother => ?_, fun hrun => ?_, fun hlife => ?_, fun hlife hdue => ?_⟩
  · have hexec : exec (.supplyWarn m) s = .next (s.supplyRead m true).beginStop.keepStore := by
      rw [exec_supplyWarn hrun, if_pos ⟨hgood, hlife⟩]
    have hstoring : (s.supplyRead m true).beginStop.station.storing = true := by rw [State.beginStop_station]
    have hkept := State.keepStore_kept hstoring
    have hchange : onlyChanges (Part.also Part.ofClassA [.levels, .station, .store]) s
        (s.supplyRead m true).beginStop.keepStore :=
      onlyChanges_of_effect_of_store (m := m)
        ((supplyRead_onlyChanges.mono (by decide)).trans_of_store (beginStop_onlyChanges.mono (by decide)) (by decide))
        (by decide)
    refine ⟨_, hexec, ?_, ?_, ?_, ?_, ?_, ?_, fun habsent => ?_, hchange⟩
    · rw [State.keepStore_pins, State.beginStop_pins]
      rfl
    · rw [State.keepStore_present]
      exact State.beginStop_supplyFail
    · rw [State.keepStore_station, State.beginStop_station]
      rfl
    · rw [hkept]
      rfl
    · rw [hkept]
    · rw [hkept]
    · rw [State.keepStore_brake, State.keepStore_speed]
      exact State.beginStop_pulls (s := s.supplyRead m true) habsent
  · have hexec : exec (.supplyWarn m) s = .next (s.supplyRead m true).keepStore := by
      rw [exec_supplyWarn hrun, if_neg]
      rintro ⟨hgood, hlife⟩
      rcases hother with hwarned | hresuming
      · rw [hwarned] at hgood
        cases hgood
      · exact hlife hresuming
    refine ⟨_, hexec, ?_, onlyChanges_of_effect (m := m) supplyRead_onlyChanges rfl⟩
    rw [State.keepStore_pins]
    rfl
  · have hexec : exec (.supplyGood m) s = .next ((s.supplyRead m false).stopEnded.clear .supplyFail).keepStore :=
      runLevels_of_running m (supplyLevels false) (fun t => t.stopEnded.clear .supplyFail) hrun
    have hstation : ((s.supplyRead m false).stopEnded.clear .supplyFail).station = { s.station with storing := false } := by
      rw [State.clear_station]
      rfl
    rw [State.keepStore_of_idle (by rw [hstation])] at hexec
    have hchange : onlyChanges (Part.also Part.ofClassB [.levels, .station, .store]) s
        ((s.supplyRead m false).stopEnded.clear .supplyFail) := by
      have hended : onlyChanges (Part.also Part.ofClassB [.levels, .station, .store]) (s.atMoment m)
          (s.supplyRead m false).stopEnded :=
        (supplyRead_onlyChanges.mono (by decide)).trans_of_store (stopEnded_onlyChanges.mono (by decide)) (by decide)
      have hcleared := hended.trans_of_store ((clear_onlyChanges_ofClassB .supplyFail).mono (by decide)) (by decide)
      exact fun p => hcleared p
    refine ⟨_, hexec, ?_, ?_, hstation, ?_, ?_, ?_, hchange⟩
    · simp [State.stopEnded, State.supplyRead, supplyLevels]
    · exact State.clear_present_self _ .supplyFail
    · simp [State.stopEnded, State.supplyRead]
    · rw [State.clear_brake]
      rfl
    · rw [State.clear_brake]
      rfl
  · have hexec : exec (.dropOut m) s = .next (s.atMoment m).dropOut :=
      congrArg Host.Outcome.next (if_neg hlife)
    exact ⟨_, hexec, State.dropOut_stands⟩
  · have hexec : exec (.storeHoldupExpiry m) s
        = .next ((s.atMoment m).setStore { (s.atMoment m).store with valid := false }) := by
      have hlive : exec (.storeHoldupExpiry m) s = .next ((s.atMoment m).whenDue (s.atMoment m).station.droppedAt
          (ms 30000) fun t => t.setStore { t.store with valid := false }) := congrArg Host.Outcome.next (if_pos hlife)
      rw [hlive, State.whenDue_of_due hdue]
    refine ⟨_, hexec, rfl, fun p => ?_⟩
    cases p <;> simp [Part.same, State.atMoment]

end Sys2Proof.Machine
end

section
/-! SUPPORT. Valley orders by either path: the accepted frame, the window, the relay and the acknowledgement (sections 8.2,
8.3 and 8.7). -/

namespace Sys2Proof.Machine

variable {ps : List Part} {s t u v : State} {m : Moment} {j k : FaultKind} {via : Via} {sequence : Byte}
  {order : ValleyOrder} {apply : State → State × OrderResult} {result : OrderResult}

/-! ## An accepted frame (R154) -/

theorem State.valleyLostNow_of_alive (h : s.radio.status = .alive) : s.valleyLostNow = false := by
  simp [State.valleyLostNow, h]

theorem State.clear_of_c (h : faultClassOf s.straps.strict k = .c) : s.clear k = s.setFaults (s.faults.going k) := by
  rw [clear_of_classC h]
  split
  · rfl
  next habsent =>
    have hgoing : s.faults.going k = s.faults := if_neg habsent
    rw [hgoing]
    rfl

/-- An accepted frame: contact is there, and VALLEY_LOST goes. -/
theorem State.frameAccepted_eq :
    s.frameAccepted
      = (s.setRadio { s.radio with supervision := some s.clock, status := .alive, lostWide := false }).setFaults
          (s.faults.going .valleyLost) := by
  have hformed : (s.setRadio { s.radio with supervision := some s.clock, status := .alive }).reformValley
      = s.setRadio { s.radio with supervision := some s.clock, status := .alive, lostWide := false } := by
    have hnow := valleyLostNow_of_alive
      (s := s.setRadio { s.radio with supervision := some s.clock, status := .alive }) rfl
    simp only [State.reformValley, hnow]
    rfl
  rw [State.frameAccepted, hformed, clear_of_c rfl]
  rfl

/-! ## The state that an order finds -/

/-- The state in which a new order is applied: its frame is accepted or heard, its sequence number in the window. -/
def State.ordered (m : Moment) (via : Via) (sequence : Byte) (s : State) : State :=
  match via with
  | .radio _ => (s.atMoment m).frameAccepted.noteSequence sequence
  | .line _ => (s.heardAt m).endHoldOff.noteSequence sequence

/-- The fault manager as it finds it. -/
def acceptedFaults (via : Via) (f : Faults) : Faults :=
  match via with
  | .radio _ => f.going .valleyLost
  | .line _ => f

theorem State.ordered_stands :
    (s.ordered m via sequence).rack = s.rack ∧ (s.ordered m via sequence).engagement = s.engagement
      ∧ (s.ordered m via sequence).peers = s.peers ∧ (s.ordered m via sequence).speed = s.speed
      ∧ (s.ordered m via sequence).brake = s.brake ∧ (s.ordered m via sequence).doors = s.doors
      ∧ (s.ordered m via sequence).restrictions = s.restrictions ∧ (s.ordered m via sequence).station = s.station
      ∧ (s.ordered m via sequence).straps = s.straps := by
  cases via with
  | radio =>
    rw [State.ordered, frameAccepted_eq]
    exact ⟨rfl, rfl, rfl, rfl, rfl, rfl, rfl, rfl, rfl⟩
  | line => exact ⟨rfl, rfl, rfl, rfl, rfl, rfl, rfl, rfl, rfl⟩

theorem State.ordered_faults : (s.ordered m via sequence).faults = acceptedFaults via s.faults := by
  cases via with
  | radio =>
    rw [State.ordered, frameAccepted_eq]
    rfl
  | line => rfl

theorem State.ordered_present (hj : j ≠ .valleyLost) : (s.ordered m via sequence).present j = s.present j := by
  rw [State.present, ordered_faults]
  cases via with
  | radio => exact s.faults.present_going_of_ne hj
  | line => rfl

theorem State.ordered_pins : (s.ordered m via sequence).pins = (s.atMoment m).pins := by
  cases via with
  | radio =>
    rw [State.ordered, frameAccepted_eq]
    rfl
  | line => rfl

theorem State.ordered_window : (s.ordered m via sequence).radio.window = appendWindow s.radio.window sequence := by
  cases via with
  | radio =>
    rw [State.ordered, frameAccepted_eq]
    rfl
  | line => rfl

/-- The waiting frames and the number stand. -/
theorem State.ordered_line :
    (s.ordered m via sequence).line.own = s.line.own ∧ (s.ordered m via sequence).line.orders = s.line.orders
      ∧ (s.ordered m via sequence).line.alert = s.line.alert
      ∧ (s.ordered m via sequence).line.alertBehind = s.line.alertBehind
      ∧ (s.ordered m via sequence).line.sending = s.line.sending := by
  cases via with
  | radio =>
    rw [State.ordered, frameAccepted_eq]
    exact ⟨rfl, rfl, rfl, rfl, rfl⟩
  | line => exact ⟨rfl, rfl, rfl, rfl, rfl⟩

theorem frameAccepted_onlyChanges : onlyChanges [.valley, .faults] s s.frameAccepted := by
  rw [State.frameAccepted_eq]
  intro p
  cases p <;> simp [Part.same]

theorem noteSequence_onlyChanges : onlyChanges [.window] s (s.noteSequence sequence) := by
  intro p
  cases p <;> simp [Part.same, State.noteSequence]

theorem endHoldOff_onlyChanges : onlyChanges [.transmission, .lineTimers] s s.endHoldOff := by
  intro p
  cases p <;> simp [Part.same, State.endHoldOff]

theorem ordered_onlyChanges : onlyChanges (Part.ofVia via) (s.atMoment m) (s.ordered m via sequence) := by
  cases via with
  | radio =>
    have haccepted := (frameAccepted_onlyChanges (s := s.atMoment m)).mono (qs := Part.ofVia (.radio 0)) (by decide)
    exact haccepted.trans (noteSequence_onlyChanges.mono (by decide)) (by rw [State.frameAccepted_eq]; rfl)
  | line =>
    have hheard := (heardAt_onlyChanges (s := s) (m := m)).mono (qs := Part.ofVia (.line 0)) (by decide)
    have hended := hheard.trans (endHoldOff_onlyChanges.mono (by decide)) rfl
    exact hended.trans (noteSequence_onlyChanges.mono (by decide)) rfl

/-! ## The relay and the acknowledgement (R157, R167) -/

/-- An order applied, passed on where a radio took it. -/
def State.passedOn (via : Via) (sequence : Byte) (order : ValleyOrder) (applied : State × OrderResult) : State :=
  match via with
  | .radio _ => (applied.1.relay sequence order).queueAck sequence applied.2
  | .line _ => applied.1

theorem State.takesAddress_iff {address : Byte} :
    s.takesAddress address = true
      ↔ s.straps.radioFitted = true ∧ (address = s.straps.radioAddr ∨ address = 255) := by
  simp [State.takesAddress]

/-- A new order that its path takes. -/
theorem runOrder_of_new (h : s.takesOrder via = true) (hnew : sequence ∉ s.radio.window) (hok : order.ok = true) :
    runOrder m via sequence order apply s
      = .next (State.passedOn via sequence order (apply (s.ordered m via sequence))).keepStore := by
  have hwindow : s.radio.window.contains sequence = false := by simpa using hnew
  cases via with
  | radio address =>
    have htake : (s.running = true ∧ s.straps.radioFitted = true) ∧ (address = s.straps.radioAddr ∨ address = 255) := by
      simpa [State.takesOrder] using h
    obtain ⟨⟨hrun, hfitted⟩, haddress⟩ := htake
    have haccept : ((s.atMoment m).takesAddress address && order.ok) = true := by
      rw [(State.takesAddress_iff (s := s.atMoment m)).mpr ⟨hfitted, haddress⟩, hok]
      rfl
    have heffect : (s.atMoment m).radioOrder sequence order apply
        = State.passedOn (.radio address) sequence order (apply (s.ordered m (.radio address) sequence)) := by
      refine if_neg ?_
      rw [State.frameAccepted_eq]
      exact Bool.eq_false_iff.mp hwindow
    rw [runOrder, runCommand_of_running m _ hrun, if_pos haccept, heffect]
  | line source =>
    have htake : s.hears = true ∧ s.line.own ≠ some source := by simpa [State.takesOrder] using h
    have hclash : (s.heardAt m).clashTest source = s.heardAt m := State.clashTest_of_other (s := s.heardAt m) htake.2
    have heffect : (s.heardAt m).endHoldOff.lineOrder sequence apply = (apply (s.ordered m (.line source) sequence)).1 :=
      if_neg (Bool.eq_false_iff.mp hwindow)
    rw [runOrder, runFrame_of_hears _ htake.1, handOn_of_ok rfl, hclash, if_pos hok, heffect]
    rfl

/-- A relay is a frame in the ORDER slot, or an occurrence of LINE_CONGESTION. -/
theorem State.relay_cases :
    (∃ orders sending bus, s.relay sequence order = s.setLine { s.line with orders := orders, sending := sending, bus := bus })
      ∨ s.relay sequence order = s.recordOccurrence .lineCongestion := by
  unfold State.relay
  split
  · exact .inl ⟨_, _, _, rfl⟩
  next n hown =>
    split
    · exact .inr (raise_of_classC rfl)
    · obtain ⟨sending, bus, hoffer⟩ := Line.offer_eq
        { s.line with orders := s.line.orders ++ [buildFrame n (.order sequence order.code order.payload)] }
      exact .inl ⟨_, _, _, congrArg s.setLine hoffer⟩

theorem relay_onlyChanges : onlyChanges [.slots, .transmission, .faults] s (s.relay sequence order) := by
  obtain ⟨orders, sending, bus, h⟩ | h := State.relay_cases (s := s) (sequence := sequence) (order := order)
  · rw [h]
    intro p
    cases p <;> simp [Part.same]
  · rw [h]
    intro p
    cases p <;> simp [Part.same]

theorem queueAck_onlyChanges : onlyChanges [.outgoing] s (s.queueAck sequence result) := by
  intro p
  cases p <;> simp [Part.same, State.queueAck]


theorem State.queueAck_stands :
    (s.queueAck sequence result).rack = s.rack ∧ (s.queueAck sequence result).line = s.line
      ∧ (s.queueAck sequence result).speed = s.speed ∧ (s.queueAck sequence result).brake = s.brake
      ∧ (s.queueAck sequence result).doors = s.doors ∧ (s.queueAck sequence result).restrictions = s.restrictions
      ∧ (s.queueAck sequence result).station = s.station ∧ (s.queueAck sequence result).faults = s.faults
      ∧ (s.queueAck sequence result).radio.platform = s.radio.platform
      ∧ (s.queueAck sequence result).radio.window = s.radio.window :=
  ⟨rfl, rfl, rfl, rfl, rfl, rfl, rfl, rfl, rfl, rfl⟩

theorem State.relay_stands :
    (s.relay sequence order).rack = s.rack ∧ (s.relay sequence order).speed = s.speed
      ∧ (s.relay sequence order).brake = s.brake ∧ (s.relay sequence order).doors = s.doors
      ∧ (s.relay sequence order).restrictions = s.restrictions ∧ (s.relay sequence order).station = s.station
      ∧ (s.relay sequence order).radio = s.radio ∧ (s.relay sequence order).line.alert = s.line.alert
      ∧ (s.relay sequence order).line.alertBehind = s.line.alertBehind
      ∧ (s.relay sequence order).line.own = s.line.own := by
  obtain ⟨orders, sending, bus, h⟩ | h := relay_cases (s := s) (sequence := sequence) (order := order)
  · rw [h]
    exact ⟨rfl, rfl, rfl, rfl, rfl, rfl, rfl, rfl, rfl, rfl⟩
  · rw [h]
    exact ⟨rfl, rfl, rfl, rfl, rfl, rfl, rfl, rfl, rfl, rfl⟩

theorem State.passedOn_stands {applied : State × OrderResult} :
    (State.passedOn via sequence order applied).rack = applied.1.rack
      ∧ (State.passedOn via sequence order applied).speed = applied.1.speed
      ∧ (State.passedOn via sequence order applied).brake = applied.1.brake
      ∧ (State.passedOn via sequence order applied).doors = applied.1.doors
      ∧ (State.passedOn via sequence order applied).restrictions = applied.1.restrictions
      ∧ (State.passedOn via sequence order applied).station = applied.1.station
      ∧ (State.passedOn via sequence order applied).radio.platform = applied.1.radio.platform
      ∧ (State.passedOn via sequence order applied).line.alert = applied.1.line.alert
      ∧ (State.passedOn via sequence order applied).line.alertBehind = applied.1.line.alertBehind := by
  cases via with
  | radio =>
    obtain ⟨hrack, hspeed, hbrake, hdoors, hrestrictions, hstation, hradio, halert, hbehind, -⟩ :=
      relay_stands (s := applied.1) (sequence := sequence) (order := order)
    have hplatform : (applied.1.relay sequence order).radio.platform = applied.1.radio.platform := by rw [hradio]
    exact ⟨hrack, hspeed, hbrake, hdoors, hrestrictions, hstation, hplatform, halert, hbehind⟩
  | line => exact ⟨rfl, rfl, rfl, rfl, rfl, rfl, rfl, rfl, rfl⟩

/-- The fault manager after the relay asked of a line. -/
def relayedFaults (via : Via) (strict : Bool) (l : Line) (f : Faults) : Faults :=
  match via with
  | .radio _ => if l.own.isSome = true ∧ 4 ≤ l.orders.length then f.occur strict .lineCongestion else f
  | .line _ => f

theorem State.relay_of_room {n : Fin 8} (hown : s.line.own = some n) (hroom : s.line.orders.length < 4) :
    s.relay sequence order
      = s.setLine { s.line with
          orders := s.line.orders ++ [buildFrame n (.order sequence order.code order.payload)] }.offer := by
  rw [State.relay, hown]
  exact if_neg (by omega)

theorem State.relay_of_full (hown : s.line.own.isSome = true) (hfull : 4 ≤ s.line.orders.length) :
    s.relay sequence order = s.recordOccurrence .lineCongestion := by
  obtain ⟨n, hn⟩ := Option.isSome_iff_exists.mp hown
  rw [State.relay, hn]
  exact (if_pos hfull).trans (raise_of_classC rfl)

theorem State.relay_of_silent (hown : s.line.own = none) : s.relay sequence order = s := by
  rw [State.relay, hown]

theorem State.relay_faults :
    (s.relay sequence order).faults
      = if s.line.own.isSome = true ∧ 4 ≤ s.line.orders.length then s.faults.occur s.straps.strict .lineCongestion
        else s.faults := by
  cases hown : s.line.own with
  | none => rw [relay_of_silent hown, if_neg (by simp)]
  | some n =>
    by_cases hfull : 4 ≤ s.line.orders.length
    · rw [relay_of_full (by simp [hown]) hfull, if_pos ⟨rfl, hfull⟩]
      rfl
    · rw [relay_of_room hown (by omega), if_neg (by simp [hfull])]
      rfl

theorem State.passedOn_faults {applied : State × OrderResult} :
    (State.passedOn via sequence order applied).faults
      = relayedFaults via applied.1.straps.strict applied.1.line applied.1.faults := by
  cases via with
  | radio => exact relay_faults (s := applied.1)
  | line => rfl

theorem State.passedOn_present {applied : State × OrderResult} (hj : j ≠ .lineCongestion) :
    (State.passedOn via sequence order applied).present j = applied.1.present j := by
  rw [State.present, passedOn_faults]
  cases via with
  | radio =>
    unfold relayedFaults
    dsimp only
    split
    · exact present_recordOccurrence_of_ne (s := applied.1) hj
    · rfl
  | line => rfl

theorem passedOn_onlyChanges {applied : State × OrderResult} :
    onlyChanges (Part.ofVia via) applied.1 (State.passedOn via sequence order applied) := by
  cases via with
  | radio =>
    have hrelay := (relay_onlyChanges (s := applied.1) (sequence := sequence) (order := order)).mono
      (qs := Part.ofVia (.radio 0)) (by decide)
    exact hrelay.trans (queueAck_onlyChanges.mono (by decide)) State.relay_stands.2.2.2.2.2.1
  | line => exact onlyChanges_refl _ _

/-- An order's own effect with its path. -/
theorem onlyChanges_of_ordered {applied : State × OrderResult}
    (h : onlyChanges ps (s.ordered m via sequence) applied.1) (hstation : applied.1.station = s.station) :
    onlyChanges (Part.also (Part.ofVia via) ps) s (State.passedOn via sequence order applied).keepStore := by
  obtain ⟨-, -, -, -, -, hpassed, -⟩ :=
    State.passedOn_stands (via := via) (sequence := sequence) (order := order) (applied := applied)
  obtain ⟨-, -, -, -, -, -, -, hordered, -⟩ := State.ordered_stands (s := s) (m := m) (via := via) (sequence := sequence)
  have hleft : Part.ofVia via ⊆ Part.also (Part.ofVia via) ps := List.subset_append_left _ _
  have hright : ps ⊆ Part.also (Part.ofVia via) ps := List.subset_append_right _ _
  have hfound := (ordered_onlyChanges (s := s) (m := m) (sequence := sequence)).mono hleft
  have happlied := hfound.trans (h.mono hright) hordered
  exact onlyChanges_of_effect (happlied.trans (passedOn_onlyChanges.mono hleft) hstation) (hpassed.trans hstation)

end Sys2Proof.Machine
end

section
/-! SUPPORT. The fault manager through the reaction to a class A condition: the handle releases of a holding brake that
becomes applied leave no mass latch that the doors before them would not have brought (sections 6.7, 7.6 and 7.8). -/

namespace Sys2Proof.Machine

variable {ps : List Part} {s t u v : State} {m : Moment} {j k : FaultKind} {f : Faults} {d e : DoorId}

/-! ## Handle releases (R131) -/

theorem State.releaseByHandle_get :
    (s.releaseByHandle d).doors.doors.get e
      = if e = d ∧ (s.pins.levels.doors.get d).handle = true ∧ s.rack.standstill = true ∧ s.brake.applied = true then
          (s.doors.doors.get e).handleReleased s.clock
        else s.doors.doors.get e := by
  unfold State.releaseByHandle
  split
  next h =>
    obtain ⟨⟨hhandle, hstill⟩, happlied⟩ : ((s.pins.levels.doors.get d).handle = true ∧ s.rack.standstill = true)
        ∧ s.brake.applied = true := by simpa using h
    by_cases he : e = d
    · subst he
      rw [if_pos ⟨rfl, hhandle, hstill, happlied⟩]
      exact (PerDoor.get_set _ _ _ _).trans (if_pos rfl)
    · rw [if_neg fun hcond => he hcond.1]
      exact (PerDoor.get_set _ _ _ _).trans (if_neg he)
  next h =>
    rw [if_neg]
    rintro ⟨-, hhandle, hstill, happlied⟩
    exact h (by simp [hhandle, hstill, happlied])

theorem State.releaseByHandle_stands :
    (s.releaseByHandle d).pins = s.pins ∧ (s.releaseByHandle d).rack = s.rack ∧ (s.releaseByHandle d).brake = s.brake
      ∧ (s.releaseByHandle d).clock = s.clock ∧ (s.releaseByHandle d).faults = s.faults := by
  unfold State.releaseByHandle
  split <;> exact ⟨rfl, rfl, rfl, rfl, rfl⟩

theorem State.releaseByHandles_get :
    s.releaseByHandles.doors.doors.get e
      = if (s.pins.levels.doors.get e).handle = true ∧ s.rack.standstill = true ∧ s.brake.applied = true then
          (s.doors.doors.get e).handleReleased s.clock
        else s.doors.doors.get e := by
  simp only [State.releaseByHandles, releaseByHandle_get, releaseByHandle_stands]
  cases e <;> simp

theorem Door.handleReleased_closed {now : Nat} {r : Door} (h : (r.handleReleased now).closed = true) :
    r.handleReleased now = r := by
  unfold Door.handleReleased at h ⊢
  cases hstate : r.state <;> simp_all [Door.closed]

theorem Door.handleReleased_held {now : Nat} {r : Door} (h : r.state ≠ .isolated) :
    (r.handleReleased now).handleRelease = true := by
  unfold Door.handleReleased
  cases hstate : r.state <;> simp_all

theorem DoorControl.change_same (c : DoorControl) (d : DoorId) : c.change d (c.doors.get d) = c := by
  have hset : c.doors.set d (c.doors.get d) = c.doors := by cases d <;> rfl
  have hstays : ((c.doors.get d).state == .locked && (c.doors.get d).state != .locked) = false := by simp [bne]
  rw [DoorControl.change, hset, hstays, Bool.or_false]

/-- A door that its handle holds is not withdrawn by a retest. -/
theorem State.retestPermits_get_of_held (h : (s.doors.doors.get d).handleRelease = true) :
    s.retestPermits.doors.doors.get d = s.doors.doors.get d := by
  rw [retestPermits_get, if_neg (by simp [h])]

/-- Where the doors are closed after the handle releases, no handle has released one. -/
theorem State.handleReleased_of_closed (h : s.releaseByHandles.retestPermits.summary = .allClosed)
    (hhandle : (s.pins.levels.doors.get d).handle = true ∧ s.rack.standstill = true ∧ s.brake.applied = true) :
    (s.doors.doors.get d).handleReleased s.clock = s.doors.doors.get d := by
  by_cases hisolated : (s.doors.doors.get d).state = .isolated
  · simp [Door.handleReleased, hisolated]
  have hget : s.releaseByHandles.doors.doors.get d = (s.doors.doors.get d).handleReleased s.clock := by
    rw [releaseByHandles_get, if_pos hhandle]
  have hclosed := (summaryOf_eq_allClosed_iff _).mp h d
  rw [retestPermits_get_of_held (by rw [hget]; exact Door.handleReleased_held hisolated), hget] at hclosed
  exact Door.handleReleased_closed hclosed

theorem State.releaseByHandles_of_closed (h : s.releaseByHandles.retestPermits.summary = .allClosed) :
    s.releaseByHandles = s := by
  have hstep (d : DoorId) : s.releaseByHandle d = s := by
    unfold State.releaseByHandle
    split
    next hhandle =>
      obtain ⟨⟨hhandle, hstill⟩, happlied⟩ : ((s.pins.levels.doors.get d).handle = true ∧ s.rack.standstill = true)
          ∧ s.brake.applied = true := by simpa using hhandle
      rw [handleReleased_of_closed h ⟨hhandle, hstill, happlied⟩, DoorControl.change_same]
      rfl
    next => rfl
  simp only [State.releaseByHandles, hstep]

/-! ## The mass latch on the way through the emergency latch (R109, R111, R144) -/

theorem State.retestPermits_of_unreleased (h : s.unreleased) : s.retestPermits = s := by
  have hside (side : CarSide) : s.retestSide side = s := if_neg (by simp [h side])
  rw [State.retestPermits, hside, hside]
  exact if_neg fun hcond => hcond.1 hcond.2.1

theorem State.unreleased_retest_of_classA (h : s.classA = true) : s.retestPermits.unreleased := by
  intro side
  rw [retestPermits_sideRelease]
  simp [State.permit, h]

/-- The brake applied, before what follows it. -/
def State.brakeHeld (s : State) : State := s.setBrake { s.brake.allFull with applied := true }

theorem State.applyHolding_of_free (h : s.brake.applied = false) :
    s.applyHolding = s.brakeHeld.releaseByHandles.retestPermits := if_neg (by simp [h])

theorem State.applyHolding_of_held (h : s.brake.applied = true) : s.applyHolding = s := if_pos h

theorem State.applyHolding_faults (hload : s.pins.load = m.load) :
    s.applyHolding.faults = s.latchReports m s.applyHolding s.faults := by
  cases happlied : s.brake.applied with
  | true =>
    rw [applyHolding_of_held happlied]
    exact (latchReports_of_same rfl).symm
  | false =>
    have hfaults : s.brakeHeld.releaseByHandles.retestPermits.faults
        = s.brakeHeld.releaseByHandles.latchReports m s.brakeHeld.releaseByHandles.retestPermits s.brakeHeld.releaseByHandles.faults :=
      retestPermits_faults (by simpa [State.brakeHeld] using hload)
    have hkept : s.brakeHeld.releaseByHandles.faults = s.faults := by simp [State.brakeHeld]
    rw [applyHolding_of_free happlied, hfaults, hkept]
    by_cases hclosed : s.brakeHeld.releaseByHandles.retestPermits.summary = .allClosed
    · have hidle := releaseByHandles_of_closed hclosed
      exact latchReports_congr (by rw [hidle]; rfl) (by rw [hidle]; rfl) (by rw [hidle]; rfl) (by rw [hidle]; rfl) rfl
    · rw [latchReports_of_not fun hlatch => hclosed hlatch.2.1, latchReports_of_not fun hlatch => hclosed hlatch.2.1]

theorem State.applyHolding_doors (h : s.classA = true) : s.applyHolding.doors = s.doors ∨ s.applyHolding.unreleased := by
  cases happlied : s.brake.applied with
  | true => exact .inl (by rw [applyHolding_of_held happlied])
  | false =>
    rw [applyHolding_of_free happlied]
    have hA : s.brakeHeld.releaseByHandles.classA = true := by
      rw [← h]
      exact classA_congr (straps_congr (by simp [State.brakeHeld])) fun j _ => present_congr (by simp [State.brakeHeld]) j
    exact .inr (unreleased_retest_of_classA hA)

theorem State.setLatch_faults (hload : s.pins.load = m.load) :
    s.setLatch.faults = s.latchReports m s.setLatch s.faults := by
  cases hlatch : s.brake.latch with
  | true =>
    rw [setLatch_of_latched hlatch]
    exact (latchReports_of_same rfl).symm
  | false =>
    rw [setLatch_of_clear hlatch]
    by_cases hstill : s.rack.standstill = true
    · rw [if_pos hstill]
      exact applyHolding_faults (s := s.setBrake s.brake.latched) hload
    · rw [if_neg hstill]
      exact (latchReports_of_same rfl).symm

/-- Setting the latch leaves the doors, or withdraws every side for the class A condition present. -/
theorem State.setLatch_doors (h : s.classA = true) : s.setLatch.doors = s.doors ∨ s.setLatch.unreleased := by
  cases hlatch : s.brake.latch with
  | true => exact .inl (by rw [setLatch_of_latched hlatch])
  | false =>
    rw [setLatch_of_clear hlatch]
    by_cases hstill : s.rack.standstill = true
    · rw [if_pos hstill]
      exact applyHolding_doors (s := s.setBrake s.brake.latched) h
    · rw [if_neg hstill]
      exact .inl rfl

theorem placeAlert_stands :
    (s.placeAlert k).doors = s.doors ∧ (s.placeAlert k).faults = s.faults ∧ (s.placeAlert k).rack = s.rack := by
  unfold State.placeAlert
  split
  · exact ⟨rfl, rfl, rfl⟩
  · dsimp only
    split <;> exact ⟨rfl, rfl, rfl⟩

theorem State.assertPull_faults (hload : s.pins.load = m.load) :
    (s.assertPull k).faults = s.latchReports m (s.assertPull k) s.faults := by
  unfold State.assertPull
  split
  · exact (latchReports_of_same rfl).symm
  · rw [placeAlert_stands.2.1, setLatch_faults (s := s.setBrake { s.brake with ownPull := true }) hload]
    exact latchReports_congr rfl rfl rfl rfl (summary_congr (by rw [placeAlert_stands.1])).symm

theorem State.assertPull_doors (h : s.classA = true) :
    (s.assertPull k).doors = s.doors ∨ (s.assertPull k).unreleased := by
  unfold State.assertPull
  split
  · exact .inl rfl
  · obtain hdoors | hsides := setLatch_doors (s := s.setBrake { s.brake with ownPull := true }) h
    · exact .inl (placeAlert_stands.1.trans hdoors)
    · exact .inr fun side => by
        rw [placeAlert_stands.1]
        exact hsides side

theorem State.assertPull_stands :
    (s.assertPull k).rack = s.rack ∧ (s.assertPull k).straps = s.straps ∧ (s.assertPull k).pins = s.pins :=
  ⟨by simp, straps_congr (by simp), by simp⟩

/-- One occurrence of a class A kind leaves the fault manager as `afterOccurrence` has it (R111, R129, R144, R183). -/
theorem State.raise_faults_classA (hclass : faultClassOf s.straps.strict k = .a) (hload : s.pins.load = m.load) :
    (s.raise k).faults = s.afterOccurrence m k (s.raise k) := by
  cases habsent : s.present k with
  | true =>
    have hraise : s.raise k = s.recordOccurrence k := by simp [State.raise, habsent]
    rw [hraise]
    exact (latchReports_of_same rfl).symm
  | false =>
    have hA : (s.recordOccurrence k).classA = true := classA_iff.mpr ⟨k, hclass, present_recordOccurrence_self k⟩
    let pulled := ((s.recordOccurrence k).assertPull k).lowerLimit 0
    obtain ⟨hrack, hstraps, hpins⟩ := assertPull_stands (s := s.recordOccurrence k) (k := k)
    have hpulled : pulled.faults = (s.recordOccurrence k).latchReports m pulled (s.recordOccurrence k).faults :=
      assertPull_faults hload
    have hraise : s.raise k = pulled.retestPermits := raise_of_classA hclass habsent
    have hretest : pulled.retestPermits.faults = pulled.latchReports m pulled.retestPermits pulled.faults :=
      retestPermits_faults (by rw [← hload]; exact congrArg Pins.load hpins)
    rw [hraise]
    obtain hdoors | hsides := assertPull_doors (k := k) hA
    · have hfaults : pulled.faults = (s.recordOccurrence k).faults :=
        hpulled.trans (latchReports_of_same (summary_congr (congrArg DoorControl.doors hdoors)))
      rw [hretest, hfaults]
      exact latchReports_congr (summary_congr (congrArg DoorControl.doors hdoors)) (congrArg DoorControl.latchPending hdoors)
        (congrArg Rack.standstill hrack) hstraps rfl
    · have hidle : pulled.retestPermits = pulled := retestPermits_of_unreleased hsides
      rw [hidle, hpulled]
      rfl

end Sys2Proof.Machine
end

section
/-! SUPPORT. O57: the halts, PROCEED, a platform release and SUPERVISE as their paths bring them (sections 8.2 to 8.5 and
10.5). -/

namespace Sys2Proof.Machine

variable {ps : List Part} {s t u v : State} {m : Moment} {j k : FaultKind} {f : Faults} {via : Via}
  {sequence : Byte} {order : ValleyOrder} {applied : State × OrderResult} {l l' : Line}

/-! ## What a command leaves of an order applied -/

/-- The state that the command of an order leaves. -/
def State.orderDone (via : Via) (sequence : Byte) (order : ValleyOrder) (applied : State × OrderResult) : State :=
  (State.passedOn via sequence order applied).keepStore

theorem State.orderDone_stands :
    (State.orderDone via sequence order applied).speed = applied.1.speed
      ∧ (State.orderDone via sequence order applied).brake = applied.1.brake
      ∧ (State.orderDone via sequence order applied).restrictions = applied.1.restrictions
      ∧ (State.orderDone via sequence order applied).radio.platform = applied.1.radio.platform
      ∧ (State.orderDone via sequence order applied).line.alert = applied.1.line.alert
      ∧ (State.orderDone via sequence order applied).line.alertBehind = applied.1.line.alertBehind
      ∧ (State.orderDone via sequence order applied).summary = applied.1.summary
      ∧ (State.orderDone via sequence order applied).faults
        = relayedFaults via applied.1.straps.strict applied.1.line applied.1.faults := by
  obtain ⟨-, hspeed, hbrake, hdoors, hrestrictions, -, hplatform, halert, hbehind⟩ :=
    passedOn_stands (via := via) (sequence := sequence) (order := order) (applied := applied)
  refine ⟨keepStore_speed.trans hspeed, keepStore_brake.trans hbrake, ?_, ?_, ?_, ?_, ?_, ?_⟩
  · rw [← hrestrictions]
    simp [State.orderDone]
  · rw [← hplatform, State.orderDone, keepStore_radio]
  · rw [← halert, State.orderDone, keepStore_line]
  · rw [← hbehind, State.orderDone, keepStore_line]
  · exact keepStore_summary.trans (summary_congr (by rw [hdoors]))
  · exact keepStore_faults.trans passedOn_faults

theorem State.orderDone_present (hj : j ≠ .lineCongestion) :
    (State.orderDone via sequence order applied).present j = applied.1.present j := by
  rw [State.orderDone, keepStore_present, passedOn_present hj]

theorem relayedFaults_congr {strict : Bool} (hown : l'.own = l.own) (horders : l'.orders = l.orders) :
    relayedFaults via strict l' f = relayedFaults via strict l f := by
  cases via with
  | radio => rw [relayedFaults, relayedFaults, hown, horders]
  | line => rfl

/-- An occurrence that an order brings, with the relay of that order: `hraise` is what the raise leaves of the records. -/
theorem State.orderDone_raise_faults
    (hraise : ((s.ordered m via sequence).raise k).faults
      = (s.ordered m via sequence).afterOccurrence m k ((s.ordered m via sequence).raise k)) {result : OrderResult} :
    (State.orderDone via sequence order ((s.ordered m via sequence).raise k, result)).faults
      = relayedFaults via s.straps.strict s.line
          (s.latchReports m (State.orderDone via sequence order ((s.ordered m via sequence).raise k, result))
            ((acceptedFaults via s.faults).occur s.straps.strict k)) := by
  obtain ⟨hrack, -, -, -, -, hdoors, -, -, hstraps⟩ := ordered_stands (s := s) (m := m) (via := via) (sequence := sequence)
  obtain ⟨hown, horders, -⟩ := ordered_line (s := s) (m := m) (via := via) (sequence := sequence)
  obtain ⟨-, -, -, -, -, -, hsummary, hfaults⟩ := orderDone_stands (via := via) (sequence := sequence) (order := order)
    (applied := ((s.ordered m via sequence).raise k, result))
  obtain ⟨alert, behind, sending, bus, hline⟩ := raise_alerted (s := s.ordered m via sequence) k
  have hraised : ((s.ordered m via sequence).raise k).straps = s.straps := (straps_congr (by simp)).trans hstraps
  rw [hfaults, hraised, relayedFaults_congr (l := s.line) (by rw [hline]; exact hown) (by rw [hline]; exact horders),
    hraise, State.afterOccurrence, ordered_faults, hstraps]
  refine congrArg _ (latchReports_congr (summary_congr (by rw [hdoors])) (by rw [hdoors]) (by rw [hrack]) hstraps ?_)
  exact hsummary.symm

/-! ## ALL_HALT (R111, R112, R187) -/

/-- The ALERT of a station with a number, in its slot or behind the one in transmission. -/
theorem State.placeAlert_placed {n : Fin 8} (hown : s.line.own = some n) :
    (if s.line.sending = some .alert then (s.placeAlert k).line.alertBehind else (s.placeAlert k).line.alert)
      = some (buildFrame n (.alert (BitVec.ofNat 8 k.code) (BitVec.ofNat 8 (n.val + 1)))) := by
  rw [State.placeAlert, hown]
  dsimp only
  split
  · rfl
  · obtain ⟨sending, bus, h⟩ := Line.offer_eq
      { s.line with alert := some (buildFrame n (.alert (BitVec.ofNat 8 k.code) (BitVec.ofNat 8 (n.val + 1)))) }
    exact congrArg Line.alert h

/-- The own pull, as it is asserted. -/
def State.pulling (s : State) : State := s.setBrake { s.brake with ownPull := true }

theorem State.assertPull_of_free (h : s.brake.ownPull = false) : s.assertPull k = s.pulling.setLatch.placeAlert k :=
  if_neg (by simp [h])

theorem State.setLatch_line : s.setLatch.line = s.line := by simp

theorem State.assertPull_placed {n : Fin 8} (h : s.brake.ownPull = false) (hown : s.line.own = some n) :
    (if s.line.sending = some .alert then (s.assertPull k).line.alertBehind else (s.assertPull k).line.alert)
      = some (buildFrame n (.alert (BitVec.ofNat 8 k.code) (BitVec.ofNat 8 (n.val + 1)))) := by
  have hline : s.pulling.setLatch.line = s.line := setLatch_line
  rw [assertPull_of_free h]
  have hplaced := placeAlert_placed (s := s.pulling.setLatch) (k := k) (n := n) (by rw [hline, hown])
  rwa [hline] at hplaced

/-- The outputs and the release request as a clear latch is set by the own pull. -/
theorem State.assertPull_sets (h : s.brake.ownPull = false) (hlatch : s.brake.latch = false) :
    (s.assertPull k).brake.outputsFull ∧ (s.assertPull k).brake.releasePending = false := by
  have hbrake : (s.assertPull k).brake = s.pulling.setLatch.brake := by
    rw [assertPull_of_free h]
    exact placeAlert_brake
  rw [hbrake]
  obtain ⟨hset, -⟩ | ⟨-, -, -, hfull, -⟩ := setLatch_cases (s := s.pulling)
  · exact absurd (hset.symm.trans hlatch) nofun
  · exact ⟨hfull, (setLatch_sets (s := s.pulling) hlatch).1⟩

theorem State.raise_classA_stands (hclass : faultClassOf s.straps.strict k = .a) (habsent : s.present k = false) :
    (s.raise k).brake = ((s.recordOccurrence k).assertPull k).brake
      ∧ (s.raise k).line = ((s.recordOccurrence k).assertPull k).line := by
  rw [raise_of_classA hclass habsent]
  exact ⟨by simp, by simp⟩

/-! ## PROCEED (R161, R190) -/

theorem State.permit_recordGoing {side : LineSide} (h : s.permit side = true) : (s.recordGoing k).permit side = true := by
  have hle (j : FaultKind) (hj : (s.recordGoing k).present j = true) : s.present j = true := by
    by_cases hjk : j = k
    · subst hjk
      exact absurd (hj.symm.trans (s.faults.present_going_self j)) nofun
    · exact (s.faults.present_going_of_ne hjk).symm.trans hj
  have hA : (s.recordGoing k).classA = true → s.classA = true := fun hA => by
    obtain ⟨j, hj, hpresent⟩ := classA_iff.mp hA
    exact classA_iff.mpr ⟨j, hj, hle j hpresent⟩
  have hB : (s.recordGoing k).classB = true → s.classB = true := fun hB => by
    obtain ⟨j, hj, hpresent⟩ := classB_iff.mp hB
    exact classB_iff.mpr ⟨j, hj, hle j hpresent⟩
  simp only [State.permit, Bool.and_eq_true, Bool.not_eq_true'] at h ⊢
  obtain ⟨⟨⟨hstand, hnoA⟩, hnoB⟩, hgrade⟩ := h
  exact ⟨⟨⟨hstand, Bool.eq_false_iff.mpr fun h' => absurd (hnoA.symm.trans (hA h')) nofun⟩,
    Bool.eq_false_iff.mpr fun h' => absurd (hnoB.symm.trans (hB h')) nofun⟩, hgrade⟩

theorem State.permitsOk_recordGoing (h : s.permitsOk) : (s.recordGoing k).permitsOk :=
  permitsOk_of_permit h (fun _ => id) rfl fun _ => permit_recordGoing

/-- Where every released side has its permit, a retest changes nothing. -/
theorem State.retestPermits_of_permitsOk (h : s.permitsOk) : s.retestPermits = s := by
  have hside (side : CarSide) : s.retestSide side = s := by
    refine if_neg ?_
    rw [Bool.and_eq_true, Bool.not_eq_true']
    rintro ⟨hset, hfails⟩
    exact absurd ((h side hset).symm.trans hfails) nofun
  rw [State.retestPermits, hside, hside]
  exact if_neg fun hcond => hcond.1 hcond.2.1

/-- There a going ends its condition and nothing else. -/
theorem State.clear_of_permitsOk (h : s.permitsOk) : s.clear k = s.recordGoing k := by
  cases hpresent : s.present k with
  | false =>
    have hgoing : s.faults.going k = s.faults := if_neg (Bool.eq_false_iff.mp hpresent)
    rw [clear_of_absent hpresent, State.recordGoing, hgoing]
    rfl
  | true =>
    have hretest := retestPermits_of_permitsOk (permitsOk_recordGoing (k := k) h)
    rw [State.clear, if_pos hpresent]
    split
    · exact hretest
    · exact hretest
    · rfl

theorem State.ordered_permitsOk (h : s.permitsOk) : (s.ordered m via sequence).permitsOk := by
  obtain ⟨hrack, -, hpeers, -, hbrake, hdoors, -, -, -⟩ :=
    ordered_stands (s := s) (m := m) (via := via) (sequence := sequence)
  have hplatform : (s.ordered m via sequence).radio.platform = s.radio.platform := by
    cases via with
    | radio =>
      rw [State.ordered, frameAccepted_eq]
      rfl
    | line => rfl
  have hstore : (s.ordered m via sequence).store = s.store := by
    cases via with
    | radio =>
      rw [State.ordered, frameAccepted_eq]
      rfl
    | line => rfl
  refine permitsOk_congr h hdoors hstore hrack hpeers (by rw [hbrake]) (fun j hj => ordered_present ?_) hplatform
  rintro rfl
  exact hj rfl

/-- No record of a kind. -/
def Faults.without (k : FaultKind) (f : Faults) : Prop := ∀ r ∈ f.table, r.kind ≠ k

theorem Faults.without_removeRecord (k : FaultKind) (f : Faults) : (f.removeRecord k).without k := by
  intro r hr
  simpa using (List.mem_filter.mp hr).2

theorem Faults.without_occur (strict : Bool) (h : f.without k) (hj : j ≠ k) : (f.occur strict j).without k := by
  have hmap (g : FaultRecord → FaultRecord) (hg : ∀ r, (g r).kind = r.kind) :
      ((f.setFlag j true).mapRecord j g).without k := by
    intro r hr
    obtain ⟨r', hr', rfl⟩ := List.mem_map.mp hr
    have hkind : (if r'.kind = j then g r' else r').kind = r'.kind := by
      split
      · exact hg r'
      · rfl
    rw [hkind]
    exact h r' hr'
  have hadd (l : List FaultRecord) (hl : ∀ r ∈ l, r ∈ f.table) (r : FaultRecord) (hr : r.kind = j) :
      ∀ q ∈ l ++ [r], q.kind ≠ k := by
    intro q hq
    obtain hq | hq := List.mem_append.mp hq
    · exact h q (hl q hq)
    · rw [List.mem_singleton.mp hq, hr]
      exact hj
  unfold Faults.occur
  dsimp only
  split
  · exact hmap _ fun _ => rfl
  · unfold Faults.addRecord
    split
    · exact hadd _ (fun _ hr => hr) _ rfl
    split
    · exact hadd _ (fun _ hr => List.mem_of_mem_eraseP hr) _ rfl
    · exact h

theorem relayedFaults_without {strict : Bool} (h : f.without k) (hk : k ≠ .lineCongestion) :
    (relayedFaults via strict l f).without k := by
  cases via with
  | radio =>
    unfold relayedFaults
    dsimp only
    split
    · exact Faults.without_occur strict h hk.symm
    · exact h
  | line => exact h

theorem State.endHalts_stands :
    s.endHalts.brake = s.brake ∧ s.endHalts.line = s.line ∧ s.endHalts.station = s.station
      ∧ s.endHalts.straps = s.straps ∧ s.endHalts.present .valleyHalt = false
      ∧ s.endHalts.present .valleyAllHalt = false := by
  have hflags (j : FaultKind) : s.endHalts.present j = ((s.clear .valleyHalt).clear .valleyAllHalt).present j := rfl
  refine ⟨?_, ?_, ?_, straps_congr ?_, ?_, ?_⟩
  · exact (clear_brake _).trans (clear_brake _)
  · exact (clear_line _).trans (clear_line _)
  · exact (clear_station _).trans (clear_station _)
  · simp [State.endHalts]
  · rw [hflags, clear_present_of_ne (by decide) (by decide)]
    exact clear_present_self _ _
  · rw [hflags]
    exact clear_present_self _ _

theorem endHalts_onlyChanges : onlyChanges Part.ofClassB s s.endHalts := by
  have hcleared : onlyChanges Part.ofClassB s ((s.clear .valleyHalt).clear .valleyAllHalt) :=
    (clear_onlyChanges_ofClassB .valleyHalt).trans (clear_onlyChanges_ofClassB .valleyAllHalt) (by simp)
  exact hcleared.trans ((setFaults_onlyChanges _ _).mono (by decide)) (by simp)

theorem State.endHalts_faults (h : s.permitsOk) :
    s.endHalts.faults = ((s.faults.going .valleyHalt).going .valleyAllHalt).removeRecord .valleyHalt := by
  rw [State.endHalts, clear_of_permitsOk h, clear_of_permitsOk (permitsOk_recordGoing h)]
  rfl

/-! ## PLATFORM_RELEASE (R163) -/

/-- The platform release record replaced. -/
def State.platformed (side : LineSide) (stop : Nat) (sequence : Byte) (s : State) : State :=
  s.setRadio { s.radio with platform := some { side := side, stop := stop, sequence := sequence } }

theorem State.applyPlatform_of_within {side : LineSide} {stop : Nat} (h : stop ≤ 1000000) :
    s.applyPlatform side stop sequence = ((s.platformed side stop sequence).retestPermits, .accepted) :=
  if_neg (by omega)

theorem State.applyPlatform_of_beyond {side : LineSide} {stop : Nat} (h : 1000000 < stop) :
    s.applyPlatform side stop sequence = (s, .refusedRange) := if_pos h

theorem platformed_onlyChanges {side : LineSide} {stop : Nat} :
    onlyChanges [.platform] s (s.platformed side stop sequence) := by
  intro p
  cases p <;> simp [Part.same, State.platformed]

/-! ## The orders -/

/-- HALT as its path brings it. -/
theorem halt_takes (h : s.takesOrder via = true) (hnew : sequence ∉ s.radio.window) :
    ∃ t : State, exec (.halt m via sequence) s = .next t ∧ t.present .valleyHalt = true
      ∧ t.faults = relayedFaults via s.straps.strict s.line
          (s.latchReports m t ((acceptedFaults via s.faults).occur s.straps.strict .valleyHalt))
      ∧ (s.present .valleyHalt = false → t.speed.localLimit = 0)
      ∧ onlyChanges (Part.also (Part.ofVia via) Part.ofClassB) s t := by
  have hexec : exec (.halt m via sequence) s
      = .next (State.orderDone via sequence .halt ((s.ordered m via sequence).raise .valleyHalt, .accepted)) :=
    runOrder_of_new (apply := fun t => (t.raise .valleyHalt, .accepted)) h hnew rfl
  have hload : (s.ordered m via sequence).pins.load = m.load := by rw [State.ordered_pins]; rfl
  have hstation : ((s.ordered m via sequence).raise .valleyHalt).station = s.station := by
    rw [State.raise_station]
    exact State.ordered_stands.2.2.2.2.2.2.2.1
  refine ⟨_, hexec, ?_, ?_, fun habsent => ?_, onlyChanges_of_ordered (raise_onlyChanges_ofClassB (k := .valleyHalt) nofun) hstation⟩
  · rw [State.orderDone_present (by decide)]
    exact State.raise_present_self _
  · exact State.orderDone_raise_faults (State.raise_faults rfl hload)
  · rw [State.orderDone_stands.1]
    exact State.raise_localLimit (k := .valleyHalt) nofun ((State.ordered_present (by decide)).trans habsent)

/-- ALL_HALT as its path brings it. -/
theorem allHalt_takes (h : s.takesOrder via = true) (hnew : sequence ∉ s.radio.window) :
    ∃ t : State, exec (.allHalt m via sequence) s = .next t ∧ t.present .valleyAllHalt = true
      ∧ t.faults = relayedFaults via s.straps.strict s.line
          (s.latchReports m t ((acceptedFaults via s.faults).occur s.straps.strict .valleyAllHalt))
      ∧ (s.present .valleyAllHalt = false → t.brake.ownPull = true ∧ t.speed.localLimit = 0
        ∧ (s.brake.ownPull = false → t.brake.latch = true
          ∧ (s.brake.latch = false → t.brake.outputsFull ∧ t.brake.releasePending = false)
          ∧ (∀ n ∈ s.line.own,
            (if s.line.sending = some .alert then t.line.alertBehind else t.line.alert)
              = some (buildFrame n (.alert 4 (BitVec.ofNat 8 (n.val + 1)))))))
      ∧ onlyChanges (Part.also (Part.ofVia via) Part.ofClassA) s t := by
  have hexec : exec (.allHalt m via sequence) s
      = .next (State.orderDone via sequence .allHalt ((s.ordered m via sequence).raise .valleyAllHalt, .accepted)) :=
    runOrder_of_new (apply := fun t => (t.raise .valleyAllHalt, .accepted)) h hnew rfl
  have hload : (s.ordered m via sequence).pins.load = m.load := by rw [State.ordered_pins]; rfl
  obtain ⟨-, -, -, -, hbrake, -, -, hstation, -⟩ :=
    State.ordered_stands (s := s) (m := m) (via := via) (sequence := sequence)
  obtain ⟨hown, -, -, -, hsending⟩ := State.ordered_line (s := s) (m := m) (via := via) (sequence := sequence)
  obtain ⟨hspeed, hdone, -, -, halert, hbehind, -⟩ := State.orderDone_stands (via := via) (sequence := sequence)
    (order := .allHalt) (applied := ((s.ordered m via sequence).raise .valleyAllHalt, .accepted))
  refine ⟨_, hexec, ?_, State.orderDone_raise_faults (State.raise_faults_classA rfl hload), fun habsent => ?_,
    onlyChanges_of_ordered (raise_onlyChanges .valleyAllHalt) ((State.raise_station _).trans hstation)⟩
  · rw [State.orderDone_present (by decide)]
    exact State.raise_present_self _
  · have habsent' : (s.ordered m via sequence).present .valleyAllHalt = false :=
      (State.ordered_present (by decide)).trans habsent
    obtain ⟨hpull, hlatch⟩ := State.raise_pulls (k := .valleyAllHalt) rfl habsent'
    obtain ⟨hraised, hline⟩ := State.raise_classA_stands (k := .valleyAllHalt) rfl habsent'
    rw [hspeed, hdone, halert, hbehind]
    refine ⟨hpull, State.raise_localLimit (k := .valleyAllHalt) nofun habsent', fun hfree => ?_⟩
    have hfree' : ((s.ordered m via sequence).recordOccurrence .valleyAllHalt).brake.ownPull = false :=
      (congrArg Brake.ownPull hbrake).trans hfree
    refine ⟨hlatch hfree', fun hclear => ?_, fun n hn => ?_⟩
    · dsimp only
      rw [hraised]
      exact State.assertPull_sets hfree' ((congrArg Brake.latch hbrake).trans hclear)
    · have hplaced := State.assertPull_placed (k := .valleyAllHalt) (n := n) hfree' (hown.trans hn)
      rw [← hsending, hline]
      exact hplaced

/-- PROCEED as its path brings it. -/
theorem proceed_takes (h : s.takesOrder via = true) (hnew : sequence ∉ s.radio.window) :
    let halted := s.present .valleyHalt || s.present .valleyAllHalt
    let accepted := acceptedFaults via s.faults
    let relayed := relayedFaults via s.straps.strict s.line
    ∃ t : State, exec (.proceed m via sequence) s = .next t ∧ t.present .valleyHalt = false
      ∧ t.present .valleyAllHalt = false ∧ t.brake = s.brake ∧ (halted = true → t.faults.without .valleyHalt)
      ∧ (halted = true → s.permitsOk →
        t.faults = relayed (((accepted.going .valleyHalt).going .valleyAllHalt).removeRecord .valleyHalt))
      ∧ (halted = false → t.faults = relayed accepted ∧ onlyChanges (Part.ofVia via) s t)
      ∧ onlyChanges (Part.also (Part.ofVia via) Part.ofClassB) s t := by
  intro halted accepted relayed
  obtain ⟨-, -, -, -, hbrake, -, -, hstation, hstraps⟩ :=
    State.ordered_stands (s := s) (m := m) (via := via) (sequence := sequence)
  obtain ⟨hown, horders, -⟩ := State.ordered_line (s := s) (m := m) (via := via) (sequence := sequence)
  have hhalted : ((s.ordered m via sequence).present .valleyHalt || (s.ordered m via sequence).present .valleyAllHalt)
      = halted := by rw [State.ordered_present (by decide), State.ordered_present (by decide)]
  have hrun := runOrder_of_new (m := m) (order := .proceed) (apply := State.applyProceed) h hnew rfl
  rw [State.applyProceed, hhalted] at hrun
  cases hcase : halted with
  | true =>
    rw [hcase] at hrun
    have hexec : exec (.proceed m via sequence) s
        = .next (State.orderDone via sequence .proceed ((s.ordered m via sequence).endHalts, .accepted)) := hrun
    obtain ⟨hended, hline, hplace, hendStraps, hgone, hallGone⟩ := State.endHalts_stands (s := s.ordered m via sequence)
    obtain ⟨-, hdone, -, -, -, -, -, hfaults⟩ := State.orderDone_stands (via := via) (sequence := sequence)
      (order := .proceed) (applied := ((s.ordered m via sequence).endHalts, .accepted))
    refine ⟨_, hexec, ?_, ?_, ?_, fun _ => ?_, fun _ hpermits => ?_, nofun,
      onlyChanges_of_ordered endHalts_onlyChanges (hplace.trans hstation)⟩
    · rw [State.orderDone_present (by decide), hgone]
    · rw [State.orderDone_present (by decide), hallGone]
    · rw [hdone]
      exact hended.trans hbrake
    · rw [hfaults]
      exact relayedFaults_without (Faults.without_removeRecord _ _) (by decide)
    · rw [hfaults, State.endHalts_faults (State.ordered_permitsOk hpermits), hendStraps, hstraps, State.ordered_faults]
      exact relayedFaults_congr (by rw [hline, hown]) (by rw [hline, horders])
  | false =>
    rw [hcase] at hrun
    have hexec : exec (.proceed m via sequence) s
        = .next (State.orderDone via sequence .proceed (s.ordered m via sequence, .accepted)) := hrun
    obtain ⟨-, hdone, -, -, -, -, -, hfaults⟩ := State.orderDone_stands (via := via) (sequence := sequence)
      (order := .proceed) (applied := (s.ordered m via sequence, .accepted))
    obtain ⟨hgone, hallGone⟩ : s.present .valleyHalt = false ∧ s.present .valleyAllHalt = false := by
      simpa [halted] using hcase
    have hchange : onlyChanges (Part.also (Part.ofVia via) []) s
        (State.orderDone via sequence .proceed (s.ordered m via sequence, .accepted)) :=
      onlyChanges_of_ordered (onlyChanges_refl _ _) hstation
    refine ⟨_, hexec, ?_, ?_, ?_, nofun, nofun, fun _ => ⟨?_, hchange.mono (by simp [Part.also])⟩,
      hchange.mono (by simp [Part.also])⟩
    · rw [State.orderDone_present (by decide)]
      exact (State.ordered_present (by decide)).trans hgone
    · rw [State.orderDone_present (by decide)]
      exact (State.ordered_present (by decide)).trans hallGone
    · rw [hdone]
      exact hbrake
    · rw [hfaults]
      dsimp only
      rw [hstraps, State.ordered_faults]
      exact relayedFaults_congr hown horders

/-- Settles O57: the halts and the releases. -/
theorem haltsAndReleasesTakeEffect : Obligations.HaltsAndReleasesTakeEffect := by
  intro m via sequence side stop s h hnew
  obtain ⟨-, -, -, -, -, -, -, hstation, -⟩ :=
    State.ordered_stands (s := s) (m := m) (via := via) (sequence := sequence)
  refine ⟨halt_takes h hnew, allHalt_takes h hnew, proceed_takes h hnew, fun hside => ?_, ?_⟩
  · have hrun := runOrder_of_new (m := m) (order := .platformRelease side stop)
      (apply := State.applyPlatform (lineSideOfByte side) stop.toNat sequence) h hnew (by simpa [ValleyOrder.ok] using hside)
    by_cases hwithin : stop.toNat ≤ 1000000
    · rw [State.applyPlatform_of_within hwithin] at hrun
      have hexec : exec (.platformRelease m via sequence side stop) s = .next (State.orderDone via sequence
          (.platformRelease side stop)
          (((s.ordered m via sequence).platformed (lineSideOfByte side) stop.toNat sequence).retestPermits, .accepted)) := hrun
      have hchange : onlyChanges [.platform, .doors, .sideReleases, .mass, .faults] (s.ordered m via sequence)
          ((s.ordered m via sequence).platformed (lineSideOfByte side) stop.toNat sequence).retestPermits :=
        (platformed_onlyChanges.mono (by decide)).trans ((retestPermits_onlyChanges _).mono (by decide)) rfl
      refine ⟨_, hexec, fun _ => ?_, fun hbeyond => absurd hwithin (by omega),
        onlyChanges_of_ordered hchange ((by simp [State.platformed] : _ = (s.ordered m via sequence).station).trans hstation)⟩
      rw [State.orderDone_stands.2.2.2.1]
      simp [State.platformed, lineSideOfByte]
    · rw [State.applyPlatform_of_beyond (by omega)] at hrun
      have hexec : exec (.platformRelease m via sequence side stop) s = .next (State.orderDone via sequence
          (.platformRelease side stop) (s.ordered m via sequence, .refusedRange)) := hrun
      have hchange : onlyChanges (Part.also (Part.ofVia via) []) s (State.orderDone via sequence
          (.platformRelease side stop) (s.ordered m via sequence, .refusedRange)) :=
        onlyChanges_of_ordered (onlyChanges_refl _ _) hstation
      exact ⟨_, hexec, fun hle => absurd hle hwithin, fun _ => hchange.mono (by simp [Part.also]),
        hchange.mono (by simp [Part.also])⟩
  · have hexec : exec (.supervise m via sequence) s
        = .next (State.orderDone via sequence .supervise (s.ordered m via sequence, .accepted)) :=
      runOrder_of_new (apply := fun t => (t, .accepted)) h hnew rfl
    have hchange : onlyChanges (Part.also (Part.ofVia via) []) s
        (State.orderDone via sequence .supervise (s.ordered m via sequence, .accepted)) :=
      onlyChanges_of_ordered (onlyChanges_refl _ _) hstation
    exact ⟨_, hexec, hchange.mono (by simp [Part.also])⟩

end Sys2Proof.Machine
end

section
/-! SUPPORT. O56: RESTRICT and LIFT in the restriction table (sections 5.3 and 9.2 to 9.4). -/

namespace Sys2Proof.Machine

variable {ps : List Part} {s t u v : State} {m : Moment} {via : Via} {sequence : Byte} {e old : Restriction}
  {orderId : BitVec 16} {l : List Restriction}

/-! ## One entry evaluated (R176 to R178) -/

/-- The entry as it is placed: with no position it covers. -/
def State.placed (e : Restriction) (s : State) : Restriction :=
  { orderId := e.orderId, start := e.start, stop := e.stop, limit := e.limit
    covering :=
      match s.position with
      | none => true
      | some pos => decide ((pos < e.stop ∨ e.stop = 1000000 ∧ pos ≤ 1000000) ∧ e.start ≤ pos + s.straps.carLen.toNat) }

/-- The car has passed the entry. -/
def State.passes (e : Restriction) (s : State) : Bool :=
  match s.position with
  | none => false
  | some pos =>
    decide (s.direction = .up ∧ e.stop < 1000000 ∧ e.stop ≤ pos
      ∨ s.direction = .down ∧ pos + s.straps.carLen.toNat < e.start)

theorem Restriction.covers_eq {pos car : Nat} :
    e.covers pos car = decide ((pos < e.stop ∨ e.stop = 1000000 ∧ pos ≤ 1000000) ∧ e.start ≤ pos + car) := by
  rw [Bool.eq_iff_iff]
  unfold Restriction.covers
  by_cases hend : e.stop = 1000000
  · have hwithin : pos < 1000000 ∨ pos ≤ 1000000 ↔ pos ≤ 1000000 := by omega
    simp only [hend, if_true, Bool.and_eq_true, decide_eq_true_eq, true_and, hwithin]
  · simp only [hend, if_false, Bool.and_eq_true, decide_eq_true_eq, false_and, or_false]

theorem Restriction.passed_eq {direction : Direction} {pos car : Nat} :
    e.passed direction pos car
      = decide (direction = .up ∧ e.stop < 1000000 ∧ e.stop ≤ pos ∨ direction = .down ∧ pos + car < e.start) := by
  cases direction <;> simp [Restriction.passed]

theorem State.evaluateEntry_eq : s.evaluateEntry e = if s.passes e then none else some (s.placed e) := by
  unfold State.evaluateEntry State.passes State.placed
  cases s.position with
  | none => rfl
  | some pos =>
    dsimp only
    rw [Restriction.passed_eq, Restriction.covers_eq]
    rfl

/-! ## The list of entries (R172, R173) -/

theorem replaceEntry_of_some : replaceEntry orderId (some e) l = l.map fun x => if x.orderId = orderId then e else x := by
  rw [replaceEntry, ← List.filterMap_eq_map]
  refine congrArg (fun g => l.filterMap g) (funext fun x => ?_)
  dsimp only [Function.comp_apply]
  split <;> rfl

theorem replaceEntry_of_none : replaceEntry orderId none l = l.filter fun x => x.orderId != orderId := by
  rw [replaceEntry, ← List.filterMap_eq_filter]
  refine congrArg (fun g => l.filterMap g) (funext fun x => ?_)
  by_cases hx : x.orderId = orderId <;> simp [hx, Option.guard]

/-! ## An entry placed (R173, R179) -/

/-- The table with an entry placed, before its announcement. -/
def State.entryPlaced (old : Option Restriction) (e : Restriction) (s : State) : State :=
  s.setRestrictions
    { s.restrictions with
      entries :=
        match old with
        | some _ => replaceEntry e.orderId (s.evaluateEntry e) s.restrictions.entries
        | none => s.restrictions.entries ++ (s.evaluateEntry e).toList }

theorem State.placeEntry_eq {old : Option Restriction} :
    s.placeEntry old e
      = if s.passes e = false ∧ s.announcesPlacing old (s.placed e) = true then
          (s.entryPlaced old e).lowerLimit e.limit
        else s.entryPlaced old e := by
  unfold State.placeEntry
  have hentry := evaluateEntry_eq (s := s) (e := e)
  cases hpasses : s.passes e with
  | true =>
    rw [hpasses] at hentry
    simp only [State.entryPlaced, hentry]
    rfl
  | false =>
    rw [hpasses] at hentry
    simp only [State.entryPlaced, hentry, true_and]
    rfl

theorem State.placeEntry_restrictions {old : Option Restriction} :
    (s.placeEntry old e).restrictions = (s.entryPlaced old e).restrictions := by
  rw [placeEntry_eq]
  split <;> rfl

theorem State.placeEntry_localLimit {old : Option Restriction} :
    (s.placeEntry old e).speed.localLimit
      = if s.passes e = false ∧ s.announcesPlacing old (s.placed e) = true then min s.speed.localLimit e.limit
        else s.speed.localLimit := by
  rw [placeEntry_eq]
  split <;> rfl

theorem placeEntry_onlyChanges {old : Option Restriction} :
    onlyChanges [.restrictions, .limit, .faults] s (s.placeEntry old e) := by
  have hplaced : onlyChanges [.restrictions, .limit, .faults] s (s.entryPlaced old e) := by
    intro p
    cases p <;> simp [Part.same, State.entryPlaced]
  rw [State.placeEntry_eq]
  split
  · exact hplaced.trans ((lowerLimit_onlyChanges _ _).mono (by decide)) rfl
  · exact hplaced

theorem State.announcesPlacing_some_iff :
    s.announcesPlacing (some old) e = true
      ↔ e.covering = true ∧ (old.covering = false ∨ e.limit < old.limit ∨ s.position = none) := by
  simp [State.announcesPlacing, or_assoc]

theorem State.announcesPlacing_none : s.announcesPlacing none e = e.covering := by simp [State.announcesPlacing]

/-! ## The overflow ceiling (R174, R179, R180) -/

/-- The overflow ceiling after a RESTRICT of this limit. -/
def Restrictions.ceiling (limit : Nat) (r : Restrictions) : Nat :=
  match r.overflow with
  | none => limit
  | some c => min c limit

/-- The ceiling in the table, before its announcement. -/
def State.ceilingSet (limit : Nat) (s : State) : State :=
  s.setRestrictions { s.restrictions with overflow := some (s.restrictions.ceiling limit) }

/-- The ceiling announced where it is set or lowered. -/
def State.ceilingAnnounced (limit : Nat) (s : State) : State :=
  if s.restrictions.overflow = some (s.restrictions.ceiling limit) then s.ceilingSet limit
  else (s.ceilingSet limit).lowerLimit (s.restrictions.ceiling limit)

theorem State.overflow_eq {limit : Nat} :
    s.overflow limit = (s.ceilingAnnounced limit).recordOccurrence .restrictionOverflow := raise_of_classC rfl

theorem State.ceilingAnnounced_restrictions {limit : Nat} :
    (s.ceilingAnnounced limit).restrictions = { s.restrictions with overflow := some (s.restrictions.ceiling limit) } := by
  unfold State.ceilingAnnounced
  split <;> rfl

theorem State.ceilingAnnounced_localLimit {limit : Nat} :
    (s.restrictions.overflow = none → (s.ceilingAnnounced limit).speed.localLimit = min s.speed.localLimit limit)
      ∧ ∀ c ∈ s.restrictions.overflow,
        (s.ceilingAnnounced limit).speed.localLimit
          = if limit < c then min s.speed.localLimit limit else s.speed.localLimit := by
  refine ⟨fun hnone => ?_, fun c hc => ?_⟩
  · have hceiling : s.restrictions.ceiling limit = limit := by rw [Restrictions.ceiling, hnone]
    rw [State.ceilingAnnounced, hnone, if_neg nofun, hceiling]
    rfl
  · have hc : s.restrictions.overflow = some c := hc
    have hceiling : s.restrictions.ceiling limit = min c limit := by rw [Restrictions.ceiling, hc]
    rw [State.ceilingAnnounced, hceiling, hc]
    by_cases hlt : limit < c
    · have hmin : min c limit = limit := by omega
      rw [hmin, if_neg (by simp; omega), if_pos hlt]
      rfl
    · have hmin : min c limit = c := by omega
      rw [hmin, if_pos rfl, if_neg hlt]
      rfl

theorem ceilingAnnounced_onlyChanges {limit : Nat} : onlyChanges [.restrictions, .limit] s (s.ceilingAnnounced limit) := by
  have hset : onlyChanges [.restrictions, .limit] s (s.ceilingSet limit) := by
    intro p
    cases p <;> simp [Part.same, State.ceilingSet]
  unfold State.ceilingAnnounced
  split
  · exact hset
  · exact hset.trans ((lowerLimit_onlyChanges _ _).mono (by decide)) rfl

theorem State.ceilingAnnounced_station {limit : Nat} : (s.ceilingAnnounced limit).station = s.station := by
  unfold State.ceilingAnnounced
  split <;> rfl

theorem overflow_onlyChanges {limit : Nat} : onlyChanges [.restrictions, .limit, .faults] s (s.overflow limit) := by
  rw [State.overflow_eq]
  exact (ceilingAnnounced_onlyChanges.mono (by decide)).trans ((setFaults_onlyChanges _ _).mono (by decide))
    State.ceilingAnnounced_station

/-! ## The orders -/

/-- The entry that a RESTRICT within the line asks for. -/
def orderedEntry (orderId : BitVec 16) (start length limit : Nat) : Restriction :=
  { orderId := orderId, start := start, stop := restrictionEnd start length, limit := min 400 limit, covering := false }

theorem State.applyRestrict_of_beyond {start length limit : Nat} (h : 1000000 < start) :
    s.applyRestrict orderId start length limit = (s, .refusedRange) := if_pos h

theorem State.applyRestrict_of_held {start length limit : Nat} (h : start ≤ 1000000)
    (hfind : (s.restrictions.entries.find? fun x => x.orderId == orderId) = some old) :
    s.applyRestrict orderId start length limit
      = (s.placeEntry (some old) (orderedEntry orderId start length limit), .accepted) := by
  have hfound : s.restrictions.find (orderedEntry orderId start length limit).orderId = some old := hfind
  have hwithin : s.applyRestrict orderId start length limit = s.restrict (orderedEntry orderId start length limit) :=
    if_neg (by omega)
  rw [hwithin, State.restrict, hfound]

theorem find_of_new {entries : List Restriction} (h : ∀ x ∈ entries, x.orderId ≠ orderId) :
    (entries.find? fun x => x.orderId == orderId) = none := by
  simpa using h

theorem State.applyRestrict_of_room {start length limit : Nat} (h : start ≤ 1000000)
    (hnew : ∀ x ∈ s.restrictions.entries, x.orderId ≠ orderId) (hroom : s.restrictions.entries.length < 8) :
    s.applyRestrict orderId start length limit
      = (s.placeEntry none (orderedEntry orderId start length limit), .accepted) := by
  have hfound : s.restrictions.find (orderedEntry orderId start length limit).orderId = none := find_of_new hnew
  have hwithin : s.applyRestrict orderId start length limit = s.restrict (orderedEntry orderId start length limit) :=
    if_neg (by omega)
  rw [hwithin, State.restrict, hfound]
  exact if_pos hroom

theorem State.applyRestrict_of_full {start length limit : Nat} (h : start ≤ 1000000)
    (hnew : ∀ x ∈ s.restrictions.entries, x.orderId ≠ orderId) (hfull : 8 ≤ s.restrictions.entries.length) :
    s.applyRestrict orderId start length limit = (s.overflow (min 400 limit), .acceptedCeiling) := by
  have hfound : s.restrictions.find (orderedEntry orderId start length limit).orderId = none := find_of_new hnew
  have hwithin : s.applyRestrict orderId start length limit = s.restrict (orderedEntry orderId start length limit) :=
    if_neg (by omega)
  rw [hwithin, State.restrict, hfound]
  exact if_neg (by omega)

theorem applyRestrict_onlyChanges {start length limit : Nat} :
    onlyChanges [.restrictions, .limit, .faults] s (s.applyRestrict orderId start length limit).1 := by
  unfold State.applyRestrict State.restrict
  split
  · exact onlyChanges_refl _ _
  split
  · exact placeEntry_onlyChanges
  · split
    · exact placeEntry_onlyChanges
    · exact overflow_onlyChanges

theorem State.placeEntry_station {old : Option Restriction} : (s.placeEntry old e).station = s.station := by
  rw [placeEntry_eq]
  split <;> rfl

theorem State.applyRestrict_station {start length limit : Nat} :
    (s.applyRestrict orderId start length limit).1.station = s.station := by
  unfold State.applyRestrict State.restrict
  split
  · rfl
  split
  · exact placeEntry_station
  · split
    · exact placeEntry_station
    · rw [overflow_eq]
      exact ceilingAnnounced_station

theorem State.passes_congr (hrack : t.rack = s.rack) (hstraps : t.straps = s.straps) : t.passes e = s.passes e := by
  have hdirection : t.direction = s.direction := by rw [State.direction, State.direction, hrack]
  rw [State.passes, State.passes, position_congr hrack, hdirection, hstraps]

theorem State.placed_congr (hrack : t.rack = s.rack) (hstraps : t.straps = s.straps) : t.placed e = s.placed e := by
  rw [State.placed, State.placed, position_congr hrack, hstraps]

/-- The list after an entry takes the place of the one under its id. -/
theorem State.entryPlaced_held :
    (s.entryPlaced (some old) e).restrictions
      = { s.restrictions with
          entries := if s.passes e then s.restrictions.entries.filter fun x => x.orderId != e.orderId
            else s.restrictions.entries.map fun x => if x.orderId = e.orderId then s.placed e else x } := by
  have hentry := evaluateEntry_eq (s := s) (e := e)
  cases hpasses : s.passes e with
  | true =>
    rw [hpasses] at hentry
    have hlist : replaceEntry e.orderId (s.evaluateEntry e) s.restrictions.entries
        = s.restrictions.entries.filter fun x => x.orderId != e.orderId := by
      rw [hentry]
      exact replaceEntry_of_none
    exact congrArg (fun l => { s.restrictions with entries := l }) hlist
  | false =>
    rw [hpasses] at hentry
    have hlist : replaceEntry e.orderId (s.evaluateEntry e) s.restrictions.entries
        = s.restrictions.entries.map fun x => if x.orderId = e.orderId then s.placed e else x := by
      rw [hentry]
      exact replaceEntry_of_some
    exact congrArg (fun l => { s.restrictions with entries := l }) hlist

theorem State.entryPlaced_new :
    (s.entryPlaced none e).restrictions
      = { s.restrictions with entries := s.restrictions.entries ++ (if s.passes e then [] else [s.placed e]) } := by
  have hlist : (s.evaluateEntry e).toList = if s.passes e then [] else [s.placed e] := by
    rw [evaluateEntry_eq]
    split <;> rfl
  exact congrArg (fun l => { s.restrictions with entries := s.restrictions.entries ++ l }) hlist

/-- Settles O56: RESTRICT and LIFT. -/
theorem restrictAndLiftChangeTable : Obligations.RestrictAndLiftChangeTable := by
  intro m via sequence orderId start length limit s h hnew stop car placed isPassed
  obtain ⟨hrack, -, -, hspeed, -, -, hrestrictions, hstation, hstraps⟩ :=
    State.ordered_stands (s := s) (m := m) (via := via) (sequence := sequence)
  have hposition : (s.ordered m via sequence).position = s.position := State.position_congr hrack
  have hpasses : (s.ordered m via sequence).passes (orderedEntry orderId start.toNat length.toNat limit.toNat) = isPassed :=
    State.passes_congr hrack hstraps
  have hplaced : (s.ordered m via sequence).placed (orderedEntry orderId start.toNat length.toNat limit.toNat) = placed :=
    State.placed_congr hrack hstraps
  refine ⟨?_, ?_⟩
  · have hexec : exec (.restrict m via sequence orderId start length limit) s
        = .next (State.orderDone via sequence (.restrict orderId start length limit)
            ((s.ordered m via sequence).applyRestrict orderId start.toNat length.toNat limit.toNat)) :=
      runOrder_of_new (apply := State.applyRestrict orderId start.toNat length.toNat limit.toNat) h hnew rfl
    obtain ⟨hdoneSpeed, -, hdone, -⟩ := State.orderDone_stands (via := via) (sequence := sequence)
      (order := .restrict orderId start length limit)
      (applied := (s.ordered m via sequence).applyRestrict orderId start.toNat length.toNat limit.toNat)
    refine ⟨_, hexec, fun hbeyond => ?_, fun hwithin => ⟨fun hheld => ?_, fun hfresh hroom => ?_, fun hfresh hfull => ?_⟩,
      onlyChanges_of_ordered applyRestrict_onlyChanges (State.applyRestrict_station.trans hstation)⟩
    · rw [hdoneSpeed, hdone, State.applyRestrict_of_beyond hbeyond]
      exact ⟨hrestrictions, congrArg Speed.localLimit hspeed⟩
    · obtain ⟨old, hfind⟩ : ∃ old, (s.restrictions.entries.find? fun x => x.orderId == orderId) = some old := by
        rw [← Option.isSome_iff_exists, List.find?_isSome]
        simpa using hheld
      rw [hdoneSpeed, hdone, State.applyRestrict_of_held (old := old) hwithin (by rw [hrestrictions]; exact hfind)]
      dsimp only
      rw [State.placeEntry_restrictions, State.entryPlaced_held, hpasses, hplaced, hrestrictions, State.placeEntry_localLimit,
        hpasses, hplaced, hspeed]
      refine ⟨rfl, fun hahead => if_neg (Bool.eq_false_iff.mp hahead), fun hpast => if_pos hpast, fun o ho => ?_⟩
      obtain rfl : old = o := Option.some.inj (hfind.symm.trans ho)
      refine if_congr (and_congr_right fun _ => ?_) rfl rfl
      rw [State.announcesPlacing_some_iff, hposition]
    · rw [hdoneSpeed, hdone, State.applyRestrict_of_room hwithin (by rw [hrestrictions]; exact hfresh)
        (by rw [hrestrictions]; exact hroom)]
      dsimp only
      rw [State.placeEntry_restrictions, State.entryPlaced_new, hpasses, hplaced, hrestrictions, State.placeEntry_localLimit,
        hpasses, hplaced, hspeed, State.announcesPlacing_none]
      exact ⟨rfl, rfl⟩
    · have happlied := State.applyRestrict_of_full (s := s.ordered m via sequence) (orderId := orderId)
        (length := length.toNat) (limit := limit.toNat) hwithin (by rw [hrestrictions]; exact hfresh)
        (by rw [hrestrictions]; exact hfull)
      obtain ⟨hnone, hsome⟩ := State.ceilingAnnounced_localLimit (s := s.ordered m via sequence) (limit := min 400 limit.toNat)
      rw [hdoneSpeed, hdone, State.orderDone_present (by decide), happlied, State.overflow_eq]
      rw [hrestrictions, hspeed] at hnone hsome
      refine ⟨?_, State.present_recordOccurrence_self _, hnone, hsome⟩
      dsimp only
      have hceiling := State.ceilingAnnounced_restrictions (s := s.ordered m via sequence) (limit := min 400 limit.toNat)
      rw [hrestrictions] at hceiling
      exact hceiling
  · have hexec : exec (.lift m via sequence orderId) s
        = .next (State.orderDone via sequence (.lift orderId) ((s.ordered m via sequence).applyLift orderId)) :=
      runOrder_of_new (apply := State.applyLift orderId) h hnew rfl
    obtain ⟨-, -, hdone, -⟩ := State.orderDone_stands (via := via) (sequence := sequence) (order := .lift orderId)
      (applied := (s.ordered m via sequence).applyLift orderId)
    have hlifted : onlyChanges [.restrictions] (s.ordered m via sequence) ((s.ordered m via sequence).applyLift orderId).1 := by
      intro p
      cases p <;> simp [Part.same, State.applyLift]
    refine ⟨_, hexec, ?_, onlyChanges_of_ordered hlifted hstation⟩
    rw [hdone, ← hrestrictions]
    rfl

end Sys2Proof.Machine
end

section
/-! SUPPORT. O54 and O55: a valley order by the own radio or in an ORDER frame, its duplicate and its acknowledgement
(sections 8.2, 8.3 and 8.7). -/

namespace Sys2Proof.Machine

variable {ps : List Part} {s t u v : State} {m : Moment} {j k : FaultKind} {via : Via} {sequence : Byte}
  {order : ValleyOrder} {applied : State × OrderResult} {result : OrderResult}

/-! ## An order applied -/

/-- What each order does as it is taken. -/
def applyOrder (sequence : Byte) : ValleyOrder → State → State × OrderResult
  | .restrict orderId start length limit => State.applyRestrict orderId start.toNat length.toNat limit.toNat
  | .lift orderId => State.applyLift orderId
  | .halt => fun t => (t.raise .valleyHalt, .accepted)
  | .proceed => State.applyProceed
  | .platformRelease side stop => State.applyPlatform (lineSideOfByte side) stop.toNat sequence
  | .supervise => fun t => (t, .accepted)
  | .allHalt => fun t => (t.raise .valleyAllHalt, .accepted)

theorem exec_orderCommand :
    exec (orderCommand m via sequence order) s = runOrder m via sequence order (applyOrder sequence order) s := by
  cases order <;> rfl

/-- The kinds that an order, or the mass latch it brings, may report. -/
def orderKinds : List FaultKind := [.valleyHalt, .valleyAllHalt, .restrictionOverflow, .loadSensor]

/-- What every order leaves: the radio but its platform record, the line but its ALERT, the station, the other kinds. -/
def State.OrderKeeps (s t : State) : Prop :=
  (∃ platform, t.radio = { s.radio with platform := platform }) ∧ s.line.Alerted t.line ∧ t.station = s.station
    ∧ t.straps = s.straps ∧ ∀ j ∉ orderKinds, t.present j = s.present j ∧ s.faults.Keeps j t.faults

theorem State.OrderKeeps.refl (s : State) : s.OrderKeeps s :=
  ⟨⟨_, rfl⟩, .refl _, rfl, rfl, fun _ _ => ⟨rfl, .refl _⟩⟩

/-- The record of another kind through an occurrence of any class. -/
theorem State.raise_keeps_of_ne (hk : j ≠ k) (h : j ≠ .loadSensor) : s.faults.Keeps j (s.raise k).faults := by
  by_cases hclass : faultClassOf s.straps.strict k = .a
  · rw [raise_faults_classA (m := { elapsed := 0, load := s.pins.load, force1 := 0, force2 := 0 }) hclass rfl]
    refine (Faults.occur_keeps s.straps.strict hk).trans ?_
    by_cases hlatch : s.latches (s.raise k)
    · rw [State.afterOccurrence, latchReports_of_latches hlatch]
      exact Faults.massReport_keeps _ _ h
    · rw [State.afterOccurrence, latchReports_of_not hlatch]
      exact .refl _
  · exact raise_keeps hclass hk h

theorem ne_of_orderKinds (hj : j ∉ orderKinds) :
    j ≠ .valleyHalt ∧ j ≠ .valleyAllHalt ∧ j ≠ .restrictionOverflow ∧ j ≠ .loadSensor := by
  simpa [orderKinds] using hj

theorem State.raise_orderKeeps (k : FaultKind) (hk : k ∈ orderKinds) : s.OrderKeeps (s.raise k) := by
  refine ⟨⟨s.radio.platform, by simp⟩, raise_alerted k, raise_station k, straps_congr (by simp), fun j hj => ?_⟩
  obtain ⟨-, -, -, hload⟩ := ne_of_orderKinds hj
  have hne : j ≠ k := fun h => hj (h ▸ hk)
  exact ⟨raise_present_of_ne hne hload, raise_keeps_of_ne hne hload⟩

theorem State.placeEntry_orderKeeps {old : Option Restriction} {e : Restriction} : s.OrderKeeps (s.placeEntry old e) := by
  rw [placeEntry_eq]
  split <;> exact ⟨⟨_, rfl⟩, .refl _, rfl, rfl, fun _ _ => ⟨rfl, .refl _⟩⟩

theorem State.overflow_orderKeeps {limit : Nat} : s.OrderKeeps (s.overflow limit) := by
  have hannounced : s.OrderKeeps (s.ceilingAnnounced limit) := by
    unfold State.ceilingAnnounced
    split <;> exact ⟨⟨_, rfl⟩, .refl _, rfl, rfl, fun _ _ => ⟨rfl, .refl _⟩⟩
  obtain ⟨hradio, hline, hstation, hstraps, hkinds⟩ := hannounced
  rw [State.OrderKeeps, overflow_eq]
  refine ⟨hradio, hline, hstation, hstraps, fun j hj => ?_⟩
  obtain ⟨-, -, hne, -⟩ := ne_of_orderKinds hj
  obtain ⟨hpresent, hkeeps⟩ := hkinds j hj
  exact ⟨(present_recordOccurrence_of_ne hne).trans hpresent, hkeeps.trans (Faults.occur_keeps _ hne)⟩

theorem Faults.removeRecord_keeps {f : Faults} (h : j ≠ k) : f.Keeps j (f.removeRecord k) := by
  refine fun hactive => ⟨fun r hr => hactive r (List.mem_filter.mp hr).1, ?_⟩
  unfold Faults.recordOf Faults.removeRecord
  rw [List.find?_filter]
  refine congrArg (fun p => f.table.find? p) (funext fun r => ?_)
  by_cases hr : r.kind = j
  · simp [hr, h]
  · simp [hr]

theorem State.endHalts_orderKeeps : s.OrderKeeps s.endHalts := by
  obtain ⟨-, hline, hstation, hstraps, -⟩ := endHalts_stands (s := s)
  refine ⟨⟨s.radio.platform, by simp [State.endHalts]⟩, by rw [hline]; exact .refl _, hstation, hstraps, fun j hj => ?_⟩
  obtain ⟨hhalt, hall, -, hload⟩ := ne_of_orderKinds hj
  have hflags : s.endHalts.present j = ((s.clear .valleyHalt).clear .valleyAllHalt).present j := rfl
  rw [hflags, clear_present_of_ne hall hload, clear_present_of_ne hhalt hload]
  exact ⟨rfl, ((clear_keeps hhalt hload).trans (clear_keeps hall hload)).trans (Faults.removeRecord_keeps hhalt)⟩

theorem applyOrder_keeps : s.OrderKeeps (applyOrder sequence order s).1 := by
  cases order with
  | restrict orderId start length limit =>
    unfold applyOrder State.applyRestrict State.restrict
    dsimp only
    split
    · exact .refl _
    split
    · exact State.placeEntry_orderKeeps
    · split
      · exact State.placeEntry_orderKeeps
      · exact State.overflow_orderKeeps
  | lift => exact ⟨⟨_, rfl⟩, .refl _, rfl, rfl, fun _ _ => ⟨rfl, .refl _⟩⟩
  | halt => exact State.raise_orderKeeps _ (by decide)
  | proceed =>
    unfold applyOrder State.applyProceed
    dsimp only
    split
    · exact State.endHalts_orderKeeps
    · exact .refl _
  | platformRelease side stop =>
    unfold applyOrder State.applyPlatform
    dsimp only
    split
    · exact .refl _
    · refine ⟨⟨_, by simp; rfl⟩, by simpa using Line.Alerted.refl _, by simp, State.straps_congr (by simp), fun j hj => ?_⟩
      obtain ⟨-, -, -, hload⟩ := ne_of_orderKinds hj
      exact ⟨State.retestPermits_present _ hload,
        State.retestPermits_keeps (s := s.platformed (lineSideOfByte side) stop.toNat sequence) hload⟩
  | supervise => exact .refl _
  | allHalt => exact State.raise_orderKeeps _ (by decide)

/-- The result that a new order is acknowledged with. -/
def orderResult (r : Restrictions) : ValleyOrder → OrderResult
  | .restrict orderId start _ _ =>
    if 1000000 < start.toNat then .refusedRange
    else if r.entries.length < 8 ∨ ∃ e ∈ r.entries, e.orderId = orderId then .accepted
    else .acceptedCeiling
  | .platformRelease _ stop => if 1000000 < stop.toNat then .refusedRange else .accepted
  | .lift _ => .accepted
  | .halt => .accepted
  | .proceed => .accepted
  | .supervise => .accepted
  | .allHalt => .accepted

theorem applyOrder_result : (applyOrder sequence order s).2 = orderResult s.restrictions order := by
  cases order with
  | restrict orderId start length limit =>
    unfold applyOrder orderResult
    dsimp only
    by_cases hbeyond : 1000000 < start.toNat
    · rw [State.applyRestrict_of_beyond hbeyond, if_pos hbeyond]
    rw [if_neg hbeyond]
    by_cases hheld : ∃ e ∈ s.restrictions.entries, e.orderId = orderId
    · obtain ⟨old, hfind⟩ : ∃ old, (s.restrictions.entries.find? fun x => x.orderId == orderId) = some old := by
        rw [← Option.isSome_iff_exists, List.find?_isSome]
        simpa using hheld
      rw [State.applyRestrict_of_held (by omega) hfind, if_pos (.inr hheld)]
    have hnew : ∀ e ∈ s.restrictions.entries, e.orderId ≠ orderId := fun e he h => hheld ⟨e, he, h⟩
    by_cases hroom : s.restrictions.entries.length < 8
    · rw [State.applyRestrict_of_room (by omega) hnew hroom, if_pos (.inl hroom)]
    · rw [State.applyRestrict_of_full (by omega) hnew (by omega), if_neg fun h => h.elim hroom hheld]
  | platformRelease side stop =>
    unfold applyOrder orderResult State.applyPlatform
    dsimp only
    split <;> rfl
  | lift => rfl
  | halt => rfl
  | proceed => rfl
  | supervise => rfl
  | allHalt => rfl

/-! ## The acknowledgement (R157, R166, R167) -/

theorem Radio.roomForAck_eq (r : Radio) :
    r.roomForAck
      = if r.acks.length < 3 then r.acks
        else if r.sending = some .ack then r.acks.take 1 ++ r.acks.drop 2
        else r.acks.tail := by
  rw [Radio.roomForAck, List.drop_one]

/-- The radio after an accepted frame of this moment, whatever the window and the platform record. -/
def State.contacted (m : Moment) (s u : State) : Prop :=
  (∃ window platform, u.radio
      = { s.radio with
          supervision := some (s.instant m), status := .alive, lostWide := false, window := window, platform := platform })
    ∧ u.straps = s.straps ∧ u.line.own = s.line.own ∧ u.present .valleyLost = false

/-- The acknowledgement of this moment. -/
def State.ackFrame (sequence : Byte) (result : OrderResult) (s : State) : OutFrame :=
  { address := s.straps.radioAddr, sequence := s.radio.radioSequence, payload := .ack s.stationByte sequence result }

theorem State.contacted.acked (h : s.contacted m u) :
    let t := (u.queueAck sequence result).keepStore
    t.radio.supervision = some (s.instant m) ∧ t.radio.status = .alive ∧ t.present .valleyLost = false
      ∧ t.radio.radioSequence = s.radio.radioSequence + 1
      ∧ t.radio.acks = s.radio.roomForAck ++ [s.ackFrame sequence result] ∧ t.radio.sending = s.radio.sending
      ∧ t.radio.window = u.radio.window := by
  intro t
  obtain ⟨⟨window, platform, hradio⟩, hstraps, hown, hpresent⟩ := h
  have hframe : u.outFrame (.ack u.stationByte sequence result) = s.ackFrame sequence result := by
    rw [State.outFrame, State.ackFrame, State.stationByte, State.stationByte, hstraps, hown, hradio]
  have hroom : u.radio.roomForAck = s.radio.roomForAck := by rw [hradio]; rfl
  have hqueued : t.radio
      = { u.radio with
          acks := s.radio.roomForAck ++ [s.ackFrame sequence result], radioSequence := u.radio.radioSequence + 1 } := by
    rw [← hframe, ← hroom]
    exact keepStore_radio
  have hlost : t.present .valleyLost = u.present .valleyLost := keepStore_present _
  rw [hlost, hqueued, hradio]
  exact ⟨rfl, rfl, hpresent, rfl, rfl, rfl, rfl⟩

theorem State.ackFrame_wire :
    (s.ackFrame sequence result).payload.wire.1 = 17
      ∧ (s.ackFrame sequence result).payload.wire.2
        = [s.stationByte, sequence, match result with | .accepted => 0 | .acceptedCeiling => 1 | .refusedRange => 2] := by
  cases result <;> exact ⟨rfl, rfl⟩

theorem State.frameAccepted_contacted : s.contacted m (s.atMoment m).frameAccepted := by
  rw [frameAccepted_eq]
  exact ⟨⟨_, _, rfl⟩, rfl, rfl, s.faults.present_going_self .valleyLost⟩

theorem State.contacted.keeps (h : s.contacted m u) (hkeeps : u.OrderKeeps v) : s.contacted m v := by
  obtain ⟨⟨window, platform, hradio⟩, hstraps, hown, hpresent⟩ := h
  obtain ⟨⟨platform', hradio'⟩, ⟨alert, behind, sending, bus, hline⟩, -, hstraps', hkinds⟩ := hkeeps
  exact ⟨⟨window, platform', by rw [hradio', hradio]⟩, hstraps'.trans hstraps, by rw [hline]; exact hown, (hkinds _ (by decide)).1.trans hpresent⟩

theorem State.contacted.relay (h : s.contacted m u) : s.contacted m (u.relay sequence order) := by
  obtain ⟨⟨window, platform, hradio⟩, hstraps, hown, hpresent⟩ := h
  obtain ⟨-, -, -, -, -, -, hradio', -, -, hown'⟩ := relay_stands (s := u) (sequence := sequence) (order := order)
  have hflag : (u.relay sequence order).present .valleyLost = u.present .valleyLost := by
    obtain ⟨orders, sending, bus, hr⟩ | hr := relay_cases (s := u) (sequence := sequence) (order := order)
    · rw [hr]
      rfl
    · rw [hr]
      exact present_recordOccurrence_of_ne (by decide)
  have hstraps' : (u.relay sequence order).straps = u.straps := by
    obtain ⟨orders, sending, bus, hr⟩ | hr := relay_cases (s := u) (sequence := sequence) (order := order)
    · rw [hr]
      rfl
    · rw [hr]
      rfl
  exact ⟨⟨window, platform, hradio'.trans hradio⟩, hstraps'.trans hstraps, hown'.trans hown, hflag.trans hpresent⟩

theorem State.relay_orders :
    (s.relay sequence order).line.orders
      = match s.line.own with
        | none => s.line.orders
        | some n =>
          if 4 ≤ s.line.orders.length then s.line.orders
          else s.line.orders ++ [buildFrame n (.order sequence order.code order.payload)] := by
  cases hown : s.line.own with
  | none => rw [relay_of_silent hown]
  | some n =>
    by_cases hfull : 4 ≤ s.line.orders.length
    · rw [relay_of_full (by simp [hown]) hfull]
      exact (if_pos hfull).symm
    · rw [relay_of_room hown (by omega)]
      refine Eq.trans ?_ (if_neg hfull).symm
      obtain ⟨sending, bus, h⟩ := Line.offer_eq
        { s.line with orders := s.line.orders ++ [buildFrame n (.order sequence order.code order.payload)] }
      exact congrArg Line.orders h

/-! ## By the own radio -/

theorem exec_radioOrder_of_duplicate {address : Byte} (h : s.takesOrder (.radio address) = true)
    (hheld : sequence ∈ s.radio.window) (hok : order.ok = true) :
    exec (orderCommand m (.radio address) sequence order) s
      = .next ((s.atMoment m).frameAccepted.queueAck sequence .accepted).keepStore := by
  have htake : (s.running = true ∧ s.straps.radioFitted = true) ∧ (address = s.straps.radioAddr ∨ address = 255) := by
    simpa [State.takesOrder] using h
  obtain ⟨⟨hrun, hfitted⟩, haddress⟩ := htake
  have haccept : ((s.atMoment m).takesAddress address && order.ok) = true := by
    rw [(State.takesAddress_iff (s := s.atMoment m)).mpr ⟨hfitted, haddress⟩, hok]
    rfl
  have heffect : (s.atMoment m).radioOrder sequence order (applyOrder sequence order)
      = (s.atMoment m).frameAccepted.queueAck sequence .accepted := by
    refine if_pos ?_
    rw [State.frameAccepted_eq]
    simpa using hheld
  rw [exec_orderCommand, runOrder, runCommand_of_running m _ hrun, if_pos haccept, heffect]

theorem State.ordered_contacted {address : Byte} : s.contacted m (s.ordered m (.radio address) sequence) := by
  rw [State.ordered, frameAccepted_eq]
  exact ⟨⟨_, _, rfl⟩, rfl, rfl, s.faults.present_going_self .valleyLost⟩

/-- The line and the window after a new order by radio. -/
theorem State.orderDone_radio {address : Byte} (t : State)
    (ht : t = State.orderDone (.radio address) sequence order (applyOrder sequence order (s.ordered m (.radio address) sequence))) :
    t.radio.window = appendWindow s.radio.window sequence
      ∧ (∀ n ∈ s.line.own, s.line.orders.length < 4 →
        t.line.orders = s.line.orders ++ [buildFrame n (.order sequence order.code order.payload)])
      ∧ (s.line.own.isSome = true → 4 ≤ s.line.orders.length →
        t.line.orders = s.line.orders ∧ t.present .lineCongestion = true)
      ∧ (s.line.own = none → t.line.orders = s.line.orders) := by
  subst ht
  obtain ⟨hown, horders, -⟩ := ordered_line (s := s) (m := m) (via := .radio address) (sequence := sequence)
  obtain ⟨⟨platform, hradio⟩, ⟨alert, behind, sending, bus, hline⟩, -⟩ :=
    applyOrder_keeps (s := s.ordered m (.radio address) sequence) (sequence := sequence) (order := order)
  let kept := (applyOrder sequence order (s.ordered m (.radio address) sequence)).1
  have hown' : kept.line.own = s.line.own := (congrArg Line.own hline).trans hown
  have horders' : kept.line.orders = s.line.orders := (congrArg Line.orders hline).trans horders
  have hdone : (State.orderDone (.radio address) sequence order
      (applyOrder sequence order (s.ordered m (.radio address) sequence))).line.orders
      = (kept.relay sequence order).line.orders := by
    rw [State.orderDone, keepStore_line]
    rfl
  rw [hdone, relay_orders, hown', horders']
  refine ⟨?_, fun n hn hroom => ?_, fun hnumber hfull => ⟨?_, ?_⟩, fun hnone => by rw [hnone]⟩
  · have hwindow : (State.orderDone (.radio address) sequence order
        (applyOrder sequence order (s.ordered m (.radio address) sequence))).radio.window
        = (kept.relay sequence order).radio.window := by
      rw [State.orderDone, keepStore_radio]
      rfl
    rw [hwindow, (relay_stands (s := kept)).2.2.2.2.2.2.1, hradio]
    exact ordered_window
  · have hn : s.line.own = some n := hn
    rw [hn]
    exact if_neg (by omega)
  · obtain ⟨n, hn⟩ := Option.isSome_iff_exists.mp hnumber
    rw [hn]
    exact if_pos hfull
  · have hfaults := (orderDone_stands (via := .radio address) (sequence := sequence) (order := order)
      (applied := applyOrder sequence order (s.ordered m (.radio address) sequence))).2.2.2.2.2.2.2
    rw [State.present, hfaults, relayedFaults_congr (l := s.line) hown' horders']
    refine (congrArg (fun f => Faults.present f .lineCongestion) (if_pos ⟨hnumber, hfull⟩)).trans ?_
    exact present_recordOccurrence_self (s := kept) .lineCongestion

/-- Settles O54: an order by the own radio. -/
theorem radioOrdersAreTakenOnce : Obligations.RadioOrdersAreTakenOnce := by
  intro m address sequence order s hrun hfitted haddress hok c result kept
  have htake : s.takesOrder (.radio address) = true := by
    simpa [State.takesOrder, hrun, hfitted] using haddress
  have hkept : s.radio.roomForAck = kept := s.radio.roomForAck_eq
  by_cases hheld : sequence ∈ s.radio.window
  · have hresult : result = .accepted := if_pos hheld
    have hexec := exec_radioOrder_of_duplicate (m := m) htake hheld hok
    obtain ⟨hsupervision, hstatus, hlost, hsequence, hacks, hsending, hwindow⟩ :=
      (State.frameAccepted_contacted (s := s) (m := m)).acked (sequence := sequence) (result := .accepted)
    have hstation : (s.atMoment m).frameAccepted.station = s.station := by rw [State.frameAccepted_eq]; rfl
    have hline : (s.atMoment m).frameAccepted.line = s.line := by rw [State.frameAccepted_eq]; rfl
    have hchange : onlyChanges [.valley, .faults, .outgoing] (s.atMoment m)
        ((s.atMoment m).frameAccepted.queueAck sequence .accepted) :=
      (frameAccepted_onlyChanges.mono (by decide)).trans (queueAck_onlyChanges.mono (by decide)) hstation
    rw [hresult, ← hkept]
    refine ⟨_, hexec, hsupervision, hstatus, hlost, hsequence, hacks, fun ack hack => ?_, hsending,
      fun _ => ⟨?_, ?_, onlyChanges_of_effect hchange hstation⟩, fun hnew => absurd hheld hnew⟩
    · rw [hacks, List.getLast?_concat] at hack
      obtain rfl := Option.some.inj hack
      exact State.ackFrame_wire
    · rw [hwindow, State.frameAccepted_eq]
      rfl
    · rw [State.keepStore_line]
      exact hline
  · have hexec : exec (orderCommand m (.radio address) sequence order) s
        = .next (State.orderDone (.radio address) sequence order
            (applyOrder sequence order (s.ordered m (.radio address) sequence))) :=
      exec_orderCommand.trans (runOrder_of_new htake hheld hok)
    have hresult : (applyOrder sequence order (s.ordered m (.radio address) sequence)).2 = result := by
      rw [applyOrder_result, State.ordered_stands.2.2.2.2.2.2.1]
      refine Eq.trans ?_ (if_neg hheld).symm
      cases order <;> rfl
    obtain ⟨hsupervision, hstatus, hlost, hsequence, hacks, hsending, -⟩ :=
      ((State.ordered_contacted (s := s) (m := m) (sequence := sequence) (address := address)).keeps
        (applyOrder_keeps (sequence := sequence) (order := order))).relay (sequence := sequence) (order := order)
        |>.acked (sequence := sequence) (result := (applyOrder sequence order (s.ordered m (.radio address) sequence)).2)
    have hqueued : (State.orderDone (.radio address) sequence order
        (applyOrder sequence order (s.ordered m (.radio address) sequence))).radio.acks
        = kept ++ [s.ackFrame sequence result] := by
      rw [← hresult, ← hkept]
      exact hacks
    obtain ⟨hwindow, hroom, hfull, hsilent⟩ := State.orderDone_radio (s := s) (m := m) (sequence := sequence)
      (order := order) (address := address) _ rfl
    refine ⟨_, hexec, hsupervision, hstatus, hlost, hsequence, hqueued, fun ack hack => ?_, hsending,
      fun hmem => absurd hmem hheld, fun _ => ⟨?_, hroom, hfull, hsilent⟩⟩
    · rw [hqueued, List.getLast?_concat] at hack
      obtain rfl := Option.some.inj hack
      exact State.ackFrame_wire
    · rw [hwindow, appendWindow, List.drop_one]

end Sys2Proof.Machine
end

section
/-! SUPPORT. O55: a valley order in an ORDER frame (sections 3.5, 3.6 and 8.3). -/

namespace Sys2Proof.Machine

variable {ps : List Part} {s t u v : State} {m : Moment} {j k : FaultKind} {source : Fin 8} {sequence : Byte}
  {order : ValleyOrder}

/-! ## An order heard on the line (R51, R158) -/

/-- What an ORDER frame does after the clash test. -/
def State.lineTaken (sequence : Byte) (order : ValleyOrder) (s : State) : State :=
  if order.ok then s.endHoldOff.lineOrder sequence (applyOrder sequence order) else s.endHoldOff

theorem exec_lineOrder (h : s.hears = true) :
    exec (orderCommand m (.line source) sequence order) s
      = .next (((s.heardAt m).clashTest source).lineTaken sequence order).keepStore :=
  exec_orderCommand.trans (runFrame_handOn_of_ok (effect := State.lineTaken sequence order) h rfl)

theorem State.lineTaken_of_idle (h : sequence ∈ s.radio.window ∨ order.ok = false) :
    s.lineTaken sequence order = s.endHoldOff := by
  unfold State.lineTaken State.lineOrder
  split
  next hok =>
    have hheld : s.endHoldOff.radio.window.contains sequence = true := by
      obtain hheld | hbad := h
      · simpa using hheld
      · exact absurd (hbad.symm.trans hok) nofun
    exact if_pos hheld
  next => rfl

theorem State.lineTaken_of_new (hnew : sequence ∉ s.radio.window) (hok : order.ok = true) :
    s.lineTaken sequence order = (applyOrder sequence order (s.endHoldOff.noteSequence sequence)).1 := by
  have hfree : s.endHoldOff.radio.window.contains sequence = false := by simpa using hnew
  exact (if_pos hok).trans (if_neg (Bool.eq_false_iff.mp hfree))

theorem applyOrder_localLimit_le : (applyOrder sequence order s).1.speed.localLimit ≤ s.speed.localLimit := by
  have hkept := State.lowered_kept s
  have hstart := State.Lowered.refl s
  have hlowered : s.Lowered (applyOrder sequence order s).1 := by
    cases order with
    | restrict => exact hkept.applyRestrict _ _ _ _ hstart
    | lift => exact hkept.applyLift _ hstart
    | halt => exact hkept.raise _ hstart
    | proceed => exact hkept.applyProceed hstart
    | platformRelease => exact hkept.applyPlatform _ _ _ hstart
    | supervise => exact hstart
    | allHalt => exact hkept.raise _ hstart
  exact hlowered.2.2

/-- What every ORDER frame leaves. -/
theorem State.lineTaken_keeps :
    (∃ window platform, (s.lineTaken sequence order).radio = { s.radio with window := window, platform := platform })
      ∧ s.endHoldOff.line.Alerted (s.lineTaken sequence order).line ∧ (s.lineTaken sequence order).station = s.station
      ∧ (s.lineTaken sequence order).speed.localLimit ≤ s.speed.localLimit
      ∧ ∀ j ∉ orderKinds, (s.lineTaken sequence order).present j = s.present j
        ∧ s.faults.Keeps j (s.lineTaken sequence order).faults := by
  by_cases hidle : sequence ∈ s.radio.window ∨ order.ok = false
  · rw [lineTaken_of_idle hidle]
    exact ⟨⟨_, _, rfl⟩, .refl _, rfl, le_rfl, fun _ _ => ⟨rfl, .refl _⟩⟩
  · rw [not_or, Bool.not_eq_false] at hidle
    rw [lineTaken_of_new hidle.1 hidle.2]
    obtain ⟨⟨platform, hradio⟩, hline, hstation, -, hkinds⟩ :=
      applyOrder_keeps (s := s.endHoldOff.noteSequence sequence) (sequence := sequence) (order := order)
    exact ⟨⟨_, platform, hradio⟩, hline, hstation, applyOrder_localLimit_le, hkinds⟩

theorem State.lineTaken_window (hnew : sequence ∉ s.radio.window) (hok : order.ok = true) :
    (s.lineTaken sequence order).radio.window = appendWindow s.radio.window sequence := by
  rw [lineTaken_of_new hnew hok]
  obtain ⟨⟨platform, hradio⟩, -⟩ :=
    applyOrder_keeps (s := s.endHoldOff.noteSequence sequence) (sequence := sequence) (order := order)
  rw [hradio]
  rfl

/-! ## A frame under the own number (R57) -/

theorem State.clash_radio : s.clash.radio = s.radio := by simp [State.clash]

/-- The clash test leaves the radio and the waiting frames. -/
theorem State.clashTest_stands :
    (s.clashTest source).radio = s.radio ∧ (s.clashTest source).line.orders = s.line.orders
      ∧ (s.clashTest source).station = s.station := by
  unfold State.clashTest
  split
  · exact ⟨clash_radio, by rw [clash_line], clash_stands.2.1⟩
  · exact ⟨rfl, rfl, rfl⟩

/-- What a clash leaves in the end, whatever the frame does after it. -/
structure State.ClashStands (m : Moment) (s t : State) : Prop where
  present : t.present .numberClash = true
  timer : t.line.clashTimer = some (s.instant m)
  limit : s.present .numberClash = false → t.speed.localLimit = 0
  record : t.faults.recordOf .numberClash = (s.faults.occur s.straps.strict .numberClash).recordOf .numberClash

theorem clashStands_of_keeps (hline : u = (s.heardAt m).clash) (htimer : t.line.clashTimer = u.line.clashTimer)
    (hpresent : t.present .numberClash = u.present .numberClash) (hlimit : t.speed.localLimit ≤ u.speed.localLimit)
    (hkeeps : u.faults.Keeps .numberClash t.faults) : s.ClashStands m t where
  present := by rw [hpresent, hline, State.clash_present]
  timer := by
    rw [htimer, hline, State.clash_line]
    rfl
  limit habsent := by
    have hzero : u.speed.localLimit = 0 := by
      rw [hline]
      exact State.clash_localLimit (s := s.heardAt m) habsent
    omega
  record := by
    obtain ⟨hactive, hrecord⟩ := State.clash_record (s := s.heardAt m)
    rw [← hline] at hactive hrecord
    exact (hkeeps hactive).2.trans hrecord

/-- A clash whose frame only ends the hold-off. -/
theorem clashed_idle (m : Moment) (s : State) :
    let t := (s.heardAt m).clash.endHoldOff.keepStore
    s.ClashStands m t ∧ t.faults = s.afterOccurrence m .numberClash t
      ∧ onlyChanges (Part.also Part.ofClassB [.transmission, .lineTimers, .quality]) s t := by
  intro t
  have hspeed : t.speed = (s.heardAt m).clash.speed := State.keepStore_speed
  have hfaults : t.faults = (s.heardAt m).clash.faults := State.keepStore_faults
  have hline : t.line = (s.heardAt m).clash.endHoldOff.line := State.keepStore_line
  refine ⟨clashStands_of_keeps rfl (by rw [hline]; rfl) ?_ (by rw [hspeed]) (by rw [hfaults]; exact .refl _), ?_, ?_⟩
  · exact (State.keepStore_present _).trans rfl
  · have hsummary : t.summary = (s.heardAt m).clash.summary := State.keepStore_summary
    rw [hfaults, State.clash_faults (s := s.heardAt m) (m := m) rfl hsummary, State.afterOccurrence_heardAt]
  · refine onlyChanges_of_heard (m := m) ?_ State.clash_stands.2.1 (by decide)
    exact (clash_onlyChanges.mono (by decide)).trans (endHoldOff_onlyChanges.mono (by decide)) State.clash_stands.2.1

theorem exec_orderFrameDiscarded {valleyKind : Byte} {payload : List Byte} (h : s.hears = true)
    (hlength : payload.length ≤ 16) (hnone : valleyOrder? valleyKind payload = none) :
    exec (.orderFrameDiscarded m source sequence valleyKind payload) s
      = .next ((s.heardAt m).clashTest source).endHoldOff.keepStore := by
  have hrun : exec (.orderFrameDiscarded m source sequence valleyKind payload) s
      = .next (if (valleyOrder? valleyKind payload).isNone then ((s.heardAt m).clashTest source).endHoldOff
          else (s.heardAt m).clashTest source).keepStore :=
    runFrame_handOn_of_ok (effect := fun t => if (valleyOrder? valleyKind payload).isNone then t.endHoldOff else t) h
      (decide_eq_true hlength)
  rw [hrun, hnone]
  rfl

theorem State.clashTest_timers :
    ((s.clashTest source).line.statePeriod = s.line.statePeriod ∧ (s.clashTest source).line.joinRetry = s.line.joinRetry)
      ∧ (s.clashTest source).line.discards = s.line.discards := by
  unfold State.clashTest
  split
  · rw [clash_line]
    exact ⟨⟨rfl, rfl⟩, rfl⟩
  · exact ⟨⟨rfl, rfl⟩, rfl⟩

/-- Settles O55: an order in an ORDER frame. -/
theorem lineOrdersAreTakenOnce : Obligations.LineOrdersAreTakenOnce := by
  intro m source sequence valleyKind payload order s hhears clash
  obtain ⟨hradio, horders, hstation⟩ := State.clashTest_stands (s := s.heardAt m) (source := source)
  have hended : onlyChanges [.transmission, .lineTimers] s (s.heardAt m).endHoldOff.keepStore :=
    onlyChanges_of_heard endHoldOff_onlyChanges rfl (by decide)
  refine ⟨?_, fun hlength hnone => ?_⟩
  · obtain ⟨⟨window, platform, hkept⟩, ⟨alert, behind, sending, bus, hline⟩, hplace, hlimit, hkinds⟩ :=
      State.lineTaken_keeps (s := (s.heardAt m).clashTest source) (sequence := sequence) (order := order)
    refine ⟨_, exec_lineOrder hhears, ?_⟩
    rw [keepStore_radio, State.keepStore_line]
    refine ⟨?_, ?_, ?_, ?_, ?_, fun hnew hok => ?_, fun hother => ⟨?_, fun hidle => ?_⟩, fun hown => ⟨?_, fun hidle => ?_⟩⟩
    · rw [hline]
      rfl
    · rw [hkept, hradio]
      rfl
    · rw [hkept, hradio]
      rfl
    · rw [hkept, hradio]
      rfl
    · rw [hline]
      exact horders
    · rw [State.lineTaken_window (by rw [hradio]; exact hnew) hok, hradio, appendWindow, List.drop_one]
      rfl
    · rw [hline, State.clashTest_of_other (s := s.heardAt m) hother]
      rfl
    · rw [State.clashTest_of_other (s := s.heardAt m) hother, State.lineTaken_of_idle (s := s.heardAt m) hidle]
      exact hended
    · rw [State.clashTest_of_own (s := s.heardAt m) hown] at hline hlimit hkinds ⊢
      obtain ⟨hpresent, hkeeps⟩ := hkinds .numberClash (by decide)
      have hstands : s.ClashStands m ((s.heardAt m).clash.lineTaken sequence order).keepStore :=
        clashStands_of_keeps rfl (by rw [State.keepStore_line, hline]; rfl)
          ((State.keepStore_present _).trans hpresent) (by rw [State.keepStore_speed]; exact hlimit)
          (by rw [State.keepStore_faults]; exact hkeeps)
      exact ⟨hstands.present, hstands.timer, hstands.limit, hstands.record⟩
    · have hidle' : sequence ∈ (s.heardAt m).clash.radio.window ∨ order.ok = false := by
        rw [State.clash_radio]
        exact hidle
      rw [State.clashTest_of_own (s := s.heardAt m) hown, State.lineTaken_of_idle hidle']
      obtain ⟨-, hfaults, hchanges⟩ := clashed_idle m s
      exact ⟨hfaults, hchanges⟩
  · obtain ⟨⟨hperiod, hretry⟩, hdiscards⟩ := State.clashTest_timers (s := s.heardAt m) (source := source)
    refine ⟨_, exec_orderFrameDiscarded hhears hlength hnone, ?_⟩
    rw [State.keepStore_line]
    refine ⟨rfl, hperiod, hretry, hdiscards, fun hother => ?_, fun hown => ?_⟩
    · rw [State.clashTest_of_other (s := s.heardAt m) hother]
      exact hended
    · rw [State.clashTest_of_own (s := s.heardAt m) hown]
      obtain ⟨hstands, hfaults, hchanges⟩ := clashed_idle m s
      exact ⟨⟨hstands.present, hstands.timer, hstands.limit, hstands.record⟩, hfaults, hchanges⟩

end Sys2Proof.Machine
end

section
/-! SUPPORT. The doors of a start, and the conditions reported at a warm restart (sections 7.3, 7.9, 10.7 and 11.2). -/

namespace Sys2Proof.Machine

variable {ps : List Part} {s t u v : State} {m : Moment} {j k : FaultKind} {f g : Faults} {d e : DoorId}
  {levels : Levels} {now mass : Nat} {q r : FaultRecord}

/-! ## The doors of a start (R131, R144, R146, R147) -/

/-- A handle takes its door out of LOCKED. -/
def State.unlocks (d : DoorId) (s : State) : Bool :=
  (s.pins.levels.doors.get d).handle && s.rack.standstill && s.brake.applied && (s.doors.doors.get d).state == .locked

theorem Door.handleReleased_unlocks (now : Nat) (r : Door) :
    (r.state == .locked && (r.handleReleased now).state != .locked) = (r.state == .locked) := by
  unfold Door.handleReleased
  cases hstate : r.state <;> simp_all

theorem State.releaseByHandle_latchPending :
    (s.releaseByHandle d).doors.latchPending = (s.doors.latchPending || s.unlocks d) := by
  unfold State.releaseByHandle State.unlocks
  split
  next h =>
    rw [h, Bool.true_and]
    exact congrArg (s.doors.latchPending || ·) (Door.handleReleased_unlocks s.clock (s.doors.doors.get d))
  next h =>
    rw [Bool.eq_false_iff.mpr h]
    simp

/-- The handle releases of the other doors do not bear on a door's. -/
theorem State.releaseByHandle_unlocks (h : e ≠ d) : (s.releaseByHandle d).unlocks e = s.unlocks e := by
  obtain ⟨hpins, hrack, hbrake, -⟩ := releaseByHandle_stands (s := s) (d := d)
  rw [State.unlocks, State.unlocks, hpins, hrack, hbrake, releaseByHandle_get, if_neg fun hcond => h hcond.1]

theorem State.releaseByHandles_latchPending :
    s.releaseByHandles.doors.latchPending = true ↔ s.doors.latchPending = true ∨ ∃ d, s.unlocks d = true := by
  have hdoors : (∃ d, s.unlocks d = true)
      ↔ s.unlocks .d1 = true ∨ s.unlocks .d2 = true ∨ s.unlocks .d3 = true ∨ s.unlocks .d4 = true := by
    refine ⟨fun ⟨d, h⟩ => ?_, fun h => ?_⟩
    · cases d <;> simp [h]
    · obtain h | h | h | h := h
      · exact ⟨_, h⟩
      · exact ⟨_, h⟩
      · exact ⟨_, h⟩
      · exact ⟨_, h⟩
  rw [hdoors, State.releaseByHandles]
  simp only [releaseByHandle_latchPending, Bool.or_eq_true]
  rw [releaseByHandle_unlocks (e := .d4) (d := .d3) (by decide), releaseByHandle_unlocks (e := .d4) (d := .d2) (by decide),
    releaseByHandle_unlocks (e := .d4) (d := .d1) (by decide), releaseByHandle_unlocks (e := .d3) (d := .d2) (by decide),
    releaseByHandle_unlocks (e := .d3) (d := .d1) (by decide), releaseByHandle_unlocks (e := .d2) (d := .d1) (by decide)]
  simp only [or_assoc]

theorem State.releaseByHandle_others :
    (s.releaseByHandle d).doors.releaseA = s.doors.releaseA ∧ (s.releaseByHandle d).doors.releaseB = s.doors.releaseB
      ∧ (s.releaseByHandle d).doors.mass = s.doors.mass := by
  unfold State.releaseByHandle
  split <;> exact ⟨rfl, rfl, rfl⟩

theorem State.releaseByHandles_others :
    s.releaseByHandles.doors.releaseA = s.doors.releaseA ∧ s.releaseByHandles.doors.releaseB = s.doors.releaseB
      ∧ s.releaseByHandles.doors.mass = s.doors.mass := by
  simp only [State.releaseByHandles, releaseByHandle_others, and_self]

theorem startDoors_latchPending :
    (startDoors now levels mass).latchPending = true
      ↔ ∃ d, (startDoor now (levels.doors.get d)).state = .opened ∨ (startDoor now (levels.doors.get d)).state = .closing := by
  refine ⟨fun h => ?_, fun ⟨d, h⟩ => ?_⟩
  · have h : (startDoors now levels mass).doors.toList.any (fun r => r.state == .opened || r.state == .closing) = true := h
    simp only [PerDoor.toList, List.any_cons, List.any_nil, Bool.or_false, Bool.or_eq_true, beq_iff_eq] at h
    obtain h | h | h | h := h
    · exact ⟨.d1, h⟩
    · exact ⟨.d2, h⟩
    · exact ⟨.d3, h⟩
    · exact ⟨.d4, h⟩
  · have hany : (startDoors now levels mass).doors.toList.any (fun r => r.state == .opened || r.state == .closing) = true := by
      simp only [PerDoor.toList, List.any_cons, List.any_nil, Bool.or_false, Bool.or_eq_true, beq_iff_eq]
      cases d
      · exact .inl h
      · exact .inr (.inl h)
      · exact .inr (.inr (.inl h))
      · exact .inr (.inr (.inr h))
    exact hany

/-- One door of a start, its handle read. -/
theorem startDoor_handled (v : DoorLines) :
    (if v.handle = true then (startDoor now v).handleReleased now else startDoor now v)
      = if v.isolated then { Door.initial with state := .isolated }
        else if v.lockMade then
          if v.handle then { Door.initial with state := .released, handleRelease := true } else Door.initial
        else if v.openMade then { Door.initial with state := .opened, handleRelease := v.handle }
        else
          { Door.initial with
            state := if v.handle then .opening else .closing, handleRelease := v.handle, timer := some now } := by
  obtain ⟨isolated, lockMade, openMade, handle⟩ := v
  cases isolated
  · cases lockMade
    · cases openMade <;> cases handle <;> rfl
    · cases handle <;> rfl
  · cases handle <;> rfl

/-- A door keeps latch pending at a start. -/
theorem startDoor_pending_iff (v : DoorLines) :
    (v.handle = true ∧ (startDoor now v).state = .locked)
        ∨ (startDoor now v).state = .opened ∨ (startDoor now v).state = .closing
      ↔ v.isolated = false ∧ (v.lockMade = false ∨ v.handle = true) := by
  obtain ⟨isolated, lockMade, openMade, handle⟩ := v
  cases isolated
  · cases lockMade
    · cases openMade <;> cases handle <;> simp [startDoor]
    · cases handle <;> simp [startDoor, Door.initial]
  · cases handle <;> simp [startDoor]

/-- The doors that the start of a held car leaves. -/
theorem State.releaseByHandles_doorsBegun (hdoors : s.doors = startDoors now levels mass) (hlevels : s.pins.levels = levels)
    (hstill : s.rack.standstill = true) (happlied : s.brake.applied = true) (hclock : s.clock = now) :
    s.releaseByHandles.doorsBegun levels now := by
  obtain ⟨hA, hB, -⟩ := releaseByHandles_others (s := s)
  rw [hdoors] at hA hB
  refine ⟨hA, hB, fun d => ?_, ?_⟩
  · rw [releaseByHandles_get, hdoors, startDoors_get, hlevels, hstill, happlied, hclock]
    simp only [and_true]
    exact startDoor_handled (levels.doors.get d)
  · have hunlocks (d : DoorId) : s.unlocks d = true
        ↔ (levels.doors.get d).handle = true ∧ (startDoor now (levels.doors.get d)).state = .locked := by
      rw [State.unlocks, hdoors, startDoors_get, hlevels, hstill, happlied]
      simp
    rw [releaseByHandles_latchPending, hdoors, startDoors_latchPending, or_comm, ← exists_or]
    refine exists_congr fun d => ?_
    rw [hunlocks]
    exact startDoor_pending_iff (levels.doors.get d)

end Sys2Proof.Machine
end

section
/-! SUPPORT. The conditions reported at a warm restart, and the state that it leaves (sections 10.7 and 11.2). -/

namespace Sys2Proof.Machine

variable {ps : List Part} {s t u v : State} {m : Moment} {j k : FaultKind} {f g : Faults} {d e : DoorId} {n : Fin 8}
  {strict c : Bool} {q r : FaultRecord} {p : Pinion}

/-! ## Presences reported in the fault manager (R183 to R185) -/

/-- A presence without occurrence, if there is one to report. -/
def Faults.noteIf (c : Bool) (strict : Bool) (k : FaultKind) (f : Faults) : Faults := if c then f.note strict k else f

theorem Faults.noteIf_present_self : (f.noteIf c strict k).present k = (c || f.present k) := by
  cases c with
  | true => exact f.present_note_self strict k
  | false => rfl

theorem Faults.noteIf_present_of_ne (h : j ≠ k) : (f.noteIf c strict k).present j = f.present j := by
  cases c with
  | true => exact f.present_note_of_ne strict h
  | false => rfl

/-- A record of class A or B is in the table with its count, active while its condition is present. -/
def Faults.tracks (r : FaultRecord) (f : Faults) : Prop :=
  ∃ q ∈ f.table, q.kind = r.kind ∧ q.cls = r.cls ∧ q.count = r.count ∧ q.active = f.present r.kind

theorem Faults.addRecord_table_mem (hq : q ∈ f.table) (hkept : q.cls ≠ .c) : q ∈ (f.addRecord r).table := by
  unfold Faults.addRecord
  split
  · exact List.mem_append_left _ hq
  split
  · exact List.mem_append_left _ ((List.mem_eraseP_of_neg (by simp [FaultRecord.replaceable, hkept])).mpr hq)
  · exact hq

/-- Recording another kind leaves a class A or B record. -/
theorem Faults.recorded_tracks_of_ne {change : FaultRecord → FaultRecord} (hr : r.cls ≠ .c) (hk : r.kind ≠ k)
    (h : f.tracks r) : (f.recorded k change q).tracks r := by
  obtain ⟨x, hx, hkind, hcls, hcount, hactive⟩ := h
  have hpresent : (f.recorded k change q).present r.kind = f.present r.kind := recorded_present_of_ne hk
  refine ⟨x, ?_, hkind, hcls, hcount, hactive.trans hpresent.symm⟩
  have hne : x.kind ≠ k := hkind ▸ hk
  unfold Faults.recorded
  split
  · exact List.mem_map.mpr ⟨x, hx, if_neg hne⟩
  · exact addRecord_table_mem (f := f.setFlag k true) hx (hcls ▸ hr)

theorem Faults.note_tracks (hr : r.cls ≠ .c) (h : f.tracks r) : (f.note strict k).tracks r := by
  rw [note_eq]
  by_cases hk : r.kind = k
  · obtain ⟨x, hx, hkind, hcls, hcount, -⟩ := h
    refine ⟨{ x with active := true }, ?_, hkind, hcls, hcount, ?_⟩
    · rw [recorded_of_has ⟨x, hx, hkind.trans hk⟩]
      exact List.mem_map.mpr ⟨x, hx, if_pos (hkind.trans hk)⟩
    · rw [hk, recorded_present]
  · exact recorded_tracks_of_ne hr hk h

theorem Faults.noteIf_tracks (hr : r.cls ≠ .c) (h : f.tracks r) : (f.noteIf c strict k).tracks r := by
  cases c with
  | true => exact note_tracks hr h
  | false => exact h

/-! ## Reports where no side is released -/

theorem State.note_of_unreleased (h : s.unreleased) (hclass : faultClassOf s.straps.strict k ≠ .a) :
    ∃ v, s.note k = (s.setFaults (s.faults.note s.straps.strict k)).setSpeed v ∧ v.localLimit ≤ s.speed.localLimit := by
  unfold State.note
  split
  · exact ⟨s.speed, rfl, le_rfl⟩
  unfold State.react
  split
  next ha => exact absurd ha hclass
  next =>
    have hlowered : ((s.recordNote k).lowerLimit 0).unreleased := h
    rw [retestPermits_of_unreleased hlowered]
    exact ⟨_, rfl, Nat.min_le_left _ _⟩
  next => exact ⟨s.speed, rfl, le_rfl⟩

/-- The state with reports in its fault manager and its limit lowered. -/
def State.reported (f : Faults) (v : Speed) (s : State) : State := (s.setFaults f).setSpeed v

theorem State.reported_noteIf {w : Speed} (h : s.unreleased) (hclass : faultClassOf s.straps.strict k ≠ .a) :
    ∃ v, (if c then (s.reported f w).note k else s.reported f w) = s.reported (f.noteIf c s.straps.strict k) v
      ∧ v.localLimit ≤ w.localLimit := by
  cases c with
  | false => exact ⟨w, rfl, le_rfl⟩
  | true =>
    obtain ⟨v, hnote, hle⟩ := note_of_unreleased (s := s.reported f w) (k := k) h hclass
    exact ⟨v, hnote, hle⟩

/-- The fault manager after the reports of a warm restart. -/
def State.restartFaults (s : State) : Faults :=
  (((s.faults.occur s.straps.strict .positionUnknown).noteIf (s.brake.pinions.p1.fade || s.brake.pinions.p2.fade)
    s.straps.strict .brakeFade).noteIf (s.brake.pinions.p1.failed || s.brake.pinions.p2.failed)
    s.straps.strict .pinionFailed).noteIf s.restrictions.overflow.isSome s.straps.strict .restrictionOverflow

theorem State.restartReports_eq (h : s.unreleased) :
    ∃ v, s.restartReports = s.reported s.restartFaults v ∧ v.localLimit ≤ s.speed.localLimit := by
  have hknown : s.raise .positionUnknown = s.reported (s.faults.occur s.straps.strict .positionUnknown) s.speed :=
    raise_of_classC rfl
  obtain ⟨v1, hfaded, hle1⟩ := reported_noteIf (s := s) (k := .brakeFade)
    (c := s.brake.pinions.p1.fade || s.brake.pinions.p2.fade)
    (f := s.faults.occur s.straps.strict .positionUnknown) (w := s.speed) h nofun
  obtain ⟨v2, hfailed, hle2⟩ := reported_noteIf (s := s) (k := .pinionFailed)
    (c := s.brake.pinions.p1.failed || s.brake.pinions.p2.failed) (f := (s.faults.occur s.straps.strict .positionUnknown).noteIf
      (s.brake.pinions.p1.fade || s.brake.pinions.p2.fade) s.straps.strict .brakeFade) (w := v1) h nofun
  obtain ⟨v3, hoverflow, hle3⟩ := reported_noteIf (s := s) (k := .restrictionOverflow)
    (c := s.restrictions.overflow.isSome) (f := ((s.faults.occur s.straps.strict .positionUnknown).noteIf
      (s.brake.pinions.p1.fade || s.brake.pinions.p2.fade) s.straps.strict .brakeFade).noteIf
      (s.brake.pinions.p1.failed || s.brake.pinions.p2.failed) s.straps.strict .pinionFailed) (w := v2) h nofun
  refine ⟨v3, ?_, (hle3.trans hle2).trans hle1⟩
  simp only [State.restartReports, hknown]
  refine Eq.trans ?_ hoverflow
  have hfaded' : (if (s.reported (s.faults.occur s.straps.strict .positionUnknown) s.speed).brake.pinions.p1.fade
      || (s.reported (s.faults.occur s.straps.strict .positionUnknown) s.speed).brake.pinions.p2.fade then
        (s.reported (s.faults.occur s.straps.strict .positionUnknown) s.speed).note .brakeFade
      else s.reported (s.faults.occur s.straps.strict .positionUnknown) s.speed) = _ := hfaded
  rw [hfaded']
  simp only [show ∀ f v, (s.reported f v).brake = s.brake from fun _ _ => rfl]
  rw [hfailed]
  rfl

/-! ## A warm restart -/

theorem State.releaseByHandle_eq : s.releaseByHandle d = s.setDoors (s.releaseByHandle d).doors := by
  unfold State.releaseByHandle
  split <;> rfl

theorem State.releaseByHandles_eq : s.releaseByHandles = s.setDoors s.releaseByHandles.doors := by
  unfold State.releaseByHandles
  rw [releaseByHandle_eq (d := .d4), releaseByHandle_eq (d := .d3), releaseByHandle_eq (d := .d2), releaseByHandle_eq (d := .d1)]
  rfl

theorem State.startReports_eq :
    ∃ timer, s.startReports = s.setRadio { s.radio with reportTimer := timer } := by
  unfold State.startReports
  split
  · exact ⟨_, rfl⟩
  · exact ⟨s.radio.reportTimer, rfl⟩

theorem State.placeJoin_of_free (h : s.line.sending = none) :
    ∃ held sending bus, s.placeJoin n = s.setLine { s.line with stateSlot := some held, sending := sending, bus := bus } := by
  rw [placeJoin_eq, placeHeld_of_free _ _ (by simp [h])]
  obtain ⟨sending, bus, hoffer⟩ := Line.offer_eq
    { s.line with stateSlot := some (s.heldNow (s.joinNow n) (.join (!s.summitNeighbour) s.line.rejoin)) }
  exact ⟨_, sending, bus, congrArg s.setLine hoffer⟩

/-- A warm restart's base with the reports `f`, the doors and the JOIN in its slot. -/
def State.warmAs (n : Fin 8) (f : Faults) (v : Speed) (doors : DoorControl) (timer : Timer) (held : HeldFrame)
    (sending : Option Slot) (bus : Bus) (s : State) : State :=
  ((((s.warmBase n).reported f v).setDoors doors).setRadio
      { (s.warmBase n).radio with reportTimer := timer }).setLine
    { (s.warmBase n).line with stateSlot := some held, sending := sending, bus := bus }

/-- The base of a warm restart with its reports. -/
def State.warmReported (n : Fin 8) (v : Speed) (s : State) : State := (s.warmBase n).reported (s.warmBase n).restartFaults v

theorem State.warmStart_form :
    ∃ v timer held sending bus,
      s.warmStart n
        = s.warmAs n (s.warmBase n).restartFaults v (s.warmReported n v).releaseByHandles.doors timer held sending bus
        ∧ v.localLimit = 0 := by
  have hunreleased : (s.warmBase n).unreleased := fun side => by cases side <;> rfl
  obtain ⟨v, hreports, hle⟩ := restartReports_eq hunreleased
  have hzero : v.localLimit = 0 := Nat.le_zero.mp hle
  let handled := (s.warmReported n v).releaseByHandles
  obtain ⟨timer, htimer⟩ := startReports_eq (s := handled)
  have hhandled : handled = (s.warmReported n v).setDoors handled.doors :=
    releaseByHandles_eq
  obtain ⟨held, sending, bus, hjoin⟩ := placeJoin_of_free (n := n) (s := handled.startReports) (by
    rw [htimer, hhandled]
    rfl)
  refine ⟨v, timer, held, sending, bus, ?_, hzero⟩
  have hstart : s.warmStart n = handled.startReports.placeJoin n := by rw [warmStart_eq, hreports]; rfl
  rw [hstart, hjoin, htimer]
  have hline : handled.line = (s.warmBase n).line := by rw [hhandled]; rfl
  have hradio : handled.radio = (s.warmBase n).radio := by rw [hhandled]; rfl
  rw [setRadio_line, hline, hradio]
  exact congrArg (fun u => (u.setRadio { (s.warmBase n).radio with reportTimer := timer }).setLine
    { (s.warmBase n).line with stateSlot := some held, sending := sending, bus := bus }) hhandled

end Sys2Proof.Machine
end

section
/-! SUPPORT. O60: POWER_ON (sections 11.1 and 11.2). -/

namespace Sys2Proof.Machine

variable {ps : List Part} {s t u v : State} {m : Moment} {j k : FaultKind} {d e : DoorId} {n i : Fin 8}
  {r : FaultRecord} {p : Pinion} {levels : Levels} {flips : BitVec 16} {now : Nat}

/-! ## What each block takes from the store (R37, R66, R81, R115, R195) -/

theorem restartPeer_own {items : Retained} (h : items.own = some i) :
    restartPeer now items i = { PeerEntry.blank with state := .self } := if_pos h

theorem restartPeer_other {items : Retained} (h : items.own = some n) (hi : i ≠ n) :
    restartPeer now items i
      = match items.peers.getD i.val none with
        | some (kind, tare) =>
          { state := .joined, kind := kind, tare := tare, contents := none, ageFrom := some now, lastAlert := none }
        | none => PeerEntry.blank := by
  have hne : items.own ≠ some i := fun h' => hi (Option.some.inj (h'.symm.trans h))
  rw [restartPeer, if_neg hne]
  cases items.peers.getD i.val none with
  | none => rfl
  | some kept => rfl

theorem deratedCapacity_failed (straps : Straps) (energy : Nat) : deratedCapacity straps true energy = 0 := rfl

theorem deratedCapacity_cool {straps : Straps} {energy : Nat} (h : energy ≤ 4000000) :
    deratedCapacity straps false energy = 20000 + straps.pinionNom.toNat * 5000 := if_pos h

theorem deratedCapacity_warm {straps : Straps} {energy : Nat} (h1 : 4000000 < energy) (h2 : energy < 12000000) :
    deratedCapacity straps false energy
      = 20000 + straps.pinionNom.toNat * 5000
        - (20000 + straps.pinionNom.toNat * 5000) * (energy - 4000000) / 16000000 := by
  have hmodel : deratedCapacity straps false energy
      = 20000 + straps.pinionNom.toNat * 5000 - (4 + straps.pinionNom.toNat) * (energy - 4000000) / 3200 :=
    (if_neg (show ¬energy ≤ 4000000 by omega)).trans (if_pos h2)
  have hscale : (20000 + straps.pinionNom.toNat * 5000) * (energy - 4000000)
      = 5000 * ((4 + straps.pinionNom.toNat) * (energy - 4000000)) := by ring
  rw [hmodel, hscale, show 16000000 = 5000 * 3200 from rfl, Nat.mul_div_mul_left _ _ (by decide)]

theorem deratedCapacity_hot {straps : Straps} {energy : Nat} (h : 12000000 ≤ energy) :
    deratedCapacity straps false energy = (20000 + straps.pinionNom.toNat * 5000) / 2 :=
  (if_neg (show ¬energy ≤ 4000000 by omega)).trans (if_neg (show ¬energy < 12000000 by omega))

/-- The derated capacity of R115's table. -/
theorem started_derated (straps : Straps) (energy : Nat) (failed : Bool) :
    let b := PinionBrake.started straps energy failed
    let nominal := 20000 + straps.pinionNom.toNat * 5000
    b.energy = energy ∧ b.failed = failed ∧ (failed = true → b.derated = 0)
      ∧ (failed = false →
        (energy ≤ 4000000 → b.derated = nominal)
          ∧ (4000000 < energy → energy < 12000000 → b.derated = nominal - nominal * (energy - 4000000) / 16000000)
          ∧ (12000000 ≤ energy → b.derated = nominal / 2)) := by
  refine ⟨rfl, rfl, fun h => ?_, fun h => ⟨fun hcool => ?_, fun h1 h2 => ?_, fun hhot => ?_⟩⟩ <;> subst h
  · exact deratedCapacity_failed straps energy
  · exact deratedCapacity_cool hcool
  · exact deratedCapacity_warm h1 h2
  · exact deratedCapacity_hot hhot

theorem Window.restarted_of_sweeping {w : Window} (h : w.status = .sweeping) :
    w.restarted = { w with status := .invalid } := if_pos h

theorem Window.restarted_of_ne {w : Window} (h : w.status ≠ .sweeping) : w.restarted = w := if_neg h

theorem Faults.restored_present (table : List FaultRecord) (k : FaultKind) : (Faults.restored table).present k = false := by
  simp [Faults.restored, Faults.initial, Faults.present]

theorem Faults.restored_tracks {table : List FaultRecord} (h : r ∈ table) : (Faults.restored table).tracks r :=
  ⟨{ r with active := false }, List.mem_map.mpr ⟨r, h, rfl⟩, rfl, rfl, rfl, (restored_present table r.kind).symm⟩

theorem State.doorsBegun_congr (h : u.doorsBegun levels now) (hdoors : t.doors = u.doors) : t.doorsBegun levels now := by
  rw [State.doorsBegun, hdoors]
  exact h

/-! ## POWER_ON (R196, R198, R199) -/

/-- The store resumes the station under this number. -/
def State.resumes (flips : BitVec 16) (n : Fin 8) (s : State) : Prop :=
  s.store.items.own = some n ∧ s.store.valid = true ∧ storeCheck s.straps s.store.items = s.store.check ^^^ flips

theorem exec_powerOn_off (h : s.station.life = .off) :
    exec (.powerOn m levels flips) s
      = .next (((s.atMoment m).setPins { (s.atMoment m).pins with levels := levels }).powerOn flips) :=
  congrArg Host.Outcome.next (if_pos h)

theorem exec_powerOn_cold (h : s.station.life = .off) (hcold : ∀ n, ¬s.resumes flips n) :
    exec (.powerOn m levels flips) s = .next (((s.atMoment m).supplied levels).blank .cold) := by
  rw [exec_powerOn_off h]
  refine congrArg Host.Outcome.next ?_
  unfold State.powerOn
  dsimp only
  split
  next hvalid =>
    split
    next n hown => exact absurd ⟨hown, hvalid⟩ (hcold n)
    next => rfl
  next => rfl

theorem exec_powerOn_warm (h : s.station.life = .off) (hwarm : s.resumes flips n) :
    exec (.powerOn m levels flips) s = .next (((s.atMoment m).supplied levels).warmStart n) := by
  obtain ⟨hown, hvalid⟩ := hwarm
  rw [exec_powerOn_off h]
  refine congrArg Host.Outcome.next ((if_pos hvalid).trans ?_)
  have hown' : ((s.atMoment m).setPins { (s.atMoment m).pins with levels := levels }).store.items.own = some n := hown
  rw [hown']
  rfl

/-- The part COLD: nothing retained is in force. -/
theorem State.blankCold_stands :
    let t := ((s.atMoment m).supplied levels).blank .cold
    t.pins.levels = levels ∧ t.store.valid = false ∧ t.straps = s.straps ∧ t.store.items = s.store.items
      ∧ t.brake.outputsFull ∧ t.brake.applied = true ∧ t.rack.standstill = true ∧ t.rack.known = false
      ∧ t.speed.localLimit = 0 ∧ t.station.life = .cold ∧ t.faults.table = [] ∧ t.line.own = none :=
  ⟨rfl, rfl, rfl, rfl, ⟨rfl, rfl, rfl⟩, rfl, rfl, rfl, rfl, rfl, rfl, rfl⟩

/-- What a resumed station has of its store: the numbering, the peers, the brake, the windows and the lists. -/
structure State.Resumed (now : Nat) (levels : Levels) (n : Fin 8) (straps : Straps) (items : Retained) (t : State) : Prop where
  life : t.station.life = .resuming
  own : t.line.own = some n
  phase : t.line.phase = .joinWaiting
  rejoin : t.line.rejoin = true
  join : t.line.stateSlot.isSome = true
  peers : t.peers = restartPeers now items
  brake : t.brake = restartBrake now straps items
  engagement : t.engagement = restartEngagement items.windows
  restrictions : t.restrictions = restartRestrictions items.restrictions
  window : t.radio.window = items.window
  mass : t.doors.mass = items.mass
  doors : t.doorsBegun levels now

theorem State.warmAs_resumed {f : Faults} {v : Speed} {doors : DoorControl} {timer : Timer} {held : HeldFrame}
    {sending : Option Slot} {bus : Bus} (hmass : doors.mass = s.store.items.mass)
    (hdoors : u.doors = doors) (hbegun : u.doorsBegun levels s.clock) :
    (s.warmAs n f v doors timer held sending bus).Resumed s.clock levels n s.straps s.store.items :=
  ⟨rfl, rfl, rfl, rfl, rfl, rfl, rfl, rfl, rfl, rfl, hmass, doorsBegun_congr hbegun hdoors.symm⟩

theorem State.warmAs_stands {f : Faults} {v : Speed} {doors : DoorControl} {timer : Timer} {held : HeldFrame}
    {sending : Option Slot} {bus : Bus} :
    let t := s.warmAs n f v doors timer held sending bus
    t.pins = s.pins ∧ t.store = s.store ∧ t.rack = startRack s.clock ∧ t.speed = v ∧ t.faults = f := by
  dsimp only [State.warmAs, State.setLine, State.setRadio, State.setDoors, State.reported, State.setFaults,
    State.setSpeed, State.warmBase, State.blank]
  exact ⟨rfl, rfl, rfl, rfl, rfl⟩

theorem State.warmStart_resumed {b : State} (hlevels : b.pins.levels = levels) :
    (b.warmStart n).Resumed b.clock levels n b.straps b.store.items := by
  obtain ⟨v, timer, held, sending, bus, hform, -⟩ := warmStart_form (s := b) (n := n)
  have hbegun : (b.warmReported n v).releaseByHandles.doorsBegun levels b.clock :=
    releaseByHandles_doorsBegun (s := b.warmReported n v) (mass := b.store.items.mass) (hlevels ▸ rfl) hlevels rfl rfl rfl
  have hmass : (b.warmReported n v).releaseByHandles.doors.mass = b.store.items.mass :=
    (releaseByHandles_others (s := b.warmReported n v)).2.2
  rw [hform]
  exact warmAs_resumed hmass rfl hbegun

theorem State.warmStart_blocks {b : State} :
    (b.warmStart n).pins = b.pins ∧ (b.warmStart n).store = b.store ∧ (b.warmStart n).rack = startRack b.clock
      ∧ (b.warmStart n).speed.localLimit = 0 ∧ (b.warmStart n).faults = (b.warmBase n).restartFaults := by
  obtain ⟨v, timer, held, sending, bus, hform, hzero⟩ := warmStart_form (s := b) (n := n)
  obtain ⟨hpins, hstore, hrack, hspeed, hfaults⟩ := warmAs_stands (s := b) (n := n) (f := (b.warmBase n).restartFaults)
    (v := v) (doors := (b.warmReported n v).releaseByHandles.doors) (timer := timer) (held := held) (sending := sending)
    (bus := bus)
  rw [hform]
  exact ⟨hpins, hstore, hrack, by rw [hspeed, hzero], hfaults⟩

end Sys2Proof.Machine
end

section
/-! SUPPORT. O60: STRAPS_READ, and both starts together (sections 11.1 and 11.2). -/

namespace Sys2Proof.Machine

variable {ps : List Part} {s t u v : State} {m : Moment} {j k : FaultKind} {d e : DoorId} {n i : Fin 8}
  {r : FaultRecord} {p : Pinion} {levels : Levels} {flips : BitVec 16} {now : Nat} {straps : Straps}

/-! ## A cold start (R196, R197) -/

/-- A cold start before the supply monitor is read. -/
def State.coldBegun (s : State) : State := (s.coldBase.raise .positionUnknown).releaseByHandles

theorem State.coldBegun_form :
    s.coldBegun
      = (s.coldBase.setFaults (s.coldBase.faults.occur s.straps.strict .positionUnknown)).setDoors s.coldBegun.doors := by
  have hraise : s.coldBase.raise .positionUnknown
      = s.coldBase.setFaults (s.coldBase.faults.occur s.straps.strict .positionUnknown) := raise_of_classC rfl
  rw [State.coldBegun, hraise]
  exact releaseByHandles_eq

/-- What a cold start leaves, whether or not the supply is warned. -/
structure State.ColdStarted (now : Nat) (levels : Levels) (straps : Straps) (t : State) : Prop where
  pins : t.pins.levels = levels
  copy : t.straps = straps
  life : t.station.life = .joining
  phase : t.line.phase = .listening
  listen : t.line.listenTimer = some now
  senseA : t.line.senseA.filtered = levels.senseA
  senseB : t.line.senseB.filtered = levels.senseB
  own : t.line.own = none
  full : t.brake.outputsFull
  applied : t.brake.applied = true
  standstill : t.rack.standstill = true
  mass : t.doors.mass = 18000 + straps.tare.toNat * 100
  limit : t.speed.localLimit = 0
  derated : ∀ p : Pinion, (t.brake.pinions.get p).derated = 20000 + straps.pinionNom.toNat * 5000
  unknown : t.present .positionUnknown = true
  status : t.radio.status = if straps.radio = true ∧ straps.radioAddr ≠ 0 ∧ straps.radioAddr ≠ 255 then .lost else .notFitted
  doors : t.doorsBegun levels now
  quiet : t.present .doorTimeout = false ∧ t.present .doorObstructed = false ∧ t.present .doorForced = false
    ∧ t.present .loadSensor = false

theorem startRadio_status_eq {window : List Byte} :
    (startRadio now straps window).status
      = if straps.radio = true ∧ straps.radioAddr ≠ 0 ∧ straps.radioAddr ≠ 255 then .lost else .notFitted := by
  have hfitted : straps.radioFitted = true ↔ straps.radio = true ∧ straps.radioAddr ≠ 0 ∧ straps.radioAddr ≠ 255 := by
    simp [Straps.radioFitted, and_assoc]
  exact if_congr hfitted rfl rfl

theorem State.coldBase_present (hk : k ≠ .positionUnknown) :
    (s.coldBase.setFaults (s.coldBase.faults.occur s.straps.strict .positionUnknown)).present k = false :=
  (s.coldBase.faults.present_occur_of_ne _ hk).trans (by simp [State.coldBase, State.blank, State.reset, Faults.present, Faults.initial])

theorem State.coldBegun_started (hlevels : s.pins.levels = levels) :
    s.coldBegun.ColdStarted s.clock levels s.straps := by
  have hraise : s.coldBase.raise .positionUnknown
      = s.coldBase.setFaults (s.coldBase.faults.occur s.straps.strict .positionUnknown) := raise_of_classC rfl
  have hbegun : s.coldBegun.doorsBegun levels s.clock := by
    rw [State.coldBegun, hraise]
    exact releaseByHandles_doorsBegun (mass := s.straps.tareKg + 8000) (hlevels ▸ rfl) hlevels rfl rfl rfl
  have hmass : s.coldBegun.doors.mass = s.straps.tareKg + 8000 := by
    rw [State.coldBegun, hraise]
    exact releaseByHandles_others.2.2
  have hpresent (k : FaultKind) : s.coldBegun.present k
      = (s.coldBase.setFaults (s.coldBase.faults.occur s.straps.strict .positionUnknown)).present k := by
    rw [coldBegun_form]
    rfl
  refine ⟨?_, ?_, ?_, ?_, ?_, ?_, ?_, ?_, ?_, ?_, ?_, ?_, ?_, fun p => ?_, ?_, ?_, hbegun, ?_⟩
  · rw [coldBegun_form]
    exact hlevels
  · rw [coldBegun_form]
    rfl
  · rw [coldBegun_form]
    rfl
  · rw [coldBegun_form]
    rfl
  · rw [coldBegun_form]
    rfl
  · rw [coldBegun_form, ← hlevels]
    rfl
  · rw [coldBegun_form, ← hlevels]
    rfl
  · rw [coldBegun_form]
    rfl
  · rw [coldBegun_form]
    exact ⟨rfl, rfl, rfl⟩
  · rw [coldBegun_form]
    rfl
  · rw [coldBegun_form]
    rfl
  · rw [hmass, Straps.tareKg]
    omega
  · rw [coldBegun_form]
    rfl
  · rw [coldBegun_form]
    cases p <;> exact deratedCapacity_cool (Nat.zero_le _)
  · rw [hpresent]
    exact s.coldBase.faults.present_occur_self _ _
  · rw [coldBegun_form]
    exact startRadio_status_eq (now := s.clock) (straps := s.straps) (window := [])
  · rw [hpresent, hpresent, hpresent, hpresent]
    exact ⟨coldBase_present (by decide), coldBase_present (by decide), coldBase_present (by decide),
      coldBase_present (by decide)⟩

/-! ## A cold start under a warned supply (R192, R198) -/

theorem Brake.latched_of_idle {b : Brake} (h : b.proof.state ≠ .running) :
    b.latched = { b.allFull with latch := true, releasePending := false } := by
  rw [Brake.latched, Brake.abort_of_idle _ h]

/-- The brake with the own pull, the latch and every output FULL. -/
def Brake.stopped (b : Brake) : Brake := { b.allFull with ownPull := true, latch := true, releasePending := false }

theorem State.setLatch_of_held (hlatch : s.brake.latch = false) (happlied : s.brake.applied = true) :
    s.setLatch = (s.setBrake s.brake.latched).lowerLimit 0 := by
  have hlatched : s.brake.latched.applied = true := by
    rw [Brake.latched]
    unfold Brake.abort
    split <;> exact happlied
  have hheld : (s.setBrake s.brake.latched).applyHolding = s.setBrake s.brake.latched := applyHolding_of_held hlatched
  rw [setLatch_of_clear hlatch, hheld, ite_self]

theorem State.placeAlert_of_silent (h : s.line.own = none) : s.placeAlert k = s := by rw [State.placeAlert, h]

/-- The own pull of a held car without a number and without a running test. -/
theorem State.assertPull_of_held
    (hbrake : s.brake.ownPull = false ∧ s.brake.latch = false ∧ s.brake.applied = true ∧ s.brake.proof.state ≠ .running)
    (hown : s.line.own = none) : s.assertPull k = (s.setBrake s.brake.stopped).lowerLimit 0 := by
  obtain ⟨hpull, hlatch, happlied, hidle⟩ := hbrake
  have hset := setLatch_of_held (s := s.pulling) hlatch happlied
  have hlatched : s.pulling.brake.latched = s.brake.stopped := Brake.latched_of_idle (b := s.pulling.brake) hidle
  have hnone : s.pulling.setLatch.line.own = none := by
    rw [setLatch_line]
    exact hown
  rw [assertPull_of_free hpull, placeAlert_of_silent hnone, hset, hlatched]
  rfl

/-- SUPPLY_FAIL there, with no released side. -/
theorem State.raise_supplyFail_held (habsent : s.present .supplyFail = false) (hunreleased : s.unreleased)
    (hbrake : s.brake.ownPull = false ∧ s.brake.latch = false ∧ s.brake.applied = true ∧ s.brake.proof.state ≠ .running)
    (hown : s.line.own = none) :
    s.raise .supplyFail
      = (((s.recordOccurrence .supplyFail).setBrake s.brake.stopped).lowerLimit 0).lowerLimit 0 := by
  have hkept : (s.recordOccurrence .supplyFail).brake = s.brake := rfl
  have hpulled := assertPull_of_held (s := s.recordOccurrence .supplyFail) (k := .supplyFail) (hkept ▸ hbrake) hown
  rw [hkept] at hpulled
  have hdoors : ((((s.recordOccurrence .supplyFail).setBrake s.brake.stopped).lowerLimit 0).lowerLimit 0).doors = s.doors := by
    simp
  rw [raise_of_classA rfl habsent, hpulled]
  refine retestPermits_of_unreleased fun side => ?_
  rw [hdoors]
  exact hunreleased side

/-- What a cold start begins with, that the controlled stop reads. -/
theorem State.coldBegun_quiet :
    s.coldBegun.present .supplyFail = false ∧ s.coldBegun.unreleased
      ∧ (s.coldBegun.brake.ownPull = false ∧ s.coldBegun.brake.latch = false ∧ s.coldBegun.brake.applied = true
        ∧ s.coldBegun.brake.proof.state ≠ .running)
      ∧ s.coldBegun.line.own = none ∧ s.coldBegun.station.storing = false ∧ s.coldBegun.store = s.store
      ∧ s.coldBegun.pins = s.pins := by
  have hraise : s.coldBase.raise .positionUnknown
      = s.coldBase.setFaults (s.coldBase.faults.occur s.straps.strict .positionUnknown) := raise_of_classC rfl
  have hsides : s.coldBegun.unreleased := by
    obtain ⟨hA, hB, -⟩ := releaseByHandles_others
      (s := s.coldBase.setFaults (s.coldBase.faults.occur s.straps.strict .positionUnknown))
    intro side
    rw [State.coldBegun, hraise]
    cases side
    · exact hA
    · exact hB
  refine ⟨?_, hsides, ?_, ?_, ?_, ?_, ?_⟩
  · rw [coldBegun_form]
    exact coldBase_present (by decide)
  · rw [coldBegun_form]
    exact ⟨rfl, rfl, rfl, nofun⟩
  · rw [coldBegun_form]
    rfl
  · rw [coldBegun_form]
    rfl
  · simp [State.coldBegun, State.coldBase, State.blank]
  · simp [State.coldBegun, State.coldBase, State.blank]

/-- The state of a cold start with the controlled stop begun. -/
def State.stopForm (s : State) : State :=
  (((((s.recordOccurrence .supplyFail).setBrake s.brake.stopped).lowerLimit 0).lowerLimit 0).setStation
    { s.station with storing := true }).setStore { s.store with valid := true }

theorem State.coldBegun_beginStop : s.coldBegun.beginStop = s.coldBegun.stopForm := by
  obtain ⟨habsent, hsides, hbrake, hown, -⟩ := coldBegun_quiet (s := s)
  rw [State.beginStop, raise_supplyFail_held habsent hsides hbrake hown]
  rfl

theorem State.stopForm_stands :
    s.stopForm.pins = s.pins ∧ s.stopForm.straps = s.straps ∧ s.stopForm.line = s.line ∧ s.stopForm.rack = s.rack
      ∧ s.stopForm.doors = s.doors ∧ s.stopForm.radio = s.radio ∧ s.stopForm.brake = s.brake.stopped
      ∧ s.stopForm.station = { s.station with storing := true } ∧ s.stopForm.store = { s.store with valid := true }
      ∧ s.stopForm.faults = (s.recordOccurrence .supplyFail).faults ∧ s.stopForm.speed.localLimit = 0 := by
  have hstore : s.stopForm.store = { s.store with valid := true } := by simp [State.stopForm]
  have hstraps : s.stopForm.straps = s.straps := by
    rw [State.straps, hstore]
    rfl
  refine ⟨?_, hstraps, ?_, ?_, ?_, ?_, ?_, ?_, hstore, ?_, Nat.le_zero.mp (Nat.min_le_right _ _)⟩ <;>
    simp [State.stopForm]

theorem State.stopForm_present (hk : k ≠ .supplyFail) : s.stopForm.present k = s.present k :=
  (present_congr stopForm_stands.2.2.2.2.2.2.2.2.2.1 k).trans (present_recordOccurrence_of_ne hk)

theorem State.stopForm_supplyFail : s.stopForm.present .supplyFail = true :=
  (present_congr stopForm_stands.2.2.2.2.2.2.2.2.2.1 _).trans (present_recordOccurrence_self _)

/-- The stop leaves a cold start as it was, but for the emergency. -/
theorem State.ColdStarted.stopForm (h : s.ColdStarted now levels straps) : s.stopForm.ColdStarted now levels straps := by
  obtain ⟨hpins, hcopy, hline, hrack, hdoors, hradio, hbrake, hstation, -, -, hlimit⟩ := stopForm_stands (s := s)
  refine ⟨?_, hcopy.trans h.copy, ?_, ?_, ?_, ?_, ?_, ?_, ?_, ?_, ?_, ?_, hlimit, fun p => ?_, ?_, ?_,
    doorsBegun_congr h.doors hdoors, ?_⟩
  · rw [hpins, h.pins]
  · rw [hstation, ← h.life]
  · rw [hline, h.phase]
  · rw [hline, h.listen]
  · rw [hline, h.senseA]
  · rw [hline, h.senseB]
  · rw [hline, h.own]
  · rw [hbrake]
    exact ⟨rfl, rfl, rfl⟩
  · rw [hbrake, ← h.applied]
    rfl
  · rw [hrack, h.standstill]
  · rw [hdoors, h.mass]
  · rw [hbrake, ← h.derated p]
    cases p <;> rfl
  · rw [stopForm_present (by decide), h.unknown]
  · rw [hradio, h.status]
  · rw [stopForm_present (by decide), stopForm_present (by decide), stopForm_present (by decide),
      stopForm_present (by decide)]
    exact h.quiet

theorem State.ColdStarted.keepStore (h : s.ColdStarted now levels straps) : s.keepStore.ColdStarted now levels straps := by
  unfold State.keepStore
  split
  · obtain ⟨hpins, hcopy, hlife, hphase, hlisten, hA, hB, hown, hfull, happlied, hstill, hmass, hlimit, hderated, hunknown,
      hstatus, hdoors, hquiet⟩ := h
    exact ⟨hpins, hcopy, hlife, hphase, hlisten, hA, hB, hown, hfull, happlied, hstill, hmass, hlimit, hderated, hunknown,
      hstatus, doorsBegun_congr hdoors rfl, hquiet⟩
  · exact h

/-! ## Both starts -/

theorem exec_strapsRead_cold (h : s.station.life = .cold) :
    exec (.strapsRead m straps levels) s = .next ((s.atMoment m).strapped straps levels).coldStart.keepStore :=
  congrArg Host.Outcome.next (if_pos h)

theorem State.coldStart_of_good (h : s.pins.levels.supplyWarn = false) : s.coldStart = s.coldBegun := by
  have hpins := (coldBegun_quiet (s := s)).2.2.2.2.2.2
  rw [coldStart_eq, ← State.coldBegun, State.stopIfWarned, hpins, h]
  rfl

theorem State.coldStart_of_warned (h : s.pins.levels.supplyWarn = true) : s.coldStart = s.coldBegun.stopForm := by
  have hpins := (coldBegun_quiet (s := s)).2.2.2.2.2.2
  rw [coldStart_eq, ← State.coldBegun, State.stopIfWarned, hpins, h, ← coldBegun_beginStop]
  rfl

/-- The state that STRAPS_READ takes its cold start from. -/
theorem State.strapped_stands :
    ((s.atMoment m).strapped straps levels).pins.levels = levels
      ∧ ((s.atMoment m).strapped straps levels).clock = s.instant m
      ∧ ((s.atMoment m).strapped straps levels).straps = straps
      ∧ ((s.atMoment m).strapped straps levels).store
        = { s.store with straps := straps, check := storeCheck straps s.store.items } := by
  refine ⟨?_, ?_, ?_, ?_⟩ <;> simp [State.strapped, Store.writeStraps, State.straps]

theorem State.supplied_stands :
    ((s.atMoment m).supplied levels).pins.levels = levels
      ∧ ((s.atMoment m).supplied levels).clock = s.instant m
      ∧ ((s.atMoment m).supplied levels).store = { s.store with valid := false } := by
  refine ⟨?_, ?_, ?_⟩ <;> simp [State.supplied]

/-! ## The conditions of a warm restart (R14, R124, R181, R195) -/

/-- The fault manager that a warm restart begins with, its reports made. -/
def restartedFaults (strict : Bool) (items : Retained) : Faults :=
  ((((Faults.restored items.faults).occur strict .positionUnknown).noteIf
      (decide (12000000 ≤ items.energies.p1 ∨ 12000000 ≤ items.energies.p2)) strict .brakeFade).noteIf
    (items.failed.p1 || items.failed.p2) strict .pinionFailed).noteIf items.restrictions.overflow.isSome strict
      .restrictionOverflow

theorem State.warmBase_restartFaults :
    (s.warmBase n).restartFaults = restartedFaults s.straps.strict s.store.items := by
  have hfade : ((s.warmBase n).brake.pinions.p1.fade || (s.warmBase n).brake.pinions.p2.fade)
      = decide (12000000 ≤ s.store.items.energies.p1 ∨ 12000000 ≤ s.store.items.energies.p2) := (Bool.decide_or _ _).symm
  rw [State.restartFaults, hfade]
  rfl

theorem restartedFaults_present (strict : Bool) (items : Retained) :
    let f := restartedFaults strict items
    f.present .positionUnknown = true ∧ f.present .pinionFailed = (items.failed.p1 || items.failed.p2)
      ∧ f.present .restrictionOverflow = items.restrictions.overflow.isSome
      ∧ f.present .brakeFade = decide (12000000 ≤ items.energies.p1 ∨ 12000000 ≤ items.energies.p2)
      ∧ ∀ k, k ≠ .positionUnknown → k ≠ .pinionFailed → k ≠ .restrictionOverflow → k ≠ .brakeFade → f.present k = false := by
  intro f
  have hother (k : FaultKind) (h : k ≠ .positionUnknown) :
      ((Faults.restored items.faults).occur strict .positionUnknown).present k = false :=
    (Faults.present_occur_of_ne _ _ h).trans (Faults.restored_present _ k)
  unfold f restartedFaults
  refine ⟨?_, ?_, ?_, ?_, fun k hknown hfailed hoverflow hfade => ?_⟩
  · rw [Faults.noteIf_present_of_ne (by decide), Faults.noteIf_present_of_ne (by decide),
      Faults.noteIf_present_of_ne (by decide)]
    exact Faults.present_occur_self _ _ _
  · rw [Faults.noteIf_present_of_ne (by decide), Faults.noteIf_present_self, Faults.noteIf_present_of_ne (by decide),
      hother _ (by decide), Bool.or_false]
  · rw [Faults.noteIf_present_self, Faults.noteIf_present_of_ne (by decide), Faults.noteIf_present_of_ne (by decide),
      hother _ (by decide), Bool.or_false]
  · rw [Faults.noteIf_present_of_ne (by decide), Faults.noteIf_present_of_ne (by decide), Faults.noteIf_present_self,
      hother _ (by decide), Bool.or_false]
  · rw [Faults.noteIf_present_of_ne hoverflow, Faults.noteIf_present_of_ne hfailed, Faults.noteIf_present_of_ne hfade,
      hother _ hknown]

/-- A retained class A or B record comes back with its count. -/
theorem restartedFaults_tracks {strict : Bool} {items : Retained} (h : r ∈ items.faults) (hr : r.cls ≠ .c)
    (hk : r.kind ≠ .positionUnknown) : (restartedFaults strict items).tracks r :=
  Faults.noteIf_tracks hr (Faults.noteIf_tracks hr (Faults.noteIf_tracks hr
    (Faults.recorded_tracks_of_ne hr hk (Faults.restored_tracks h))))

/-- Settles O60: both starts. -/
theorem startsTakeStoreOrStraps : Obligations.StartsTakeStoreOrStraps := by
  intro m straps levels flips s
  refine ⟨fun hoff => ?_, fun hcold => ?_⟩
  · by_cases hresumes : ∃ n, s.resumes flips n
    · obtain ⟨n, hwarm⟩ := hresumes
      obtain ⟨hlevels, hclock, hstore⟩ := State.supplied_stands (s := s) (m := m) (levels := levels)
      have hstraps : ((s.atMoment m).supplied levels).straps = s.straps := by rw [State.straps, hstore]; rfl
      have hitems : ((s.atMoment m).supplied levels).store.items = s.store.items := by rw [hstore]
      have hresumed := State.warmStart_resumed (n := n) hlevels
      obtain ⟨hpins, hkept, hrack, hlimit, hfaults⟩ := State.warmStart_blocks (b := (s.atMoment m).supplied levels) (n := n)
      rw [hclock, hstraps, hitems] at hresumed
      rw [hstore] at hkept
      rw [hclock] at hrack
      rw [State.warmBase_restartFaults, hstraps, hitems] at hfaults
      have hpresent (k : FaultKind) : (((s.atMoment m).supplied levels).warmStart n).present k
          = (restartedFaults s.straps.strict s.store.items).present k := by rw [State.present, hfaults]
      obtain ⟨hunknown, hfailed, hoverflow, hfade, hquiet⟩ := restartedFaults_present s.straps.strict s.store.items
      obtain ⟨hown, hvalid, hcheck⟩ := hwarm
      refine ⟨_, exec_powerOn_warm hoff ⟨hown, hvalid, hcheck⟩, by rw [hpins, hlevels], by rw [hkept], ?_, by rw [hkept], ?_, ?_,
        ?_, ?_, hlimit, ?_, ?_⟩
      · rw [State.straps, hkept]
        rfl
      · rw [hresumed.brake]
        exact ⟨rfl, rfl, rfl⟩
      · rw [hresumed.brake]
        rfl
      · rw [hrack]
        rfl
      · rw [hrack]
        rfl
      · rintro (h | h | h)
        · exact absurd (h.symm.trans hvalid) nofun
        · exact absurd (h.symm.trans hown) nofun
        · exact absurd hcheck h
      · intro n' hn' _ _
        obtain rfl : n = n' := Option.some.inj (hown.symm.trans hn')
        refine ⟨hresumed.life, hresumed.own, hresumed.phase, hresumed.rejoin, hresumed.join, ?_, fun i hi => ?_, fun p => ?_,
          ?_, ?_, fun hw => ?_, fun hw => ?_, fun p hw => ?_, ?_, hresumed.window, hresumed.mass, hresumed.doors, ?_, ?_, ?_,
          ?_, fun k h1 h2 h3 h4 => ?_, ?_, fun r hr hcls hk => ?_⟩
        · rw [hresumed.peers, restartPeers_get]
          exact restartPeer_own hown
        · rw [hresumed.peers, restartPeers_get]
          exact restartPeer_other hown hi
        · rw [hresumed.brake]
          cases p
          · exact started_derated s.straps s.store.items.energies.p1 s.store.items.failed.p1
          · exact started_derated s.straps s.store.items.energies.p2 s.store.items.failed.p2
        · rw [hresumed.brake]
          rfl
        · rw [hresumed.brake]
          rfl
        · rw [hresumed.engagement]
          exact Window.restarted_of_ne hw
        · rw [hresumed.engagement]
          exact Window.restarted_of_ne hw
        · rw [hresumed.engagement]
          cases p
          · exact Window.restarted_of_sweeping hw
          · exact Window.restarted_of_sweeping hw
        · rw [hresumed.restrictions]
          rfl
        · rw [hpresent, hunknown]
        · rw [hpresent, hfailed]
        · rw [hpresent, hoverflow]
        · rw [hpresent, hfade]
        · rw [hpresent, hquiet k h1 h2 h3 h4]
        · dsimp only
          rw [hpresent, hpresent, hpresent, hfade, hfailed, hoverflow, hfaults]
          rfl
        · obtain ⟨q, hq, hkind, hclass, hcount, hactive⟩ := restartedFaults_tracks (strict := s.straps.strict) hr hcls hk
          rw [hfaults]
          refine ⟨q, hq, hkind, hclass, hcount, fun _ => ?_⟩
          rw [hactive, hpresent]
    · have hnone : ∀ n, ¬s.resumes flips n := fun n h => hresumes ⟨n, h⟩
      obtain ⟨hpins, hvalid, hstraps, hitems, hfull, happlied, hstill, hknown, hlimit, hlife, htable, hown⟩ :=
        State.blankCold_stands (s := s) (m := m) (levels := levels)
      exact ⟨_, exec_powerOn_cold hoff hnone, hpins, hvalid, hstraps, hitems, hfull, happlied, hstill, hknown, hlimit,
        fun _ => ⟨hlife, htable, hown⟩, fun n hn hv hc => absurd ⟨hn, hv, hc⟩ (hnone n)⟩
  · obtain ⟨hlevels, hclock, hstraps, hstore⟩ := State.strapped_stands (s := s) (m := m) (straps := straps) (levels := levels)
    have hbegun := State.coldBegun_started hlevels
    rw [hclock, hstraps] at hbegun
    obtain ⟨-, -, ⟨-, hlatch, -⟩, -, hidle, hkept, -⟩ := State.coldBegun_quiet (s := (s.atMoment m).strapped straps levels)
    rw [hstore] at hkept
    cases hwarned : levels.supplyWarn with
    | false =>
      have hexec := exec_strapsRead_cold (m := m) (straps := straps) (levels := levels) hcold
      rw [State.coldStart_of_good (by rw [hlevels, hwarned]), State.keepStore_of_idle hidle] at hexec
      refine ⟨_, hexec, hbegun.pins, hbegun.copy, hbegun.life, hbegun.phase, hbegun.listen, hbegun.senseA, hbegun.senseB,
        hbegun.own, hbegun.full, hbegun.applied, hbegun.standstill, hbegun.mass, hbegun.limit, hbegun.derated, hbegun.unknown,
        hbegun.status, hbegun.doors, hbegun.quiet.1, hbegun.quiet.2.1, hbegun.quiet.2.2.1, hbegun.quiet.2.2.2, ?_, nofun,
        fun _ => ⟨hlatch, hidle, hkept⟩⟩
      rw [hkept]
    | true =>
      have hexec := exec_strapsRead_cold (m := m) (straps := straps) (levels := levels) hcold
      rw [State.coldStart_of_warned (by rw [hlevels, hwarned])] at hexec
      obtain ⟨-, -, -, -, -, -, hbrake, hstation, hstored, -, -⟩ :=
        State.stopForm_stands (s := ((s.atMoment m).strapped straps levels).coldBegun)
      have hstarted := hbegun.stopForm.keepStore
      have hwritten := State.keepStore_kept (s := ((s.atMoment m).strapped straps levels).coldBegun.stopForm)
        (by rw [hstation])
      refine ⟨_, hexec, hstarted.pins, hstarted.copy, hstarted.life, hstarted.phase, hstarted.listen, hstarted.senseA,
        hstarted.senseB, hstarted.own, hstarted.full, hstarted.applied, hstarted.standstill, hstarted.mass, hstarted.limit,
        hstarted.derated, hstarted.unknown, hstarted.status, hstarted.doors, hstarted.quiet.1, hstarted.quiet.2.1,
        hstarted.quiet.2.2.1, hstarted.quiet.2.2.2, ?_, fun _ => ⟨?_, ?_, ?_⟩, nofun⟩
      · rw [hwritten, hstarted.copy]
      · rw [State.keepStore_present]
        exact State.stopForm_supplyFail
      · rw [State.keepStore_brake, hbrake]
        rfl
      · rw [hwritten, hstored]

end Sys2Proof.Machine
end

section
/-! SUPPORT. The speed evaluation: what it leaves of the sources, the reported speed and the timers (sections 1.1 and 1.3). -/

namespace Sys2Proof.Machine

variable {ps : List Part} {s t u v : State} {m : Moment} {j k : FaultKind} {q r : Rack} {now circumference : Nat}
  {disagree : Bool}

/-! ## Sources (R3) -/

/-- The rack after a speed evaluation. -/
def Rack.judged (now circumference : Nat) (disagree : Bool) (r : Rack) : Rack :=
  (r.formSpeeds now circumference).evaluateTimers now disagree

theorem State.evaluateSpeed_eq :
    s.evaluateSpeed = s.setRack (s.rack.judged s.clock s.straps.wheelCircumference (s.present .speedDisagree)) := rfl

/-- A source at an evaluation: its reference while it lives, and its speed decayed. -/
theorem source_decays {distance edge : Nat} (ref : Option Nat) :
    match ref with
    | none => liveReference now ref = none ∧ decayedSpeed edge distance (liveReference now ref) now = 0
    | some start =>
      if start + 2000000 ≤ now then
        liveReference now ref = none ∧ decayedSpeed edge distance (liveReference now ref) now = 0
      else
        liveReference now ref = some start ∧ (if (liveReference now ref).isSome then edge else 0) = edge
          ∧ decayedSpeed edge distance (liveReference now ref) now
            = if now ≤ start then edge else min edge (distance / (now - start)) := by
  cases ref with
  | none => exact ⟨rfl, rfl⟩
  | some start =>
    dsimp only
    by_cases hrest : start + 2000000 ≤ now
    · have hgone : liveReference now (some start) = none := if_pos hrest
      rw [if_pos hrest, hgone]
      exact ⟨rfl, rfl⟩
    · have hlive : liveReference now (some start) = some start := if_neg hrest
      rw [if_neg hrest, hlive]
      refine ⟨rfl, rfl, ?_⟩
      have hzero : now - start = 0 ↔ now ≤ start := Nat.sub_eq_zero_iff_le
      exact if_congr hzero rfl rfl

theorem Rack.judged_toothDecays : r.toothDecays now (r.judged now circumference disagree) := by
  have h := source_decays (now := now) (distance := 100000000) (edge := r.toothEdgeSpeed) r.toothRef
  unfold Rack.toothDecays
  cases href : r.toothRef with
  | none =>
    rw [href] at h
    simp only [Rack.judged, Rack.formSpeeds, Rack.evaluateTimers, Rack.report, href]
    exact h
  | some start =>
    rw [href] at h
    simp only [Rack.judged, Rack.formSpeeds, Rack.evaluateTimers, Rack.report, href]
    exact h

theorem Rack.judged_wheelDecays : r.wheelDecays now circumference (r.judged now circumference disagree) := by
  have h := source_decays (now := now) (distance := circumference * 10000) (edge := r.wheelEdgeSpeed) r.wheelRef
  unfold Rack.wheelDecays
  cases href : r.wheelRef with
  | none =>
    rw [href] at h
    simp only [Rack.judged, Rack.formSpeeds, Rack.evaluateTimers, Rack.report, href]
    exact h
  | some start =>
    rw [href] at h
    simp only [Rack.judged, Rack.formSpeeds, Rack.evaluateTimers, Rack.report, href]
    exact h

/-! ## The reported speed and the timers (R6 to R9) -/

theorem Rack.agree_iff : r.agree = true ↔ 10 * (max r.toothSpeed r.wheelSpeed - min r.toothSpeed r.wheelSpeed)
    ≤ max r.toothSpeed r.wheelSpeed := by
  simp [Rack.agree, Rack.larger]

/-- The timers of an evaluation by the speeds it forms. -/
theorem Rack.evaluateTimers_evaluated (hsame : q.disagreeTimer = r.disagreeTimer ∧ q.agreeTimer = r.agreeTimer
      ∧ q.standstillTimer = r.standstillTimer ∧ q.standstill = r.standstill)
    (hreported : q.reported = if q.present then max q.toothSpeed q.wheelSpeed else q.wheelSpeed) :
    r.evaluated now disagree (q.evaluateTimers now disagree) := by
  obtain ⟨hdisagree, hagree, hstandstill, hstill⟩ := hsame
  refine ⟨hreported, ?_, ?_, ?_⟩
  · have hcond : (!disagree && q.present && decide (556 ≤ q.larger) && !q.agree) = true
        ↔ disagree = false ∧ q.present = true ∧ 556 ≤ max q.toothSpeed q.wheelSpeed
          ∧ max q.toothSpeed q.wheelSpeed < 10 * (max q.toothSpeed q.wheelSpeed - min q.toothSpeed q.wheelSpeed) := by
      rw [← Nat.not_le, ← agree_iff]
      simp [Rack.larger, and_assoc]
    rw [← hdisagree]
    exact if_congr hcond rfl rfl
  · have hcond : (disagree && q.agree) = true
        ↔ disagree = true ∧ 10 * (max q.toothSpeed q.wheelSpeed - min q.toothSpeed q.wheelSpeed)
          ≤ max q.toothSpeed q.wheelSpeed := by
      rw [Bool.and_eq_true, agree_iff]
    rw [← hagree]
    exact if_congr hcond rfl rfl
  · have hcond : (!q.standstill && decide (q.reported < 56)) = true ↔ r.standstill = false ∧ q.reported < 56 := by
      simp [hstill]
    rw [← hstandstill]
    exact if_congr hcond rfl rfl

theorem Rack.judged_evaluated : r.evaluated now disagree (r.judged now circumference disagree) :=
  evaluateTimers_evaluated ⟨rfl, rfl, rfl, rfl⟩ rfl

/-! ## What an evaluation reads and leaves -/

theorem Rack.toothDecays_congr {t : Rack} (href : r.toothRef = q.toothRef) (hedge : r.toothEdgeSpeed = q.toothEdgeSpeed) :
    r.toothDecays now t ↔ q.toothDecays now t := by
  rw [Rack.toothDecays, Rack.toothDecays, href, hedge]

theorem Rack.wheelDecays_congr {t : Rack} (href : r.wheelRef = q.wheelRef) (hedge : r.wheelEdgeSpeed = q.wheelEdgeSpeed) :
    r.wheelDecays now circumference t ↔ q.wheelDecays now circumference t := by
  rw [Rack.wheelDecays, Rack.wheelDecays, href, hedge]

theorem Rack.evaluated_congr {t : Rack} (hdisagree : r.disagreeTimer = q.disagreeTimer) (hagree : r.agreeTimer = q.agreeTimer)
    (hstandstill : r.standstillTimer = q.standstillTimer) (hstill : r.standstill = q.standstill) :
    r.evaluated now disagree t ↔ q.evaluated now disagree t := by
  rw [Rack.evaluated, Rack.evaluated, hdisagree, hagree, hstandstill, hstill]

theorem evaluateSpeed_onlyChanges : onlyChanges [.speedSources] s s.evaluateSpeed := by
  intro p
  cases p <;> simp [Part.same, State.evaluateSpeed, Rack.formSpeeds, Rack.evaluateTimers, Rack.report]

end Sys2Proof.Machine
end

section
/-! SUPPORT. O25: the grade sample, the ring with its counts, GRADE_SENSOR and the published grade (section 1.5). -/

namespace Sys2Proof.Machine

variable {ps : List Part} {s t u v : State} {m : Moment} {j k : FaultKind} {q r : Rack} {reading : Option Int} {x : Int}
  {ring : List Int} {orient : CarEnd}

/-! ## A sample in the ring (R15) -/

theorem enterRing_of_room (h : ring.length < 16) : enterRing ring x = ring ++ [x] := by
  rw [enterRing, show ring.length + 1 - 16 = 0 by omega, List.drop_zero]

theorem enterRing_of_full (h : ring.length = 16) : enterRing ring x = ring.tail ++ [x] := by
  rw [enterRing, h, List.drop_append_of_le_length (by omega), ← List.drop_one]

/-- The sample of a reading, by the end of the car the sensor looks from. -/
def sampleOf (orient : CarEnd) (reading : Option Int) : Option Int :=
  reading.map fun raw => if orient = .endA then raw else -raw

theorem gradeSample_eq (raw : Int) : gradeSample orient raw = if orient = .endA then raw else -raw := by
  cases orient <;> rfl

theorem validSample_eq :
    validSample orient reading = (sampleOf orient reading).filter fun g => decide (-600 ≤ g ∧ g ≤ 600) := by
  cases reading with
  | none => rfl
  | some raw =>
    simp only [validSample, sampleOf, gradeSample_eq, Option.map_some]
    by_cases h : -600 ≤ (if orient = .endA then raw else -raw) ∧ (if orient = .endA then raw else -raw) ≤ 600
    · simp [h, Option.filter]
    · simp [h, Option.filter]

theorem validSample_of_valid (h : x ∈ sampleOf orient reading) (hx : -600 ≤ x ∧ x ≤ 600) :
    validSample orient reading = some x := by
  have h : sampleOf orient reading = some x := h
  rw [validSample_eq, h]
  simp [Option.filter, hx]

theorem validSample_of_invalid (h : ∀ g ∈ sampleOf orient reading, g < -600 ∨ 600 < g) :
    validSample orient reading = none := by
  rw [validSample_eq]
  cases hsample : sampleOf orient reading with
  | none => rfl
  | some g =>
    have hg := h g hsample
    rw [Option.filter_some, if_neg]
    rw [decide_eq_true_eq]
    omega

/-! ## GRADE_SENSOR and the published grade (R16, R17) -/

/-- The state with the sample in its filter. -/
def State.sampled (reading : Option Int) (s : State) : State :=
  s.setRack { s.rack.sample (validSample s.straps.orient reading) with sampleStart := s.clock }

/-- The effect of the expiry. -/
def State.gradeSampled (reading : Option Int) (s : State) : State :=
  (((s.sampled reading).reformGradeSensor s.rack).publishGrade).evaluateSpeed

theorem exec_gradeSampleExpiry_due (hrun : s.running = true) (hdue : s.rack.sampleStart + ms 10 ≤ s.instant m) :
    exec (.gradeSampleExpiry m reading) s = .next ((s.atMoment m).gradeSampled reading).keepStore :=
  runCommand_due (timer := fun u => some u.rack.sampleStart) hrun (decide_eq_true hdue)

theorem State.reformGradeSensor_rack : (s.reformGradeSensor q).rack = s.rack := by
  unfold State.reformGradeSensor
  split
  · split <;> simp
  · split <;> simp

theorem State.reformGradeSensor_present (hj : j ≠ .gradeSensor) (hload : j ≠ .loadSensor) :
    (s.reformGradeSensor q).present j = s.present j := by
  unfold State.reformGradeSensor
  split
  · split
    · rfl
    · exact raise_present_of_ne hj hload
  · split
    · exact clear_present_of_ne hj hload
    · rfl

theorem State.setGrade_rack (g : Int) : (s.setGrade g).rack = { s.rack with grade := g } := by
  unfold State.setGrade
  split
  next h => rw [h]
  next => simp

theorem State.setGrade_present (g : Int) (hload : j ≠ .loadSensor) : (s.setGrade g).present j = s.present j := by
  unfold State.setGrade
  split
  · rfl
  · exact retestPermits_present (s := s.setRack { s.rack with grade := g }) hload

theorem repeatSum_eq : repeatSum ring = ring.sum := by
  rw [repeatSum, List.sum_eq_foldl]

theorem filteredGrade_spec :
    (filteredGrade ring).natAbs = min 500 ((ring.sum.natAbs + 15) / 16) ∧ (0 < ring.sum → 0 < filteredGrade ring)
      ∧ (ring.sum < 0 → filteredGrade ring < 0) := by
  rw [filteredGrade, repeatSum_eq]
  unfold clampInt
  split_ifs <;> omega

theorem worstGrade_eq (d : Direction) : worstGrade d = if d = .up then -500 else 500 := by cases d <;> rfl

/-- The published grade by the ring and GRADE_SENSOR. -/
def State.gradeNow (s : State) : Int :=
  if s.gradeWorst then worstGrade s.rack.lastWheelDir else filteredGrade s.rack.ring

theorem Rack.sample_sources (x : Option Int) :
    ((r.sample x).toothRef = r.toothRef ∧ (r.sample x).toothEdgeSpeed = r.toothEdgeSpeed)
      ∧ ((r.sample x).wheelRef = r.wheelRef ∧ (r.sample x).wheelEdgeSpeed = r.wheelEdgeSpeed)
      ∧ ((r.sample x).disagreeTimer = r.disagreeTimer ∧ (r.sample x).agreeTimer = r.agreeTimer)
      ∧ ((r.sample x).standstillTimer = r.standstillTimer ∧ (r.sample x).standstill = r.standstill)
      ∧ (r.sample x).lastWheelDir = r.lastWheelDir := by
  cases x <;> exact ⟨⟨rfl, rfl⟩, ⟨rfl, rfl⟩, ⟨rfl, rfl⟩, ⟨rfl, rfl⟩, rfl⟩

/-- The state with the sample taken and GRADE_SENSOR judged. -/
def State.gradeJudged (reading : Option Int) (s : State) : State := (s.sampled reading).reformGradeSensor s.rack

theorem State.gradeJudged_rack :
    (s.gradeJudged reading).rack
      = { s.rack.sample (validSample s.straps.orient reading) with sampleStart := s.clock } :=
  reformGradeSensor_rack

/-- The rack that the expiry leaves. -/
def State.sampledRack (reading : Option Int) (s : State) : Rack :=
  { s.rack.sample (validSample s.straps.orient reading) with
    sampleStart := s.clock, grade := (s.gradeJudged reading).gradeNow }

theorem reformGradeSensor_onlyChanges : onlyChanges Part.ofClassB s (s.reformGradeSensor q) := by
  unfold State.reformGradeSensor
  split
  · split
    · exact onlyChanges_refl _ _
    · exact raise_onlyChanges_ofClassB (k := .gradeSensor) nofun
  · split
    · exact clear_onlyChanges_ofClassB .gradeSensor
    · exact onlyChanges_refl _ _

theorem setGrade_onlyChanges (g : Int) : onlyChanges (Part.also Part.ofClassB [.gradeFilter]) s (s.setGrade g) := by
  unfold State.setGrade
  split
  · exact onlyChanges_refl _ _
  · have hgrade : onlyChanges (Part.also Part.ofClassB [.gradeFilter]) s (s.setRack { s.rack with grade := g }) := by
      intro p
      cases p <;> simp [Part.same, Part.also, Part.ofClassB]
    exact hgrade.trans ((retestPermits_onlyChanges _).mono (by decide)) rfl

theorem State.gradeJudged_stands :
    (s.gradeJudged reading).clock = s.clock ∧ (s.gradeJudged reading).straps = s.straps
      ∧ (s.gradeJudged reading).station = s.station := by
  have h : (s.gradeJudged reading).clock = s.clock ∧ (s.gradeJudged reading).store = s.store
      ∧ (s.gradeJudged reading).station = s.station := by
    unfold State.gradeJudged State.reformGradeSensor
    split
    · split <;> simp [State.sampled]
    · split <;> simp [State.sampled]
  exact ⟨h.1, straps_congr h.2.1, h.2.2⟩

theorem State.setGrade_stands (g : Int) :
    (s.setGrade g).clock = s.clock ∧ (s.setGrade g).straps = s.straps ∧ (s.setGrade g).station = s.station := by
  have h : (s.setGrade g).clock = s.clock ∧ (s.setGrade g).store = s.store ∧ (s.setGrade g).station = s.station := by
    unfold State.setGrade
    split <;> simp
  exact ⟨h.1, straps_congr h.2.1, h.2.2⟩

theorem State.gradeSampled_rack :
    (s.gradeSampled reading).rack
      = (s.sampledRack reading).judged s.clock s.straps.wheelCircumference (s.present .speedDisagree) := by
  obtain ⟨hclock, hstraps, -⟩ := gradeJudged_stands (s := s) (reading := reading)
  obtain ⟨hclock', hstraps', -⟩ := setGrade_stands (s := s.gradeJudged reading) (s.gradeJudged reading).gradeNow
  have hrack := setGrade_rack (s := s.gradeJudged reading) (s.gradeJudged reading).gradeNow
  have hpresent : ((s.gradeJudged reading).setGrade (s.gradeJudged reading).gradeNow).present .speedDisagree
      = s.present .speedDisagree :=
    (setGrade_present _ (by decide)).trans (reformGradeSensor_present (by decide) (by decide))
  have hfinal : s.gradeSampled reading
      = ((s.gradeJudged reading).setGrade (s.gradeJudged reading).gradeNow).evaluateSpeed := rfl
  rw [hfinal, evaluateSpeed_eq, hclock', hclock, hstraps', hstraps, hpresent, hrack, gradeJudged_rack]
  rfl

theorem State.gradeSampled_present :
    (s.gradeSampled reading).present .gradeSensor = (s.gradeJudged reading).present .gradeSensor :=
  setGrade_present (s := s.gradeJudged reading) (s.gradeJudged reading).gradeNow (by decide)

theorem gradeSampled_onlyChanges :
    onlyChanges (Part.also Part.ofClassB [.gradeFilter, .speedSources]) s (s.gradeSampled reading) := by
  have hsampled : onlyChanges (Part.also Part.ofClassB [.gradeFilter, .speedSources]) s (s.sampled reading) := by
    intro p
    obtain ⟨⟨h1, h2⟩, ⟨h3, h4⟩, ⟨h5, h6⟩, ⟨h7, h8⟩, h9⟩ := s.rack.sample_sources (validSample s.straps.orient reading)
    cases p <;> simp [Part.same, Part.also, Part.ofClassB, State.sampled]
    all_goals cases validSample s.straps.orient reading <;> simp [Rack.sample]
  have hjudged := hsampled.trans (reformGradeSensor_onlyChanges (q := s.rack) |>.mono (by decide)) rfl
  obtain ⟨-, -, hstation⟩ := State.gradeJudged_stands (s := s) (reading := reading)
  have hgraded := hjudged.trans ((setGrade_onlyChanges (s := s.gradeJudged reading)
    (s.gradeJudged reading).gradeNow).mono (by decide)) hstation
  exact hgraded.trans (evaluateSpeed_onlyChanges.mono (by decide)) ((State.setGrade_stands _).2.2.trans hstation)

/-- GRADE_SENSOR after a valid sample. -/
theorem State.gradeJudged_of_valid (h : validSample s.straps.orient reading = some x) (hcount : s.rack.validCount = 15) :
    (s.gradeJudged reading).present .gradeSensor = false := by
  have hrack : (s.sampled reading).rack.invalidCount = 0 ∧ (s.sampled reading).rack.validCount = 16 := by
    simp [State.sampled, h, Rack.sample, hcount]
  rw [State.gradeJudged, State.reformGradeSensor, if_neg (by simp [hrack.1]), if_pos (by simp [hrack.2, hcount])]
  exact clear_present_self _ _

theorem State.sampled_of_invalid (h : validSample s.straps.orient reading = none) :
    (s.sampled reading).rack.invalidCount = min 16 (s.rack.invalidCount + 1) ∧ (s.sampled reading).rack.validCount = 0 := by
  simp [State.sampled, h, Rack.sample]

/-- GRADE_SENSOR after an invalid sample: at the sixteenth in a row it becomes present. -/
theorem State.gradeJudged_of_invalid (h : validSample s.straps.orient reading = none) (hle : s.rack.invalidCount ≤ 16) :
    s.gradeJudged reading
      = if s.rack.invalidCount = 15 ∧ s.present .gradeSensor = false then (s.sampled reading).raise .gradeSensor
        else s.sampled reading := by
  obtain ⟨hinvalid, hvalid⟩ := sampled_of_invalid h
  have hsixteen : (s.sampled reading).rack.invalidCount = 16 ∧ s.rack.invalidCount ≠ 16 ↔ s.rack.invalidCount = 15 := by
    rw [hinvalid]
    omega
  have hpresent : (s.sampled reading).present .gradeSensor = s.present .gradeSensor := rfl
  rw [State.gradeJudged, State.reformGradeSensor]
  by_cases hcount : s.rack.invalidCount = 15
  · rw [if_pos (hsixteen.mpr hcount), hpresent]
    cases hflag : s.present .gradeSensor
    · rw [if_neg nofun, if_pos ⟨hcount, rfl⟩]
    · rw [if_pos rfl, if_neg (by simp)]
  · rw [if_neg (mt hsixteen.mp hcount), if_neg (by simp [hvalid]), if_neg fun hboth => hcount hboth.1]

/-- A class B kind that becomes present where no side is released. -/
theorem State.raise_of_unreleased (h : s.unreleased) (hclass : faultClassOf s.straps.strict k = .b)
    (habsent : s.present k = false) : s.raise k = (s.recordOccurrence k).lowerLimit 0 := by
  have hraise : s.raise k = ((s.recordOccurrence k).lowerLimit 0).retestPermits := by
    simp [State.raise, State.react, habsent, hclass]
  rw [hraise]
  exact retestPermits_of_unreleased h

theorem State.gradeSampled_faults (hsides : s.unreleased) (h : validSample s.straps.orient reading = none)
    (hle : s.rack.invalidCount ≤ 16) :
    (s.gradeSampled reading).faults
      = if s.rack.invalidCount = 15 ∧ s.present .gradeSensor = false then s.faults.occur s.straps.strict .gradeSensor
        else s.faults := by
  have hsampled : (s.sampled reading).unreleased := hsides
  have hgrade (u : State) (g : Int) (hu : u.unreleased) : (u.setGrade g).faults = u.faults := by
    unfold State.setGrade
    split
    · rfl
    · have hgraded : (u.setRack { u.rack with grade := g }).unreleased := hu
      rw [retestPermits_of_unreleased hgraded]
      rfl
  have hfinal : (s.gradeSampled reading).faults
      = ((s.gradeJudged reading).setGrade (s.gradeJudged reading).gradeNow).faults := rfl
  rw [hfinal]
  by_cases hcond : s.rack.invalidCount = 15 ∧ s.present .gradeSensor = false
  · have hjudged : s.gradeJudged reading = ((s.sampled reading).recordOccurrence .gradeSensor).lowerLimit 0 := by
      rw [gradeJudged_of_invalid h hle, if_pos hcond]
      exact raise_of_unreleased hsampled rfl hcond.2
    have hstill : (s.gradeJudged reading).unreleased := by
      rw [hjudged]
      exact hsides
    rw [hgrade _ _ hstill, hjudged, if_pos hcond]
    rfl
  · have hjudged : s.gradeJudged reading = s.sampled reading := by rw [gradeJudged_of_invalid h hle, if_neg hcond]
    rw [hgrade _ _ (hjudged ▸ hsampled), hjudged, if_neg hcond]
    rfl

/-- The published grade of the expiry. -/
theorem State.gradeNow_judged :
    ((s.gradeJudged reading).present .gradeSensor = true ∨ (s.gradeJudged reading).rack.ring.length < 16 →
      (s.gradeJudged reading).gradeNow = if s.rack.lastWheelDir = .up then -500 else 500)
      ∧ ((s.gradeJudged reading).present .gradeSensor = false → (s.gradeJudged reading).rack.ring.length = 16 →
        (s.gradeJudged reading).gradeNow = filteredGrade (s.gradeJudged reading).rack.ring) := by
  have hdir : (s.gradeJudged reading).rack.lastWheelDir = s.rack.lastWheelDir := by
    rw [gradeJudged_rack]
    exact (s.rack.sample_sources _).2.2.2.2
  refine ⟨fun h => ?_, fun hflag hring => ?_⟩
  · have hworst : (s.gradeJudged reading).gradeWorst = true := by simpa [State.gradeWorst] using h
    rw [State.gradeNow, if_pos hworst, worstGrade_eq, hdir]
  · have hworst : (s.gradeJudged reading).gradeWorst = false := by simp [State.gradeWorst, hflag, hring]
    rw [State.gradeNow, if_neg (Bool.eq_false_iff.mp hworst)]

/-- An evaluation leaves the grade filter. -/
theorem Rack.judged_filter {now circumference : Nat} {disagree : Bool} :
    (r.judged now circumference disagree).sampleStart = r.sampleStart
      ∧ (r.judged now circumference disagree).lastValid = r.lastValid
      ∧ (r.judged now circumference disagree).invalidCount = r.invalidCount
      ∧ (r.judged now circumference disagree).validCount = r.validCount
      ∧ (r.judged now circumference disagree).ring = r.ring ∧ (r.judged now circumference disagree).grade = r.grade :=
  ⟨rfl, rfl, rfl, rfl, rfl, rfl⟩

/-- The filter that the expiry leaves. -/
theorem State.sampledRack_filter :
    (s.sampledRack reading).sampleStart = s.clock
      ∧ (s.sampledRack reading).lastValid = (s.rack.sample (validSample s.straps.orient reading)).lastValid
      ∧ (s.sampledRack reading).invalidCount = (s.rack.sample (validSample s.straps.orient reading)).invalidCount
      ∧ (s.sampledRack reading).validCount = (s.rack.sample (validSample s.straps.orient reading)).validCount
      ∧ (s.sampledRack reading).ring = (s.rack.sample (validSample s.straps.orient reading)).ring
      ∧ (s.sampledRack reading).grade = (s.gradeJudged reading).gradeNow :=
  ⟨rfl, rfl, rfl, rfl, rfl, rfl⟩

theorem State.gradeSampled_decays :
    s.rack.toothDecays s.clock (s.gradeSampled reading).rack
      ∧ s.rack.wheelDecays s.clock s.straps.wheelCircumference (s.gradeSampled reading).rack
      ∧ s.rack.evaluated s.clock (s.present .speedDisagree) (s.gradeSampled reading).rack := by
  obtain ⟨⟨h1, h2⟩, ⟨h3, h4⟩, ⟨h5, h6⟩, ⟨h7, h8⟩, -⟩ := s.rack.sample_sources (validSample s.straps.orient reading)
  rw [gradeSampled_rack]
  exact ⟨(Rack.toothDecays_congr (r := s.sampledRack reading) h1 h2).mp Rack.judged_toothDecays,
    (Rack.wheelDecays_congr (r := s.sampledRack reading) h3 h4).mp Rack.judged_wheelDecays,
    (Rack.evaluated_congr (r := s.sampledRack reading) h5 h6 h7 h8).mp Rack.judged_evaluated⟩

theorem gradeSampled_station : (s.gradeSampled reading).station = s.station :=
  (State.setGrade_stands (s := s.gradeJudged reading) _).2.2.trans State.gradeJudged_stands.2.2

theorem Rack.sample_none_ring (hg : r.lastValid = some x) : (r.sample none).ring = enterRing r.ring x := by
  simp [Rack.sample, hg]

theorem Rack.sample_none_ring_empty (hg : r.lastValid = none) : (r.sample none).ring = r.ring := by
  simp [Rack.sample, hg]

/-- Settles O25: the sample, the sensor's condition, the published grade and the speed evaluation. -/
theorem gradeSampleFiltersGrade : Obligations.GradeSampleFiltersGrade := by
  intro m reading s hrun hdue hle sample
  have hrack : ((s.atMoment m).gradeSampled reading).keepStore.rack = ((s.atMoment m).gradeSampled reading).rack := by simp
  have hflag : ((s.atMoment m).gradeSampled reading).keepStore.present .gradeSensor
      = ((s.atMoment m).gradeJudged reading).present .gradeSensor := by
    rw [State.keepStore_present, State.gradeSampled_present]
  obtain ⟨hstart, hlast, hinvalidCount, hvalidCount, hring, hgrade⟩ :=
    State.sampledRack_filter (s := s.atMoment m) (reading := reading)
  obtain ⟨hstart', hlast', hinvalidCount', hvalidCount', hring', hgrade'⟩ :=
    Rack.judged_filter (r := (s.atMoment m).sampledRack reading) (now := (s.atMoment m).clock)
      (circumference := (s.atMoment m).straps.wheelCircumference) (disagree := (s.atMoment m).present .speedDisagree)
  rw [← State.gradeSampled_rack] at hstart' hlast' hinvalidCount' hvalidCount' hring' hgrade'
  have hjudgedRing : ((s.atMoment m).gradeJudged reading).rack.ring = ((s.atMoment m).gradeSampled reading).rack.ring := by
    rw [hring', hring, State.gradeJudged_rack]
  obtain ⟨hworst, hfiltered⟩ := State.gradeNow_judged (s := s.atMoment m) (reading := reading)
  rw [hjudgedRing] at hworst hfiltered
  obtain ⟨htooth, hwheel, hevaluated⟩ := State.gradeSampled_decays (s := s.atMoment m) (reading := reading)
  refine ⟨_, exec_gradeSampleExpiry_due hrun hdue, ?_⟩
  rw [hrack, hflag, hgrade', hgrade]
  refine ⟨hstart'.trans hstart, fun g hg hbounds => ?_, fun hinvalid => ?_, hworst, fun hclear hfull => ?_, htooth, hwheel,
    hevaluated, onlyChanges_of_effect gradeSampled_onlyChanges gradeSampled_station⟩
  · have hvalid : validSample (s.atMoment m).straps.orient reading = some g := validSample_of_valid hg hbounds
    rw [hvalid] at hlast hinvalidCount hvalidCount hring
    rw [hlast', hlast, hinvalidCount', hinvalidCount, hvalidCount', hvalidCount, hring', hring]
    exact ⟨rfl, rfl, rfl, enterRing_of_room, enterRing_of_full, fun hcount => State.gradeJudged_of_valid hvalid hcount⟩
  · have hnone : validSample (s.atMoment m).straps.orient reading = none := validSample_of_invalid hinvalid
    rw [hnone] at hlast hinvalidCount hvalidCount hring
    rw [hlast', hlast, hinvalidCount', hinvalidCount, hvalidCount', hvalidCount, hring', hring]
    refine ⟨rfl, rfl, rfl, fun hg => Rack.sample_none_ring_empty hg,
      fun g hg hfull => (Rack.sample_none_ring hg).trans (enterRing_of_full hfull),
      fun g hg hroom => (Rack.sample_none_ring hg).trans (enterRing_of_room hroom), fun hcount => ?_, fun hA hB => ?_⟩
    · rw [State.gradeJudged_of_invalid (s := s.atMoment m) hnone hle]
      split
      · exact State.raise_present_self _
      next hcond =>
        have hpresent : s.present .gradeSensor = true := by
          by_contra habsent
          exact hcond ⟨hcount, Bool.eq_false_iff.mpr habsent⟩
        exact hpresent
    · rw [State.keepStore_faults]
      exact State.gradeSampled_faults (s := s.atMoment m) (fun side => by cases side <;> assumption) hnone hle
  · rw [hfiltered hclear hfull]
    exact filteredGrade_spec

end Sys2Proof.Machine
end

section
/-! SUPPORT. Standstill left: the records and releases that go with it, and that what follows in the same command leaves
them gone (sections 1.3, 2.5, 7.2, 7.3 and 8.5). -/

namespace Sys2Proof.Machine

variable {ps : List Part} {s t u v : State} {m : Moment} {j k : FaultKind} {d e : DoorId} {r : Door} {now : Nat}
  {direction : Direction} {p : Pinion} {mon : PinionMonitor} {q : Rack}

/-! ## The doors as standstill is left (R129, R131, R135) -/

theorem Door.withdraw_eq : r.withdraw now = r.withoutRelease now := by
  unfold Door.withdraw Door.withoutRelease
  cases r.state <;> rfl

theorem State.latchIfClosed_get (was : DoorSummary) :
    (s.latchIfClosed was).doors.doors.get d = s.doors.doors.get d := by
  rw [(latchIfClosed_doors was).1]

theorem State.dropHandleReleases_get :
    s.dropHandleReleases.doors.doors.get d
      = if (s.doors.doors.get d).handleRelease = true ∧ s.doors.sideRelease (doorSide d) = false then
          Door.withdraw s.clock { s.doors.doors.get d with handleRelease := false }
        else { s.doors.doors.get d with handleRelease := false } := by
  rw [State.dropHandleReleases]
  dsimp only
  rw [latchIfClosed_get]
  refine (PerDoor.get_mapIdx _ _ _).trans ?_
  cases hhandle : (s.doors.doors.get d).handleRelease with
  | false =>
    rw [if_neg nofun, if_neg nofun]
    conv_lhs => rw [show s.doors.doors.get d = { s.doors.doors.get d with handleRelease := false } by rw [← hhandle]]
  | true =>
    cases hside : s.doors.sideRelease (doorSide d) <;> simp

theorem State.dropHandleReleases_sideRelease (side : CarSide) :
    s.dropHandleReleases.doors.sideRelease side = s.doors.sideRelease side := by
  rw [State.dropHandleReleases, latchIfClosed_sideRelease]
  cases side <;> rfl

theorem State.dropHandleReleases_stands :
    s.dropHandleReleases.rack = s.rack ∧ s.dropHandleReleases.clock = s.clock ∧ s.dropHandleReleases.radio = s.radio
      ∧ s.dropHandleReleases.engagement = s.engagement ∧ s.dropHandleReleases.station = s.station := by
  refine ⟨?_, ?_, ?_, ?_, ?_⟩ <;> simp

theorem State.permit_of_moving {side : LineSide} (h : s.rack.standstill = false) : s.permit side = false := by
  simp [State.permit, State.consistStandstill, h]

/-- The state as standstill is left, before the door announcements. -/
def State.moving (direction : Direction) (s : State) : State :=
  let s1 := (s.setRack { s.rack with standstill := false, movingDir := direction, standstillTimer := none }).monitorLeft
  s1.setRadio { s1.radio with platform := none }

theorem State.leaveStandstill_eq :
    s.leaveStandstill direction = (s.moving direction).dropHandleReleases.retestPermits := rfl

theorem State.leaveStandstill_rack :
    (s.leaveStandstill direction).rack = { s.rack with standstill := false, movingDir := direction, standstillTimer := none } := by
  rw [leaveStandstill_eq]
  simp [State.moving, State.monitorLeft]

theorem State.leaveStandstill_unreleased : (s.leaveStandstill direction).unreleased := by
  intro side
  have hmoving : (s.moving direction).dropHandleReleases.rack.standstill = false := by
    rw [dropHandleReleases_stands.1]
    rfl
  rw [leaveStandstill_eq, retestPermits_sideRelease, permit_of_moving hmoving, Bool.and_false]

theorem State.leaveStandstill_get :
    (s.leaveStandstill direction).doors.doors.get d
      = if s.doors.hasRelease d then Door.withoutRelease s.clock { s.doors.doors.get d with handleRelease := false }
        else { s.doors.doors.get d with handleRelease := false } := by
  have hmoving : (s.moving direction).dropHandleReleases.rack.standstill = false := by
    rw [dropHandleReleases_stands.1]
    rfl
  have hclock : (s.moving direction).dropHandleReleases.clock = s.clock := by
    rw [dropHandleReleases_stands.2.1]
    rfl
  have hdoors : (s.moving direction).doors = s.doors := rfl
  have hnow : (s.moving direction).clock = s.clock := rfl
  rw [leaveStandstill_eq, retestPermits_get, permit_of_moving hmoving, dropHandleReleases_sideRelease,
    dropHandleReleases_get, hclock, hdoors, hnow, Door.withdraw_eq, Door.withdraw_eq]
  cases hside : s.doors.sideRelease (doorSide d) with
  | true =>
    have hhas : s.doors.hasRelease d = true := by simp [DoorControl.hasRelease, hside]
    rw [if_pos hhas]
    cases hhandle : (s.doors.doors.get d).handleRelease <;> simp
  | false =>
    cases hhandle : (s.doors.doors.get d).handleRelease with
    | true =>
      have hhas : s.doors.hasRelease d = true := by simp [DoorControl.hasRelease, hhandle]
      rw [if_neg (by simp), if_pos ⟨rfl, rfl⟩, if_pos hhas]
    | false =>
      have hhas : s.doors.hasRelease d = false := by simp [DoorControl.hasRelease, hside, hhandle]
      rw [if_neg (by simp), if_neg (by simp), if_neg (by simp [hhas])]

theorem State.leaveStandstill_left : s.standstillLeft s.clock (s.leaveStandstill direction) := by
  have hradio : (s.leaveStandstill direction).radio.platform = none := by
    rw [leaveStandstill_eq]
    simp [State.moving]
  have hengagement : (s.leaveStandstill direction).engagement.climbOutHold = none
      ∧ (s.leaveStandstill direction).engagement.calibrationHold = none := by
    rw [leaveStandstill_eq]
    simp [State.moving, State.monitorLeft]
  exact ⟨hradio, hengagement.1, hengagement.2, leaveStandstill_unreleased .a, leaveStandstill_unreleased .b,
    fun d => leaveStandstill_get⟩

/-! ## What follows in a moving car -/

/-- The rack, the doors without a released side, the platform record and the hold timers stand in a moving car. -/
structure State.Adrift (s t : State) : Prop where
  rack : t.rack = s.rack
  doors : t.doors.doors = s.doors.doors
  sides : t.unreleased
  platform : t.radio.platform = s.radio.platform
  climbOut : t.engagement.climbOutHold = s.engagement.climbOutHold
  calibration : t.engagement.calibrationHold = s.engagement.calibrationHold

theorem State.Adrift.refl (h : s.unreleased) : s.Adrift s := ⟨rfl, rfl, h, rfl, rfl, rfl⟩

theorem State.Adrift.trans (h : s.Adrift t) (h' : t.Adrift u) : s.Adrift u :=
  ⟨h'.rack.trans h.rack, h'.doors.trans h.doors, h'.sides, h'.platform.trans h.platform, h'.climbOut.trans h.climbOut,
    h'.calibration.trans h.calibration⟩

theorem State.unreleased_congr (hdoors : t.doors = s.doors) (h : s.unreleased) : t.unreleased := fun side => by
  rw [hdoors]
  exact h side

/-- A change of other blocks leaves them. -/
theorem State.Adrift.of_stands (h : s.unreleased) (hrack : t.rack = s.rack) (hdoors : t.doors = s.doors)
    (hradio : t.radio = s.radio) (hclimb : t.engagement.climbOutHold = s.engagement.climbOutHold)
    (hcalibration : t.engagement.calibrationHold = s.engagement.calibrationHold) : s.Adrift t :=
  ⟨hrack, by rw [hdoors], unreleased_congr hdoors h, by rw [hradio], hclimb, hcalibration⟩

theorem State.setLatch_doors_of_moving (h : s.rack.standstill = false) : s.setLatch.doors = s.doors := by
  cases hlatch : s.brake.latch with
  | true => rw [setLatch_of_latched hlatch]
  | false =>
    rw [setLatch_of_clear hlatch, if_neg (by simp [h])]
    rfl

theorem State.assertPull_doors_of_moving (h : s.rack.standstill = false) : (s.assertPull k).doors = s.doors := by
  unfold State.assertPull
  split
  · rfl
  · exact placeAlert_stands.1.trans (setLatch_doors_of_moving (s := s.setBrake { s.brake with ownPull := true }) h)

theorem State.raise_adrift (h : s.unreleased) (hmoving : s.rack.standstill = false) (k : FaultKind) :
    s.Adrift (s.raise k) := by
  have hdoors : (s.raise k).doors = s.doors := by
    unfold State.raise
    split
    · rfl
    unfold State.react
    split
    · have hpulled : (((s.recordOccurrence k).assertPull k).lowerLimit 0).doors = s.doors :=
        assertPull_doors_of_moving (s := s.recordOccurrence k) hmoving
      rw [retestPermits_of_unreleased (unreleased_congr hpulled h), hpulled]
    · have hsides : ((s.recordOccurrence k).lowerLimit 0).unreleased := h
      rw [retestPermits_of_unreleased hsides]
      rfl
    · rfl
  exact .of_stands h (by simp) hdoors (by simp) (by simp) (by simp)

theorem State.clear_adrift (h : s.unreleased) (k : FaultKind) : s.Adrift (s.clear k) :=
  ⟨by simp, h.clear.1, h.clear.2, by simp, by simp, by simp⟩

theorem State.retest_adrift (h : s.unreleased) : s.Adrift s.retestPermits := by
  rw [retestPermits_of_unreleased h]
  exact .refl h

theorem State.afterMove_adrift (h : s.unreleased) (before : State) : s.Adrift (s.afterMove before) := by
  have hplaced : s.Adrift
      (if s.position ≠ before.position ∨ s.direction ≠ before.direction then s.evaluateRestrictions else s) := by
    split
    · exact .of_stands h (by simp) (by simp) (by simp) (by simp) (by simp)
    · exact .refl h
  unfold State.afterMove
  dsimp only
  split
  · exact hplaced.trans (retest_adrift hplaced.sides)
  · exact hplaced

theorem State.setMonitor_adrift (h : s.unreleased) : s.Adrift (s.setMonitor p mon) :=
  .of_stands h rfl rfl rfl rfl rfl

theorem State.reformSlip_adrift (h : s.unreleased) : s.Adrift s.reformSlip := by
  unfold State.reformSlip
  split
  · exact clear_adrift h _
  · exact .refl h

end Sys2Proof.Machine
end

section
/-! SUPPORT. Tooth edges and wheel pulses: the parts that the engagement monitor, the end of standstill and a proof test's
motion may change (sections 1.3, 2.4, 2.5 and 6.12). -/

namespace Sys2Proof.Machine

variable {ps : List Part} {s t u v : State} {m : Moment} {j k : FaultKind} {direction : Direction} {p sensor : Pinion}
  {mon : PinionMonitor} {phase : Option (Fin 32)} {bin : Fin 32}

/-! ## The engagement monitor -/

/-- The parts that a tooth event may change: a pinion's record, and the reports that follow. -/
def Part.ofTooth : List Part := Part.also Part.ofClassA [.monitors, .holdTimers]

theorem setMonitor_onlyChanges (p : Pinion) (mon : PinionMonitor) : onlyChanges [.monitors] s (s.setMonitor p mon) := by
  intro q
  cases q <;> simp [Part.same, State.setMonitor]

theorem reformSlip_onlyChanges : onlyChanges [.faults] s s.reformSlip := by
  unfold State.reformSlip
  split
  · exact clear_onlyChanges_ofClassC rfl
  · exact onlyChanges_refl _ _

theorem setPinions_onlyChanges (v : PerPinion PinionMonitor) :
    onlyChanges [.monitors] s (s.setEngagement { s.engagement with pinions := v }) := by
  intro q
  cases q <;> simp [Part.same]

theorem monitorEntry_onlyChanges : onlyChanges [.monitors, .limit, .faults] s s.monitorEntry := by
  unfold State.monitorEntry
  dsimp only
  refine onlyChanges.trans ?_ (reformSlip_onlyChanges.mono (by decide)) (by simp [State.ite_frame])
  split
  · exact ((setPinions_onlyChanges _).mono (by decide)).trans ((lowerLimit_onlyChanges _ _).mono (by decide)) (by simp)
  · exact (setPinions_onlyChanges _).mono (by decide)

theorem announceEntry_onlyChanges : onlyChanges [.monitors, .limit, .faults] s s.announceEntry :=
  monitorEntry_onlyChanges.trans ((lowerLimit_onlyChanges _ _).mono (by decide)) (by simp)

theorem monitorExit_onlyChanges : onlyChanges [.monitors, .faults] s s.monitorExit := by
  unfold State.monitorExit
  exact ((setPinions_onlyChanges _).mono (by decide)).trans (reformSlip_onlyChanges.mono (by decide)) (by simp)

theorem setEngagement_onlyChanges (v : Engagement) : onlyChanges [.monitors, .holdTimers] s (s.setEngagement v) := by
  intro q
  cases q <;> simp [Part.same]

/-- What the steps of a tooth event keep, a tooth event keeps: a record is written, a hold timer started at standstill,
a report made, SLIP_EVENT ended. -/
theorem toothEvent_induction {P : State → Prop} (hset : ∀ {u} mon, P u → P (u.setMonitor p mon))
    (hhold : ∀ {u} v, u.rack.standstill = true → v.pinions = u.engagement.pinions → P u → P (u.setEngagement v))
    (hraise : ∀ {u} k, P u → P (u.raise k))
    (hclear : ∀ {u}, P u → P (u.clear .slipEvent)) (h : P s) : P (s.toothEvent p phase) := by
  have hslip {u : State} (h : P u) : P u.reformSlip := State.of_ite (fun _ => hclear h) fun _ => h
  have hclimb {u : State} (h : P u) : P u.raiseClimbOut :=
    hraise _ (State.of_ite (fun hstill => hhold _ hstill rfl h) fun _ => h)
  have hfail {u : State} (h : P u) : P u.raiseCalibrationFail :=
    hraise _ (State.of_ite (fun hstill => hhold _ hstill rfl h) fun _ => h)
  refine State.of_ite (fun _ => hset _ h) fun _ => ?_
  cases phase with
  | none => exact h
  | some bin =>
    dsimp only
    split
    · exact State.of_ite (fun _ => State.of_ite (fun _ => hset _ h) fun _ => hfail (hset _ h)) fun _ => hset _ h
    · exact State.of_ite (fun _ => hslip (hset _ h)) fun _ =>
        State.of_ite (fun _ => hraise _ (hset _ h)) fun _ => hslip (hclimb (hraise _ (hset _ h)))
    all_goals exact h

theorem toothEvent_onlyChanges : onlyChanges Part.ofTooth s (s.toothEvent p phase) := by
  have hkept : onlyChanges Part.ofTooth s (s.toothEvent p phase) ∧ (s.toothEvent p phase).station = s.station := by
    refine toothEvent_induction (P := fun u => onlyChanges Part.ofTooth s u ∧ u.station = s.station) ?_ ?_ ?_ ?_
      ⟨onlyChanges_refl _ _, rfl⟩
    · exact fun mon ⟨h, hstation⟩ => ⟨h.trans ((setMonitor_onlyChanges _ _).mono (by decide)) hstation, hstation⟩
    · exact fun v _ _ ⟨h, hstation⟩ => ⟨h.trans ((setEngagement_onlyChanges _).mono (by decide)) hstation, hstation⟩
    · exact fun k ⟨h, hstation⟩ =>
        ⟨h.trans ((raise_onlyChanges k).mono (by decide)) hstation, Eq.trans (by simp) hstation⟩
    · exact fun ⟨h, hstation⟩ =>
        ⟨h.trans ((clear_onlyChanges_ofClassB _).mono (by decide)) hstation, Eq.trans (by simp) hstation⟩
  exact hkept.1

/-! ## Standstill left -/

theorem moving_onlyChanges : onlyChanges [.motion, .speedSources, .holdTimers, .platform] s (s.moving direction) := by
  intro q
  cases q <;> simp [Part.same, State.moving, State.monitorLeft]

theorem dropHandleReleases_onlyChanges : onlyChanges [.doors, .sideReleases, .mass, .faults] s s.dropHandleReleases := by
  intro q
  cases q <;> simp [Part.same]

/-- The parts that change as standstill is left. -/
def Part.ofLeaving : List Part := Part.also Part.ofClassB [.motion, .speedSources, .holdTimers, .platform]

theorem leaveStandstill_onlyChanges : onlyChanges Part.ofLeaving s (s.leaveStandstill direction) := by
  rw [State.leaveStandstill_eq]
  refine onlyChanges.trans ?_ ((retestPermits_onlyChanges _).mono (by decide)) (State.dropHandleReleases_stands.2.2.2.2.trans rfl)
  exact (moving_onlyChanges.mono (by decide)).trans (dropHandleReleases_onlyChanges.mono (by decide)) rfl

/-! ## A proof test in motion (R123) -/

theorem abortForMotion_onlyChanges : onlyChanges Part.ofClassA s s.abortForMotion := by
  unfold State.abortForMotion
  split
  · exact ((abort_onlyChanges _).mono (by decide)).trans (raise_onlyChanges _) (by simp)
  · exact onlyChanges_refl _ _

theorem abort_proof {reason : AbortReason} (h : s.brake.proof.state = .running) :
    (s.brake.abort reason).proof = { s.brake.proof with state := .aborted, reason := reason } := by
  rw [Brake.abort, if_pos h]

/-- A proof test that runs, or that has been aborted. -/
def ProofRecord.begun (r : ProofRecord) : Prop := r.state = .running ∨ r.state = .aborted

theorem Brake.latched_begun {b : Brake} (h : b.proof.begun) : b.latched.proof.begun := by
  by_cases hrunning : b.proof.state = .running
  · have hproof : b.latched.proof = (b.abort .emergency).proof := rfl
    rw [hproof, Brake.abort, if_pos hrunning]
    exact .inr rfl
  · rwa [Brake.latched_proof hrunning]

theorem setLatch_begun (h : s.brake.proof.begun) : s.setLatch.brake.proof.begun := by
  cases hlatch : s.brake.latch with
  | true => rwa [State.setLatch_of_latched hlatch]
  | false =>
    rw [State.setLatch_of_clear hlatch, State.lowerLimit_brake]
    split
    · rw [State.applyHolding_stands.2.2]
      exact Brake.latched_begun h
    · exact Brake.latched_begun h

theorem assertPull_begun (h : s.brake.proof.begun) : (s.assertPull k).brake.proof.begun := by
  unfold State.assertPull
  split
  · exact h
  · rw [State.placeAlert_brake]
    exact setLatch_begun (s := s.setBrake { s.brake with ownPull := true }) h

theorem raise_begun (h : s.brake.proof.begun) (k : FaultKind) : (s.raise k).brake.proof.begun := by
  by_cases hclass : faultClassOf s.straps.strict k = .a
  · cases habsent : s.present k with
    | true =>
      have hbrake : (s.raise k).brake = s.brake := by
        rw [State.raise, habsent]
        rfl
      rwa [hbrake]
    | false =>
      have hbrake : (s.raise k).brake = ((s.recordOccurrence k).assertPull k).brake := by
        rw [State.raise_of_classA hclass habsent]
        simp
      rw [hbrake]
      exact assertPull_begun (s := s.recordOccurrence k) h
  · rwa [State.raise_brake hclass]

theorem toothEvent_begun (h : s.brake.proof.begun) : (s.toothEvent p phase).brake.proof.begun :=
  toothEvent_induction (P := fun u => u.brake.proof.begun) (fun _ h => h) (fun _ _ _ h => h) (fun k h => raise_begun h k)
    (fun h => by rwa [State.clear_brake]) h

/-- After an abort for motion no test that was running runs. -/
theorem abortForMotion_aborted (h : s.brake.proof.begun) : s.abortForMotion.brake.proof.state = .aborted := by
  unfold State.abortForMotion
  split
  · have hclass (v : Brake) : faultClassOf (s.setBrake v).straps.strict .proofFail ≠ .a := nofun
    rw [State.raise_brake (hclass _), State.setBrake_brake, abort_proof ‹_›]
  next hidle => exact h.resolve_left hidle

end Sys2Proof.Machine
end

section
/-! SUPPORT. TOOTH_EDGE: presence, the tooth source, the odometer, the end of standstill and a proof test (sections 1.1 to
1.4 and 6.12). -/

namespace Sys2Proof.Machine

variable {ps : List Part} {s t u v : State} {m : Moment} {j k : FaultKind} {direction : Direction} {p sensor : Pinion}
  {phase : Option (Fin 32)} {q r : Rack} {now distance circumference : Nat} {teeth disagree : Bool}

/-! ## The rack at a tooth edge (R4, R5, R11, R12) -/

/-- A counted tooth changes the odometer's counts alone. -/
theorem Rack.countTooth_eq :
    r.countTooth = { r with travel := r.countTooth.travel, pendingTeeth := r.countTooth.pendingTeeth, uncounted := 0 } := by
  unfold Rack.countTooth
  cases hdir : r.lastWheelDir <;> rfl

/-- A tooth edge changes presence, absence distance and the odometer's counts alone. -/
theorem Rack.toothEdge_eq :
    r.toothEdge sensor teeth disagree
      = { r with
          present := true
          absence := 0
          travel := (r.toothEdge sensor teeth disagree).travel
          pendingTeeth := (r.toothEdge sensor teeth disagree).pendingTeeth
          uncounted := (r.toothEdge sensor teeth disagree).uncounted } := by
  cases sensor with
  | p2 => rfl
  | p1 =>
    unfold Rack.toothEdge
    dsimp only
    cases teeth with
    | false => rfl
    | true =>
      rw [if_pos rfl, Rack.countTooth_eq]

theorem Rack.toothEdge_counted (h : teeth = true) :
    (r.toothEdge .p1 teeth disagree).uncounted = 0
      ∧ (r.lastWheelDir = .up → (r.toothEdge .p1 teeth disagree).travel = clampTravel (r.travel + 10000))
      ∧ (r.lastWheelDir = .down → (r.toothEdge .p1 teeth disagree).travel = clampTravel (r.travel - 10000))
      ∧ (r.lastWheelDir = .none →
        (r.toothEdge .p1 teeth disagree).travel = r.travel
          ∧ (r.toothEdge .p1 teeth disagree).pendingTeeth = min 65535 (r.pendingTeeth + 1)) := by
  subst h
  unfold Rack.toothEdge Rack.countTooth
  cases hdir : r.lastWheelDir <;> simp

theorem Rack.toothEdge_uncounted (h : sensor = .p2 ∨ teeth = false) :
    (r.toothEdge sensor teeth disagree).travel = r.travel
      ∧ (r.toothEdge sensor teeth disagree).pendingTeeth = r.pendingTeeth := by
  obtain rfl | rfl := h
  · exact ⟨rfl, rfl⟩
  · cases sensor <;> exact ⟨rfl, rfl⟩

/-! ## The speed at an edge (R3, log entries 8 and 9) -/

theorem speedAtEdge_eq (freeCount distance : Nat) (ref : Option Nat) (now : Nat) :
    (speedAtEdge freeCount distance (liveReference now ref) now).1
      = match ref with
        | none => 0
        | some start =>
          if start + 2000000 ≤ now then 0
          else if now ≤ start then Config.zeroIntervalSpeed freeCount
          else distance / (now - start) := by
  cases ref with
  | none => rfl
  | some start =>
    dsimp only
    by_cases hrest : start + 2000000 ≤ now
    · have hgone : liveReference now (some start) = none := if_pos hrest
      rw [if_pos hrest, hgone]
      rfl
    · have hlive : liveReference now (some start) = some start := if_neg hrest
      have hzero : now - start = 0 ↔ now ≤ start := Nat.sub_eq_zero_iff_le
      rw [if_neg hrest, hlive, speedAtEdge]
      by_cases hle : now ≤ start
      · rw [if_pos (hzero.mpr hle), if_pos hle]
      · rw [if_neg (mt hzero.mp hle), if_neg hle]

theorem speedAtEdge_tooth {freeCount : Nat} {ref : Option Nat} :
    (speedAtEdge freeCount toothDistance (liveReference now ref) now).1
      = match ref with
        | none => 0
        | some start =>
          if start + 2000000 ≤ now then 0
          else if now ≤ start then Config.zeroIntervalSpeed freeCount
          else 100000000 / (now - start) := by
  rw [speedAtEdge_eq, toothDistance]

/-- An evaluation at a tooth edge of sensor 1 keeps the speed the edge gives. -/
theorem Rack.judged_toothSpeed (h : r.toothRef = some now) :
    (r.judged now circumference disagree).toothRef = some now
      ∧ (r.judged now circumference disagree).toothSpeed = r.toothEdgeSpeed
      ∧ (r.judged now circumference disagree).toothEdgeSpeed = r.toothEdgeSpeed := by
  have hlive : liveReference now (some now) = some now := if_neg (by simp [restTime])
  simp [Rack.judged, Rack.formSpeeds, Rack.evaluateTimers, Rack.report, h, hlive, decayedSpeed]

/-- An evaluation at a wheel pulse keeps the speed the pulse gives. -/
theorem Rack.judged_wheelSpeed (h : r.wheelRef = some now) :
    (r.judged now circumference disagree).wheelRef = some now
      ∧ (r.judged now circumference disagree).wheelSpeed = r.wheelEdgeSpeed
      ∧ (r.judged now circumference disagree).wheelEdgeSpeed = r.wheelEdgeSpeed := by
  have hlive : liveReference now (some now) = some now := if_neg (by simp [restTime])
  simp [Rack.judged, Rack.formSpeeds, Rack.evaluateTimers, Rack.report, h, hlive, decayedSpeed]

/-- An evaluation leaves the odometer. -/
theorem Rack.judged_odometer :
    (r.judged now circumference disagree).travel = r.travel ∧ (r.judged now circumference disagree).pendingTeeth = r.pendingTeeth
      ∧ (r.judged now circumference disagree).uncounted = r.uncounted :=
  ⟨rfl, rfl, rfl⟩

/-! ## The rack after the measurement -/

/-- What a tooth edge makes of the rack, but for the end of standstill. -/
structure State.ToothRack (sensor : Pinion) (s : State) (q : Rack) : Prop where
  present : q.present = true
  absence : q.absence = 0
  first : sensor = .p1 →
    q.toothRef = some s.clock
      ∧ q.toothSpeed
        = match s.rack.toothRef with
          | none => 0
          | some ref =>
            if ref + 2000000 ≤ s.clock then 0
            else if s.clock ≤ ref then Config.zeroIntervalSpeed s.freeCount
            else 100000000 / (s.clock - ref)
  edge : sensor = .p1 → q.toothEdgeSpeed = q.toothSpeed
  second : sensor = .p2 → s.rack.toothDecays s.clock q
  wheel : s.rack.wheelDecays s.clock s.straps.wheelCircumference q
  evaluated : s.rack.evaluated s.clock (s.present .speedDisagree) q
  counted : sensor = .p1 ∧ s.countingTeeth = true →
    q.uncounted = 0 ∧ (s.rack.lastWheelDir = .up → q.travel = clampTravel (s.rack.travel + 10000))
      ∧ (s.rack.lastWheelDir = .down → q.travel = clampTravel (s.rack.travel - 10000))
      ∧ (s.rack.lastWheelDir = .none →
        q.travel = s.rack.travel ∧ q.pendingTeeth = min 65535 (s.rack.pendingTeeth + 1))
  uncounted : sensor = .p2 ∨ s.countingTeeth = false → q.travel = s.rack.travel ∧ q.pendingTeeth = s.rack.pendingTeeth
  stands : q.lastWheelDir = s.rack.lastWheelDir ∧ q.markBase = s.rack.markBase ∧ q.known = s.rack.known

/-- A rack that leaves standstill. -/
def Rack.leaving (direction : Direction) (r : Rack) : Rack :=
  { r with standstill := false, movingDir := direction, standstillTimer := none }

/-- An evaluation at standstill runs no standstill timer. -/
theorem Rack.evaluated_leaving (h : r.evaluated now disagree q) (hstill : r.standstill = true) :
    r.evaluated now disagree (q.leaving direction) := by
  obtain ⟨hreported, hdisagree, hagree, -⟩ := h
  exact ⟨hreported, hdisagree, hagree, (if_neg (by simp [hstill])).symm⟩

theorem State.ToothRack.leaving (h : s.ToothRack sensor q) (hstill : s.rack.standstill = true) :
    s.ToothRack sensor (q.leaving direction) :=
  ⟨h.present, h.absence, h.first, h.edge, h.second, h.wheel, Rack.evaluated_leaving h.evaluated hstill, h.counted, h.uncounted,
    h.stands⟩

/-- The rack at a tooth edge before its source. -/
def State.toothed (sensor : Pinion) (s : State) : Rack :=
  s.rack.toothEdge sensor s.countingTeeth (s.present .speedDisagree)

/-- The rack with the edge in its source. -/
def State.toothSourced (sensor : Pinion) (s : State) : Rack :=
  match sensor with
  | .p2 => s.toothed .p2
  | .p1 =>
    { s.toothed .p1 with
      toothRef := some s.clock
      toothEdgeSpeed := (speedAtEdge s.freeCount toothDistance (liveReference s.clock s.rack.toothRef) s.clock).1 }

/-- The state of a tooth edge after its speed evaluation. -/
def State.toothMeasured (sensor : Pinion) (s : State) : State :=
  ((s.setRack (s.toothed sensor)).toothSource sensor).evaluateSpeed

theorem State.toothLeft_eq : s.toothLeft sensor = (s.toothMeasured sensor).leaveAtTooth sensor := rfl

theorem State.toothMeasured_rack :
    (s.toothMeasured sensor).rack
      = (s.toothSourced sensor).judged s.clock s.straps.wheelCircumference (s.present .speedDisagree) := by
  cases sensor with
  | p2 => rfl
  | p1 =>
    have href : (s.toothed .p1).toothRef = s.rack.toothRef := congrArg (·.toothRef) Rack.toothEdge_eq
    have hsource : ((s.setRack (s.toothed .p1)).toothSource .p1).rack = s.toothSourced .p1 := by
      rw [State.toothSourced, ← href]
      rfl
    rw [State.toothMeasured, State.evaluateSpeed_eq, hsource]
    rfl

/-- The sources and timers before the evaluation are the old ones, but for sensor 1's own. -/
theorem State.toothSourced_stands :
    (s.toothSourced sensor).present = true ∧ (s.toothSourced sensor).absence = 0
      ∧ (s.toothSourced sensor).wheelRef = s.rack.wheelRef ∧ (s.toothSourced sensor).wheelEdgeSpeed = s.rack.wheelEdgeSpeed
      ∧ (s.toothSourced sensor).disagreeTimer = s.rack.disagreeTimer ∧ (s.toothSourced sensor).agreeTimer = s.rack.agreeTimer
      ∧ (s.toothSourced sensor).standstillTimer = s.rack.standstillTimer
      ∧ (s.toothSourced sensor).standstill = s.rack.standstill ∧ (s.toothSourced sensor).movingDir = s.rack.movingDir
      ∧ (s.toothSourced sensor).lastWheelDir = s.rack.lastWheelDir ∧ (s.toothSourced sensor).markBase = s.rack.markBase
      ∧ (s.toothSourced sensor).known = s.rack.known := by
  have heq (sensor : Pinion) : s.toothed sensor = _ := Rack.toothEdge_eq
  cases sensor <;>
    exact ⟨congrArg (·.present) (heq _), congrArg (·.absence) (heq _), congrArg (·.wheelRef) (heq _),
      congrArg (·.wheelEdgeSpeed) (heq _), congrArg (·.disagreeTimer) (heq _), congrArg (·.agreeTimer) (heq _),
      congrArg (·.standstillTimer) (heq _), congrArg (·.standstill) (heq _), congrArg (·.movingDir) (heq _),
      congrArg (·.lastWheelDir) (heq _), congrArg (·.markBase) (heq _), congrArg (·.known) (heq _)⟩

theorem State.toothSourced_odometer :
    (s.toothSourced sensor).travel = (s.toothed sensor).travel
      ∧ (s.toothSourced sensor).pendingTeeth = (s.toothed sensor).pendingTeeth
      ∧ (s.toothSourced sensor).uncounted = (s.toothed sensor).uncounted := by
  cases sensor <;> exact ⟨rfl, rfl, rfl⟩

theorem State.toothMeasured_toothRack : s.ToothRack sensor (s.toothMeasured sensor).rack := by
  obtain ⟨hpresent, habsence, hwheelRef, hwheelEdge, hdisagree, hagree, hstandstill, hstill, -, hlast, hmark, hknown⟩ :=
    s.toothSourced_stands (sensor := sensor)
  obtain ⟨htravel, hpending, huncounted⟩ := s.toothSourced_odometer (sensor := sensor)
  obtain ⟨htravel', hpending', huncounted'⟩ := Rack.judged_odometer (r := s.toothSourced sensor) (now := s.clock)
    (circumference := s.straps.wheelCircumference) (disagree := s.present .speedDisagree)
  rw [toothMeasured_rack]
  refine ⟨hpresent, habsence, ?_, ?_, ?_, (Rack.wheelDecays_congr hwheelRef hwheelEdge).mp Rack.judged_wheelDecays,
    (Rack.evaluated_congr hdisagree hagree hstandstill hstill).mp Rack.judged_evaluated, fun ⟨hfirst, hteeth⟩ => ?_,
    fun h => ?_, hlast, hmark, hknown⟩
  · rintro rfl
    obtain ⟨href, hspeed, -⟩ := Rack.judged_toothSpeed (r := s.toothSourced .p1) (now := s.clock)
      (circumference := s.straps.wheelCircumference) (disagree := s.present .speedDisagree) rfl
    exact ⟨href, hspeed.trans speedAtEdge_tooth⟩
  · rintro rfl
    obtain ⟨-, hspeed, hedge⟩ := Rack.judged_toothSpeed (r := s.toothSourced .p1) (now := s.clock)
      (circumference := s.straps.wheelCircumference) (disagree := s.present .speedDisagree) rfl
    exact hedge.trans hspeed.symm
  · rintro rfl
    exact (Rack.toothDecays_congr (r := s.toothSourced .p2) rfl rfl).mp Rack.judged_toothDecays
  · subst hfirst
    rw [htravel', hpending', huncounted', htravel, hpending, huncounted]
    exact Rack.toothEdge_counted hteeth
  · rw [htravel', hpending', htravel, hpending]
    exact Rack.toothEdge_uncounted h

end Sys2Proof.Machine
end

section
/-! SUPPORT. TOOTH_EDGE: presence, speed, odometer, the end of standstill and a running proof test (O18). -/

namespace Sys2Proof.Machine

variable {ps : List Part} {s t u v : State} {m : Moment} {j k : FaultKind} {direction : Direction} {p sensor : Pinion}
  {phase : Option (Fin 32)} {q r : Rack} {now : Nat} {before : State}

/-! ## In a moving car the steps after the end of standstill leave it -/

theorem State.standstillLeft.of_adrift (h : s.standstillLeft now t) (hadrift : t.Adrift u) : s.standstillLeft now u := by
  obtain ⟨hplatform, hclimb, hcalibration, -, -, hdoors⟩ := h
  refine ⟨hadrift.platform.trans hplatform, hadrift.climbOut.trans hclimb, hadrift.calibration.trans hcalibration,
    hadrift.sides .a, hadrift.sides .b, fun d => ?_⟩
  rw [hadrift.doors]
  exact hdoors d

theorem State.standstillLeft.keepStore (h : s.standstillLeft now t) : s.standstillLeft now t.keepStore := by
  obtain ⟨-, -, -, ha, hb, -⟩ := id h
  have hsides : t.unreleased := fun side => by cases side <;> assumption
  exact h.of_adrift (.of_stands hsides (by simp) (by simp) (by simp) (by simp) (by simp))

theorem State.lowerLimit_adrift (h : s.unreleased) (c : Nat) : s.Adrift (s.lowerLimit c) :=
  .of_stands h (by simp) (by simp) (by simp) (by simp) (by simp)

theorem State.announceEntry_adrift (h : s.unreleased) : s.Adrift s.announceEntry := by
  have hset : s.Adrift
      (s.setEngagement
        { s.engagement with
          pinions := { p1 := s.engagement.pinions.p1.entered, p2 := s.engagement.pinions.p2.entered } }) :=
    .of_stands h rfl rfl rfl rfl rfl
  have hentered : s.Adrift s.monitorEntry := by
    unfold State.monitorEntry
    dsimp only
    split
    · have hlowered := hset.trans (lowerLimit_adrift hset.sides 50)
      exact hlowered.trans (reformSlip_adrift hlowered.sides)
    · exact hset.trans (reformSlip_adrift hset.sides)
  exact hentered.trans (lowerLimit_adrift hentered.sides _)

theorem State.toothEvent_adrift (h : s.unreleased) (hmoving : s.rack.standstill = false) :
    s.Adrift (s.toothEvent sensor phase) := by
  have hstill {u : State} (hu : s.Adrift u) : u.rack.standstill = false := by rw [hu.rack, hmoving]
  refine toothEvent_induction (P := fun u => s.Adrift u) (fun mon hu => hu.trans (setMonitor_adrift hu.sides))
    (fun v hv _ hu => absurd hv (by rw [hstill hu]; nofun)) (fun k hu => hu.trans (raise_adrift hu.sides (hstill hu) k))
    (fun hu => hu.trans (clear_adrift hu.sides _)) (.refl h)

theorem State.abortForMotion_adrift (h : s.unreleased) (hmoving : s.rack.standstill = false) : s.Adrift s.abortForMotion := by
  unfold State.abortForMotion
  split
  · have hset : s.Adrift (s.setBrake (s.brake.abort .motion)) := .of_stands h rfl rfl rfl rfl rfl
    exact hset.trans (raise_adrift hset.sides hmoving _)
  · exact .refl h

/-! ## The end of standstill at a tooth edge (R10) -/

theorem State.leaveAtTooth_eq :
    s.leaveAtTooth sensor
      = if sensor = .p1 ∧ s.rack.standstill = true ∧ 56 ≤ s.rack.toothSpeed then s.leaveStandstill .none else s := by
  cases sensor <;> simp [State.leaveAtTooth]

/-- The steps of a tooth edge after the measurement. -/
def State.toothAnnounced (sensor : Pinion) (s : State) : State :=
  if s.rack.present then s.toothLeft sensor else (s.toothLeft sensor).announceEntry

theorem State.toothEdge_steps :
    s.toothEdge sensor phase = (((s.toothAnnounced sensor).toothEvent sensor phase).abortForMotion).afterMove s := rfl

theorem State.toothAnnounced_stands :
    (s.toothAnnounced sensor).rack = (s.toothLeft sensor).rack ∧ (s.toothAnnounced sensor).radio = (s.toothLeft sensor).radio
      ∧ (s.toothAnnounced sensor).brake = s.brake ∧ (s.toothAnnounced sensor).station = s.station := by
  have hbrake : (s.toothLeft sensor).brake = s.brake := by simp [State.toothLeft]
  have hstation : (s.toothLeft sensor).station = s.station := by simp [State.toothLeft]
  unfold State.toothAnnounced
  split
  · exact ⟨rfl, rfl, hbrake, hstation⟩
  · exact ⟨by simp, by simp, Eq.trans (by simp) hbrake, Eq.trans (by simp) hstation⟩

theorem State.toothEdge_rack : (s.toothEdge sensor phase).rack = (s.toothLeft sensor).rack := by
  rw [toothEdge_steps, ← toothAnnounced_stands.1]
  simp

theorem State.toothEdge_radio : (s.toothEdge sensor phase).radio = (s.toothLeft sensor).radio := by
  rw [toothEdge_steps, ← toothAnnounced_stands.2.1]
  simp

theorem State.toothMeasured_stands :
    (s.toothMeasured sensor).doors = s.doors ∧ (s.toothMeasured sensor).clock = s.clock
      ∧ (s.toothMeasured sensor).radio = s.radio ∧ (s.toothMeasured sensor).station = s.station := by
  refine ⟨?_, ?_, ?_, ?_⟩ <;> simp [State.toothMeasured]

theorem State.toothMeasured_motion :
    (s.toothMeasured sensor).rack.standstill = s.rack.standstill
      ∧ (s.toothMeasured sensor).rack.movingDir = s.rack.movingDir := by
  obtain ⟨-, -, -, -, -, -, -, hstill, hdirection, -⟩ := s.toothSourced_stands (sensor := sensor)
  rw [toothMeasured_rack]
  exact ⟨hstill, hdirection⟩

/-- The rack of a tooth edge: as measured, or leaving standstill. -/
theorem State.toothEdge_rack_eq :
    (s.toothEdge sensor phase).rack
      = if sensor = .p1 ∧ s.rack.standstill = true ∧ 56 ≤ (s.toothMeasured sensor).rack.toothSpeed then
          (s.toothMeasured sensor).rack.leaving .none
        else (s.toothMeasured sensor).rack := by
  rw [toothEdge_rack, toothLeft_eq, leaveAtTooth_eq, toothMeasured_motion.1]
  split
  · exact leaveStandstill_rack
  · rfl

theorem State.toothEdge_toothRack : s.ToothRack sensor (s.toothEdge sensor phase).rack := by
  rw [toothEdge_rack_eq]
  split
  next h => exact toothMeasured_toothRack.leaving h.2.1
  next => exact toothMeasured_toothRack

theorem State.toothEdge_standstill :
    (s.toothEdge sensor phase).rack.standstill
      = (s.rack.standstill && !decide (sensor = .p1 ∧ 56 ≤ (s.toothEdge sensor phase).rack.toothSpeed)) := by
  rw [toothEdge_rack_eq]
  split
  next h =>
    obtain ⟨hfirst, hstill, hspeed⟩ := h
    have hdecided : decide (sensor = .p1 ∧ 56 ≤ ((s.toothMeasured sensor).rack.leaving .none).toothSpeed) = true :=
      decide_eq_true ⟨hfirst, hspeed⟩
    rw [hdecided, Bool.not_true, Bool.and_false]
    rfl
  next h =>
    rw [toothMeasured_motion.1]
    cases hstill : s.rack.standstill with
    | false => rfl
    | true =>
      have hdecided : decide (sensor = .p1 ∧ 56 ≤ (s.toothMeasured sensor).rack.toothSpeed) = false :=
        decide_eq_false fun hcond => h ⟨hcond.1, hstill, hcond.2⟩
      rw [hdecided]
      rfl

/-- What leaves standstill at a tooth edge is left at its end. -/
theorem State.toothEdge_left (hstill : s.rack.standstill = true) (hleft : (s.toothEdge sensor phase).rack.standstill = false) :
    (s.toothEdge sensor phase).rack.movingDir = .none ∧ s.standstillLeft s.clock (s.toothEdge sensor phase) := by
  have hleaves : sensor = .p1 ∧ s.rack.standstill = true ∧ 56 ≤ (s.toothMeasured sensor).rack.toothSpeed := by
    by_contra hstays
    rw [toothEdge_rack_eq, if_neg hstays, toothMeasured_motion.1] at hleft
    exact absurd (hstill.symm.trans hleft) nofun
  refine ⟨by rw [toothEdge_rack_eq, if_pos hleaves]; rfl, ?_⟩
  have heq : s.toothLeft sensor = (s.toothMeasured sensor).leaveStandstill .none := by
    rw [toothLeft_eq, leaveAtTooth_eq, toothMeasured_motion.1, if_pos hleaves]
  have hunreleased : (s.toothLeft sensor).unreleased := heq ▸ leaveStandstill_unreleased
  have hmeasured : s.standstillLeft s.clock (s.toothLeft sensor) := by
    have h := (s.toothMeasured sensor).leaveStandstill_left (direction := .none)
    rw [toothMeasured_stands.2.1, ← heq] at h
    rw [State.standstillLeft, ← (s.toothMeasured_stands (sensor := sensor)).1]
    exact h
  have hannounced : (s.toothLeft sensor).Adrift (s.toothAnnounced sensor) := by
    unfold State.toothAnnounced
    split
    · exact .refl hunreleased
    · exact announceEntry_adrift hunreleased
  have hmoving : (s.toothAnnounced sensor).rack.standstill = false := by
    rw [toothAnnounced_stands.1, ← toothEdge_rack (phase := phase)]
    exact hleft
  have hevent := hannounced.trans (toothEvent_adrift (sensor := sensor) (phase := phase) hannounced.sides hmoving)
  have haborted := hevent.trans (abortForMotion_adrift hevent.sides (by simpa using hmoving))
  exact hmeasured.of_adrift (haborted.trans (afterMove_adrift haborted.sides s))

theorem State.toothEdge_stays (h : (s.toothEdge sensor phase).rack.standstill = s.rack.standstill) :
    (s.toothEdge sensor phase).rack.movingDir = s.rack.movingDir ∧ (s.toothEdge sensor phase).radio = s.radio := by
  have hstays : ¬(sensor = .p1 ∧ s.rack.standstill = true ∧ 56 ≤ (s.toothMeasured sensor).rack.toothSpeed) := by
    intro hleaves
    rw [toothEdge_rack_eq, if_pos hleaves, hleaves.2.1] at h
    exact absurd h nofun
  rw [toothEdge_rack_eq, if_neg hstays, toothEdge_radio, toothLeft_eq, leaveAtTooth_eq, toothMeasured_motion.1, if_neg hstays]
  exact ⟨toothMeasured_motion.2, toothMeasured_stands.2.2.1⟩

/-- An edge takes a test that runs to ABORTED (R123). -/
theorem State.toothEdge_aborts (h : s.brake.proof.state = .running) :
    (s.toothEdge sensor phase).brake.proof.state = .aborted := by
  have hbegun : ((s.toothAnnounced sensor).toothEvent sensor phase).brake.proof.begun := by
    refine toothEvent_begun ?_
    rw [toothAnnounced_stands.2.2.1]
    exact .inl h
  have hbrake (u : State) : (u.afterMove s).brake = u.brake := by simp
  rw [toothEdge_steps, hbrake]
  exact abortForMotion_aborted hbegun

/-! ## The parts that change -/

/-- The parts that a tooth edge may change. -/
def Part.ofToothEdge : List Part :=
  Part.also Part.ofClassA
    [.speedSources, .motion, .presence, .odometer, .monitors, .holdTimers, .platform, .restrictions, .freeCount]

theorem toothed_onlyChanges : onlyChanges [.presence, .odometer] s (s.setRack (s.toothed sensor)) := by
  have heq : s.toothed sensor = _ := Rack.toothEdge_eq
  rw [heq]
  intro q
  cases q <;> simp [Part.same]

theorem toothSource_onlyChanges : onlyChanges [.speedSources, .freeCount] s (s.toothSource sensor) := by
  cases sensor with
  | p2 => exact onlyChanges_refl _ _
  | p1 =>
    intro q
    cases q <;> simp [Part.same, State.toothSource]

theorem toothAnnounced_onlyChanges : onlyChanges Part.ofToothEdge s (s.toothAnnounced sensor) := by
  have hmeasured : onlyChanges Part.ofToothEdge s (s.toothMeasured sensor) := by
    refine onlyChanges.trans ?_ (evaluateSpeed_onlyChanges.mono (by decide)) (by simp)
    exact (toothed_onlyChanges.mono (by decide)).trans (toothSource_onlyChanges.mono (by decide)) (by simp)
  have hleft : onlyChanges Part.ofToothEdge s (s.toothLeft sensor) := by
    rw [State.toothLeft_eq, State.leaveAtTooth_eq]
    split
    · exact hmeasured.trans (leaveStandstill_onlyChanges.mono (by decide)) State.toothMeasured_stands.2.2.2
    · exact hmeasured
  unfold State.toothAnnounced
  split
  · exact hleft
  · exact hleft.trans (announceEntry_onlyChanges.mono (by decide)) (by simp [State.toothLeft])

theorem toothEdge_onlyChanges : onlyChanges Part.ofToothEdge s (s.toothEdge sensor phase) := by
  rw [State.toothEdge_steps]
  have hstation := (s.toothAnnounced_stands (sensor := sensor)).2.2.2
  have hevent := (toothAnnounced_onlyChanges (s := s) (sensor := sensor)).trans
    ((toothEvent_onlyChanges (p := sensor) (phase := phase)).mono (by decide)) hstation
  have haborted := hevent.trans (abortForMotion_onlyChanges.mono (by decide)) (Eq.trans (by simp) hstation)
  exact haborted.trans ((afterMove_onlyChanges _ s).mono (by decide)) (Eq.trans (by simp) hstation)

theorem exec_toothEdge (hrun : s.running = true) :
    exec (.toothEdge m sensor phase) s = .next ((s.atMoment m).toothEdge sensor phase).keepStore :=
  runCommand_of_running m _ hrun

/-- Settles O18: the rack's own change, what follows as standstill is left, and a running test's abort. -/
theorem toothEdgeMeasuresAndCounts : Obligations.ToothEdgeMeasuresAndCounts := by
  intro m sensor phase s hrun
  have hrack : ((s.atMoment m).toothEdge sensor phase).keepStore.rack = ((s.atMoment m).toothEdge sensor phase).rack := by simp
  have h : (s.atMoment m).ToothRack sensor ((s.atMoment m).toothEdge sensor phase).rack := State.toothEdge_toothRack
  refine ⟨_, exec_toothEdge hrun, ?_⟩
  rw [hrack]
  refine ⟨h.present, h.absence, h.first, h.edge, h.second, h.wheel, h.evaluated, State.toothEdge_standstill,
    fun hstill hleft => ?_, fun hstays => ?_, h.counted, h.uncounted, fun hrunning => ?_, h.stands.1, h.stands.2.1,
    h.stands.2.2, onlyChanges_of_effect toothEdge_onlyChanges (by simp)⟩
  · obtain ⟨hdirection, hleaves⟩ := State.toothEdge_left (s := s.atMoment m) hstill hleft
    exact ⟨hdirection, State.standstillLeft.keepStore hleaves⟩
  · rw [keepStore_radio]
    obtain ⟨hdirection, hradio⟩ := State.toothEdge_stays (s := s.atMoment m) hstays
    exact ⟨hdirection, congrArg (·.platform) hradio⟩
  · rw [State.keepStore_brake]
    exact State.toothEdge_aborts (s := s.atMoment m) hrunning

end Sys2Proof.Machine
end

section
/-! SUPPORT. TOOTH_EDGE at the engagement monitor: entry, settle teeth, sweep, band check and climb-out (O19). -/

namespace Sys2Proof.Machine

variable {ps : List Part} {s t u v : State} {m : Moment} {j k : FaultKind} {direction : Direction} {p p' sensor : Pinion}
  {phase : Option (Fin 32)} {bin : Fin 32} {mon : PinionMonitor} {w : Window}

/-! ## One pinion's record -/

theorem PerPinion.get_set_self {α : Type} (v : PerPinion α) (p : Pinion) (x : α) : (v.set p x).get p = x := by
  cases p <;> rfl

theorem PerPinion.get_set_other {α : Type} (v : PerPinion α) {p p' : Pinion} (x : α) (h : p' ≠ p) :
    (v.set p x).get p' = v.get p' := by
  cases p with
  | p1 =>
    cases p' with
    | p1 => exact absurd rfl h
    | p2 => rfl
  | p2 =>
    cases p' with
    | p1 => rfl
    | p2 => exact absurd rfl h

theorem State.setMonitor_get : (s.setMonitor p mon).engagement.pinions.get p = mon := PerPinion.get_set_self _ _ _

/-! ## A tooth event by the record (R22, R23, R29 to R33) -/

theorem toothEvent_other (h : p' ≠ p) :
    (s.toothEvent p phase).engagement.pinions.get p' = s.engagement.pinions.get p' := by
  refine toothEvent_induction (P := fun u => u.engagement.pinions.get p' = s.engagement.pinions.get p') ?_ ?_ ?_ ?_ rfl
  · exact fun {u} mon hu => (PerPinion.get_set_other u.engagement.pinions mon h).trans hu
  · exact fun {u} v _ hv hu => (congrArg (·.get p') hv).trans hu
  · exact fun {u} k hu => by simpa using hu
  · exact fun {u} hu => by simpa using hu

theorem toothEvent_settling (h : 0 < (s.engagement.pinions.get p).settle) :
    s.toothEvent p phase
      = s.setMonitor p
        { s.engagement.pinions.get p with settle := (s.engagement.pinions.get p).settle - 1 } := if_pos h

theorem toothEvent_none (h : (s.engagement.pinions.get p).settle = 0) : s.toothEvent p none = s :=
  if_neg (by omega)

theorem toothEvent_some (h : (s.engagement.pinions.get p).settle = 0) :
    s.toothEvent p (some bin)
      = match (s.engagement.pinions.get p).window.status with
        | .sweeping => s.sweepEdge p bin
        | .valid => s.checkEdge p bin
        | .invalid => s
        | .failWide => s
        | .failSparse => s :=
  if_neg (by omega)

theorem toothEvent_idle (h : (s.engagement.pinions.get p).settle = 0)
    (hvalid : (s.engagement.pinions.get p).window.status ≠ .valid)
    (hsweeping : (s.engagement.pinions.get p).window.status ≠ .sweeping) : s.toothEvent p phase = s := by
  cases phase with
  | none => exact toothEvent_none h
  | some bin =>
    rw [toothEvent_some h]
    cases hstatus : (s.engagement.pinions.get p).window.status with
    | sweeping => exact absurd hstatus hsweeping
    | valid => exact absurd hstatus hvalid
    | _ => rfl

theorem toothEvent_sweeping (h : (s.engagement.pinions.get p).settle = 0)
    (hsweeping : (s.engagement.pinions.get p).window.status = .sweeping) :
    s.toothEvent p (some bin) = s.sweepEdge p bin := by
  rw [toothEvent_some h, hsweeping]

theorem toothEvent_checked (h : (s.engagement.pinions.get p).settle = 0)
    (hvalid : (s.engagement.pinions.get p).window.status = .valid) :
    s.toothEvent p (some bin) = s.checkEdge p bin := by
  rw [toothEvent_some h, hvalid]

/-! ## The hold timers (R34) -/

theorem raiseCalibrationFail_spec :
    s.raiseCalibrationFail.engagement.pinions = s.engagement.pinions
      ∧ s.raiseCalibrationFail.engagement.calibrationHold
        = (if s.rack.standstill then some s.clock else s.engagement.calibrationHold)
      ∧ s.raiseCalibrationFail.present .calibrationFail = true := by
  refine ⟨?_, ?_, State.raise_present_self _⟩
  · cases hstill : s.rack.standstill <;> simp [State.raiseCalibrationFail, hstill]
  · cases hstill : s.rack.standstill <;> simp [State.raiseCalibrationFail, hstill]

theorem raiseClimbOut_spec :
    s.raiseClimbOut.engagement.pinions = s.engagement.pinions
      ∧ s.raiseClimbOut.engagement.climbOutHold
        = (if s.rack.standstill then some s.clock else s.engagement.climbOutHold)
      ∧ s.raiseClimbOut.present .climbOut = true
      ∧ (s.present .climbOut = false → s.raiseClimbOut.brake.ownPull = true ∧ s.raiseClimbOut.speed.localLimit = 0) := by
  refine ⟨?_, ?_, State.raise_present_self _, fun habsent => ?_⟩
  · cases hstill : s.rack.standstill <;> simp [State.raiseClimbOut, hstill]
  · cases hstill : s.rack.standstill <;> simp [State.raiseClimbOut, hstill]
  · have hraised {u : State} (hu : u.present .climbOut = false) :
        (u.raise .climbOut).brake.ownPull = true ∧ (u.raise .climbOut).speed.localLimit = 0 :=
      ⟨(State.raise_pulls rfl hu).1, State.raise_localLimit nofun hu⟩
    unfold State.raiseClimbOut
    split
    · exact hraised habsent
    · exact hraised habsent

theorem reformSlip_stands (h : k ≠ .slipEvent) (hload : k ≠ .loadSensor) :
    s.reformSlip.engagement = s.engagement ∧ s.reformSlip.brake = s.brake ∧ s.reformSlip.speed = s.speed
      ∧ s.reformSlip.present k = s.present k := by
  unfold State.reformSlip
  split
  · exact ⟨by simp, by simp, by simp, State.clear_present_of_ne h hload⟩
  · exact ⟨rfl, rfl, rfl, rfl⟩

theorem reformSlip_gone (h : s.engagement.pinions.p1.slip = 0 ∧ s.engagement.pinions.p2.slip = 0) :
    s.reformSlip.present .slipEvent = false := by
  rw [State.reformSlip, if_pos h]
  exact State.clear_present_self _ _

/-! ## The sweep (R23 to R26) -/

/-- The histogram with the edge in its bin. -/
def PinionMonitor.binned (bin : Fin 32) (mon : PinionMonitor) : Vector Nat 32 :=
  mon.histogram.set bin (mon.histogram[bin] + 1)

theorem sweepEdge_counted (h : (s.engagement.pinions.get p).counted + 1 ≠ 64) :
    s.sweepEdge p bin
      = s.setMonitor p
        { s.engagement.pinions.get p with
          histogram := (s.engagement.pinions.get p).binned bin
          counted := (s.engagement.pinions.get p).counted + 1 } := if_neg h

theorem completeSweep_spec {histogram : Vector Nat 32} :
    (s.completeSweep p histogram).engagement.pinions.get p
        = { s.engagement.pinions.get p with
            window := sweptWindow histogram, histogram := Vector.replicate 32 0, counted := 0 }
      ∧ ((sweptWindow histogram).status ≠ .valid →
        (s.completeSweep p histogram).present .calibrationFail = true
          ∧ (s.completeSweep p histogram).engagement.calibrationHold
            = (if s.rack.standstill then some s.clock else s.engagement.calibrationHold)) := by
  unfold State.completeSweep
  dsimp only
  split
  next hvalid => exact ⟨State.setMonitor_get, fun h => absurd hvalid h⟩
  next =>
    rw [raiseCalibrationFail_spec.1]
    exact ⟨State.setMonitor_get, fun _ => ⟨raiseCalibrationFail_spec.2.2, raiseCalibrationFail_spec.2.1⟩⟩

theorem sweepEdge_completed (h : (s.engagement.pinions.get p).counted + 1 = 64) :
    s.sweepEdge p bin = s.completeSweep p ((s.engagement.pinions.get p).binned bin) := if_pos h

/-! ## The check against the band (R29 to R33) -/

theorem Window.inBand_iff : w.inBand bin = true ↔ ∃ i < w.width + 4, (w.lower + 30 + i) % 32 = bin.val := by
  have hbin := bin.isLt
  simp only [Window.inBand, decide_eq_true_eq]
  constructor
  · exact fun h => ⟨_, h, by omega⟩
  · rintro ⟨i, hi, heq⟩
    omega

theorem checkEdge_inBand (h : (s.engagement.pinions.get p).window.inBand bin = true) :
    s.checkEdge p bin
      = (s.setMonitor p
          { s.engagement.pinions.get p with slip := (s.engagement.pinions.get p).slip - 1 }).reformSlip := if_pos h

theorem checkEdge_slips (h : (s.engagement.pinions.get p).window.inBand bin = false)
    (hslip : (s.engagement.pinions.get p).slip + 4 < 32) :
    s.checkEdge p bin
      = (s.setMonitor p
          { s.engagement.pinions.get p with slip := (s.engagement.pinions.get p).slip + 4 }).raise .slipEvent := by
  unfold State.checkEdge
  dsimp only
  rw [if_neg (by simp [h]), if_pos hslip]

/-- The record of a pinion that climbs out. -/
def PinionMonitor.climbedOut (mon : PinionMonitor) : PinionMonitor :=
  { mon with slip := 0, window := { mon.window with status := .invalid } }

theorem checkEdge_climbs (h : (s.engagement.pinions.get p).window.inBand bin = false)
    (hslip : 32 ≤ (s.engagement.pinions.get p).slip + 4) :
    s.checkEdge p bin
      = ((((s.setMonitor p (s.engagement.pinions.get p).climbedOut).raise .slipEvent).raiseClimbOut).reformSlip) := by
  unfold State.checkEdge
  dsimp only
  rw [if_neg (by simp [h]), if_neg (by omega)]
  rfl

theorem climbedOut_spec :
    let e := (((s.setMonitor p mon).raise .slipEvent).raiseClimbOut).reformSlip
    e.engagement.pinions.get p = mon ∧ e.present .climbOut = true
      ∧ e.engagement.climbOutHold = (if s.rack.standstill then some s.clock else s.engagement.climbOutHold)
      ∧ (s.present .climbOut = false → e.brake.ownPull = true ∧ e.speed.localLimit = 0) := by
  dsimp only
  obtain ⟨hengagement, hbrake, hspeed, hpresent⟩ :=
    reformSlip_stands (s := ((s.setMonitor p mon).raise .slipEvent).raiseClimbOut) (k := .climbOut) nofun nofun
  obtain ⟨hpinions, hhold, hset, hpulls⟩ := raiseClimbOut_spec (s := (s.setMonitor p mon).raise .slipEvent)
  rw [hengagement, hbrake, hspeed, hpresent, hpinions, hhold]
  refine ⟨?_, hset, by simp [State.setMonitor], fun habsent => hpulls ?_⟩
  · have hraised : ((s.setMonitor p mon).raise .slipEvent).engagement = (s.setMonitor p mon).engagement := by simp
    rw [hraised]
    exact State.setMonitor_get
  · exact (State.raise_present_of_ne (s := s.setMonitor p mon) (by decide) (by decide)).trans habsent

end Sys2Proof.Machine
end

section
/-! SUPPORT. TOOTH_EDGE at the engagement monitor: what the edge's other steps leave of it (O19). -/

namespace Sys2Proof.Machine

variable {ps : List Part} {s t u v : State} {m : Moment} {j k : FaultKind} {direction : Direction} {p p' sensor : Pinion}
  {phase : Option (Fin 32)} {bin : Fin 32} {mon : PinionMonitor} {w : Window} {before : State}

/-! ## Before the tooth event -/

theorem State.latchIfClosed_present (was : DoorSummary) (h : k ≠ .loadSensor) :
    (s.latchIfClosed was).present k = s.present k := by
  unfold State.latchIfClosed
  split
  · exact latchMass_present _ h
  · rfl

theorem State.leaveStandstill_present (h : k ≠ .loadSensor) : (s.leaveStandstill direction).present k = s.present k := by
  rw [leaveStandstill_eq, retestPermits_present _ h]
  exact latchIfClosed_present _ h

theorem State.leaveStandstill_pinions : (s.leaveStandstill direction).engagement.pinions = s.engagement.pinions := by
  rw [leaveStandstill_eq]
  simp [State.moving, State.monitorLeft]

theorem State.toothMeasured_engagement : (s.toothMeasured sensor).engagement = s.engagement := by simp [State.toothMeasured]

theorem State.toothLeft_monitors :
    (s.toothLeft sensor).engagement.pinions = s.engagement.pinions
      ∧ (k ≠ .loadSensor → (s.toothLeft sensor).present k = s.present k)
      ∧ ((s.toothLeft sensor).rack.standstill = false →
        (s.toothLeft sensor).engagement.calibrationHold
            = (if s.rack.standstill then none else s.engagement.calibrationHold)
          ∧ (s.toothLeft sensor).engagement.climbOutHold
            = (if s.rack.standstill then none else s.engagement.climbOutHold)) := by
  have hfaults : (s.toothMeasured sensor).present k = s.present k := present_congr (by simp [State.toothMeasured]) k
  rw [toothLeft_eq, leaveAtTooth_eq, toothMeasured_motion.1]
  split
  next hleaves =>
    obtain ⟨-, hclimb, hcalibration, -⟩ := (s.toothMeasured sensor).leaveStandstill_left (direction := .none)
    refine ⟨leaveStandstill_pinions.trans (by rw [toothMeasured_engagement]),
      fun hload => (leaveStandstill_present hload).trans hfaults, fun _ => ?_⟩
    rw [hclimb, hcalibration, if_pos hleaves.2.1, if_pos hleaves.2.1]
    exact ⟨rfl, rfl⟩
  next =>
    refine ⟨by rw [toothMeasured_engagement], fun _ => hfaults, fun hmoving => ?_⟩
    rw [toothMeasured_motion.1] at hmoving
    rw [toothMeasured_engagement, hmoving]
    exact ⟨rfl, rfl⟩

/-- One pinion at a rack entry (R21). -/
theorem PinionMonitor.entered_spec :
    mon.entered.settle = 8 ∧ mon.entered.slip = 0
      ∧ (mon.window.status = .valid → mon.entered.window = mon.window)
      ∧ (mon.window.status ≠ .valid →
        mon.entered.window = Window.cleared .sweeping ∧ mon.entered.histogram = Vector.replicate 32 0
          ∧ mon.entered.counted = 0) := by
  unfold PinionMonitor.entered
  split
  next hvalid => exact ⟨rfl, rfl, fun _ => rfl, fun h => absurd hvalid h⟩
  next hinvalid => exact ⟨rfl, rfl, fun h => absurd h hinvalid, fun _ => ⟨rfl, rfl, rfl⟩⟩

theorem State.reformSlip_engagement : s.reformSlip.engagement = s.engagement :=
  (reformSlip_stands (k := .climbOut) nofun nofun).1

theorem State.announceEntry_get :
    s.announceEntry.engagement.pinions.get p = (s.engagement.pinions.get p).entered := by
  have hlowered (u : State) (c : Nat) : (u.lowerLimit c).engagement = u.engagement := by simp
  rw [State.announceEntry, hlowered, State.monitorEntry]
  dsimp only
  rw [reformSlip_engagement]
  split <;> cases p <;> simp [PerPinion.get]

/-- The record at the tooth event: entered, or as it stood. -/
theorem State.toothAnnounced_get :
    (s.toothAnnounced sensor).engagement.pinions.get p
      = if s.rack.present then s.engagement.pinions.get p else (s.engagement.pinions.get p).entered := by
  have hleft : (s.toothLeft sensor).engagement.pinions = s.engagement.pinions := (toothLeft_monitors (k := .climbOut)).1
  unfold State.toothAnnounced
  split
  · rw [hleft]
  · rw [announceEntry_get, hleft]

/-! ## After the tooth event -/

/-- What the abort for motion and the move leave of the tooth event's results. -/
structure State.Settled (e t : State) : Prop where
  engagement : t.engagement = e.engagement
  rack : t.rack = e.rack
  present : ∀ k : FaultKind, k ≠ .loadSensor → k ≠ .proofFail → t.present k = e.present k
  ownPull : e.brake.ownPull = true → t.brake.ownPull = true
  limit : t.speed.localLimit ≤ e.speed.localLimit

theorem State.abortForMotion_settled : s.Settled s.abortForMotion := by
  refine ⟨by simp, by simp, fun k hload hproof => ?_, fun hpull => ?_, ?_⟩
  · unfold State.abortForMotion
    split
    · exact raise_present_of_ne (s := s.setBrake (s.brake.abort .motion)) hproof hload
    · rfl
  · unfold State.abortForMotion
    split
    · have hclass (v : Brake) : faultClassOf (s.setBrake v).straps.strict .proofFail ≠ .a := nofun
      rw [raise_brake (hclass _)]
      exact (s.brake.abort_stands .motion).2.1.trans hpull
    · exact hpull
  · exact ((lowered_kept s).abortForMotion (.refl s)).2.2

theorem State.afterMove_settled : s.Settled (s.afterMove before) :=
  ⟨by simp, by simp, fun k hload _ => afterMove_present _ _ hload, fun hpull => by simpa using hpull,
    ((lowered_kept s).afterMove before (.refl s)).2.2⟩

theorem State.Settled.trans (h : s.Settled t) (h' : t.Settled u) : s.Settled u :=
  ⟨h'.engagement.trans h.engagement, h'.rack.trans h.rack,
    fun k hload hproof => (h'.present k hload hproof).trans (h.present k hload hproof), h'.ownPull ∘ h.ownPull,
    h'.limit.trans h.limit⟩

theorem State.keepStore_settled : s.Settled s.keepStore :=
  ⟨by simp, by simp, fun k _ _ => keepStore_present k, fun hpull => by simpa using hpull, by simp⟩

theorem State.toothEdge_settled :
    ((s.toothAnnounced sensor).toothEvent sensor phase).Settled (s.toothEdge sensor phase).keepStore :=
  (abortForMotion_settled.trans afterMove_settled).trans keepStore_settled

/-! ## A tooth edge on the rack -/

section OnRack

variable (hpresent : s.rack.present = true)

include hpresent

theorem State.toothAnnounced_of_present : s.toothAnnounced sensor = s.toothLeft sensor := if_pos hpresent

theorem State.toothLeft_get : (s.toothLeft sensor).engagement.pinions.get p = s.engagement.pinions.get p := by
  rw [← toothAnnounced_of_present hpresent, toothAnnounced_get, if_pos hpresent]

theorem State.toothEdge_onRack : ((s.toothLeft sensor).toothEvent sensor phase).Settled (s.toothEdge sensor phase).keepStore := by
  rw [← toothAnnounced_of_present hpresent]
  exact toothEdge_settled

/-- The hold timers at the tooth event, by standstill at its end and before it. -/
theorem State.toothEdge_hold {timer : Engagement → Timer}
    (hleft : (s.toothLeft sensor).rack.standstill = false →
      timer (s.toothLeft sensor).engagement = if s.rack.standstill then none else timer s.engagement) :
    (if (s.toothLeft sensor).rack.standstill then some (s.toothLeft sensor).clock else timer (s.toothLeft sensor).engagement)
      = if (s.toothEdge sensor phase).keepStore.rack.standstill then some s.clock
        else if s.rack.standstill then none
        else timer s.engagement := by
  have hrack : (s.toothEdge sensor phase).keepStore.rack = (s.toothLeft sensor).rack :=
    (toothEdge_onRack hpresent).rack.trans (by simp)
  have hclock : (s.toothLeft sensor).clock = s.clock := by simp [State.toothLeft]
  rw [hrack, hclock]
  cases hstill : (s.toothLeft sensor).rack.standstill with
  | true => rfl
  | false => exact hleft hstill

/-- The records after a tooth edge on the rack are those that its tooth event leaves. -/
theorem State.toothEdge_get :
    (s.toothEdge sensor phase).keepStore.engagement.pinions.get p
      = ((s.toothLeft sensor).toothEvent sensor phase).engagement.pinions.get p := by
  rw [(toothEdge_onRack hpresent).engagement]

theorem State.toothEdge_unsettled (h : (s.engagement.pinions.get sensor).settle = 0) :
    ((s.toothLeft sensor).engagement.pinions.get sensor).settle = 0 := by rw [toothLeft_get hpresent, h]

/-- An edge in the sweep (R23 to R26). -/
theorem State.toothEdge_sweeps (hsettle : (s.engagement.pinions.get sensor).settle = 0)
    (hsweeping : (s.engagement.pinions.get sensor).window.status = .sweeping) :
    ((s.engagement.pinions.get sensor).counted + 1 ≠ 64 →
        (s.toothEdge sensor (some bin)).keepStore.engagement.pinions.get sensor
          = { s.engagement.pinions.get sensor with
              histogram := (s.engagement.pinions.get sensor).binned bin
              counted := (s.engagement.pinions.get sensor).counted + 1 })
      ∧ ((s.engagement.pinions.get sensor).counted + 1 = 64 →
        (s.toothEdge sensor (some bin)).keepStore.engagement.pinions.get sensor
            = { s.engagement.pinions.get sensor with
                window := sweptWindow ((s.engagement.pinions.get sensor).binned bin)
                histogram := Vector.replicate 32 0
                counted := 0 }
          ∧ (((s.toothEdge sensor (some bin)).keepStore.engagement.pinions.get sensor).window.status ≠ .valid →
            (s.toothEdge sensor (some bin)).keepStore.present .calibrationFail = true
              ∧ (s.toothEdge sensor (some bin)).keepStore.engagement.calibrationHold
                = (if (s.toothEdge sensor (some bin)).keepStore.rack.standstill then some s.clock
                  else if s.rack.standstill then none
                  else s.engagement.calibrationHold))) := by
  have hget := toothLeft_get (sensor := sensor) (p := sensor) hpresent
  have hevent : (s.toothLeft sensor).toothEvent sensor (some bin) = (s.toothLeft sensor).sweepEdge sensor bin :=
    toothEvent_sweeping (by rw [hget, hsettle]) (by rw [hget, hsweeping])
  have hsettled := toothEdge_onRack (sensor := sensor) (phase := some bin) hpresent
  rw [hevent] at hsettled
  refine ⟨fun hcount => ?_, fun hcount => ?_⟩
  · rw [hsettled.engagement, sweepEdge_counted (by rw [hget]; exact hcount), setMonitor_get, hget]
  · rw [sweepEdge_completed (by rw [hget]; exact hcount), hget] at hsettled
    obtain ⟨hrecord, hfail⟩ := completeSweep_spec (s := s.toothLeft sensor) (p := sensor)
      (histogram := (s.engagement.pinions.get sensor).binned bin)
    rw [hget] at hrecord
    rw [hsettled.engagement, hrecord]
    refine ⟨rfl, fun hstatus => ?_⟩
    obtain ⟨hpresent', hhold⟩ := hfail hstatus
    exact ⟨(hsettled.present _ (by decide) (by decide)).trans hpresent',
      hhold.trans (toothEdge_hold hpresent (timer := (·.calibrationHold))
        fun hstill => ((toothLeft_monitors (k := .climbOut)).2.2 hstill).1)⟩

/-- An edge checked against the band (R29 to R33). -/
theorem State.toothEdge_checks (hsettle : (s.engagement.pinions.get sensor).settle = 0)
    (hvalid : (s.engagement.pinions.get sensor).window.status = .valid) :
    (s.toothEdge sensor (some bin)).keepStore.engagement.pinions.get sensor
        = ((s.toothLeft sensor).checkEdge sensor bin).engagement.pinions.get sensor
      ∧ ((s.toothLeft sensor).checkEdge sensor bin).Settled (s.toothEdge sensor (some bin)).keepStore := by
  have hget := toothLeft_get (sensor := sensor) (p := sensor) hpresent
  have hevent : (s.toothLeft sensor).toothEvent sensor (some bin) = (s.toothLeft sensor).checkEdge sensor bin :=
    toothEvent_checked (by rw [hget, hsettle]) (by rw [hget, hvalid])
  have hsettled := toothEdge_onRack (sensor := sensor) (phase := some bin) hpresent
  rw [hevent] at hsettled
  exact ⟨by rw [hsettled.engagement], hsettled⟩

end OnRack

end Sys2Proof.Machine
end

section
/-! SUPPORT. TOOTH_EDGE at the engagement monitor (O19). -/

namespace Sys2Proof.Machine

variable {s t : State} {m : Moment} {p sensor : Pinion} {phase : Option (Fin 32)} {bin : Fin 32}

/-- A rack entry (R21): the edge is the first of the settle teeth of its own pinion. -/
theorem State.toothEdge_enters (habsent : s.rack.present = false) (p : Pinion) :
    (s.toothEdge sensor phase).keepStore.engagement.pinions.get p
      = if p = sensor then { (s.engagement.pinions.get p).entered with settle := 7 }
        else (s.engagement.pinions.get p).entered := by
  have hget (p : Pinion) : (s.toothAnnounced sensor).engagement.pinions.get p = (s.engagement.pinions.get p).entered := by
    rw [toothAnnounced_get, if_neg (by simp [habsent])]
  have hsettle : ((s.toothAnnounced sensor).engagement.pinions.get sensor).settle = 8 := by
    rw [hget]
    exact PinionMonitor.entered_spec.1
  rw [toothEdge_settled.engagement]
  split
  next heq =>
    subst heq
    rw [toothEvent_settling (by omega), setMonitor_get, hsettle, hget]
  next hne => rw [toothEvent_other hne, hget]

section OnRack

variable (hpresent : s.rack.present = true)

include hpresent

/-- An edge that neither sweeps nor checks leaves the record (R22, R23). -/
theorem State.toothEdge_idle (hsettle : (s.engagement.pinions.get sensor).settle = 0)
    (hidle : phase = none ∨ (s.engagement.pinions.get sensor).window.status ≠ .valid
      ∧ (s.engagement.pinions.get sensor).window.status ≠ .sweeping) :
    (s.toothEdge sensor phase).keepStore.engagement.pinions.get sensor = s.engagement.pinions.get sensor := by
  have hget := toothLeft_get (sensor := sensor) (p := sensor) hpresent
  have hevent : (s.toothLeft sensor).toothEvent sensor phase = s.toothLeft sensor := by
    obtain rfl | ⟨hvalid, hsweeping⟩ := hidle
    · exact toothEvent_none (toothEdge_unsettled hpresent hsettle)
    · exact toothEvent_idle (toothEdge_unsettled hpresent hsettle) (by rwa [hget]) (by rwa [hget])
  rw [toothEdge_get hpresent, hevent, hget]

/-- An edge in the band (R30, R33). -/
theorem State.toothEdge_inBand (hsettle : (s.engagement.pinions.get sensor).settle = 0)
    (hvalid : (s.engagement.pinions.get sensor).window.status = .valid)
    (hband : (s.engagement.pinions.get sensor).window.inBand bin = true) :
    (s.toothEdge sensor (some bin)).keepStore.engagement.pinions.get sensor
        = { s.engagement.pinions.get sensor with slip := (s.engagement.pinions.get sensor).slip - 1 }
      ∧ ((s.toothEdge sensor (some bin)).keepStore.engagement.pinions.p1.slip = 0
          ∧ (s.toothEdge sensor (some bin)).keepStore.engagement.pinions.p2.slip = 0 →
        (s.toothEdge sensor (some bin)).keepStore.present .slipEvent = false) := by
  have hget := toothLeft_get (sensor := sensor) (p := sensor) hpresent
  obtain ⟨hrecord, hsettled⟩ := toothEdge_checks (bin := bin) hpresent hsettle hvalid
  rw [checkEdge_inBand (by rwa [hget]), hget] at hrecord hsettled
  rw [hrecord, hsettled.engagement, reformSlip_engagement, hsettled.present _ (by decide) (by decide)]
  exact ⟨setMonitor_get, reformSlip_gone⟩

/-- An edge out of the band that makes no climb-out (R31). -/
theorem State.toothEdge_slips (hsettle : (s.engagement.pinions.get sensor).settle = 0)
    (hvalid : (s.engagement.pinions.get sensor).window.status = .valid)
    (hband : (s.engagement.pinions.get sensor).window.inBand bin = false)
    (hslip : (s.engagement.pinions.get sensor).slip + 4 < 32) :
    (s.toothEdge sensor (some bin)).keepStore.engagement.pinions.get sensor
        = { s.engagement.pinions.get sensor with slip := (s.engagement.pinions.get sensor).slip + 4 }
      ∧ (s.toothEdge sensor (some bin)).keepStore.present .slipEvent = true := by
  have hget := toothLeft_get (sensor := sensor) (p := sensor) hpresent
  have hraised (u : State) : (u.raise .slipEvent).engagement = u.engagement := by simp
  obtain ⟨hrecord, hsettled⟩ := toothEdge_checks (bin := bin) hpresent hsettle hvalid
  rw [checkEdge_slips (by rwa [hget]) (by rwa [hget]), hget] at hrecord hsettled
  rw [hrecord, hraised, hsettled.present _ (by decide) (by decide)]
  exact ⟨setMonitor_get, raise_present_self _⟩

/-- An edge out of the band that makes a climb-out (R32, R34). -/
theorem State.toothEdge_climbs (hsettle : (s.engagement.pinions.get sensor).settle = 0)
    (hvalid : (s.engagement.pinions.get sensor).window.status = .valid)
    (hband : (s.engagement.pinions.get sensor).window.inBand bin = false)
    (hslip : 32 ≤ (s.engagement.pinions.get sensor).slip + 4) :
    (s.toothEdge sensor (some bin)).keepStore.engagement.pinions.get sensor
        = (s.engagement.pinions.get sensor).climbedOut
      ∧ (s.toothEdge sensor (some bin)).keepStore.present .climbOut = true
      ∧ (s.toothEdge sensor (some bin)).keepStore.engagement.climbOutHold
        = (if (s.toothEdge sensor (some bin)).keepStore.rack.standstill then some s.clock
          else if s.rack.standstill then none
          else s.engagement.climbOutHold)
      ∧ (s.present .climbOut = false →
        (s.toothEdge sensor (some bin)).keepStore.brake.ownPull = true
          ∧ (s.toothEdge sensor (some bin)).keepStore.speed.localLimit = 0) := by
  have hget := toothLeft_get (sensor := sensor) (p := sensor) hpresent
  obtain ⟨-, hleft, hholds⟩ := s.toothLeft_monitors (sensor := sensor) (k := .climbOut)
  obtain ⟨hrecord, hsettled⟩ := toothEdge_checks (bin := bin) hpresent hsettle hvalid
  rw [checkEdge_climbs (by rwa [hget]) (by rwa [hget]), hget] at hrecord hsettled
  obtain ⟨hclimbed, hset, hhold, hpulls⟩ :=
    climbedOut_spec (s := s.toothLeft sensor) (p := sensor) (mon := (s.engagement.pinions.get sensor).climbedOut)
  refine ⟨hrecord.trans hclimbed, (hsettled.present _ (by decide) (by decide)).trans hset, ?_, fun habsent => ?_⟩
  · rw [← toothEdge_hold (phase := some bin) hpresent (timer := (·.climbOutHold)) fun hstill => (hholds hstill).2, ← hhold]
    exact congrArg (·.climbOutHold) hsettled.engagement
  · obtain ⟨hpull, hlimit⟩ := hpulls ((hleft (by decide)).trans habsent)
    exact ⟨hsettled.ownPull hpull, Nat.le_zero.mp (hsettled.limit.trans hlimit.le)⟩

end OnRack

/-- Settles O19: a rack entry enters both records; on the rack the edge's own record settles, sweeps or is checked. -/
theorem toothEdgeSweepsAndChecks : Obligations.ToothEdgeSweepsAndChecks := by
  intro m sensor phase s hrun mon
  refine ⟨_, exec_toothEdge hrun, fun habsent p => ?_, fun hpresent => ⟨fun p hne => ?_, fun hsettle => ?_,
    fun hsettle hphase => State.toothEdge_idle (s := s.atMoment m) hpresent hsettle (.inl hphase),
    fun hsettle hvalid hsweeping => State.toothEdge_idle (s := s.atMoment m) hpresent hsettle (.inr ⟨hvalid, hsweeping⟩),
    ?_⟩⟩
  · obtain ⟨hsettle, hslip, hkept, hcleared⟩ := (s.engagement.pinions.get p).entered_spec
    rw [State.toothEdge_enters (s := s.atMoment m) habsent]
    split
    · exact ⟨rfl, hslip, hkept, hcleared⟩
    · exact ⟨hsettle, hslip, hkept, hcleared⟩
  · rw [State.toothEdge_get (s := s.atMoment m) hpresent, toothEvent_other hne]
    exact State.toothLeft_get (s := s.atMoment m) hpresent
  · have hget := State.toothLeft_get (s := s.atMoment m) (sensor := sensor) (p := sensor) hpresent
    rw [State.toothEdge_get (s := s.atMoment m) hpresent, toothEvent_settling (by rw [hget]; exact hsettle),
      State.setMonitor_get, hget]
    rfl
  · intro bin hbin hsettle
    obtain rfl : phase = some bin := hbin
    refine ⟨fun hsweeping => State.toothEdge_sweeps (s := s.atMoment m) hpresent hsettle hsweeping,
      fun hvalid => ⟨fun hband => ?_, fun hband hslip => ?_, fun hband hslip => ?_⟩⟩
    · exact State.toothEdge_inBand (s := s.atMoment m) hpresent hsettle hvalid (Window.inBand_iff.mpr hband)
    · exact State.toothEdge_slips (s := s.atMoment m) hpresent hsettle hvalid
        (Bool.eq_false_iff.mpr (mt Window.inBand_iff.mp hband)) hslip
    · exact State.toothEdge_climbs (s := s.atMoment m) hpresent hsettle hvalid
        (Bool.eq_false_iff.mpr (mt Window.inBand_iff.mp hband)) hslip

end Sys2Proof.Machine
end

section
/-! SUPPORT. WHEEL_PULSE: the rack after the pulse (sections 1.1 to 1.4). -/

namespace Sys2Proof.Machine

variable {s t u v : State} {direction : Direction} {q r : Rack} {now distance circumference : Nat} {teeth disagree : Bool}
  {leads : Bool}

/-! ## The rack at a wheel pulse (R2, R5, R11, R12) -/

/-- The travel from which a pulse counts: the first one after a start applies the pending teeth (R11). -/
def Rack.pulseBase (direction : Direction) (r : Rack) : Int :=
  if r.lastWheelDir = .none then clampTravel (r.travel + signedDistance direction (r.pendingTeeth * 10000)) else r.travel

theorem Rack.applyPending_eq :
    r.applyPending direction
      = { r with
          travel := r.pulseBase direction
          pendingTeeth := if r.lastWheelDir = .none then 0 else r.pendingTeeth } := by
  unfold Rack.applyPending Rack.pulseBase
  split <;> rfl

/-- A wheel pulse changes direction, presence, absence distance and the odometer alone. -/
theorem Rack.wheelPulse_eq :
    r.wheelPulse direction teeth circumference
      = { r with
          lastWheelDir := direction
          absence := r.absence + circumference
          present := r.present && !(r.present && decide (30000 ≤ r.absence + circumference))
          movingDir := if r.standstill then r.movingDir else direction
          travel := (r.wheelPulse direction teeth circumference).travel
          pendingTeeth := if r.lastWheelDir = .none then 0 else r.pendingTeeth
          uncounted := (r.wheelPulse direction teeth circumference).uncounted } := by
  unfold Rack.wheelPulse
  rw [Rack.applyPending_eq]
  cases teeth with
  | false =>
    cases r.present && decide (30000 ≤ r.absence + circumference) <;> rfl
  | true =>
    cases r.present && decide (30000 ≤ r.absence + circumference) <;> rfl

/-- A pulse on the wheel source counts its distance (R11). -/
theorem Rack.wheelPulse_wheel (h : teeth = false) :
    (r.wheelPulse direction teeth circumference).travel
        = clampTravel (r.pulseBase direction + signedDistance direction circumference)
      ∧ (r.wheelPulse direction teeth circumference).uncounted = r.uncounted := by
  subst h
  unfold Rack.wheelPulse
  rw [Rack.applyPending_eq]
  dsimp only
  rw [Bool.and_false]
  exact ⟨rfl, rfl⟩

theorem decide_lt_eq (a b : Nat) : decide (a < b) = !decide (b ≤ a) := by
  rw [← decide_not]
  exact decide_eq_decide.mpr Nat.not_le.symm

theorem Rack.wheelPulse_exits :
    (r.wheelPulse direction teeth circumference).present
      = (r.present && decide (r.absence + circumference < 30000)) := by
  have hpresent : (r.wheelPulse direction teeth circumference).present
      = (r.present && !(r.present && decide (30000 ≤ r.absence + circumference))) := rfl
  rw [hpresent, decide_lt_eq]
  cases r.present <;> rfl

/-- A pulse on the tooth source goes uncounted, and is counted with the others as the rack is left (R12). -/
theorem Rack.wheelPulse_teeth (h : teeth = true) (hpresent : r.present = true) :
    ((r.wheelPulse direction teeth circumference).present = true →
        (r.wheelPulse direction teeth circumference).travel = r.pulseBase direction
          ∧ (r.wheelPulse direction teeth circumference).uncounted
            = clampTravel (r.uncounted + signedDistance direction circumference))
      ∧ ((r.wheelPulse direction teeth circumference).present = false →
        (r.wheelPulse direction teeth circumference).travel
            = clampTravel
              (r.pulseBase direction + clampTravel (r.uncounted + signedDistance direction circumference))
          ∧ (r.wheelPulse direction teeth circumference).uncounted = 0) := by
  subst h
  rw [Rack.wheelPulse_exits, hpresent, Bool.true_and]
  unfold Rack.wheelPulse
  rw [Rack.applyPending_eq]
  dsimp only
  rw [decide_lt_eq, hpresent]
  cases decide (30000 ≤ r.absence + circumference)
  · exact ⟨fun _ => ⟨rfl, rfl⟩, nofun⟩
  · exact ⟨nofun, fun _ => ⟨rfl, rfl⟩⟩

/-! ## The rack after the measurement -/

/-- What a wheel pulse makes of the rack, but for the end of standstill and the grade. -/
structure State.WheelRack (direction : Direction) (s : State) (q : Rack) : Prop where
  last : q.lastWheelDir = direction
  absence : q.absence = s.rack.absence + s.straps.wheelCircumference
  present : q.present = (s.rack.present && decide (s.rack.absence + s.straps.wheelCircumference < 30000))
  reference : q.wheelRef = some s.clock
  speed : q.wheelSpeed
    = match s.rack.wheelRef with
      | none => 0
      | some ref =>
        if ref + 2000000 ≤ s.clock then 0
        else if s.clock ≤ ref then Config.zeroIntervalSpeed s.freeCount
        else s.straps.wheelCircumference * 10000 / (s.clock - ref)
  edge : q.wheelEdgeSpeed = q.wheelSpeed
  tooth : s.rack.toothDecays s.clock q
  evaluated : s.rack.evaluated s.clock (s.present .speedDisagree) q
  pending : s.rack.lastWheelDir = .none → q.pendingTeeth = 0
  wheel : s.countingTeeth = false →
    q.travel = clampTravel (s.rack.pulseBase direction + signedDistance direction s.straps.wheelCircumference)
      ∧ q.uncounted = s.rack.uncounted
  teeth : s.countingTeeth = true ∧ q.present = true →
    q.travel = s.rack.pulseBase direction
      ∧ q.uncounted = clampTravel (s.rack.uncounted + signedDistance direction s.straps.wheelCircumference)
  exit : s.countingTeeth = true ∧ q.present = false →
    q.travel
        = clampTravel
          (s.rack.pulseBase direction
            + clampTravel (s.rack.uncounted + signedDistance direction s.straps.wheelCircumference))
      ∧ q.uncounted = 0

theorem State.WheelRack.leaving (h : s.WheelRack direction q) (hstill : s.rack.standstill = true) :
    s.WheelRack direction (q.leaving direction) :=
  ⟨h.last, h.absence, h.present, h.reference, h.speed, h.edge, h.tooth, Rack.evaluated_leaving h.evaluated hstill,
    h.pending, h.wheel, h.teeth, h.exit⟩

theorem State.WheelRack.graded (h : s.WheelRack direction q) (g : Int) : s.WheelRack direction { q with grade := g } :=
  ⟨h.last, h.absence, h.present, h.reference, h.speed, h.edge, h.tooth, h.evaluated, h.pending, h.wheel, h.teeth, h.exit⟩

/-- The rack of a pulse before its source. -/
def State.pulsed (direction : Direction) (s : State) : Rack :=
  s.rack.wheelPulse direction s.countingTeeth s.straps.wheelCircumference

/-- The rack with the pulse in its source. -/
def State.pulseSourced (direction : Direction) (s : State) : Rack :=
  { s.pulsed direction with
    wheelRef := some s.clock
    wheelEdgeSpeed :=
      (speedAtEdge s.freeCount (wheelDistance s.straps.wheelCircumference) (liveReference s.clock s.rack.wheelRef) s.clock).1 }

/-- The state of a wheel pulse after its speed evaluation. -/
def State.pulseMeasured (direction : Direction) (s : State) : State :=
  ((s.setRack (s.pulsed direction)).wheelSource).evaluateSpeed

theorem State.pulseMeasured_rack :
    (s.pulseMeasured direction).rack
      = (s.pulseSourced direction).judged s.clock s.straps.wheelCircumference (s.present .speedDisagree) := by
  have href : (s.pulsed direction).wheelRef = s.rack.wheelRef := congrArg (·.wheelRef) Rack.wheelPulse_eq
  have hsource : ((s.setRack (s.pulsed direction)).wheelSource).rack = s.pulseSourced direction := by
    rw [State.pulseSourced, ← href]
    rfl
  rw [State.pulseMeasured, State.evaluateSpeed_eq, hsource]
  rfl

/-- What the pulse leaves of the tooth source, the timers and standstill. -/
theorem State.pulseSourced_stands :
    (s.pulseSourced direction).toothRef = s.rack.toothRef ∧ (s.pulseSourced direction).toothEdgeSpeed = s.rack.toothEdgeSpeed
      ∧ (s.pulseSourced direction).disagreeTimer = s.rack.disagreeTimer
      ∧ (s.pulseSourced direction).agreeTimer = s.rack.agreeTimer
      ∧ (s.pulseSourced direction).standstillTimer = s.rack.standstillTimer
      ∧ (s.pulseSourced direction).standstill = s.rack.standstill := by
  have heq : s.pulsed direction = _ := Rack.wheelPulse_eq
  exact ⟨congrArg (·.toothRef) heq, congrArg (·.toothEdgeSpeed) heq, congrArg (·.disagreeTimer) heq,
    congrArg (·.agreeTimer) heq, congrArg (·.standstillTimer) heq, congrArg (·.standstill) heq⟩

/-- The pulse's own direction, presence and pending teeth. -/
theorem State.pulseSourced_pulse :
    (s.pulseSourced direction).lastWheelDir = direction
      ∧ (s.pulseSourced direction).absence = s.rack.absence + s.straps.wheelCircumference
      ∧ (s.pulseSourced direction).present
        = (s.rack.present && decide (s.rack.absence + s.straps.wheelCircumference < 30000))
      ∧ (s.pulseSourced direction).pendingTeeth = (if s.rack.lastWheelDir = .none then 0 else s.rack.pendingTeeth)
      ∧ (s.pulseSourced direction).movingDir = (if s.rack.standstill then s.rack.movingDir else direction) := by
  have heq : s.pulsed direction = _ := Rack.wheelPulse_eq
  exact ⟨congrArg (·.lastWheelDir) heq, congrArg (·.absence) heq, Rack.wheelPulse_exits (direction := direction) (r := s.rack)
      (teeth := s.countingTeeth),
    congrArg (·.pendingTeeth) heq,
    congrArg (·.movingDir) heq⟩

theorem State.countingTeeth_present (h : s.countingTeeth = true) : s.rack.present = true := by
  rw [State.countingTeeth, Bool.and_eq_true] at h
  exact h.1

theorem State.pulseMeasured_wheelRack : s.WheelRack direction (s.pulseMeasured direction).rack := by
  obtain ⟨htoothRef, htoothEdge, hdisagree, hagree, hstandstill, hstill⟩ := s.pulseSourced_stands (direction := direction)
  obtain ⟨hlast, habsence, hpresent, hpending, -⟩ := s.pulseSourced_pulse (direction := direction)
  obtain ⟨href, hspeed, hedge⟩ := Rack.judged_wheelSpeed (r := s.pulseSourced direction) (now := s.clock)
    (circumference := s.straps.wheelCircumference) (disagree := s.present .speedDisagree) rfl
  obtain ⟨htravel', hpending', huncounted'⟩ := Rack.judged_odometer (r := s.pulseSourced direction) (now := s.clock)
    (circumference := s.straps.wheelCircumference) (disagree := s.present .speedDisagree)
  have hkept : ((s.pulseSourced direction).judged s.clock s.straps.wheelCircumference (s.present .speedDisagree)).present
      = (s.pulsed direction).present := rfl
  have htravel : (s.pulseSourced direction).travel = (s.pulsed direction).travel := rfl
  have huncounted : (s.pulseSourced direction).uncounted = (s.pulsed direction).uncounted := rfl
  rw [pulseMeasured_rack]
  refine ⟨hlast, habsence, hpresent, href, ?_, hedge.trans hspeed.symm,
    (Rack.toothDecays_congr htoothRef htoothEdge).mp Rack.judged_toothDecays,
    (Rack.evaluated_congr hdisagree hagree hstandstill hstill).mp Rack.judged_evaluated, fun hfirst => ?_,
    fun hteeth => ?_, fun hteeth => ?_, fun hteeth => ?_⟩
  · exact hspeed.trans (speedAtEdge_eq s.freeCount (wheelDistance s.straps.wheelCircumference) s.rack.wheelRef s.clock)
  · rw [hpending', hpending, if_pos hfirst]
  · rw [htravel', huncounted', htravel, huncounted]
    exact Rack.wheelPulse_wheel hteeth
  · rw [hkept] at hteeth
    rw [htravel', huncounted', htravel, huncounted]
    exact (Rack.wheelPulse_teeth hteeth.1 (countingTeeth_present hteeth.1)).1 hteeth.2
  · rw [hkept] at hteeth
    rw [htravel', huncounted', htravel, huncounted]
    exact (Rack.wheelPulse_teeth hteeth.1 (countingTeeth_present hteeth.1)).2 hteeth.2

theorem State.pulseMeasured_motion :
    (s.pulseMeasured direction).rack.standstill = s.rack.standstill
      ∧ (s.pulseMeasured direction).rack.movingDir = (if s.rack.standstill then s.rack.movingDir else direction) := by
  rw [pulseMeasured_rack]
  exact ⟨pulseSourced_stands.2.2.2.2.2, pulseSourced_pulse.2.2.2.2⟩

end Sys2Proof.Machine
end

section
/-! SUPPORT. WHEEL_PULSE: direction, speed, odometer, rack exit, grade, the end of standstill and a proof test (O21). -/

namespace Sys2Proof.Machine

variable {ps : List Part} {s t u v : State} {m : Moment} {j k : FaultKind} {direction : Direction} {p : Pinion} {q : Rack}
  {now : Nat} {before : State} {leads : Bool} {mon : PinionMonitor}

/-! ## The pulses of a running test (R123) -/

/-- The proof record with one more pulse. -/
def ProofRecord.pulse (r : ProofRecord) : ProofRecord := { r with pulses := min 3 (r.pulses + 1) }

/-- The state with one more pulse in its test. -/
def State.testPulsed (s : State) : State := s.setBrake { s.brake with proof := s.brake.proof.pulse }

theorem wheelMotion_of_idle (h : s.brake.proof.state ≠ .running) : s.wheelMotion = s := if_neg h

theorem wheelMotion_of_running (h : s.brake.proof.state = .running) :
    s.wheelMotion = if 3 ≤ s.testPulsed.brake.proof.pulses then s.testPulsed.abortForMotion else s.testPulsed := if_pos h

theorem wheelMotion_few (h : s.brake.proof.state = .running) (hfew : s.brake.proof.pulses < 2) :
    s.wheelMotion.brake.proof = { s.brake.proof with pulses := s.brake.proof.pulses + 1 } := by
  have hpulses : s.testPulsed.brake.proof.pulses = s.brake.proof.pulses + 1 := Nat.min_eq_right (by omega)
  rw [wheelMotion_of_running h, if_neg (by omega), ← hpulses]
  rfl

theorem wheelMotion_third (h : s.brake.proof.state = .running) (hthird : 2 ≤ s.brake.proof.pulses) :
    s.wheelMotion.brake.proof.state = .aborted ∧ s.wheelMotion.brake.proof.reason = .motion
      ∧ s.wheelMotion.present .proofFail = true := by
  have hpulses : s.testPulsed.brake.proof.pulses = 3 := Nat.min_eq_left (by omega)
  have hrunning : s.testPulsed.brake.proof.state = .running := h
  have hclass (v : Brake) : faultClassOf (s.testPulsed.setBrake v).straps.strict .proofFail ≠ .a := nofun
  rw [wheelMotion_of_running h, if_pos hpulses.ge, State.abortForMotion, if_pos hrunning, State.raise_brake (hclass _),
    State.setBrake_brake, abort_proof hrunning]
  exact ⟨rfl, rfl, State.raise_present_self _⟩

/-- The parts that a pulse changes of a running test. -/
def Part.ofMotion : List Part := Part.also Part.ofClassB [.outputs, .proof]

theorem testPulsed_onlyChanges : onlyChanges [.proof] s s.testPulsed := by
  intro q
  cases q <;> simp [Part.same, State.testPulsed]

theorem abortForMotion_onlyChanges_ofMotion : onlyChanges Part.ofMotion s s.abortForMotion := by
  unfold State.abortForMotion
  split
  · have hraised := raise_onlyChanges_ofClassB (s := s.setBrake (s.brake.abort .motion)) (k := .proofFail) nofun
    exact ((abort_onlyChanges _).mono (by decide)).trans (hraised.mono (by decide)) (by simp)
  · exact onlyChanges_refl _ _

theorem wheelMotion_onlyChanges : onlyChanges Part.ofMotion s s.wheelMotion := by
  by_cases hrunning : s.brake.proof.state = .running
  · rw [wheelMotion_of_running hrunning]
    split
    · exact (testPulsed_onlyChanges.mono (by decide)).trans abortForMotion_onlyChanges_ofMotion rfl
    · exact testPulsed_onlyChanges.mono (by decide)
  · rw [wheelMotion_of_idle hrunning]
    exact onlyChanges_refl _ _

theorem State.wheelMotion_adrift (h : s.unreleased) (hmoving : s.rack.standstill = false) : s.Adrift s.wheelMotion := by
  by_cases hrunning : s.brake.proof.state = .running
  · have hpulsed : s.Adrift s.testPulsed := .of_stands h rfl rfl rfl rfl rfl
    rw [wheelMotion_of_running hrunning]
    split
    · exact hpulsed.trans (abortForMotion_adrift hpulsed.sides hmoving)
    · exact hpulsed
  · rw [wheelMotion_of_idle hrunning]
    exact .refl h

theorem wheelMotion_present (hload : k ≠ .loadSensor) (hproof : k ≠ .proofFail) :
    s.wheelMotion.present k = s.present k := by
  by_cases hrunning : s.brake.proof.state = .running
  · rw [wheelMotion_of_running hrunning]
    split
    · exact State.abortForMotion_settled.present k hload hproof
    · rfl
  · rw [wheelMotion_of_idle hrunning]

/-! ## The worst-case grade (R17) -/

theorem followWorstGrade_rack :
    s.followWorstGrade.rack = { s.rack with grade := s.followWorstGrade.rack.grade }
      ∧ (s.gradeWorst = true → s.followWorstGrade.rack.grade = worstGrade s.rack.lastWheelDir) := by
  unfold State.followWorstGrade
  split
  next => rw [State.setGrade_rack]; exact ⟨rfl, fun _ => rfl⟩
  next hnot => exact ⟨rfl, fun h => absurd h hnot⟩

theorem followWorstGrade_present (hload : k ≠ .loadSensor) : s.followWorstGrade.present k = s.present k := by
  unfold State.followWorstGrade
  split
  · exact State.setGrade_present _ hload
  · rfl

theorem followWorstGrade_onlyChanges : onlyChanges (Part.also Part.ofClassB [.gradeFilter]) s s.followWorstGrade := by
  unfold State.followWorstGrade
  split
  · exact setGrade_onlyChanges _
  · exact onlyChanges_refl _ _

theorem State.setGrade_of_unreleased (h : s.unreleased) (g : Int) : s.setGrade g = s.setRack { s.rack with grade := g } := by
  unfold State.setGrade
  split
  next heq => rw [heq]; rfl
  next => exact retestPermits_of_unreleased h

theorem State.followWorstGrade_left (hsides : t.unreleased) (h : s.standstillLeft now t) :
    s.standstillLeft now t.followWorstGrade ∧ t.followWorstGrade.unreleased := by
  unfold State.followWorstGrade
  split
  · rw [setGrade_of_unreleased hsides]
    exact ⟨h, hsides⟩
  · exact ⟨h, hsides⟩

/-! ## The steps of a pulse -/

theorem State.leaveAtPulse_eq :
    s.leaveAtPulse direction
      = if s.rack.standstill = true ∧ 56 ≤ s.rack.wheelSpeed then s.leaveStandstill direction else s := by
  simp [State.leaveAtPulse]

/-- The state of a wheel pulse after the end of standstill. -/
def State.pulseLeft (direction : Direction) (s : State) : State := (s.pulseMeasured direction).leaveAtPulse direction

/-- The state of a wheel pulse after a rack exit. -/
def State.pulseAnnounced (direction : Direction) (s : State) : State :=
  if s.rack.present && !(s.pulseLeft direction).rack.present then (s.pulseLeft direction).monitorExit
  else s.pulseLeft direction

/-- The effect of a wheel pulse in its direction. -/
def State.pulseTaken (direction : Direction) (s : State) : State :=
  ((s.pulseAnnounced direction).followWorstGrade.wheelMotion).afterMove s

theorem State.wheelPulse_eq :
    s.wheelPulse leads = s.pulseTaken (pulseDirection s.straps.orient leads) := rfl

theorem State.pulseMeasured_stands :
    (s.pulseMeasured direction).doors = s.doors ∧ (s.pulseMeasured direction).clock = s.clock
      ∧ (s.pulseMeasured direction).radio = s.radio ∧ (s.pulseMeasured direction).station = s.station
      ∧ (s.pulseMeasured direction).engagement = s.engagement ∧ (s.pulseMeasured direction).brake = s.brake := by
  refine ⟨?_, ?_, ?_, ?_, ?_, ?_⟩ <;> simp [State.pulseMeasured]

theorem State.pulseAnnounced_stands :
    (s.pulseAnnounced direction).rack = (s.pulseLeft direction).rack
      ∧ (s.pulseAnnounced direction).radio = (s.pulseLeft direction).radio
      ∧ (s.pulseAnnounced direction).brake = s.brake ∧ (s.pulseAnnounced direction).station = s.station := by
  have hbrake : (s.pulseLeft direction).brake = s.brake := by simp [State.pulseLeft, State.pulseMeasured]
  have hstation : (s.pulseLeft direction).station = s.station := by simp [State.pulseLeft, State.pulseMeasured]
  unfold State.pulseAnnounced
  split
  · exact ⟨by simp, by simp, Eq.trans (by simp) hbrake, Eq.trans (by simp) hstation⟩
  · exact ⟨rfl, rfl, hbrake, hstation⟩

theorem State.pulseTaken_rack :
    (s.pulseTaken direction).rack = { (s.pulseLeft direction).rack with grade := (s.pulseTaken direction).rack.grade } := by
  have hrack : (s.pulseTaken direction).rack = (s.pulseAnnounced direction).followWorstGrade.rack := by
    simp [State.pulseTaken]
  rw [hrack, ← pulseAnnounced_stands.1]
  exact followWorstGrade_rack.1

theorem State.pulseTaken_radio : (s.pulseTaken direction).radio = (s.pulseLeft direction).radio := by
  rw [← pulseAnnounced_stands.2.1]
  simp [State.pulseTaken]

theorem State.pulseLeft_rack :
    (s.pulseLeft direction).rack
      = if s.rack.standstill = true ∧ 56 ≤ (s.pulseMeasured direction).rack.wheelSpeed then
          (s.pulseMeasured direction).rack.leaving direction
        else (s.pulseMeasured direction).rack := by
  rw [State.pulseLeft, leaveAtPulse_eq, pulseMeasured_motion.1]
  split
  · exact leaveStandstill_rack
  · rfl

theorem State.pulseTaken_wheelRack : s.WheelRack direction (s.pulseTaken direction).rack := by
  rw [pulseTaken_rack, pulseLeft_rack]
  split
  next h => exact (pulseMeasured_wheelRack.leaving h.1).graded _
  next => exact pulseMeasured_wheelRack.graded _

/-- Standstill and the moving direction after a pulse (R10). -/
theorem State.pulseTaken_motion :
    ((s.pulseTaken direction).rack.standstill = false → (s.pulseTaken direction).rack.movingDir = direction)
      ∧ (s.rack.standstill = true →
        (s.pulseTaken direction).rack.standstill = decide ((s.pulseTaken direction).rack.wheelSpeed < 56))
      ∧ (s.rack.standstill = false → (s.pulseTaken direction).rack.standstill = false) := by
  obtain ⟨hstill, hdirection⟩ := s.pulseMeasured_motion (direction := direction)
  rw [pulseTaken_rack, pulseLeft_rack]
  split
  next h =>
    refine ⟨fun _ => rfl, fun _ => ?_, fun _ => rfl⟩
    exact (decide_eq_false (Nat.not_lt.mpr h.2)).symm
  next h =>
    refine ⟨fun hmoving => ?_, fun hstood => ?_, fun hmoved => hstill.trans hmoved⟩
    · have hmoved : s.rack.standstill = false := hstill.symm.trans hmoving
      exact hdirection.trans (if_neg (by simp [hmoved]))
    · have hslow : (s.pulseMeasured direction).rack.wheelSpeed < 56 := Nat.lt_of_not_le fun hfast => h ⟨hstood, hfast⟩
      exact (hstill.trans hstood).trans (decide_eq_true hslow).symm

/-- What leaves standstill at a pulse is left at its end. -/
theorem State.pulseTaken_left (hstill : s.rack.standstill = true)
    (hleft : (s.pulseTaken direction).rack.standstill = false) : s.standstillLeft s.clock (s.pulseTaken direction) := by
  have hmoving : (s.pulseLeft direction).rack.standstill = false := by
    rw [pulseTaken_rack] at hleft
    exact hleft
  have hleaves : s.rack.standstill = true ∧ 56 ≤ (s.pulseMeasured direction).rack.wheelSpeed := by
    by_contra hstays
    rw [pulseLeft_rack, if_neg hstays, pulseMeasured_motion.1] at hmoving
    exact absurd (hstill.symm.trans hmoving) nofun
  have heq : s.pulseLeft direction = (s.pulseMeasured direction).leaveStandstill direction := by
    rw [State.pulseLeft, leaveAtPulse_eq, pulseMeasured_motion.1, if_pos hleaves]
  have hunreleased : (s.pulseLeft direction).unreleased := heq ▸ leaveStandstill_unreleased
  have hmeasured : s.standstillLeft s.clock (s.pulseLeft direction) := by
    have h := (s.pulseMeasured direction).leaveStandstill_left (direction := direction)
    rw [pulseMeasured_stands.2.1, ← heq] at h
    rw [State.standstillLeft, ← (s.pulseMeasured_stands (direction := direction)).1]
    exact h
  have hannounced : (s.pulseLeft direction).Adrift (s.pulseAnnounced direction) := by
    unfold State.pulseAnnounced
    split
    · have hset : (s.pulseLeft direction).Adrift
          ((s.pulseLeft direction).setEngagement
            { (s.pulseLeft direction).engagement with
              pinions :=
                { p1 := (s.pulseLeft direction).engagement.pinions.p1.exited
                  p2 := (s.pulseLeft direction).engagement.pinions.p2.exited } }) :=
        .of_stands hunreleased rfl rfl rfl rfl rfl
      exact hset.trans (reformSlip_adrift hset.sides)
    · exact .refl hunreleased
  obtain ⟨hgraded, hsides⟩ := followWorstGrade_left hannounced.sides (hmeasured.of_adrift hannounced)
  have hstillness : (s.pulseAnnounced direction).followWorstGrade.rack.standstill = false := by
    rw [followWorstGrade_rack.1, pulseAnnounced_stands.1]
    exact hmoving
  have hmotion := wheelMotion_adrift hsides hstillness
  exact hgraded.of_adrift (hmotion.trans (afterMove_adrift hmotion.sides s))

theorem State.pulseTaken_stays (h : (s.pulseTaken direction).rack.standstill = s.rack.standstill) :
    (s.pulseTaken direction).radio = s.radio := by
  have hstays : ¬(s.rack.standstill = true ∧ 56 ≤ (s.pulseMeasured direction).rack.wheelSpeed) := by
    intro hleaves
    rw [pulseTaken_rack, pulseLeft_rack, if_pos hleaves, hleaves.1] at h
    exact absurd h nofun
  rw [pulseTaken_radio, State.pulseLeft, leaveAtPulse_eq, pulseMeasured_motion.1, if_neg hstays, pulseMeasured_stands.2.2.1]

/-! ## Rack exit (R27) -/

theorem PinionMonitor.exited_spec :
    mon.exited.settle = 0 ∧ mon.exited.slip = 0
      ∧ mon.exited.window = if mon.window.status = .sweeping then Window.cleared .invalid else mon.window := by
  unfold PinionMonitor.exited
  split
  · exact ⟨rfl, rfl, rfl⟩
  · exact ⟨rfl, rfl, rfl⟩

theorem State.pulseTaken_exits (hpresent : s.rack.present = true) (hexit : (s.pulseTaken direction).rack.present = false) :
    (s.pulseTaken direction).engagement.pinions.get p = (s.engagement.pinions.get p).exited := by
  have hgone : (s.pulseLeft direction).rack.present = false := by
    rw [pulseTaken_rack] at hexit
    exact hexit
  have hpinions : (s.pulseLeft direction).engagement.pinions = s.engagement.pinions := by
    rw [State.pulseLeft, leaveAtPulse_eq]
    split
    · rw [leaveStandstill_pinions, pulseMeasured_stands.2.2.2.2.1]
    · rw [pulseMeasured_stands.2.2.2.2.1]
  have hannounced : (s.pulseTaken direction).engagement = (s.pulseLeft direction).monitorExit.engagement := by
    have hstands : (s.pulseTaken direction).engagement = (s.pulseAnnounced direction).engagement := by simp [State.pulseTaken]
    rw [hstands, State.pulseAnnounced, hpresent, hgone]
    rfl
  rw [hannounced, State.monitorExit, reformSlip_engagement, hpinions]
  cases p <;> rfl

/-! ## The grade and the proof test at the end of the pulse -/

theorem State.pulseTaken_grade (h : (s.pulseTaken direction).gradeWorst = true) :
    (s.pulseTaken direction).rack.grade = worstGrade direction := by
  have hrack : (s.pulseTaken direction).rack = (s.pulseAnnounced direction).followWorstGrade.rack := by
    simp [State.pulseTaken]
  have hring : (s.pulseTaken direction).rack.ring = (s.pulseAnnounced direction).rack.ring := by
    rw [hrack, followWorstGrade_rack.1]
  have hflag : (s.pulseTaken direction).present .gradeSensor = (s.pulseAnnounced direction).present .gradeSensor := by
    rw [State.pulseTaken, afterMove_present _ _ (by decide), wheelMotion_present (by decide) (by decide),
      followWorstGrade_present (by decide)]
  have hworst : (s.pulseAnnounced direction).gradeWorst = true := by
    rw [State.gradeWorst, ← hflag, ← hring]
    exact h
  have hlast : (s.pulseAnnounced direction).rack.lastWheelDir = direction := by
    have hwheel := (s.pulseTaken_wheelRack (direction := direction)).last
    rw [hrack, followWorstGrade_rack.1] at hwheel
    exact hwheel
  rw [hrack, followWorstGrade_rack.2 hworst, hlast]

theorem State.pulseTaken_proof :
    (s.pulseTaken direction).brake = (s.pulseAnnounced direction).followWorstGrade.wheelMotion.brake
      ∧ (s.pulseAnnounced direction).followWorstGrade.brake.proof = s.brake.proof := by
  refine ⟨by simp [State.pulseTaken], ?_⟩
  rw [← (s.pulseAnnounced_stands (direction := direction)).2.2.1]
  simp

/-! ## The parts that change -/

/-- The parts that a wheel pulse may change. -/
def Part.ofWheelPulse : List Part :=
  Part.also Part.ofClassB
    [.speedSources, .motion, .presence, .odometer, .gradeFilter, .monitors, .holdTimers, .platform, .outputs, .proof,
      .restrictions, .freeCount]

theorem pulsed_onlyChanges : onlyChanges [.motion, .presence, .odometer] s (s.setRack (s.pulsed direction)) := by
  have heq : s.pulsed direction = _ := Rack.wheelPulse_eq
  rw [heq]
  intro q
  cases q <;> simp [Part.same]

theorem wheelSource_onlyChanges : onlyChanges [.speedSources, .freeCount] s s.wheelSource := by
  intro q
  cases q <;> simp [Part.same, State.wheelSource]

theorem pulseAnnounced_onlyChanges : onlyChanges Part.ofWheelPulse s (s.pulseAnnounced direction) := by
  have hmeasured : onlyChanges Part.ofWheelPulse s (s.pulseMeasured direction) := by
    refine onlyChanges.trans ?_ (evaluateSpeed_onlyChanges.mono (by decide)) (by simp)
    exact (pulsed_onlyChanges.mono (by decide)).trans (wheelSource_onlyChanges.mono (by decide)) (by simp)
  have hleft : onlyChanges Part.ofWheelPulse s (s.pulseLeft direction) := by
    rw [State.pulseLeft, State.leaveAtPulse_eq]
    split
    · exact hmeasured.trans (leaveStandstill_onlyChanges.mono (by decide)) State.pulseMeasured_stands.2.2.2.1
    · exact hmeasured
  unfold State.pulseAnnounced
  split
  · exact hleft.trans (monitorExit_onlyChanges.mono (by decide)) (by simp [State.pulseLeft, State.pulseMeasured])
  · exact hleft

theorem pulseTaken_onlyChanges : onlyChanges Part.ofWheelPulse s (s.pulseTaken direction) := by
  have hstation := (s.pulseAnnounced_stands (direction := direction)).2.2.2
  have hgraded := (pulseAnnounced_onlyChanges (s := s) (direction := direction)).trans
    (followWorstGrade_onlyChanges.mono (by decide)) hstation
  have hmotion := hgraded.trans (wheelMotion_onlyChanges.mono (by decide)) (Eq.trans (by simp) hstation)
  exact hmotion.trans ((afterMove_onlyChanges _ s).mono (by decide)) (Eq.trans (by simp) hstation)

theorem exec_wheelPulse (hrun : s.running = true) :
    exec (.wheelPulse m leads) s
      = .next ((s.atMoment m).pulseTaken (pulseDirection s.straps.orient leads)).keepStore :=
  runCommand_of_running m _ hrun

/-- Settles O21: the rack's own change, a rack exit, what follows as standstill is left, and a running test's pulses. -/
theorem wheelPulseMeasuresAndCounts : Obligations.WheelPulseMeasuresAndCounts := by
  intro m leads s hrun direction circumference base
  have hrack : ((s.atMoment m).pulseTaken direction).keepStore.rack = ((s.atMoment m).pulseTaken direction).rack := by simp
  have h : (s.atMoment m).WheelRack direction ((s.atMoment m).pulseTaken direction).rack := State.pulseTaken_wheelRack
  obtain ⟨hmoving, hstill, hmoved⟩ := State.pulseTaken_motion (s := s.atMoment m) (direction := direction)
  obtain ⟨hbrake, hproof⟩ := State.pulseTaken_proof (s := s.atMoment m) (direction := direction)
  refine ⟨_, exec_wheelPulse hrun, ?_⟩
  rw [hrack]
  refine ⟨h.last, h.absence, h.present, h.reference, h.speed, hmoving, hstill, h.edge, h.tooth, h.evaluated, hmoved,
    fun hstood hleft => State.standstillLeft.keepStore (State.pulseTaken_left (s := s.atMoment m) hstood hleft),
    fun hstays => ?_, h.pending, h.wheel, h.teeth, h.exit, fun hexit p => ?_, fun hworst => ?_, fun hrunning => ?_,
    onlyChanges_of_effect pulseTaken_onlyChanges (by simp [State.pulseTaken, State.pulseAnnounced_stands.2.2.2])⟩
  · rw [keepStore_radio, State.pulseTaken_stays (s := s.atMoment m) hstays]
    rfl
  · have hget := State.pulseTaken_exits (s := s.atMoment m) (p := p) hexit.1 hexit.2
    have hkept : ((s.atMoment m).pulseTaken direction).keepStore.engagement
        = ((s.atMoment m).pulseTaken direction).engagement := by simp
    rw [hkept, hget]
    exact PinionMonitor.exited_spec
  · have hflag : ((s.atMoment m).pulseTaken direction).gradeWorst = true := by
      rw [State.gradeWorst, State.keepStore_present, hrack] at hworst
      exact hworst
    rw [State.pulseTaken_grade hflag, worstGrade_eq]
  · have hrunning' : ((s.atMoment m).pulseAnnounced direction).followWorstGrade.brake.proof.state = .running := by
      rw [hproof]
      exact hrunning
    have hpulses : ((s.atMoment m).pulseAnnounced direction).followWorstGrade.brake.proof.pulses = s.brake.proof.pulses := by
      rw [hproof]
      rfl
    have hflag : ((s.atMoment m).pulseTaken direction).keepStore.present .proofFail
        = ((s.atMoment m).pulseAnnounced direction).followWorstGrade.wheelMotion.present .proofFail := by
      rw [State.keepStore_present]
      exact State.afterMove_present _ _ (by decide)
    rw [State.keepStore_brake, hbrake, hflag]
    refine ⟨fun hfew => ?_, fun hthird => wheelMotion_third hrunning' (hpulses.ge.trans' hthird)⟩
    rw [wheelMotion_few hrunning' (hpulses ▸ hfew), hproof]
    rfl

end Sys2Proof.Machine
end

section
/-! SUPPORT. One door's record, and the conditions that follow the doors' flags (sections 7.2, 7.3 and 7.5). -/

namespace Sys2Proof.Machine

variable {ps : List Part} {s t u v : State} {m : Moment} {j k : FaultKind} {d e : DoorId} {r : Door} {now : Nat}
  {side car : CarSide} {f : Faults}

/-! ## Changing one door (R144) -/

theorem State.setDoor_get : (s.setDoor d r).doors.doors.get e = if e = d then r else s.doors.doors.get e :=
  PerDoor.get_set _ _ _ _

theorem State.setDoor_sideRelease : (s.setDoor d r).doors.sideRelease side = s.doors.sideRelease side := by
  cases side <;> rfl

theorem State.setDoor_latchPending :
    (s.setDoor d r).doors.latchPending = true
      ↔ s.doors.latchPending = true ∨ (s.doors.doors.get d).state = .locked ∧ r.state ≠ .locked := by
  simp [State.setDoor, DoorControl.change]

theorem setDoor_onlyChanges (d : DoorId) (r : Door) : onlyChanges [.doors, .mass] s (s.setDoor d r) := by
  intro q
  cases q <;> simp [Part.same, State.setDoor, DoorControl.change]

/-- A door that was not LOCKED leaves latch pending. -/
theorem setDoor_onlyChanges_of_unlocked (h : (s.doors.doors.get d).state ≠ .locked) :
    onlyChanges [.doors] s (s.setDoor d r) := by
  intro q
  cases q <;> simp [Part.same, State.setDoor, DoorControl.change, h]

/-! ## The conditions of the flags (R133, R138, R141) -/

/-- The fault manager once a condition of class C that a test of the doors ends has been formed anew. -/
def Faults.reformedBy (test : Bool) (k : FaultKind) (f : Faults) : Faults := if test then f else f.going k

theorem Faults.reformedBy_self {test : Bool} :
    (f.reformedBy test k).present k = true ↔ f.present k = true ∧ test = true := by
  cases test with
  | true => simp [Faults.reformedBy]
  | false => simp [Faults.reformedBy, Faults.present_going_self]

theorem Faults.reformedBy_of_ne {test : Bool} (h : j ≠ k) : (f.reformedBy test k).present j = f.present j := by
  cases test with
  | true => rfl
  | false => exact Faults.present_going_of_ne _ h

/-- Some door has its timeout flag SET. -/
def State.timedOut (s : State) : Bool := s.doors.doors.toList.any fun r => r.timeoutFlag

/-- Some door has its obstruction flag SET. -/
def State.obstructed (s : State) : Bool := s.doors.doors.toList.any fun r => r.obstructionFlag

/-- Some door is FORCED or has a handle alarm. -/
def State.doorAlarmed (s : State) : Bool := s.doors.doors.toList.any fun r => r.state == .forced || r.handleAlarm

theorem State.timedOut_iff : s.timedOut = true ↔ ∃ d : DoorId, (s.doors.doors.get d).timeoutFlag = true := PerDoor.any_iff

theorem State.obstructed_iff : s.obstructed = true ↔ ∃ d : DoorId, (s.doors.doors.get d).obstructionFlag = true :=
  PerDoor.any_iff

theorem State.doorAlarmed_iff :
    s.doorAlarmed = true
      ↔ ∃ d : DoorId, (s.doors.doors.get d).state = .forced ∨ (s.doors.doors.get d).handleAlarm = true := by
  rw [State.doorAlarmed, PerDoor.any_iff]
  simp

theorem State.reformTimeout_eq :
    s.reformTimeout = s.setFaults (s.faults.reformedBy s.timedOut .doorTimeout) := by
  rw [State.reformTimeout, clear_of_c rfl]
  cases htimed : s.timedOut with
  | true => exact (if_pos htimed).trans rfl
  | false => exact (if_neg (Bool.eq_false_iff.mp htimed)).trans rfl

theorem State.reformObstructed_eq :
    s.reformObstructed = s.setFaults (s.faults.reformedBy s.obstructed .doorObstructed) := by
  rw [State.reformObstructed, clear_of_c rfl]
  cases hflag : s.obstructed with
  | true => exact (if_pos hflag).trans rfl
  | false => exact (if_neg (Bool.eq_false_iff.mp hflag)).trans rfl

/-! ## DOORS_RELEASE (R130) -/

theorem State.releaseDoor_get :
    (s.releaseDoor car e).doors.doors.get d
      = if d = e ∧ doorSide d = car then (s.doors.doors.get d).released s.clock else s.doors.doors.get d := by
  unfold State.releaseDoor
  by_cases hde : d = e
  · subst hde
    split <;> simp [*, setDoor_get]
  · split <;> simp [*, setDoor_get]

theorem State.releaseDoor_latchPending :
    (s.releaseDoor car e).doors.latchPending = true
      ↔ s.doors.latchPending = true ∨ doorSide e = car ∧ (s.doors.doors.get e).state = .locked := by
  unfold State.releaseDoor
  split
  next hside =>
    rw [setDoor_latchPending]
    have hreleased : (s.doors.doors.get e).state = .locked → ((s.doors.doors.get e).released s.clock).state ≠ .locked := by
      intro hlocked
      simp [Door.released, hlocked]
    tauto
  next hside => simp [hside]

theorem State.releaseDoor_stands :
    (s.releaseDoor car e).doors.sideRelease side = s.doors.sideRelease side
      ∧ (s.releaseDoor car e).doors.mass = s.doors.mass ∧ (s.releaseDoor car e).clock = s.clock
      ∧ (s.releaseDoor car e).faults = s.faults := by
  unfold State.releaseDoor
  split
  · exact ⟨setDoor_sideRelease, rfl, rfl, rfl⟩
  · exact ⟨rfl, rfl, rfl, rfl⟩

theorem releaseDoor_onlyChanges : onlyChanges [.doors, .mass] s (s.releaseDoor car e) := by
  unfold State.releaseDoor
  split
  · exact setDoor_onlyChanges _ _
  · exact onlyChanges_refl _ _

/-- The doors of a side released, before the condition of their flags. -/
def State.sideReleased (car : CarSide) (s : State) : State :=
  ((((s.setDoors (s.doors.setSideRelease car true)).releaseDoor car .d1).releaseDoor car .d2).releaseDoor car
    .d3).releaseDoor car .d4

theorem State.releaseSide_eq : s.releaseSide car = (s.sideReleased car).reformObstructed := rfl

theorem State.sideReleased_get :
    (s.sideReleased car).doors.doors.get d
      = if doorSide d = car then (s.doors.doors.get d).released s.clock else s.doors.doors.get d := by
  have hset : (s.setDoors (s.doors.setSideRelease car true)).doors.doors.get d = s.doors.doors.get d := by cases car <;> rfl
  simp only [State.sideReleased, releaseDoor_get, (releaseDoor_stands (side := .a)).2.2.1, setDoors_clock, hset]
  cases d <;> simp

theorem DoorId.exists_iff {P : DoorId → Prop} : (∃ d, P d) ↔ P .d1 ∨ P .d2 ∨ P .d3 ∨ P .d4 := by
  constructor
  · rintro ⟨d, hd⟩
    cases d <;> simp [hd]
  · rintro (h | h | h | h)
    exacts [⟨_, h⟩, ⟨_, h⟩, ⟨_, h⟩, ⟨_, h⟩]

theorem State.sideReleased_latchPending :
    (s.sideReleased car).doors.latchPending = true
      ↔ s.doors.latchPending = true ∨ ∃ d : DoorId, doorSide d = car ∧ (s.doors.doors.get d).state = .locked := by
  have hset (d : DoorId) : (s.setDoors (s.doors.setSideRelease car true)).doors.doors.get d = s.doors.doors.get d := by
    cases car <;> rfl
  have hpending : (s.setDoors (s.doors.setSideRelease car true)).doors.latchPending = s.doors.latchPending := by
    cases car <;> rfl
  simp only [State.sideReleased, releaseDoor_latchPending, releaseDoor_get, hset, hpending, DoorId.exists_iff]
  simp [or_assoc]

theorem State.sideReleased_stands :
    (s.sideReleased car).doors.sideRelease side = (if side = car then true else s.doors.sideRelease side)
      ∧ (s.sideReleased car).doors.mass = s.doors.mass ∧ (s.sideReleased car).faults = s.faults := by
  simp only [State.sideReleased, releaseDoor_stands (side := side)]
  cases car <;> cases side <;> exact ⟨rfl, rfl, rfl⟩

end Sys2Proof.Machine
end

section
/-! SUPPORT. DOORS_RELEASE and DOORS_CLOSE (O40; sections 7.1, 7.2, 7.3 and 7.5). -/

namespace Sys2Proof.Machine

variable {ps : List Part} {s t u v : State} {m : Moment} {j k : FaultKind} {d e : DoorId} {r : Door} {now : Nat}
  {side car : CarSide} {f : Faults}

/-! ## The outputs of a door (R126) -/

theorem DoorState.outputs (state : DoorState) :
    (state.lockRelease = true ↔ state = .opening ∨ state = .opened ∨ state = .reopening)
      ∧ (state.motor = .opens ↔ state = .opening ∨ state = .reopening)
      ∧ (state.motor = .closes ↔ state = .closing) := by
  cases state <;> decide

/-! ## DOORS_RELEASE (R130) -/

/-- The condition of the obstruction flags, once formed, follows them (R138). -/
theorem State.reformObstructed_follows (hfaults : t.present .doorObstructed = s.present .doorObstructed) :
    t.reformObstructed.obstructionsFollow s := by
  have hpresent : t.reformObstructed.present .doorObstructed
      = (t.faults.reformedBy t.obstructed .doorObstructed).present .doorObstructed := by
    rw [reformObstructed_eq]
    rfl
  have hdoors : t.reformObstructed.doors = t.doors := by
    rw [reformObstructed_eq]
    rfl
  rw [State.obstructionsFollow, hpresent, Faults.reformedBy_self, obstructed_iff, hdoors, ← hfaults]
  rfl

theorem State.obstructionsFollow.congr (h : t.obstructionsFollow s) (hdoors : u.doors.doors = t.doors.doors)
    (hpresent : u.present .doorObstructed = t.present .doorObstructed) : u.obstructionsFollow s := by
  rw [State.obstructionsFollow, hdoors, hpresent]
  exact h

theorem sideReleased_onlyChanges : onlyChanges [.doors, .sideReleases, .mass] s (s.sideReleased car) := by
  have hdoor {u : State} (e : DoorId) : onlyChanges [.doors, .sideReleases, .mass] u (u.releaseDoor car e) :=
    releaseDoor_onlyChanges.mono (by decide)
  have hstation {u : State} (e : DoorId) : (u.releaseDoor car e).station = u.station := by
    unfold State.releaseDoor
    split <;> simp
  exact ((((setDoors_onlyChanges _).trans (hdoor _) rfl).trans (hdoor _) (hstation _)).trans (hdoor _)
    (by simp only [hstation, State.setDoors_station])).trans (hdoor _) (by simp only [hstation, State.setDoors_station])

theorem reformObstructed_onlyChanges : onlyChanges [.faults] s s.reformObstructed := by
  rw [State.reformObstructed_eq]
  exact setFaults_onlyChanges _ _

theorem releaseSide_onlyChanges :
    onlyChanges [.transmission, .doors, .sideReleases, .mass, .faults] s (s.releaseSide car) :=
  (sideReleased_onlyChanges.mono (by decide)).trans (reformObstructed_onlyChanges.mono (by decide))
    (by simp [State.sideReleased])

/-- What releasing a side makes of the doors. -/
theorem State.releaseSide_spec :
    (s.releaseSide car).doors = (s.sideReleased car).doors ∧ (s.releaseSide car).obstructionsFollow s := by
  refine ⟨?_, reformObstructed_follows (present_congr (sideReleased_stands (side := .a)).2.2 _)⟩
  rw [releaseSide_eq, reformObstructed_eq]
  rfl

/-! ## DOORS_CLOSE (R134, R135) -/

/-- Both side releases gone, with the withdrawal (R135). -/
def State.sidesCleared (s : State) : State := (s.clearSide .a).clearSide .b

theorem State.sidesCleared_sideRelease : s.sidesCleared.doors.sideRelease side = false := by
  rw [State.sidesCleared, clearSide_sideRelease_eq, clearSide_sideRelease_eq]
  cases side <;> simp

theorem State.sidesCleared_get :
    s.sidesCleared.doors.doors.get d
      = if s.doors.sideRelease (doorSide d) = true ∧ (s.doors.doors.get d).handleRelease = false then
          (s.doors.doors.get d).withoutRelease s.clock
        else s.doors.doors.get d := by
  have hclock : (s.clearSide .a).clock = s.clock := by simp
  rw [State.sidesCleared, clearSide_get, clearSide_get, clearSide_sideRelease_eq, hclock]
  cases hd : doorSide d <;> simp [Door.withdraw_eq]

theorem Door.withoutRelease_handle : (r.withoutRelease now).handleRelease = r.handleRelease := by
  unfold Door.withoutRelease
  cases r.state with
  | opened => dsimp only; split <;> rfl
  | _ => rfl

theorem State.sidesCleared_hasRelease : s.sidesCleared.doors.hasRelease d = (s.doors.doors.get d).handleRelease := by
  rw [DoorControl.hasRelease, sidesCleared_sideRelease, Bool.false_or, sidesCleared_get]
  split
  · exact Door.withoutRelease_handle
  · rfl

/-- The doors without a release closed. -/
def State.doorsClosed (s : State) : State :=
  s.sidesCleared.setDoors
    { s.sidesCleared.doors with
      doors := s.sidesCleared.doors.doors.mapIdx fun d r => r.closeOpen s.sidesCleared.clock (s.sidesCleared.doors.hasRelease d) }

theorem State.doorsClose_eq : s.doorsClose = s.doorsClosed.reformObstructed.latchIfClosed s.summary := rfl

theorem State.doorsClosed_stands (was : DoorSummary) :
    (s.doorsClosed.reformObstructed.latchIfClosed was).doors.doors = s.doorsClosed.doors.doors
      ∧ (s.doorsClosed.reformObstructed.latchIfClosed was).doors.sideRelease side = false
      ∧ (s.doorsClosed.reformObstructed.latchIfClosed was).obstructionsFollow s := by
  have hdoors : s.doorsClosed.reformObstructed.doors = s.doorsClosed.doors := by
    rw [reformObstructed_eq]
    rfl
  have hsides : s.doorsClosed.doors.sideRelease side = s.sidesCleared.doors.sideRelease side := by cases side <;> rfl
  have hfaults : s.doorsClosed.present .doorObstructed = s.present .doorObstructed :=
    present_congr (by simp [State.doorsClosed, State.sidesCleared]) _
  refine ⟨by rw [(latchIfClosed_doors _).1, hdoors], ?_, ?_⟩
  · rw [latchIfClosed_sideRelease, hdoors, hsides, sidesCleared_sideRelease]
  · exact (reformObstructed_follows hfaults).congr (latchIfClosed_doors _).1 (latchIfClosed_present _ (by decide))

theorem State.doorsClose_get :
    s.doorsClose.doors.doors.get d
      = (if s.doors.sideRelease (doorSide d) = true ∧ (s.doors.doors.get d).handleRelease = false then
            (s.doors.doors.get d).withoutRelease s.clock
          else s.doors.doors.get d).closeOpen s.clock (s.doors.doors.get d).handleRelease := by
  have hclock : s.sidesCleared.clock = s.clock := by simp [State.sidesCleared]
  rw [doorsClose_eq, (doorsClosed_stands (side := .a) _).1, ← sidesCleared_get, ← sidesCleared_hasRelease, ← hclock]
  exact PerDoor.get_mapIdx _ _ _

theorem State.doorsClose_get_of_handle (h : (s.doors.doors.get d).handleRelease = true) :
    s.doorsClose.doors.doors.get d = s.doors.doors.get d := by
  simp [doorsClose_get, h, Door.closeOpen]

/-- An OPEN door that no handle releases begins to close (R134, R135). -/
theorem State.doorsClose_get_of_opened (h : (s.doors.doors.get d).handleRelease = false)
    (hopen : (s.doors.doors.get d).state = .opened) :
    s.doorsClose.doors.doors.get d
      = { s.doors.doors.get d with
          state := .closing
          attempts :=
            if s.doors.sideRelease (doorSide d) = true ∧ (s.doors.doors.get d).obstructionFlag = false then
              (s.doors.doors.get d).attempts
            else 0
          obstructionFlag := false
          timer := some s.clock } := by
  rw [doorsClose_get]
  cases hside : s.doors.sideRelease (doorSide d) <;> cases hflag : (s.doors.doors.get d).obstructionFlag <;>
    simp [h, hopen, hflag, Door.closeOpen, Door.withoutRelease]

/-- A door that its side's release held, RELEASED or OPENING (R135). -/
theorem State.doorsClose_get_of_released (h : (s.doors.doors.get d).handleRelease = false)
    (hside : s.doors.sideRelease (doorSide d) = true) :
    ((s.doors.doors.get d).state = .released → (s.doorsClose.doors.doors.get d).state = .locked)
      ∧ ((s.doors.doors.get d).state = .opening → (s.doorsClose.doors.doors.get d).state = .closing) := by
  rw [doorsClose_get, if_pos ⟨hside, h⟩]
  exact ⟨fun hstate => by simp [hstate, Door.closeOpen, Door.withoutRelease],
    fun hstate => by simp [hstate, Door.closeOpen, Door.withoutRelease]⟩

/-- A door of any other state stands. -/
theorem State.doorsClose_get_of_shut
    (h : (s.doors.doors.get d).state = .locked ∨ (s.doors.doors.get d).state = .closing
      ∨ (s.doors.doors.get d).state = .reopening ∨ (s.doors.doors.get d).state = .forced
      ∨ (s.doors.doors.get d).state = .isolated) :
    s.doorsClose.doors.doors.get d = s.doors.doors.get d := by
  rw [doorsClose_get]
  obtain h | h | h | h | h := h <;> simp [h, Door.closeOpen, Door.withoutRelease]

theorem doorsClose_onlyChanges :
    onlyChanges [.transmission, .doors, .sideReleases, .mass, .faults] s s.doorsClose := by
  intro q
  cases q <;> simp [Part.same]

/-- Settles O40: the side released with its doors, the outputs of a door, and the doors closed. -/
theorem doorCommandsTakeEffect : Obligations.DoorCommandsTakeEffect := by
  intro m source target param s
  refine ⟨fun htakes => ?_, fun d => DoorState.outputs _, fun htakes => ?_⟩
  · intro side car
    have hexec : exec (.doorsRelease m source target param) s = .next ((s.heardAt m).doorsRelease side).keepStore :=
      runCommandFrame_of_takes (m := m) htakes
    cases hpermit : s.permit side with
    | false =>
      have hstays : (s.heardAt m).doorsRelease side = s.heardAt m := if_neg (Bool.eq_false_iff.mp hpermit)
      rw [hstays] at hexec
      have hnothing : onlyChanges [.transmission] s (s.heardAt m).keepStore :=
        onlyChanges_of_heard (onlyChanges_refl _ _) rfl (by decide)
      exact ⟨_, hexec, fun _ => hnothing, nofun, nofun, hnothing.mono (by decide)⟩
    | true =>
      have hreleases : (s.heardAt m).doorsRelease side = (s.heardAt m).releaseSide car := if_pos hpermit
      obtain ⟨hdoors, hfollows⟩ := State.releaseSide_spec (s := s.heardAt m) (car := car)
      have hside (other : CarSide) := (State.sideReleased_stands (s := s.heardAt m) (car := car) (side := other)).1
      have hkept : ((s.heardAt m).releaseSide car).keepStore.doors = ((s.heardAt m).sideReleased car).doors := by
        rw [← hdoors]
        simp
      rw [hreleases] at hexec
      refine ⟨_, hexec, nofun, fun _ => ⟨?_, fun other hother => ?_, fun d hd => ?_, fun d hd => ?_⟩, fun _ => ⟨?_, ?_, ?_⟩,
        onlyChanges_of_heard releaseSide_onlyChanges (by simp) (by decide)⟩
      · rw [hkept, hside, if_pos rfl]
      · rw [hkept, hside, if_neg hother]
        rfl
      · rw [hkept, State.sideReleased_get, if_neg hd]
        rfl
      · have hdoor : (s.heardAt m).doors.doors.get d = s.doors.doors.get d := rfl
        have hclock : (s.heardAt m).clock = s.instant m := rfl
        rw [hkept, State.sideReleased_get, if_pos hd, hdoor, hclock]
        unfold Door.released
        cases hstate : (s.doors.doors.get d).state <;> simp [hstate]
      · rw [hkept, (State.sideReleased_stands (side := .a)).2.1]
        rfl
      · rw [hkept, State.sideReleased_latchPending]
        rfl
      · exact State.obstructionsFollow.congr hfollows (by simp) (State.keepStore_present _)
  · have hexec : exec (.doorsClose m source target param) s = .next (s.heardAt m).doorsClose.keepStore :=
      runCommandFrame_of_takes (m := m) htakes
    have hkept : (s.heardAt m).doorsClose.keepStore.doors = (s.heardAt m).doorsClose.doors := by simp
    have hstands (side : CarSide) := (s.heardAt m).doorsClosed_stands (side := side) (s.heardAt m).summary
    rw [← State.doorsClose_eq] at hstands
    refine ⟨_, hexec, ?_⟩
    rw [hkept]
    exact ⟨(hstands .a).2.1, (hstands .b).2.1,
      (hstands .a).2.2.congr (congrArg (·.doors) hkept) (State.keepStore_present _),
      fun d hhandle => State.doorsClose_get_of_handle (s := s.heardAt m) hhandle,
      fun d hhandle hopen => State.doorsClose_get_of_opened (s := s.heardAt m) hhandle hopen,
      fun d hside hhandle => State.doorsClose_get_of_released (s := s.heardAt m) hhandle hside,
      fun d hstate => State.doorsClose_get_of_shut (s := s.heardAt m) hstate,
      onlyChanges_of_heard doorsClose_onlyChanges (by simp) (by decide)⟩

end Sys2Proof.Machine
end

section
/-! SUPPORT. A level read, a class B condition at the doors, and the mass latch after a going (sections 7.2, 7.3, 7.8 and
10.2). -/

namespace Sys2Proof.Machine

variable {ps : List Part} {s t u v w y : State} {m : Moment} {j k : FaultKind} {d e : DoorId} {r : Door} {now : Nat}
  {side car : CarSide} {f g : Faults} {read : Levels → Levels} {effect : State → State}

/-! ## A level read -/

/-- The state of a moment with its levels read. -/
def State.leveled (m : Moment) (read : Levels → Levels) (s : State) : State :=
  (s.atMoment m).setPins { (s.atMoment m).pins with levels := read s.pins.levels }

theorem runLevels_leveled (hrun : s.running = true) :
    runLevels m read effect s = .next (effect (s.leveled m read)).keepStore := runLevels_of_running m read effect hrun

theorem onlyChanges_of_leveled (h : onlyChanges ps (s.leveled m read) t)
    (hstation : t.station = (s.leveled m read).station) (hlevels : Part.levels ∈ ps) : onlyChanges ps s t.keepStore := by
  have hread : onlyChanges ps (s.atMoment m) (s.leveled m read) :=
    (setPins_levels_onlyChanges (s := s.atMoment m) _).mono (by simpa using hlevels)
  exact onlyChanges_of_effect (hread.trans h rfl) hstation

theorem keepStore_doors : s.keepStore.doors = s.doors := by simp

theorem keepStore_pins : s.keepStore.pins = s.pins := by simp

theorem PerDoor.set_get {α : Type} (v : PerDoor α) (d : DoorId) : v.set d (v.get d) = v := by
  cases d <;> rfl

/-! ## The mass latch (R144, R145) -/

/-- The mass and LOAD_SENSOR as the load of a moment asks for. -/
def State.massTaken (m : Moment) (s t : State) : Prop :=
  t.doors.latchPending = false
    ∧ (∀ x ∈ m.load, -1000 ≤ x → x ≤ 10000 →
      t.doors.mass = 10000 + s.straps.tare.toNat * 100 + (min 8000 (max 0 x)).toNat ∧ t.present .loadSensor = false)
    ∧ ((∀ x ∈ m.load, x < -1000 ∨ 10000 < x) →
      t.doors.mass = 18000 + s.straps.tare.toNat * 100 ∧ t.present .loadSensor = true)

theorem State.latchMass_taken (hload : y.pins.load = m.load) (hstraps : y.straps = s.straps) :
    s.massTaken m y.latchMass := by
  have htare : y.straps.tareKg = 10000 + s.straps.tare.toNat * 100 := by rw [hstraps, Straps.tareKg]
  unfold State.latchMass
  rw [hload]
  cases hx : m.load with
  | none =>
    refine ⟨rfl, fun x hmem => absurd (hx.symm.trans hmem) nofun, fun _ => ⟨?_, Faults.present_occur_self _ _ _⟩⟩
    change y.straps.tareKg + 8000 = _
    omega
  | some x =>
    dsimp only
    split
    next hvalid =>
      refine ⟨rfl, fun x' hmem _ _ => ⟨?_, Faults.present_going_self _ _⟩, fun hinvalid => ?_⟩
      · obtain rfl : x = x' := Option.some.inj (hx.symm.trans hmem)
        change y.straps.tareKg + (clampInt 0 8000 x).toNat = _
        unfold clampInt
        split_ifs <;> omega
      · exact absurd (hinvalid x hx) (by omega)
    next hinvalid =>
      refine ⟨rfl, fun x' hmem hlow hhigh => ?_, fun _ => ⟨?_, Faults.present_occur_self _ _ _⟩⟩
      · obtain rfl : x = x' := Option.some.inj (hx.symm.trans hmem)
        exact absurd ⟨hlow, hhigh⟩ hinvalid
      · change y.straps.tareKg + 8000 = _
        omega

/-- The outcome of a mass latch, on the way from `s` to `t` with the fault manager `f` before it: one report and the mass
where it is due, and otherwise neither. -/
def State.latchedOrNot (m : Moment) (f : Faults) (s t : State) : Prop :=
  s.latches t ∧ (∃ y : State, t = y.latchMass ∧ y.faults = f ∧ y.straps = s.straps ∧ y.pins.load = m.load)
    ∨ ¬s.latches t ∧ t.faults = f ∧ t.doors.latchPending = s.doors.latchPending

theorem State.latchedOrNot.faults (h : s.latchedOrNot m f t) : t.faults = s.latchReports m t f := by
  obtain ⟨hlatches, y, rfl, rfl, hstraps, hload⟩ | ⟨hnot, hfaults, -⟩ := h
  · rw [latchReports_of_latches hlatches, latchMass_faults, hload, hstraps]
  · rw [latchReports_of_not hnot, hfaults]

theorem State.latchedOrNot.mass (h : s.latchedOrNot m f t) (hlatches : s.latches t) : s.massTaken m t := by
  obtain ⟨-, y, rfl, -, hstraps, hload⟩ | ⟨hnot, -⟩ := h
  · exact latchMass_taken hload hstraps
  · exact absurd hlatches hnot

/-- The state `w` is on the way from `s`: latch pending, standstill and the straps stand, the load is the moment's. -/
structure State.OnTheWay (m : Moment) (s w : State) : Prop where
  pending : w.doors.latchPending = s.doors.latchPending
  standstill : w.rack.standstill = s.rack.standstill
  straps : w.straps = s.straps
  load : w.pins.load = m.load

theorem State.latchIfClosed_latched (h : s.OnTheWay m w) : s.latchedOrNot m w.faults (w.latchIfClosed s.summary) := by
  have hiff : s.latches (w.latchIfClosed s.summary)
      ↔ s.summary ≠ .allClosed ∧ w.summary = .allClosed ∧ w.doors.latchPending = true ∧ w.rack.standstill = true := by
    rw [State.latches, latchIfClosed_summary, h.pending, h.standstill]
  by_cases hlatches : s.summary ≠ .allClosed ∧ w.summary = .allClosed ∧ w.doors.latchPending = true
      ∧ w.rack.standstill = true
  · exact .inl ⟨hiff.mpr hlatches, w, if_pos hlatches, rfl, h.straps, h.load⟩
  · have hstays : w.latchIfClosed s.summary = w := if_neg hlatches
    rw [hstays] at hiff ⊢
    exact .inr ⟨mt hiff.mp hlatches, rfl, h.pending⟩

/-- A retest before the latch: the mass is latched once, by the retest or after it. -/
theorem State.retest_latched (hwas : s.summary = .allClosed → w.summary = .allClosed) (h : s.OnTheWay m w) :
    s.latchedOrNot m w.faults (w.retestPermits.latchIfClosed s.summary) := by
  obtain ⟨hpendingA, hrackA, hfaultsA, hpinsA⟩ := retestSide_stands (s := w) .a
  obtain ⟨hpendingB, hrackB, hfaultsB, hpinsB⟩ := retestSide_stands (s := w.retestSide .a) .b
  have hsides : s.OnTheWay m ((w.retestSide .a).retestSide .b) :=
    ⟨by rw [hpendingB, hpendingA, h.pending], by rw [hrackB, hrackA, h.standstill], by simp [h.straps],
      by rw [hpinsB, hpinsA, h.load]⟩
  have hfaults : ((w.retestSide .a).retestSide .b).faults = w.faults := hfaultsB.trans hfaultsA
  by_cases hlatches : w.summary ≠ .allClosed ∧ ((w.retestSide .a).retestSide .b).summary = .allClosed
      ∧ ((w.retestSide .a).retestSide .b).doors.latchPending = true ∧ ((w.retestSide .a).retestSide .b).rack.standstill = true
  · have hretest : w.retestPermits = ((w.retestSide .a).retestSide .b).latchMass := if_pos hlatches
    have hcleared : w.retestPermits.doors.latchPending = false := by
      rw [hretest]
      exact (latchMass_taken (s := s) hsides.load hsides.straps).1
    have hstays : w.retestPermits.latchIfClosed s.summary = w.retestPermits := if_neg (by simp [hcleared])
    have hclosed : w.retestPermits.summary = .allClosed := (latchIfClosed_summary _).trans hlatches.2.1
    rw [hstays]
    refine .inl ⟨⟨mt hwas hlatches.1, hclosed, ?_, ?_⟩, _, hretest, hfaults, hsides.straps, hsides.load⟩
    · rw [← hsides.pending, hlatches.2.2.1]
    · rw [← hsides.standstill, hlatches.2.2.2]
  · have hretest : w.retestPermits = (w.retestSide .a).retestSide .b := if_neg hlatches
    rw [hretest, ← hfaults]
    exact latchIfClosed_latched hsides

theorem State.reformForced_cases :
    w.reformForced = w.setFaults (w.faults.reformedBy w.doorAlarmed .doorForced)
      ∨ w.reformForced = (w.setFaults (w.faults.reformedBy w.doorAlarmed .doorForced)).retestPermits := by
  cases halarmed : w.doorAlarmed with
  | true => exact .inl ((if_pos halarmed).trans rfl)
  | false =>
    have hclears : w.reformForced = w.clear .doorForced := if_neg (Bool.eq_false_iff.mp halarmed)
    rw [hclears]
    cases hpresent : w.present .doorForced with
    | false =>
      have hgoing : w.faults.going .doorForced = w.faults := if_neg (Bool.eq_false_iff.mp hpresent)
      refine .inl ?_
      rw [clear_of_absent hpresent, Faults.reformedBy, if_neg nofun, hgoing]
      rfl
    | true => exact .inr (by simp [State.clear, hpresent, faultClassOf, Faults.reformedBy, State.recordGoing])

/-- A going of the condition of forced doors, and the mass latch that it or the doors' change before it brings: one report,
after the going (log entry 47). -/
theorem State.reformForced_latched (hwas : s.summary = .allClosed → w.summary = .allClosed) (h : s.OnTheWay m w) :
    s.latchedOrNot m (w.faults.reformedBy w.doorAlarmed .doorForced) (w.reformForced.latchIfClosed s.summary) := by
  have hway : s.OnTheWay m (w.setFaults (w.faults.reformedBy w.doorAlarmed .doorForced)) :=
    ⟨h.pending, h.standstill, h.straps, h.load⟩
  obtain hreform | hreform := w.reformForced_cases
  · rw [hreform]
    exact latchIfClosed_latched hway
  · rw [hreform]
    exact retest_latched hwas hway

/-- The doors after a going of forced doors: those that stood where every released side has its permit. -/
theorem State.reformForced_doors (h : w.permitsOk) : w.reformForced.doors = w.doors := by
  unfold State.reformForced
  split
  · rfl
  · rw [clear_of_permitsOk h]
    rfl

/-! ## What a retest leaves of a door's flags (R133, R138, R141) -/

theorem Door.withoutRelease_flags :
    (r.withoutRelease now).timeoutFlag = r.timeoutFlag ∧ (r.withoutRelease now).obstructionFlag = r.obstructionFlag
      ∧ (r.withoutRelease now).handleAlarm = r.handleAlarm
      ∧ ((r.withoutRelease now).state = .forced ↔ r.state = .forced) := by
  unfold Door.withoutRelease
  cases hstate : r.state with
  | opened => dsimp only; split <;> simp [hstate]
  | _ => simp [hstate]

/-- Two states have the same door flags, alarms and forced doors. -/
def State.sameFlags (s t : State) : Prop :=
  ∀ d : DoorId, (t.doors.doors.get d).timeoutFlag = (s.doors.doors.get d).timeoutFlag
    ∧ (t.doors.doors.get d).obstructionFlag = (s.doors.doors.get d).obstructionFlag
    ∧ (t.doors.doors.get d).handleAlarm = (s.doors.doors.get d).handleAlarm
    ∧ ((t.doors.doors.get d).state = .forced ↔ (s.doors.doors.get d).state = .forced)

theorem State.sameFlags_of_eq (h : t.doors.doors = s.doors.doors) : s.sameFlags t := fun d => by simp [h]

theorem State.sameFlags_retest : s.sameFlags s.retestPermits := by
  intro d
  rw [retestPermits_get, Door.withdraw_eq]
  split
  · exact Door.withoutRelease_flags
  · exact ⟨rfl, rfl, rfl, .rfl⟩

theorem State.sameFlags_reformForced : s.sameFlags (s.reformForced.latchIfClosed t.summary) := by
  intro d
  rw [latchIfClosed_get]
  obtain hreform | hreform := s.reformForced_cases
  · rw [hreform]
    exact sameFlags_of_eq rfl d
  · rw [hreform]
    exact sameFlags_retest d

theorem State.sameFlags.tests (h : s.sameFlags t) :
    t.timedOut = s.timedOut ∧ t.obstructed = s.obstructed ∧ t.doorAlarmed = s.doorAlarmed := by
  refine ⟨?_, ?_, ?_⟩
  · rw [Bool.eq_iff_iff, timedOut_iff, timedOut_iff]
    exact exists_congr fun d => by rw [(h d).1]
  · rw [Bool.eq_iff_iff, obstructed_iff, obstructed_iff]
    exact exists_congr fun d => by rw [(h d).2.1]
  · rw [Bool.eq_iff_iff, doorAlarmed_iff, doorAlarmed_iff]
    exact exists_congr fun d => by rw [(h d).2.2.1, (h d).2.2.2]

end Sys2Proof.Machine
end

section
/-! SUPPORT. LOCK_SWITCH_MADE and LOCK_SWITCH_LOST (O50; sections 7.2, 7.6 and 7.8). -/

namespace Sys2Proof.Machine

variable {ps : List Part} {s t u v w y : State} {m : Moment} {j k : FaultKind} {d e door : DoorId} {r : Door} {now : Nat}
  {side car : CarSide} {f g : Faults} {read : Levels → Levels} {test : Bool}

/-! ## Permits where conditions go -/

theorem State.permitsOk_reformedBy (h : s.permitsOk) : (s.setFaults (s.faults.reformedBy test k)).permitsOk := by
  cases test with
  | true => exact h
  | false => exact permitsOk_recordGoing h

theorem State.permitsOk_setDoor (h : s.permitsOk) : (s.setDoor d r).permitsOk := fun side hset => by
  rw [setDoor_sideRelease] at hset
  exact h side hset

theorem State.latchReports_present (hk : k ≠ .loadSensor) : (s.latchReports m t f).present k = f.present k := by
  by_cases h : s.latches t
  · rw [latchReports_of_latches h]
    unfold massReport
    (repeat' split) <;> simp [Faults.present_going_of_ne _ hk, Faults.present_occur_of_ne _ _ hk]
  · rw [latchReports_of_not h]

/-! ## A lock switch made (R136, R141, R144) -/

/-- A door on its way to its lock. -/
def DoorState.locksAtSwitch (state : DoorState) : Prop := state = .closing ∨ state = .reopening ∨ state = .forced

/-- The door locked, with the conditions of the flags formed anew. -/
def State.doorLocked (d : DoorId) (s : State) : State :=
  (s.setDoor d ((s.doors.doors.get d).locks (s.doors.hasRelease d))).reformTimeout.reformObstructed

theorem State.lockMade_of_locks (h : (s.doors.doors.get d).state.locksAtSwitch) :
    s.lockMade d = (s.doorLocked d).reformForced.latchIfClosed s.summary := by
  unfold State.lockMade
  dsimp only
  obtain h | h | h := h <;> rw [h] <;> rfl

theorem State.lockMade_of_other
    (h : (s.doors.doors.get d).state = .locked ∨ (s.doors.doors.get d).state = .released
      ∨ (s.doors.doors.get d).state = .opening ∨ (s.doors.doors.get d).state = .opened
      ∨ (s.doors.doors.get d).state = .isolated) : s.lockMade d = s := by
  unfold State.lockMade
  dsimp only
  obtain h | h | h | h | h := h <;> rw [h]

theorem State.doorLocked_doors :
    (s.doorLocked d).doors = (s.setDoor d ((s.doors.doors.get d).locks (s.doors.hasRelease d))).doors := by
  rw [State.doorLocked, reformObstructed_eq, reformTimeout_eq]
  rfl

theorem State.doorLocked_tests :
    (s.doorLocked d).faults
      = (s.faults.reformedBy (s.doorLocked d).timedOut .doorTimeout).reformedBy (s.doorLocked d).obstructed
        .doorObstructed := by
  obtain ⟨htimed, hobstructed, -⟩ := (sameFlags_of_eq (congrArg (·.doors) (s.doorLocked_doors (d := d)))).tests
  rw [htimed, hobstructed, State.doorLocked, reformObstructed_eq, reformTimeout_eq]
  rfl

theorem State.doorLocked_onTheWay (h : (s.doors.doors.get d).state ≠ .locked) (hload : s.pins.load = m.load) :
    s.OnTheWay m (s.doorLocked d) := by
  refine ⟨?_, by simp [State.doorLocked], straps_congr (by simp [State.doorLocked]), by simp [State.doorLocked, hload]⟩
  rw [doorLocked_doors]
  simp [State.setDoor, DoorControl.change, h]

theorem State.doorLocked_permitsOk (h : s.permitsOk) : (s.doorLocked d).permitsOk := by
  rw [State.doorLocked, reformObstructed_eq, reformTimeout_eq]
  exact permitsOk_reformedBy (permitsOk_reformedBy (permitsOk_setDoor h))

theorem State.summary_of_locks (h : (s.doors.doors.get d).state.locksAtSwitch) : s.summary ≠ .allClosed := by
  intro hclosed
  have hdoor := (summaryOf_eq_allClosed_iff _).mp hclosed d
  obtain h | h | h := h <;> simp [Door.closed, h] at hdoor

theorem DoorState.locksAtSwitch.unlocked {state : DoorState} (h : state.locksAtSwitch) : state ≠ .locked := by
  obtain rfl | rfl | rfl := h <;> nofun

/-- A door on its way to its lock, as its switch is made. -/
theorem State.lockMade_latched (h : (s.doors.doors.get d).state.locksAtSwitch) (hload : s.pins.load = m.load) :
    s.latchedOrNot m
      ((((s.faults.reformedBy (s.lockMade d).timedOut .doorTimeout).reformedBy (s.lockMade d).obstructed
        .doorObstructed)).reformedBy (s.lockMade d).doorAlarmed .doorForced) (s.lockMade d) := by
  obtain ⟨htimed, hobstructed, halarmed⟩ := (sameFlags_reformForced (s := s.doorLocked d) (t := s)).tests
  rw [lockMade_of_locks h, htimed, hobstructed, halarmed, ← doorLocked_tests]
  exact reformForced_latched (fun hclosed => absurd hclosed (summary_of_locks h)) (doorLocked_onTheWay h.unlocked hload)

theorem State.lockMade_doors (h : (s.doors.doors.get d).state.locksAtSwitch) (hpermits : s.permitsOk) :
    (s.lockMade d).doors.doors = s.doors.doors.set d ((s.doors.doors.get d).locks (s.doors.hasRelease d)) := by
  rw [lockMade_of_locks h, (latchIfClosed_doors _).1, reformForced_doors (doorLocked_permitsOk hpermits), doorLocked_doors]
  rfl

theorem DoorState.cases_lock (state : DoorState) :
    state.locksAtSwitch
      ∨ state = .locked ∨ state = .released ∨ state = .opening ∨ state = .opened ∨ state = .isolated := by
  unfold DoorState.locksAtSwitch
  cases state <;> decide

/-- The conditions of the doors follow the flags (R133, R138, R141). -/
theorem State.lockMade_follows (h : (s.doors.doors.get d).state.locksAtSwitch) (hload : s.pins.load = m.load) :
    (s.lockMade d).timeoutsFollow s ∧ (s.lockMade d).obstructionsFollow s ∧ (s.lockMade d).forcedFollow s := by
  have hfaults := (lockMade_latched h hload).faults
  refine ⟨?_, ?_, ?_⟩
  · rw [State.timeoutsFollow, ← timedOut_iff, State.present, hfaults, latchReports_present (by decide),
      Faults.reformedBy_of_ne (by decide), Faults.reformedBy_of_ne (by decide), Faults.reformedBy_self]
    rfl
  · rw [State.obstructionsFollow, ← obstructed_iff, State.present, hfaults, latchReports_present (by decide),
      Faults.reformedBy_of_ne (by decide), Faults.reformedBy_self, Faults.reformedBy_of_ne (by decide)]
    rfl
  · rw [State.forcedFollow, ← doorAlarmed_iff, State.present, hfaults, latchReports_present (by decide),
      Faults.reformedBy_self, Faults.reformedBy_of_ne (by decide), Faults.reformedBy_of_ne (by decide)]
    rfl

/-! ## A class B condition at the doors (R129, R188) -/

theorem State.raise_of_present (h : s.present k = true) : s.raise k = s.recordOccurrence k := by
  rw [State.raise, if_pos h]

theorem State.raise_of_classB (hclass : faultClassOf s.straps.strict k = .b) (habsent : s.present k = false) :
    s.raise k = ((s.recordOccurrence k).lowerLimit 0).retestPermits := by
  simp [State.raise, State.react, habsent, hclass]

/-- A class B condition that becomes present fails the permit of both sides. -/
theorem State.raise_classB_spec (hclass : faultClassOf s.straps.strict k = .b) (habsent : s.present k = false) :
    (s.raise k).doors.doors = s.permitFailed s.clock s.doors.doors ∧ (s.raise k).doors.releaseA = false
      ∧ (s.raise k).doors.releaseB = false ∧ (s.raise k).speed.localLimit = 0 := by
  have hB : ((s.recordOccurrence k).lowerLimit 0).classB = true :=
    classB_iff.mpr ⟨k, hclass, Faults.present_occur_self _ _ _⟩
  have hfails (side : LineSide) : ((s.recordOccurrence k).lowerLimit 0).permit side = false := by simp [State.permit, hB]
  have hside (side : CarSide) : (s.raise k).doors.sideRelease side = false := by
    rw [raise_of_classB hclass habsent, retestPermits_sideRelease, hfails, Bool.and_false]
  refine ⟨PerDoor.ext fun d => ?_, hside .a, hside .b, raise_localLimit (by simp [hclass]) habsent⟩
  have hdoors : ((s.recordOccurrence k).lowerLimit 0).doors = s.doors := rfl
  have hclock : ((s.recordOccurrence k).lowerLimit 0).clock = s.clock := by simp
  rw [raise_of_classB hclass habsent, retestPermits_get, hfails, hdoors, hclock, Door.withdraw_eq, State.permitFailed,
    PerDoor.get_mapIdx]
  exact if_congr (by simp) rfl rfl

/-- A retest that leaves a door open latches no mass. -/
theorem State.retestPermits_of_open (h : s.retestPermits.summary ≠ .allClosed) :
    s.retestPermits.faults = s.faults ∧ s.retestPermits.doors.latchPending = s.doors.latchPending
      ∧ s.retestPermits.doors.mass = s.doors.mass := by
  have hmass {u : State} (side : CarSide) : (u.retestSide side).doors.mass = u.doors.mass := by
    unfold State.retestSide State.clearSide
    split
    · split
      · cases side <;> rfl
      · rfl
    · rfl
  obtain ⟨hpendingA, -, hfaultsA, -⟩ := retestSide_stands (s := s) .a
  obtain ⟨hpendingB, -, hfaultsB, -⟩ := retestSide_stands (s := s.retestSide .a) .b
  have hstays : s.retestPermits = (s.retestSide .a).retestSide .b := by
    refine if_neg fun hlatches => h ?_
    exact (latchIfClosed_summary _).trans hlatches.2.1
  rw [hstays]
  exact ⟨hfaultsB.trans hfaultsA, hpendingB.trans hpendingA, (hmass _).trans (hmass _)⟩

/-- An occurrence of a class B kind that leaves a door open latches no mass. -/
theorem State.raise_classB_of_open (hclass : faultClassOf s.straps.strict k = .b) (h : (s.raise k).summary ≠ .allClosed) :
    (s.raise k).faults = s.faults.occur s.straps.strict k ∧ (s.raise k).doors.latchPending = s.doors.latchPending
      ∧ (s.raise k).doors.mass = s.doors.mass := by
  cases hpresent : s.present k with
  | true =>
    rw [raise_of_present hpresent]
    exact ⟨rfl, rfl, rfl⟩
  | false =>
    rw [raise_of_classB hclass hpresent] at h ⊢
    exact retestPermits_of_open h

theorem State.sameFlags_raise_classB (hclass : faultClassOf s.straps.strict k = .b) : s.sameFlags (s.raise k) := by
  cases hpresent : s.present k with
  | true =>
    rw [raise_of_present hpresent]
    exact sameFlags_of_eq rfl
  | false =>
    rw [raise_of_classB hclass hpresent]
    exact sameFlags_retest (s := (s.recordOccurrence k).lowerLimit 0)

theorem State.summary_of_forced (h : (s.doors.doors.get d).state = .forced) : s.summary ≠ .allClosed :=
  summary_of_locks (.inr (.inr h))

/-! ## A lock switch lost (R132, R139, R141) -/

/-- A LOCKED door forced. -/
def State.doorForced (d : DoorId) (s : State) : State := s.setDoor d { s.doors.doors.get d with state := .forced }

theorem State.lockLost_of_locked (h : (s.doors.doors.get d).state = .locked) :
    s.lockLost d = (s.doorForced d).raise .doorForced := by
  unfold State.lockLost
  dsimp only
  rw [h]
  rfl

theorem State.lockLost_of_released (h : (s.doors.doors.get d).state = .released) :
    s.lockLost d = s.setDoor d { s.doors.doors.get d with state := .opening, timer := some s.clock } := by
  unfold State.lockLost
  dsimp only
  rw [h]

theorem State.lockLost_of_other (hlocked : (s.doors.doors.get d).state ≠ .locked)
    (hreleased : (s.doors.doors.get d).state ≠ .released) : s.lockLost d = s := by
  unfold State.lockLost
  dsimp only
  cases h : (s.doors.doors.get d).state with
  | locked => exact absurd h hlocked
  | released => exact absurd h hreleased
  | _ => rfl

/-- What a forced door brings: one occurrence, latch pending, and the permits' failure where it is the first. -/
theorem State.lockLost_forces (h : (s.doors.doors.get d).state = .locked) :
    (s.lockLost d).present .doorForced = true ∧ (s.lockLost d).faults = s.faults.occur s.straps.strict .doorForced
      ∧ (s.lockLost d).doors.latchPending = true ∧ (s.lockLost d).doors.mass = s.doors.mass := by
  have hforced : ((s.doorForced d).doors.doors.get d).state = .forced := by
    rw [State.doorForced, setDoor_get, if_pos rfl]
  have hopen : ((s.doorForced d).raise .doorForced).summary ≠ .allClosed :=
    summary_of_forced ((sameFlags_raise_classB rfl d).2.2.2.mpr hforced)
  obtain ⟨hfaults, hpending, hmass⟩ := raise_classB_of_open (s := s.doorForced d) rfl hopen
  rw [lockLost_of_locked h]
  exact ⟨raise_present_self _, hfaults, hpending.trans (setDoor_latchPending.mpr (.inr ⟨h, nofun⟩)), hmass⟩

theorem lockLost_onlyChanges : onlyChanges Part.ofClassB s (s.lockLost d) := by
  by_cases hlocked : (s.doors.doors.get d).state = .locked
  · have hraised := raise_onlyChanges_ofClassB (s := s.doorForced d) (k := .doorForced) nofun
    rw [State.lockLost_of_locked hlocked]
    exact ((setDoor_onlyChanges _ _).mono (by decide)).trans hraised rfl
  by_cases hreleased : (s.doors.doors.get d).state = .released
  · rw [State.lockLost_of_released hreleased]
    exact (setDoor_onlyChanges _ _).mono (by decide)
  · rw [State.lockLost_of_other hlocked hreleased]
    exact onlyChanges_refl _ _

end Sys2Proof.Machine
end

section
/-! SUPPORT. The events of one door (O50; sections 7.2 to 7.6 and 7.8). -/

namespace Sys2Proof.Machine

variable {ps : List Part} {s t u v w : State} {m : Moment} {j k : FaultKind} {d e door : DoorId} {r : Door} {now : Nat}
  {side car : CarSide} {f g : Faults} {read : Levels → Levels} {doors : PerDoor Door}

theorem State.permitFailed_congr (h : ∀ side, t.doors.sideRelease side = s.doors.sideRelease side) :
    t.permitFailed now doors = s.permitFailed now doors := by
  unfold State.permitFailed
  exact congrArg (PerDoor.mapIdx · doors) (funext fun d => funext fun r => by rw [h])

/-- The reports on the way of a level read are those on the way from the state before it. -/
theorem State.leveled_latchReports : (s.leveled m read).latchReports m t f = s.latchReports m t f :=
  latchReports_congr rfl rfl rfl rfl rfl

theorem State.latchReports_keepStore : s.latchReports m t.keepStore f = s.latchReports m t f :=
  latchReports_congr rfl rfl rfl rfl (summary_congr (by simp))

/-! ## The lock switch made -/

theorem lockMade_onlyChanges : onlyChanges [.levels, .doors, .sideReleases, .mass, .faults] s (s.lockMade d) := by
  intro q
  cases q <;> simp [Part.same]

/-! ## The lock switch lost -/

/-! ## The fully open switch, the open button and an obstruction (R132, R133, R137, R138) -/

/-- An OPENING door fully open. -/
def State.fullyOpen (d : DoorId) (s : State) : State :=
  if (s.doors.doors.get d).state = .opening then
    s.setDoor d { s.doors.doors.get d with state := .opened, timer := none }
  else s

/-- A RELEASED door opened by its button. -/
def State.buttonPressed (d : DoorId) (s : State) : State :=
  if (s.doors.doors.get d).state = .released then
    s.setDoor d { s.doors.doors.get d with state := .opening, timer := some s.clock }
  else s

theorem State.fullyOpen_doors :
    (s.fullyOpen d).doors.doors
      = s.doors.doors.set d
        (if (s.doors.doors.get d).state = .opening then { s.doors.doors.get d with state := .opened, timer := none }
        else s.doors.doors.get d) := by
  unfold State.fullyOpen
  split
  · rfl
  · exact (PerDoor.set_get _ _).symm

theorem fullyOpen_onlyChanges : onlyChanges [.doors] s (s.fullyOpen d) := by
  unfold State.fullyOpen
  split
  next h => exact setDoor_onlyChanges_of_unlocked (by rw [h]; nofun)
  next => exact onlyChanges_refl _ _

theorem State.buttonPressed_doors :
    (s.buttonPressed d).doors.doors
      = s.doors.doors.set d
        (if (s.doors.doors.get d).state = .released then
          { s.doors.doors.get d with state := .opening, timer := some s.clock }
        else s.doors.doors.get d) := by
  unfold State.buttonPressed
  split
  · rfl
  · exact (PerDoor.set_get _ _).symm

theorem buttonPressed_onlyChanges : onlyChanges [.doors] s (s.buttonPressed d) := by
  unfold State.buttonPressed
  split
  next h => exact setDoor_onlyChanges_of_unlocked (by rw [h]; nofun)
  next => exact onlyChanges_refl _ _

/-- A CLOSING door obstructed (R137, R138). -/
def Door.obstructed (now : Nat) (r : Door) : Door :=
  if r.attempts < 2 then { r with state := .reopening, attempts := r.attempts + 1, timer := some now }
  else { r with state := .opened, attempts := 3, obstructionFlag := true, timer := none }

theorem State.obstruct_of_other (h : (s.doors.doors.get d).state ≠ .closing) : s.obstruct d = s := if_neg h

theorem State.obstruct_of_closing (h : (s.doors.doors.get d).state = .closing) :
    s.obstruct d
      = if (s.doors.doors.get d).attempts < 2 then s.setDoor d ((s.doors.doors.get d).obstructed s.clock)
        else (s.setDoor d ((s.doors.doors.get d).obstructed s.clock)).recordOccurrence .doorObstructed := by
  unfold State.obstruct
  dsimp only
  rw [if_pos h]
  by_cases hfew : (s.doors.doors.get d).attempts < 2
  · have hcount : (s.doors.doors.get d).attempts + 1 < 3 := by omega
    rw [if_pos hcount, if_pos hfew, Door.obstructed, if_pos hfew]
  · have hcount : ¬(s.doors.doors.get d).attempts + 1 < 3 := by omega
    rw [if_neg hcount, if_neg hfew, Door.obstructed, if_neg hfew]
    exact raise_of_classC rfl

theorem State.obstruct_doors (h : (s.doors.doors.get d).state = .closing) :
    (s.obstruct d).doors.doors = s.doors.doors.set d ((s.doors.doors.get d).obstructed s.clock)
      ∧ (s.obstruct d).faults
        = (if 2 ≤ (s.doors.doors.get d).attempts then s.faults.occur s.straps.strict .doorObstructed else s.faults)
      ∧ (2 ≤ (s.doors.doors.get d).attempts → (s.obstruct d).present .doorObstructed = true) := by
  rw [obstruct_of_closing h]
  split
  next hfew =>
    have hnot : ¬2 ≤ (s.doors.doors.get d).attempts := by omega
    rw [if_neg hnot]
    exact ⟨rfl, rfl, fun h2 => absurd h2 hnot⟩
  next hfew =>
    have hmany : 2 ≤ (s.doors.doors.get d).attempts := by omega
    rw [if_pos hmany]
    exact ⟨rfl, rfl, fun _ => Faults.present_occur_self _ _ _⟩

theorem obstruct_onlyChanges : onlyChanges [.doors, .faults] s (s.obstruct d) := by
  by_cases h : (s.doors.doors.get d).state = .closing
  · have hset : onlyChanges [.doors, .faults] s (s.setDoor d ((s.doors.doors.get d).obstructed s.clock)) :=
      (setDoor_onlyChanges_of_unlocked (by rw [h]; nofun)).mono (by decide)
    rw [State.obstruct_of_closing h]
    split
    · exact hset
    · exact hset.trans ((setFaults_onlyChanges _ _).mono (by decide)) rfl
  · rw [State.obstruct_of_other h]
    exact onlyChanges_refl _ _

/-- Settles O50: each event moves its own door, and the conditions of the doors follow. -/
theorem doorEventsMoveOneDoor : Obligations.DoorEventsMoveOneDoor := by
  intro m door s hrun r released strict
  have hopened : exec (.fullyOpenSwitch m door) s
      = .next ((s.leveled m (Levels.mapDoor door fun v => { v with openMade := true })).fullyOpen door).keepStore :=
    runLevels_leveled (effect := State.fullyOpen door) hrun
  have hpressed : exec (.openButton m door) s = .next ((s.atMoment m).buttonPressed door).keepStore :=
    runCommand_of_running m (State.buttonPressed door) hrun
  refine ⟨?made, ?lost, ⟨_, hopened, ?_, ?_, ?_⟩, ⟨_, hpressed, ?_, ?_⟩, ?obstructed⟩
  case made =>
    have hexec : exec (.lockSwitchMade m door) s = .next ((s.leveled m _).lockMade door).keepStore :=
      runLevels_leveled (read := Levels.mapDoor door fun v => { v with lockMade := true }) (effect := State.lockMade door) hrun
    generalize hread : (Levels.mapDoor door fun v : DoorLines => { v with lockMade := true }) = read at hexec
    have hdoors : ((s.leveled m read).lockMade door).keepStore.doors = ((s.leveled m read).lockMade door).doors := by simp
    have hpins : ((s.leveled m read).lockMade door).keepStore.pins.levels = read s.pins.levels :=
      Eq.trans (by simp) (rfl : (s.leveled m read).pins.levels = read s.pins.levels)
    refine ⟨_, hexec, hpins, fun hpermits other hother => ?_, fun hlocks => ?_, fun hother => ?_,
      onlyChanges_of_leveled lockMade_onlyChanges (by simp) (by decide)⟩
    · obtain hlocks | hstays := DoorState.cases_lock r.state
      · rw [hdoors, State.lockMade_doors (s := s.leveled m read) hlocks hpermits, PerDoor.get_set, if_neg hother]
        rfl
      · rw [hdoors, State.lockMade_of_other (s := s.leveled m read) hstays]
        rfl
    · have hlatched := State.lockMade_latched (s := s.leveled m read) (m := m) (d := door) hlocks rfl
      obtain ⟨htimeouts, hobstructions, hforced⟩ :=
        State.lockMade_follows (s := s.leveled m read) (m := m) (d := door) hlocks rfl
      refine ⟨?_, ?_, ?_, ?_, fun hpermits => ?_, fun h1 h2 h3 h4 => ?_⟩
      · rw [State.timeoutsFollow, State.keepStore_present, hdoors]
        exact htimeouts
      · rw [State.obstructionsFollow, State.keepStore_present, hdoors]
        exact hobstructions
      · rw [State.forcedFollow, State.keepStore_present, hdoors]
        exact hforced
      · dsimp only
        rw [State.latchReports_keepStore, State.keepStore_faults, hdoors, hlatched.faults, State.leveled_latchReports]
        rfl
      · rw [hdoors, State.lockMade_doors (s := s.leveled m read) hlocks hpermits, PerDoor.get_set, if_pos rfl]
        rfl
      · have hsummary : ((s.leveled m read).lockMade door).summary = .allClosed := by
          rw [← h2]
          exact (State.summary_congr (by simp)).symm
        have htaken := hlatched.mass ⟨h1, hsummary, h3, h4⟩
        rw [hdoors, State.keepStore_present]
        exact htaken
    · rw [State.lockMade_of_other (s := s.leveled m read) hother]
      exact onlyChanges_of_leveled (onlyChanges_refl _ _) rfl (by decide)
  case lost =>
    have hexec : exec (.lockSwitchLost m door) s = .next ((s.leveled m _).lockLost door).keepStore :=
      runLevels_leveled (read := Levels.mapDoor door fun v => { v with lockMade := false }) (effect := State.lockLost door) hrun
    generalize hread : (Levels.mapDoor door fun v : DoorLines => { v with lockMade := false }) = read at hexec
    have hdoors : ((s.leveled m read).lockLost door).keepStore.doors = ((s.leveled m read).lockLost door).doors := by simp
    have hpins : ((s.leveled m read).lockLost door).keepStore.pins.levels = read s.pins.levels :=
      Eq.trans (by simp) (rfl : (s.leveled m read).pins.levels = read s.pins.levels)
    refine ⟨_, hexec, hpins, fun hlocked => ?_, fun hreleased => ?_, fun hlocked hreleased => ?_,
      onlyChanges_of_leveled (lockLost_onlyChanges.mono (by decide)) (by simp) (by decide)⟩
    · obtain ⟨hpresent, hfaults, hpending, hmass⟩ := State.lockLost_forces (s := s.leveled m read) hlocked
      have heq := State.lockLost_of_locked (s := s.leveled m read) hlocked
      refine ⟨(State.keepStore_present _).trans hpresent, ?_, ?_, ?_, fun habsent => ?_, fun hset => ?_⟩
      · rw [State.keepStore_faults, hfaults]
        rfl
      · rw [hdoors, hpending]
      · rw [hdoors, hmass]
        rfl
      · obtain ⟨hfailed, ha, hb, hlimit⟩ :=
          State.raise_classB_spec (s := (s.leveled m read).doorForced door) (k := .doorForced) rfl habsent
        rw [hdoors, State.keepStore_speed, heq]
        exact ⟨hfailed.trans (State.permitFailed_congr fun side => State.setDoor_sideRelease), ha, hb, hlimit⟩
      · have hraise := State.raise_of_present (s := (s.leveled m read).doorForced door) (k := .doorForced) hset
        have honly : onlyChanges [.levels, .doors, .mass, .faults] (s.leveled m read)
            (((s.leveled m read).doorForced door).recordOccurrence .doorForced) :=
          ((setDoor_onlyChanges _ _).mono (by decide)).trans ((setFaults_onlyChanges _ _).mono (by decide)) rfl
        rw [hdoors, heq, hraise]
        exact ⟨rfl, onlyChanges_of_leveled honly rfl (by decide)⟩
    · rw [hdoors, State.lockLost_of_released (s := s.leveled m read) hreleased]
      refine ⟨rfl, onlyChanges_of_leveled (m := m) (read := read) (ps := [.levels, .doors]) ?_ rfl (by decide)⟩
      exact (setDoor_onlyChanges_of_unlocked (s := s.leveled m read)
        fun hlocked => absurd (hreleased.symm.trans hlocked) nofun).mono (by decide)
    · rw [State.lockLost_of_other (s := s.leveled m read) hlocked hreleased]
      exact onlyChanges_of_leveled (onlyChanges_refl _ _) rfl (by decide)
  · rw [keepStore_pins]
    unfold State.fullyOpen
    split <;> rfl
  · rw [keepStore_doors, State.fullyOpen_doors]
    rfl
  · refine onlyChanges_of_leveled (fullyOpen_onlyChanges.mono (by decide)) ?_ (by decide)
    unfold State.fullyOpen
    split <;> rfl
  · rw [keepStore_doors, State.buttonPressed_doors]
    rfl
  · refine onlyChanges_of_effect buttonPressed_onlyChanges ?_
    unfold State.buttonPressed
    split <;> rfl
  case obstructed =>
    have hexec : exec (.obstructionEdge m door) s = .next ((s.atMoment m).obstruct door).keepStore :=
      runCommand_of_running m (State.obstruct door) hrun
    refine ⟨_, hexec, ?_⟩
    rw [keepStore_doors, State.keepStore_faults, State.keepStore_present]
    by_cases h : r.state = .closing
    · obtain ⟨hdoors, hfaults, hpresent⟩ := State.obstruct_doors (s := s.atMoment m) (d := door) h
      rw [hdoors, hfaults, if_neg (not_not_intro h)]
      refine ⟨rfl, if_congr (by simp [h, r]) rfl rfl, fun _ => hpresent, onlyChanges_of_effect obstruct_onlyChanges (by simp)⟩
    · rw [State.obstruct_of_other (s := s.atMoment m) h, if_pos h, if_neg fun hcond => h hcond.1]
      exact ⟨(PerDoor.set_get _ _).symm, rfl, fun hclosing => absurd hclosing h,
        onlyChanges_of_effect (onlyChanges_refl _ _) rfl⟩

end Sys2Proof.Machine
end

section
/-! SUPPORT. Door timers and handles (O51; sections 7.2 to 7.6 and 7.8). -/

namespace Sys2Proof.Machine

variable {ps : List Part} {s t u v w : State} {m : Moment} {j k : FaultKind} {d e door : DoorId} {r : Door} {now : Nat}
  {side car : CarSide} {f g : Faults} {read : Levels → Levels} {doors : PerDoor Door}

/-! ## Door phase timers (R133, R137) -/

/-- An OPENING door at its timeout. -/
def State.openingTimedOut (d : DoorId) (s : State) : State :=
  if (s.doors.doors.get d).state = .opening then
    (s.setDoor d { s.doors.doors.get d with state := .opened, timer := none, timeoutFlag := true }).raise .doorTimeout
  else s

/-- A REOPENING door at its expiry. -/
def State.reopenExpired (d : DoorId) (s : State) : State :=
  if (s.doors.doors.get d).state = .reopening then
    s.setDoor d { s.doors.doors.get d with state := .closing, timer := some s.clock }
  else s

theorem exec_doorOpeningTimeout_due (hrun : s.running = true)
    (hdue : timerReached (s.doors.doors.get door).timer (s.instant m) (ms 6000) = true) :
    exec (.doorOpeningTimeout m door) s = .next ((s.atMoment m).openingTimedOut door).keepStore :=
  runCommand_due (timer := fun u => (u.doors.doors.get door).timer) (effect := State.openingTimedOut door) hrun hdue

theorem exec_doorClosingTimeout_due (hrun : s.running = true)
    (hdue : timerReached (s.doors.doors.get door).timer (s.instant m) (ms 8000) = true) :
    exec (.doorClosingTimeout m door) s = .next ((s.atMoment m).obstruct door).keepStore :=
  runCommand_due (timer := fun u => (u.doors.doors.get door).timer) (effect := State.obstruct door) hrun hdue

theorem exec_doorReopenExpiry_due (hrun : s.running = true)
    (hdue : timerReached (s.doors.doors.get door).timer (s.instant m) (ms 1000) = true) :
    exec (.doorReopenExpiry m door) s = .next ((s.atMoment m).reopenExpired door).keepStore :=
  runCommand_due (timer := fun u => (u.doors.doors.get door).timer) (effect := State.reopenExpired door) hrun hdue

/-- An OPENING door at its timeout is OPEN with its flag. -/
def State.timedOutOpen (d : DoorId) (s : State) : State :=
  s.setDoor d { s.doors.doors.get d with state := .opened, timer := none, timeoutFlag := true }

theorem State.openingTimedOut_of_opening (h : (s.doors.doors.get d).state = .opening) :
    s.openingTimedOut d = (s.timedOutOpen d).recordOccurrence .doorTimeout :=
  (if_pos h).trans (raise_of_classC rfl)

theorem State.reopenExpired_of_reopening (h : (s.doors.doors.get d).state = .reopening) :
    s.reopenExpired d = s.setDoor d { s.doors.doors.get d with state := .closing, timer := some s.clock } := if_pos h

/-! ## A handle active (R131, R140, R141) -/

/-- A change of a door that leaves its state leaves latch pending and the summary. -/
theorem setDoor_onlyChanges_of_state (h : r.state = (s.doors.doors.get d).state) : onlyChanges [.doors] s (s.setDoor d r) := by
  intro q
  cases q <;> simp [Part.same, State.setDoor, DoorControl.change, h]

theorem State.setDoor_pending_of_state (h : r.state = (s.doors.doors.get d).state) :
    (s.setDoor d r).doors.latchPending = s.doors.latchPending := by
  simp [State.setDoor, DoorControl.change, h]

/-- A door's alarm. -/
def State.doorAlarm (d : DoorId) (s : State) : State := s.setDoor d { s.doors.doors.get d with handleAlarm := true }

theorem doorAlarm_onlyChanges : onlyChanges [.doors] s (s.doorAlarm d) := setDoor_onlyChanges_of_state rfl

theorem State.summary_of_states (h : ∀ d, (t.doors.doors.get d).state = (s.doors.doors.get d).state) :
    t.summary = s.summary := by
  have hclosed (d : DoorId) : (t.doors.doors.get d).closed = (s.doors.doors.get d).closed := by
    rw [Door.closed, Door.closed, h]
  have haway (d : DoorId) : (t.doors.doors.get d).away = (s.doors.doors.get d).away := by rw [Door.away, Door.away, h]
  have hall : t.doors.doors.toList.all Door.closed = s.doors.doors.toList.all Door.closed := by
    rw [Bool.eq_iff_iff, PerDoor.all_iff, PerDoor.all_iff]
    exact forall_congr' fun d => by rw [hclosed]
  have hany : t.doors.doors.toList.any Door.away = s.doors.doors.toList.any Door.away := by
    rw [Bool.eq_iff_iff, PerDoor.any_iff, PerDoor.any_iff]
    exact exists_congr fun d => by rw [haway]
  rw [State.summary, State.summary, summaryOf, summaryOf, hall, hany]

theorem State.handleActive_of_isolated (h : (s.doors.doors.get d).state = .isolated) : s.handleActive d = s := if_pos h

theorem State.handleActive_held (h : (s.doors.doors.get d).state ≠ .isolated) (hstill : s.rack.standstill = true)
    (happlied : s.brake.applied = true) :
    s.handleActive d = s.setDoor d ((s.doors.doors.get d).handleReleased s.clock) := by
  unfold State.handleActive
  dsimp only
  rw [if_neg h, hstill, happlied]
  rfl

theorem State.handleActive_alarms (h : (s.doors.doors.get d).state ≠ .isolated)
    (hfree : s.rack.standstill = false ∨ s.brake.applied = false) :
    s.handleActive d
      = if (s.doors.doors.get d).handleAlarm = true then s.doorAlarm d else (s.doorAlarm d).raise .doorForced := by
  have hboth : (s.rack.standstill && s.brake.applied) = false := by
    obtain h | h := hfree <;> simp [h]
  unfold State.handleActive
  dsimp only
  rw [if_neg h, hboth]
  rfl

theorem State.handleActive_of_alarmed (h : (s.doors.doors.get d).state ≠ .isolated)
    (hfree : s.rack.standstill = false ∨ s.brake.applied = false) (hset : (s.doors.doors.get d).handleAlarm = true) :
    s.handleActive d = s.doorAlarm d := by
  rw [handleActive_alarms h hfree, if_pos hset]

theorem State.handleActive_of_quiet (h : (s.doors.doors.get d).state ≠ .isolated)
    (hfree : s.rack.standstill = false ∨ s.brake.applied = false) (hquiet : (s.doors.doors.get d).handleAlarm = false) :
    s.handleActive d = (s.doorAlarm d).raise .doorForced := by
  rw [handleActive_alarms h hfree, if_neg (by simp [hquiet])]

theorem handleActive_onlyChanges : onlyChanges Part.ofClassB s (s.handleActive d) := by
  unfold State.handleActive
  dsimp only
  split
  · exact onlyChanges_refl _ _
  split
  · exact (setDoor_onlyChanges _ _).mono (by decide)
  have halarm : onlyChanges Part.ofClassB s (s.doorAlarm d) := (setDoor_onlyChanges _ _).mono (by decide)
  split
  · exact halarm
  · exact halarm.trans (raise_onlyChanges_ofClassB (s := s.doorAlarm d) (k := .doorForced) nofun) rfl

/-! ## A handle inactive (R131, R135, R140, R141) -/

/-- A door whose handle returns. -/
def Door.returned (now : Nat) (sideReleased : Bool) (r : Door) : Door :=
  if r.handleRelease && !sideReleased then { r with handleAlarm := false, handleRelease := false }.withdraw now
  else { r with handleAlarm := false, handleRelease := false }

theorem Door.returned_eq (sideReleased : Bool) :
    r.returned now sideReleased
      = if r.handleRelease = true ∧ sideReleased = false then
          { r with handleAlarm := false, handleRelease := false }.withoutRelease now
        else { r with handleAlarm := false, handleRelease := false } := by
  unfold Door.returned
  rw [Door.withdraw_eq]
  exact if_congr (by simp) rfl rfl

/-- The state with its handle returned. -/
def State.handleReturned (d : DoorId) (s : State) : State :=
  s.setDoor d ((s.doors.doors.get d).returned s.clock (s.doors.sideRelease (doorSide d)))

theorem State.handleInactive_of_isolated (h : (s.doors.doors.get d).state = .isolated) : s.handleInactive d = s := if_pos h

theorem State.handleInactive_eq (h : (s.doors.doors.get d).state ≠ .isolated) :
    s.handleInactive d = (s.handleReturned d).reformForced.latchIfClosed s.summary := if_neg h

theorem Door.returned_flags (sideReleased : Bool) :
    (r.returned now sideReleased).handleAlarm = false ∧ (r.returned now sideReleased).handleRelease = false := by
  unfold Door.returned
  split
  · rw [Door.withdraw_eq, Door.withoutRelease_handle, Door.withoutRelease_flags.2.2.1]
    exact ⟨rfl, rfl⟩
  · exact ⟨rfl, rfl⟩

/-- A door that is shut stays so as its handle returns. -/
theorem Door.returned_state (sideReleased : Bool) (h : r.state = .locked ∨ r.state = .isolated) :
    (r.returned now sideReleased).state = r.state := by
  unfold Door.returned Door.withdraw
  obtain h | h := h <;> split <;> simp [h]

theorem State.handleReturned_onTheWay (hload : s.pins.load = m.load) : s.OnTheWay m (s.handleReturned d) := by
  refine ⟨?_, rfl, rfl, hload⟩
  have hshut : (s.doors.doors.get d).state = .locked →
      ((s.doors.doors.get d).returned s.clock (s.doors.sideRelease (doorSide d))).state = .locked := fun hlocked => by
    rw [Door.returned_state _ (.inl hlocked), hlocked]
  by_cases hlocked : (s.doors.doors.get d).state = .locked
  · simp [State.handleReturned, State.setDoor, DoorControl.change, hshut hlocked]
  · simp [State.handleReturned, State.setDoor, DoorControl.change, hlocked]

theorem State.handleReturned_closed (h : s.summary = .allClosed) : (s.handleReturned d).summary = .allClosed := by
  have hdoors := (summaryOf_eq_allClosed_iff _).mp h
  refine (summaryOf_eq_allClosed_iff _).mpr fun e => ?_
  rw [State.handleReturned, setDoor_get]
  split
  · have hdoor := hdoors d
    rw [Door.closed_iff] at hdoor ⊢
    rwa [Door.returned_state _ hdoor]
  · exact hdoors e

theorem State.handleInactive_latched (h : (s.doors.doors.get d).state ≠ .isolated) (hload : s.pins.load = m.load) :
    s.latchedOrNot m (s.faults.reformedBy (s.handleInactive d).doorAlarmed .doorForced) (s.handleInactive d) := by
  have halarmed := (sameFlags_reformForced (s := s.handleReturned d) (t := s)).tests.2.2
  rw [handleInactive_eq h, halarmed]
  exact reformForced_latched handleReturned_closed (handleReturned_onTheWay hload)

theorem State.handleInactive_doors (h : (s.doors.doors.get d).state ≠ .isolated) (hpermits : s.permitsOk) :
    (s.handleInactive d).doors.doors
      = s.doors.doors.set d ((s.doors.doors.get d).returned s.clock (s.doors.sideRelease (doorSide d))) := by
  rw [handleInactive_eq h, (latchIfClosed_doors _).1, reformForced_doors (w := s.handleReturned d) (permitsOk_setDoor hpermits)]
  rfl

/-- The door's own handle, alarm and, without its side's release, its state. -/
theorem State.handleInactive_get (h : (s.doors.doors.get d).state ≠ .isolated) :
    ((s.handleInactive d).doors.doors.get d).handleAlarm = false
      ∧ ((s.handleInactive d).doors.doors.get d).handleRelease = false
      ∧ (s.doors.sideRelease (doorSide d) = false →
        (s.handleInactive d).doors.doors.get d
          = (s.doors.doors.get d).returned s.clock (s.doors.sideRelease (doorSide d))) := by
  have hget : (s.handleReturned d).doors.doors.get d
      = (s.doors.doors.get d).returned s.clock (s.doors.sideRelease (doorSide d)) := by
    rw [State.handleReturned, setDoor_get, if_pos rfl]
  obtain ⟨halarm, hrelease⟩ := (s.doors.doors.get d).returned_flags (now := s.clock) (s.doors.sideRelease (doorSide d))
  rw [handleInactive_eq h, latchIfClosed_get]
  obtain hreform | hreform := (s.handleReturned d).reformForced_cases
  · have hstays : (s.handleReturned d).reformForced.doors.doors.get d = (s.handleReturned d).doors.doors.get d := by
      rw [hreform]
      rfl
    rw [hstays, hget]
    exact ⟨halarm, hrelease, fun _ => rfl⟩
  · have hsides : ((s.handleReturned d).setFaults
          ((s.handleReturned d).faults.reformedBy (s.handleReturned d).doorAlarmed .doorForced)).doors.sideRelease (doorSide d)
        = s.doors.sideRelease (doorSide d) := setDoor_sideRelease
    have hdoor : ((s.handleReturned d).setFaults
          ((s.handleReturned d).faults.reformedBy (s.handleReturned d).doorAlarmed .doorForced)).doors.doors.get d
        = (s.handleReturned d).doors.doors.get d := rfl
    rw [hreform, retestPermits_get, hsides, hdoor, hget, Door.withdraw_eq]
    split
    next hwithdrawn =>
      rw [Door.withoutRelease_handle, Door.withoutRelease_flags.2.2.1]
      exact ⟨halarm, hrelease, fun hside => absurd (hwithdrawn.1.symm.trans hside) nofun⟩
    next => exact ⟨halarm, hrelease, fun _ => rfl⟩

/-- A door that a returned handle leaves without a release, by its state (R135). -/
theorem Door.returned_states (h : r.handleRelease = true) :
    (r.state = .released → (r.returned now false).state = .locked)
      ∧ (r.state = .opening → (r.returned now false).state = .closing)
      ∧ (r.state = .opened → r.obstructionFlag = false → (r.returned now false).state = .closing)
      ∧ (r.state = .opened → r.obstructionFlag = true → (r.returned now false).state = .opened) := by
  unfold Door.returned Door.withdraw
  rw [h]
  refine ⟨fun hstate => ?_, fun hstate => ?_, fun hstate hflag => ?_, fun hstate hflag => ?_⟩ <;> simp [*]

theorem handleInactive_onlyChanges : onlyChanges Part.ofClassB s (s.handleInactive d) := by
  intro q
  cases q <;> simp [Part.same, Part.ofClassB]

/-! ## The obligation -/

/-- A handle on a door that is not isolated, where the car is not held at standstill: its alarm. -/
theorem State.handleActive_alarmed (h : (s.doors.doors.get d).state ≠ .isolated)
    (hfree : s.rack.standstill = false ∨ s.brake.applied = false) (hload : s.pins.load = m.load)
    (hquiet : (s.doors.doors.get d).handleAlarm = false) :
    (s.handleActive d).present .doorForced = true
      ∧ (s.handleActive d).faults = s.afterOccurrence m .doorForced (s.handleActive d) := by
  have halarms := handleActive_of_quiet h hfree hquiet
  have hstates (e : DoorId) : ((s.doorAlarm d).doors.doors.get e).state = (s.doors.doors.get e).state := by
    rw [State.doorAlarm, setDoor_get]
    split
    next heq => rw [heq]
    next => rfl
  rw [halarms]
  refine ⟨raise_present_self _, (raise_faults (s := s.doorAlarm d) rfl hload).trans ?_⟩
  exact latchReports_congr (summary_of_states hstates) (setDoor_pending_of_state rfl) rfl rfl rfl

/-- The alarm of the door of a handle that becomes active. -/
theorem State.handleActive_alarm (h : (s.doors.doors.get d).state ≠ .isolated)
    (hfree : s.rack.standstill = false ∨ s.brake.applied = false) :
    ((s.handleActive d).doors.doors.get d).handleAlarm = true := by
  have halarm : ((s.doorAlarm d).doors.doors.get d).handleAlarm = true := by rw [State.doorAlarm, setDoor_get, if_pos rfl]
  rw [handleActive_alarms h hfree]
  split
  · exact halarm
  · rw [(sameFlags_raise_classB (s := s.doorAlarm d) rfl d).2.2.1, halarm]

end Sys2Proof.Machine
end

section
/-! SUPPORT. Door timers and handles: the commands (O51). -/

namespace Sys2Proof.Machine

variable {ps : List Part} {s t u : State} {m : Moment} {d door : DoorId} {r : Door} {now : Nat} {read : Levels → Levels}

/-- The levels with a door's handle. -/
def handleLevels (door : DoorId) (active : Bool) : Levels → Levels := Levels.mapDoor door fun v => { v with handle := active }

theorem handleLevels_handle (door : DoorId) (active : Bool) (levels : Levels) :
    ((handleLevels door active levels).doors.get door).handle = active := by
  unfold handleLevels Levels.mapDoor
  dsimp only
  rw [PerDoor.get_set, if_pos rfl]

theorem exec_handleActive (hrun : s.running = true) :
    exec (.handleActive m door) s = .next ((s.leveled m (handleLevels door true)).handleActive door).keepStore :=
  runLevels_leveled (effect := State.handleActive door) hrun

theorem exec_handleInactive (hrun : s.running = true) :
    exec (.handleInactive m door) s = .next ((s.leveled m (handleLevels door false)).handleInactive door).keepStore :=
  runLevels_leveled (effect := State.handleInactive door) hrun

theorem handleActive_levels :
    (((s.leveled m (handleLevels door true)).handleActive door).keepStore.pins.levels.doors.get door).handle = true := by
  have hpins : ((s.leveled m (handleLevels door true)).handleActive door).keepStore.pins.levels
      = handleLevels door true s.pins.levels :=
    Eq.trans (by simp) (rfl : (s.leveled m (handleLevels door true)).pins.levels = handleLevels door true s.pins.levels)
  rw [hpins, handleLevels_handle]

theorem handleInactive_levels :
    (((s.leveled m (handleLevels door false)).handleInactive door).keepStore.pins.levels.doors.get door).handle = false := by
  have hpins : ((s.leveled m (handleLevels door false)).handleInactive door).keepStore.pins.levels
      = handleLevels door false s.pins.levels :=
    Eq.trans (by simp) (rfl : (s.leveled m (handleLevels door false)).pins.levels = handleLevels door false s.pins.levels)
  rw [hpins, handleLevels_handle]

theorem Door.handleReleased_eq (h : r.state ≠ .isolated) :
    r.handleReleased now
      = match r.state with
        | .locked => { r with handleRelease := true, state := .released }
        | .closing => { r with handleRelease := true, state := .opening, attempts := 0, timer := some now }
        | .released => { r with handleRelease := true }
        | .opening => { r with handleRelease := true }
        | .opened => { r with handleRelease := true }
        | .reopening => { r with handleRelease := true }
        | .forced => { r with handleRelease := true }
        | .isolated => { r with handleRelease := true } := by
  unfold Door.handleReleased
  split <;> simp_all

theorem State.leveled_afterOccurrence {k : FaultKind} :
    (s.leveled m read).afterOccurrence m k t = s.afterOccurrence m k t := leveled_latchReports

/-- Settles O51: the phase timers, a handle that releases or alarms, and its return. -/
theorem doorTimersAndHandlesAct : Obligations.DoorTimersAndHandlesAct := by
  intro m door s hrun r
  refine ⟨fun hdue hstate => ?opening, fun hdue hstate => ?closing, fun hdue hstate => ?reopen,
    fun hisolated => ⟨fun hstill happlied => ?held, fun hfree => ?alarm, ?returned⟩,
    fun hisolated => ⟨⟨_, exec_handleActive hrun, handleActive_levels, ?_⟩,
      ⟨_, exec_handleInactive hrun, handleInactive_levels, ?_⟩⟩⟩
  case opening =>
    have hstate' : ((s.atMoment m).doors.doors.get door).state = .opening := hstate
    have hset : onlyChanges [.doors, .faults] (s.atMoment m) ((s.atMoment m).timedOutOpen door) :=
      (setDoor_onlyChanges_of_unlocked (s := s.atMoment m)
        fun hlocked => absurd (hstate'.symm.trans hlocked) nofun).mono (by decide)
    refine ⟨_, exec_doorOpeningTimeout_due hrun hdue, ?_⟩
    rw [State.openingTimedOut_of_opening hstate', keepStore_doors, State.keepStore_present, State.keepStore_faults]
    exact ⟨rfl, Faults.present_occur_self _ _ _, rfl,
      onlyChanges_of_effect (hset.trans ((setFaults_onlyChanges _ _).mono (by decide)) rfl) rfl⟩
  case closing =>
    obtain ⟨hdoors, hfaults, hpresent⟩ := State.obstruct_doors (s := s.atMoment m) (d := door) hstate
    refine ⟨_, exec_doorClosingTimeout_due hrun hdue, ?_⟩
    rw [keepStore_doors, State.keepStore_present, State.keepStore_faults, hdoors, hfaults]
    exact ⟨rfl, hpresent, rfl, onlyChanges_of_effect obstruct_onlyChanges (by simp)⟩
  case reopen =>
    have hstate' : ((s.atMoment m).doors.doors.get door).state = .reopening := hstate
    refine ⟨_, exec_doorReopenExpiry_due hrun hdue, ?_⟩
    rw [State.reopenExpired_of_reopening hstate', keepStore_doors]
    exact ⟨rfl, onlyChanges_of_effect (m := m) (setDoor_onlyChanges_of_unlocked (s := s.atMoment m)
      fun hlocked => absurd (hstate'.symm.trans hlocked) nofun) rfl⟩
  case held =>
    have heq := State.handleActive_held (s := s.leveled m (handleLevels door true)) hisolated hstill happlied
    refine ⟨_, exec_handleActive hrun, handleActive_levels, ?_⟩
    rw [heq, keepStore_doors]
    refine ⟨congrArg (s.doors.doors.set door) (Door.handleReleased_eq hisolated), fun hlocked => ?_,
      onlyChanges_of_leveled ((setDoor_onlyChanges _ _).mono (by decide)) rfl (by decide)⟩
    refine State.setDoor_latchPending.mpr (.inr ⟨hlocked, ?_⟩)
    have hreleased : (r.handleReleased (s.instant m)).state = .released := by simp [Door.handleReleased, hlocked]
    exact fun h => absurd (hreleased.symm.trans h) nofun
  case alarm =>
    refine ⟨_, exec_handleActive hrun, handleActive_levels, ?_, ⟨fun hset => ?_, fun hquiet => ?_⟩,
      onlyChanges_of_leveled (handleActive_onlyChanges.mono (by decide)) (by simp) (by decide)⟩
    · rw [keepStore_doors]
      exact State.handleActive_alarm (s := s.leveled m (handleLevels door true)) hisolated hfree
    · rw [State.handleActive_of_alarmed (s := s.leveled m (handleLevels door true)) hisolated hfree hset, keepStore_doors]
      have honly : onlyChanges [.levels, .doors] (s.leveled m (handleLevels door true))
          ((s.leveled m (handleLevels door true)).doorAlarm door) :=
        doorAlarm_onlyChanges.mono (by decide)
      exact ⟨rfl, onlyChanges_of_leveled honly rfl (by decide)⟩
    · obtain ⟨hpresent, hfaults⟩ :=
        State.handleActive_alarmed (s := s.leveled m (handleLevels door true)) (m := m) hisolated hfree rfl hquiet
      have halarms :=
        State.handleActive_of_quiet (s := s.leveled m (handleLevels door true)) hisolated hfree hquiet
      refine ⟨(State.keepStore_present _).trans hpresent, ?_, fun habsent => ?_, fun hset => ?_⟩
      · rw [State.keepStore_faults, hfaults, State.leveled_afterOccurrence]
        exact State.latchReports_keepStore.symm
      · obtain ⟨hfailed, ha, hb, hlimit⟩ := State.raise_classB_spec
          (s := (s.leveled m (handleLevels door true)).doorAlarm door) (k := .doorForced) rfl habsent
        rw [keepStore_doors, State.keepStore_speed, halarms]
        exact ⟨hfailed.trans (State.permitFailed_congr fun side => State.setDoor_sideRelease), ha, hb, hlimit⟩
      · have hraise := State.raise_of_present (s := (s.leveled m (handleLevels door true)).doorAlarm door)
          (k := .doorForced) hset
        have honly : onlyChanges [.levels, .doors, .faults] (s.leveled m (handleLevels door true))
            (((s.leveled m (handleLevels door true)).doorAlarm door).recordOccurrence .doorForced) := by
          have halarm : onlyChanges [.levels, .doors, .faults] (s.leveled m (handleLevels door true))
              ((s.leveled m (handleLevels door true)).doorAlarm door) :=
            doorAlarm_onlyChanges.mono (by decide)
          exact halarm.trans ((setFaults_onlyChanges _ _).mono (by decide)) rfl
        rw [halarms, keepStore_doors, hraise]
        exact ⟨rfl, onlyChanges_of_leveled honly rfl (by decide)⟩
  case returned =>
    obtain ⟨halarm, hrelease, hget⟩ :=
      State.handleInactive_get (s := s.leveled m (handleLevels door false)) (d := door) hisolated
    have hfaults := (State.handleInactive_latched (s := s.leveled m (handleLevels door false)) (m := m) (d := door)
      hisolated rfl).faults
    refine ⟨_, exec_handleInactive hrun, handleInactive_levels, ?_⟩
    rw [State.forcedFollow, State.keepStore_present, State.keepStore_faults, State.latchReports_keepStore, keepStore_doors]
    refine ⟨halarm, hrelease, ?_, ?_, fun hpermits => ?_, fun hheld hside => ?_,
      onlyChanges_of_leveled (handleInactive_onlyChanges.mono (by decide)) (by simp) (by decide)⟩
    · rw [← State.doorAlarmed_iff, State.present, hfaults, State.latchReports_present (by decide), Faults.reformedBy_self]
      rfl
    · rw [hfaults, State.leveled_latchReports]
      rfl
    · rw [State.handleInactive_doors (s := s.leveled m (handleLevels door false)) hisolated hpermits]
      exact congrArg (s.doors.doors.set door) (Door.returned_eq (s.doors.sideRelease (doorSide door)))
    · have hdoor := hget hside
      have hside' : (s.leveled m (handleLevels door false)).doors.sideRelease (doorSide door) = false := hside
      rw [hside'] at hdoor
      rw [hdoor]
      exact Door.returned_states (now := s.instant m) hheld
  · rw [State.handleActive_of_isolated (s := s.leveled m (handleLevels door true)) hisolated]
    exact onlyChanges_of_leveled (onlyChanges_refl _ _) rfl (by decide)
  · rw [State.handleInactive_of_isolated (s := s.leveled m (handleLevels door false)) hisolated]
    exact onlyChanges_of_leveled (onlyChanges_refl _ _) rfl (by decide)

end Sys2Proof.Machine
end

section
/-! SUPPORT. CONSIST_RESET: the fault table through goings and a report of the mass latch (sections 10.2 and 10.4). -/

namespace Sys2Proof.Machine

variable {ps : List Part} {s t u v w : State} {m : Moment} {j k : FaultKind} {d e : DoorId} {r : Door} {now : Nat}
  {side : CarSide} {f g h : Faults} {rec : FaultRecord} {strict : Bool}

/-! ## What goings leave of the table -/

/-- The fault manager `g` has the records of `f` in their places, with their kinds, classes and counts. -/
def Faults.relabels (f g : Faults) : Prop :=
  ∃ change : FaultRecord → FaultRecord, g.table = f.table.map change
    ∧ ∀ r, (change r).kind = r.kind ∧ (change r).cls = r.cls ∧ (change r).count = r.count

theorem Faults.relabels.refl (f : Faults) : f.relabels f := ⟨id, by simp, fun _ => ⟨rfl, rfl, rfl⟩⟩

theorem Faults.relabels.trans (hfg : f.relabels g) (hgh : g.relabels h) : f.relabels h := by
  obtain ⟨first, hfirst, hkeeps⟩ := hfg
  obtain ⟨second, hsecond, hkeeps'⟩ := hgh
  refine ⟨second ∘ first, by rw [hsecond, hfirst, List.map_map], fun r => ?_⟩
  obtain ⟨hkind, hcls, hcount⟩ := hkeeps r
  obtain ⟨hkind', hcls', hcount'⟩ := hkeeps' (first r)
  exact ⟨hkind'.trans hkind, hcls'.trans hcls, hcount'.trans hcount⟩

/-- The record of a kind changed in its active flag or its count. -/
theorem Faults.going_relabels (k : FaultKind) (f : Faults) : f.relabels (f.going k) := by
  unfold Faults.going
  split
  · refine ⟨_, rfl, fun r => ?_⟩
    split <;> exact ⟨rfl, rfl, rfl⟩
  · exact .refl f

/-- A table filtered by kind and class is the filtered table's labels. -/
theorem Faults.relabels.filter_map (hfg : f.relabels g) (test : FaultKind → FaultClass → Bool) :
    ((g.table.filter fun r => test r.kind r.cls).map fun r => (r.kind, r.cls, r.count))
      = (f.table.filter fun r => test r.kind r.cls).map fun r => (r.kind, r.cls, r.count) := by
  obtain ⟨change, htable, hkeeps⟩ := hfg
  rw [htable, List.filter_map, List.map_map]
  have hlabel : ((fun r : FaultRecord => (r.kind, r.cls, r.count)) ∘ change) = fun r => (r.kind, r.cls, r.count) :=
    funext fun r => by simp [hkeeps]
  have htest : ((fun r : FaultRecord => test r.kind r.cls) ∘ change) = fun r => test r.kind r.cls :=
    funext fun r => by simp [hkeeps]
  rw [hlabel, htest]

/-- A record that the change to `g` may not drop has its kind and class there. -/
def Faults.covers (f g : Faults) : Prop :=
  ∀ r ∈ f.table, g.present r.kind = true ∨ r.cls = .a → ∃ q ∈ g.table, q.kind = r.kind ∧ q.cls = r.cls

theorem Faults.relabels.covers (hfg : f.relabels g) : f.covers g := by
  obtain ⟨change, htable, hkeeps⟩ := hfg
  exact fun r hr _ => ⟨change r, htable ▸ List.mem_map_of_mem hr, (hkeeps r).1, (hkeeps r).2.1⟩

/-- A full table gives up an inactive class C record alone (R185). -/
theorem Faults.addRecord_covers {q : FaultRecord} (hsound : ∀ r ∈ f.table, r.active = f.present r.kind)
    (hflags : ∀ r ∈ f.table, g.present r.kind = f.present r.kind) (htable : g.table = f.table) :
    f.covers (g.addRecord q) := by
  intro r hr hkept
  have hflag : (g.addRecord q).present r.kind = f.present r.kind := by
    rw [← hflags r hr]
    unfold Faults.addRecord
    (repeat' split) <;> rfl
  rw [hflag] at hkept
  have hstays : r.replaceable = false := by
    obtain hpresent | hcls := hkept
    · simp [FaultRecord.replaceable, hsound r hr, hpresent]
    · simp [FaultRecord.replaceable, hcls]
  refine ⟨r, ?_, rfl, rfl⟩
  unfold Faults.addRecord
  rw [htable]
  split
  · exact List.mem_append_left _ hr
  split
  · exact List.mem_append_left _ ((List.mem_eraseP_of_neg (by simp [hstays])).mpr hr)
  · exact htable ▸ hr

theorem Faults.occur_covers (strict : Bool) (k : FaultKind) (hsound : f.sound) : f.covers (f.occur strict k) := by
  unfold Faults.occur
  dsimp only
  split
  · refine fun r hr _ => ⟨_, List.mem_map_of_mem hr, ?_⟩
    split <;> exact ⟨rfl, rfl⟩
  next hnew =>
    refine addRecord_covers hsound.2 (fun r hr => ?_) rfl
    have hne : r.kind ≠ k := fun heq => hnew (Faults.hasRecord_iff.mpr ⟨r, hr, heq⟩)
    exact present_setFlag_of_ne _ _ hne

theorem massReport_covers {load : Option Int} (hsound : f.sound) : f.covers (massReport load strict f) := by
  unfold massReport
  split
  · split
    · exact (Faults.going_relabels _ _).covers
    · exact Faults.occur_covers _ _ hsound
  · exact Faults.occur_covers _ _ hsound

/-! ## The blocks before the platform record (R38, R101, R148, R182) -/

/-- The conditions of class C that the blocks end. -/
def resetKinds : List FaultKind := [.slipEvent, .arithLimit, .doorTimeout, .doorObstructed, .restrictionOverflow]

/-- The fault manager after the goings of a consist reset. -/
def Faults.goneAtReset (f : Faults) : Faults := resetKinds.foldl (fun g k => g.going k) f

theorem Faults.foldl_going_relabels (kinds : List FaultKind) (f : Faults) :
    f.relabels (kinds.foldl (fun g k => g.going k) f) := by
  induction kinds generalizing f with
  | nil => exact .refl f
  | cons k ks ih => exact (going_relabels k f).trans (ih _)

theorem Faults.foldl_going_sound (kinds : List FaultKind) (hf : f.sound) :
    (kinds.foldl (fun g k => g.going k) f).sound := by
  induction kinds generalizing f with
  | nil => exact hf
  | cons k ks ih => exact ih (sound_going k hf)

theorem Faults.foldl_going_present_of_not_mem (kinds : List FaultKind) (hj : j ∉ kinds) :
    (kinds.foldl (fun g k => g.going k) f).present j = f.present j := by
  induction kinds generalizing f with
  | nil => rfl
  | cons k ks ih =>
    obtain ⟨hne, hmem⟩ := List.ne_and_not_mem_of_not_mem_cons hj
    exact (ih hmem).trans (present_going_of_ne f hne)

/-- A going makes no condition present. -/
theorem Faults.going_present_le (h : (f.going k).present j = true) : f.present j = true := by
  by_cases hjk : j = k
  · subst hjk
    exact absurd ((f.present_going_self j).symm.trans h) nofun
  · rwa [present_going_of_ne f hjk] at h

theorem Faults.foldl_going_present_of_mem (kinds : List FaultKind) (hj : j ∈ kinds) :
    (kinds.foldl (fun g k => g.going k) f).present j = false := by
  have habsent (kinds : List FaultKind) {g : Faults} (hg : g.present j = false) :
      (kinds.foldl (fun g k => g.going k) g).present j = false := by
    induction kinds generalizing g with
    | nil => exact hg
    | cons k ks ih => exact ih (Bool.eq_false_iff.mpr fun h => absurd (hg.symm.trans (going_present_le h)) nofun)
  induction kinds generalizing f with
  | nil => exact absurd hj List.not_mem_nil
  | cons k ks ih =>
    obtain rfl | hmem := List.mem_cons.mp hj
    · exact habsent ks (f.present_going_self j)
    · exact ih hmem

theorem Faults.goneAtReset_relabels (f : Faults) : f.relabels f.goneAtReset := foldl_going_relabels _ _

theorem Faults.goneAtReset_sound (hf : f.sound) : f.goneAtReset.sound := foldl_going_sound _ hf

theorem Faults.goneAtReset_present_of_not_mem (hj : j ∉ resetKinds) : f.goneAtReset.present j = f.present j :=
  foldl_going_present_of_not_mem _ hj

theorem Faults.goneAtReset_present_of_mem (hj : j ∈ resetKinds) : f.goneAtReset.present j = false :=
  foldl_going_present_of_mem _ hj

/-- The state after the blocks' own parts, before the platform record is dropped. -/
@[irreducible]
def State.partsReset (s : State) : State := (((s.resetSlips.resetArith).resetDoorFlags).resetOverflow).resetAlerts

/-- The state after the blocks' own parts, before the permits are tested again. -/
@[irreducible]
def State.blocksReset (s : State) : State := s.partsReset.setRadio { s.radio with platform := none }

/-- The state after the permit test and the brake's part. -/
@[irreducible]
def State.blocksTested (s : State) : State := s.blocksReset.retestPermits.resetBrake

/-- The door's flags cleared. -/
def Door.unflagged (r : Door) : Door := { r with timeoutFlag := false, obstructionFlag := false }

/-- Both slip counts cleared. -/
def State.slipsCleared (s : State) : State :=
  s.setEngagement
    { s.engagement with
      pinions := { p1 := { s.engagement.pinions.p1 with slip := 0 }, p2 := { s.engagement.pinions.p2 with slip := 0 } } }

/-- The state after the reset of the slip counts, the flags and the overflow ceiling: each with its going. -/
theorem State.partsReset_parts :
    s.partsReset.faults = s.faults.goneAtReset ∧ s.partsReset.engagement = s.slipsCleared.engagement
      ∧ s.partsReset.speed = { s.speed with arithLimit := false }
      ∧ s.partsReset.doors = { s.doors with doors := s.doors.doors.mapIdx fun _ r => r.unflagged }
      ∧ s.partsReset.restrictions = { s.restrictions with overflow := none } := by
  have hgone (u : State) : u.clear .slipEvent = u.setFaults (u.faults.going .slipEvent)
      ∧ u.clear .arithLimit = u.setFaults (u.faults.going .arithLimit)
      ∧ u.clear .doorTimeout = u.setFaults (u.faults.going .doorTimeout)
      ∧ u.clear .doorObstructed = u.setFaults (u.faults.going .doorObstructed)
      ∧ u.clear .restrictionOverflow = u.setFaults (u.faults.going .restrictionOverflow) :=
    ⟨clear_of_c rfl, clear_of_c rfl, clear_of_c rfl, clear_of_c rfl, clear_of_c rfl⟩
  have hslips : s.resetSlips = s.slipsCleared.setFaults (s.faults.going .slipEvent) := by
    rw [State.resetSlips, State.reformSlip, if_pos ⟨rfl, rfl⟩, (hgone _).1]
    rfl
  rw [State.partsReset, hslips]
  simp only [State.resetArith, State.resetDoorFlags, State.resetOverflow, State.resetAlerts, hgone]
  exact ⟨rfl, rfl, rfl, rfl, rfl⟩

theorem State.partsReset_stands :
    s.partsReset.rack = s.rack ∧ s.partsReset.brake = s.brake ∧ s.partsReset.pins = s.pins
      ∧ s.partsReset.clock = s.clock ∧ s.partsReset.station = s.station ∧ s.partsReset.store = s.store
      ∧ s.partsReset.radio = s.radio ∧ s.partsReset.peers = mapPeers (fun e => { e with lastAlert := none }) s.peers := by
  rw [State.partsReset]
  refine ⟨?_, ?_, ?_, ?_, ?_, ?_, ?_, ?_⟩ <;>
    simp [State.resetSlips, State.resetArith, State.resetOverflow, State.resetAlerts]

theorem State.consistReset_eq :
    s.consistReset = s.blocksTested.setFaults (s.blocksTested.faults.consistReset s.blocksTested.consistStandstill) := by
  rw [State.blocksTested, State.blocksReset, ← partsReset_stands.2.2.2.2.2.2.1, State.partsReset]
  rfl

end Sys2Proof.Machine
end

section
/-! SUPPORT. CONSIST_RESET (O41; sections 2.7, 4.5, 5.7, 6.14, 7.9, 8.8, 9.5 and 10.4). -/

namespace Sys2Proof.Machine

variable {ps : List Part} {s t u v w : State} {m : Moment} {j k : FaultKind} {d e : DoorId} {r : Door} {now : Nat}
  {side : CarSide} {f g h : Faults} {rec : FaultRecord} {strict : Bool}

/-! ## The brake controller's part (R113, R125) -/

theorem State.resetPull_ownPull :
    s.resetPull.brake.ownPull = (s.brake.ownPull && !(s.consistStandstill && !s.classA)) := by
  unfold State.resetPull
  cases hpull : s.brake.ownPull <;> cases hstand : s.consistStandstill <;> cases hA : s.classA <;> simp [hpull]

theorem State.resetPull_stands :
    s.resetPull.brake.latch = s.brake.latch ∧ s.resetPull.brake.cabDemand = s.brake.cabDemand
      ∧ s.resetPull.brake.releasePending = s.brake.releasePending ∧ s.resetPull.brake.applied = s.brake.applied
      ∧ s.resetPull.consistStandstill = s.consistStandstill ∧ s.resetPull.classA = s.classA
      ∧ s.resetPull.pins = s.pins := by
  unfold State.resetPull
  split <;> exact ⟨rfl, rfl, rfl, rfl, rfl, rfl, rfl⟩

theorem State.resetLatch_latch :
    s.resetLatch.brake.latch
      = (s.brake.latch
        && !(s.consistStandstill && !s.classA && !s.brake.ownPull && !s.pins.levels.loopOthers)) := by
  unfold State.resetLatch State.loopPulled
  cases hlatch : s.brake.latch <;> cases hpull : s.brake.ownPull <;> cases hstand : s.consistStandstill <;>
    cases hA : s.classA <;> cases hloop : s.pins.levels.loopOthers <;> simp [hlatch]

theorem State.resetLatch_stands :
    s.resetLatch.brake.ownPull = s.brake.ownPull ∧ s.resetLatch.brake.cabDemand = s.brake.cabDemand
      ∧ s.resetLatch.brake.releasePending = s.brake.releasePending ∧ s.resetLatch.brake.applied = s.brake.applied := by
  unfold State.resetLatch
  split <;> exact ⟨rfl, rfl, rfl, rfl⟩

/-- The demand and the release request gone. -/
def State.demandReset (s : State) : State := s.setBrake { s.brake with cabDemand := 0, releasePending := false }

theorem State.resetBrake_eq : s.resetBrake = s.demandReset.resetPull.resetLatch := rfl

theorem State.resetBrake_spec :
    s.resetBrake.brake.ownPull = (s.brake.ownPull && !(s.consistStandstill && !s.classA))
      ∧ s.resetBrake.brake.latch
        = (s.brake.latch
          && !(s.consistStandstill && !s.classA && !s.resetBrake.brake.ownPull && !s.pins.levels.loopOthers))
      ∧ s.resetBrake.brake.cabDemand = 0 ∧ s.resetBrake.brake.releasePending = false
      ∧ s.resetBrake.brake.applied = s.brake.applied := by
  obtain ⟨hlatch, hdemand, hpending, happlied, hstand, hA, hpins⟩ := s.demandReset.resetPull_stands
  obtain ⟨hpull', hdemand', hpending', happlied'⟩ := s.demandReset.resetPull.resetLatch_stands
  rw [resetBrake_eq]
  refine ⟨hpull'.trans resetPull_ownPull, ?_, hdemand'.trans hdemand, hpending'.trans hpending, happlied'.trans happlied⟩
  rw [resetLatch_latch, hlatch, hpull', hstand, hA, hpins]
  rfl

theorem resetBrake_onlyChanges : onlyChanges [.demand, .holding, .emergency] s s.resetBrake := by
  have hdemand : onlyChanges [.demand, .holding, .emergency] s s.demandReset := by
    intro q
    cases q <;> simp [Part.same, State.demandReset]
  have hpull {u : State} : onlyChanges [.demand, .holding, .emergency] u u.resetPull := by
    unfold State.resetPull
    split
    · intro q
      cases q <;> simp [Part.same]
    · exact onlyChanges_refl _ _
  have hlatch {u : State} : onlyChanges [.demand, .holding, .emergency] u u.resetLatch := by
    unfold State.resetLatch
    split
    · intro q
      cases q <;> simp [Part.same]
    · exact onlyChanges_refl _ _
  have hstation : s.demandReset.resetPull.station = s.station := by
    unfold State.resetPull
    split <;> rfl
  exact (hdemand.trans hpull rfl).trans hlatch hstation

/-! ## The state after the blocks' own parts -/

theorem mapPeers_get (change : PeerEntry → PeerEntry) (v : Vector PeerEntry 8) (i : Fin 8) :
    (mapPeers change v)[i] = change v[i] := by
  fin_cases i <;> rfl

theorem State.blocksReset_stands :
    s.blocksReset.rack = s.rack ∧ s.blocksReset.brake = s.brake ∧ s.blocksReset.pins = s.pins
      ∧ s.blocksReset.clock = s.clock ∧ s.blocksReset.station = s.station ∧ s.blocksReset.store = s.store := by
  obtain ⟨hrack, hbrake, hpins, hclock, hstation, hstore, -⟩ := s.partsReset_stands
  rw [State.blocksReset]
  exact ⟨hrack, hbrake, hpins, hclock, hstation, hstore⟩

theorem State.blocksReset_parts :
    s.blocksReset.faults = s.faults.goneAtReset ∧ s.blocksReset.engagement = s.slipsCleared.engagement
      ∧ s.blocksReset.speed = { s.speed with arithLimit := false }
      ∧ s.blocksReset.doors = { s.doors with doors := s.doors.doors.mapIdx fun _ r => r.unflagged }
      ∧ s.blocksReset.restrictions = { s.restrictions with overflow := none }
      ∧ s.blocksReset.radio = { s.radio with platform := none }
      ∧ s.blocksReset.peers = mapPeers (fun e => { e with lastAlert := none }) s.peers := by
  obtain ⟨hfaults, hengagement, hspeed, hdoors, hrestrictions⟩ := s.partsReset_parts
  obtain ⟨-, -, -, -, -, -, -, hpeers⟩ := s.partsReset_stands
  rw [State.blocksReset]
  exact ⟨hfaults, hengagement, hspeed, hdoors, hrestrictions, rfl, hpeers⟩

theorem State.blocksReset_get : s.blocksReset.doors.doors.get d = (s.doors.doors.get d).unflagged := by
  obtain ⟨-, -, -, hdoors, -⟩ := s.blocksReset_parts
  rw [hdoors]
  exact PerDoor.get_mapIdx _ _ _

theorem State.blocksReset_sideRelease : s.blocksReset.doors.sideRelease side = s.doors.sideRelease side := by
  obtain ⟨-, -, -, hdoors, -⟩ := s.blocksReset_parts
  rw [hdoors]
  cases side <;> rfl

theorem State.blocksReset_consistStandstill : s.blocksReset.consistStandstill = s.consistStandstill := by
  obtain ⟨-, -, -, -, -, -, hpeers⟩ := s.blocksReset_parts
  have hall : s.blocksReset.peers.toList.all (fun e => !e.inSet || (e.report.speed == 0 && e.report.direction == 0))
      = s.peers.toList.all fun e => !e.inSet || (e.report.speed == 0 && e.report.direction == 0) := by
    rw [Bool.eq_iff_iff, State.peers_all_iff, State.peers_all_iff]
    refine forall_congr' fun i => ?_
    rw [hpeers, mapPeers_get]
    rfl
  rw [State.consistStandstill, State.consistStandstill, blocksReset_stands.1, hall]

theorem State.blocksReset_present (h : k ∉ resetKinds) : s.blocksReset.present k = s.present k := by
  rw [State.present, s.blocksReset_parts.1]
  exact Faults.goneAtReset_present_of_not_mem h

theorem State.blocksReset_classA : s.blocksReset.classA = s.classA := by
  refine classA_congr (straps_congr blocksReset_stands.2.2.2.2.2) fun k hk => blocksReset_present fun hmem => ?_
  have hclass : ∀ k ∈ resetKinds, faultClassOf s.straps.strict k = .c := by
    intro k hmem
    simp only [resetKinds, List.mem_cons, List.not_mem_nil, or_false] at hmem
    obtain rfl | rfl | rfl | rfl | rfl := hmem <;> rfl
  exact absurd (hk.symm.trans (hclass k hmem)) nofun

/-! ## The permit test and the records -/

theorem State.blocksTested_stands :
    s.blocksTested.faults = s.blocksReset.retestPermits.faults ∧ s.blocksTested.doors = s.blocksReset.retestPermits.doors
      ∧ s.blocksTested.consistStandstill = s.consistStandstill ∧ s.blocksTested.station = s.station := by
  have hstand (u : State) : u.retestPermits.resetBrake.consistStandstill = u.consistStandstill :=
    consistStandstill_congr (by simp) (by simp)
  have hstation (u : State) : u.retestPermits.resetBrake.station = u.station := by simp
  rw [State.blocksTested, hstand, blocksReset_consistStandstill, hstation, blocksReset_stands.2.2.2.2.1]
  exact ⟨by simp, by simp, rfl, rfl⟩

theorem State.consistReset_tested :
    s.consistReset = s.blocksTested.setFaults (s.blocksTested.faults.consistReset s.consistStandstill) := by
  rw [consistReset_eq, blocksTested_stands.2.2.1]

theorem State.consistReset_present : s.consistReset.present k = s.blocksReset.retestPermits.present k := by
  rw [consistReset_tested, State.present, State.present, ← blocksTested_stands.1]
  rfl

theorem State.consistReset_doors : s.consistReset.doors = s.blocksReset.retestPermits.doors := by
  rw [consistReset_tested, setFaults_doors, blocksTested_stands.2.1]

theorem State.consistReset_table :
    s.consistReset.faults.table
      = s.blocksReset.retestPermits.faults.table.filter fun r =>
          s.consistReset.present r.kind || (r.cls == .a && !s.consistStandstill) := by
  have htable : s.consistReset.faults.table
      = s.blocksReset.retestPermits.faults.table.filter fun r =>
          !s.blocksReset.retestPermits.faults.removedAtReset s.consistStandstill r := by
    rw [consistReset_tested, setFaults_faults, ← blocksTested_stands.1]
    rfl
  rw [htable]
  refine List.filter_congr fun r _ => ?_
  rw [consistReset_present, State.present]
  unfold Faults.removedAtReset
  cases hcls : r.cls <;> simp

theorem State.consistReset_sideRelease :
    s.consistReset.doors.sideRelease side
      = (s.doors.sideRelease side && s.blocksReset.permit (lineSideOf s.straps.orient side)) := by
  have hstraps : s.blocksReset.straps = s.straps := straps_congr blocksReset_stands.2.2.2.2.2
  rw [consistReset_doors, retestPermits_sideRelease, blocksReset_sideRelease, hstraps]

/-- The permit at the end of the reset is the one that the test read. -/
theorem State.consistReset_permit (side : LineSide) : s.consistReset.permit side = s.blocksReset.permit side := by
  have hclass (cls : FaultClass) : s.consistReset.faults.classActive s.consistReset.straps.strict cls
      = s.blocksReset.retestPermits.faults.classActive s.blocksReset.retestPermits.straps.strict cls := by
    have hstraps : s.consistReset.straps = s.blocksReset.retestPermits.straps := by
      rw [straps_congr (t := s.consistReset) (s := s) (by simp), straps_congr (t := s.blocksReset.retestPermits) (s := s)
        (Eq.trans (by simp) blocksReset_stands.2.2.2.2.2)]
    rw [hstraps]
    exact Faults.classActive_congr fun k _ => consistReset_present
  have htested : s.consistReset.permit side = s.blocksReset.retestPermits.permit side := by
    refine permit_congr side ?_ ?_ ?_ (hclass .a) (hclass .b) ?_
    · rw [consistReset_tested, State.blocksTested]
      simp
    · rw [consistReset_tested, State.blocksTested]
      simp
    · rw [consistReset_tested, State.blocksTested, setFaults_brake]
      exact resetBrake_spec.2.2.2.2
    · rw [consistReset_tested, State.blocksTested]
      simp
  rw [htested, retestPermits_permit]

end Sys2Proof.Machine
end

section
/-! SUPPORT. CONSIST_RESET (O41; sections 2.7, 4.5, 5.7, 6.14, 7.9, 8.8, 9.5 and 10.4). -/

namespace Sys2Proof.Machine

variable {ps : List Part} {s t u v w : State} {m : Moment} {j k : FaultKind} {d e : DoorId} {r : Door} {now : Nat}
  {side : CarSide} {f g h : Faults} {rec : FaultRecord} {strict : Bool}

theorem Door.withoutRelease_attempts : (r.withoutRelease now).attempts = r.attempts := by
  unfold Door.withoutRelease
  cases r.state with
  | opened => dsimp only; split <;> rfl
  | _ => rfl

/-- The brake after a consist reset. -/
theorem State.consistReset_brake :
    s.consistReset.brake.ownPull = (s.brake.ownPull && !(s.consistStandstill && !s.classA))
      ∧ s.consistReset.brake.latch
        = (s.brake.latch
          && !(s.consistStandstill && !s.classA && !s.consistReset.brake.ownPull && !s.pins.levels.loopOthers))
      ∧ s.consistReset.brake.cabDemand = 0 ∧ s.consistReset.brake.releasePending = false
      ∧ s.consistReset.brake.applied = s.brake.applied := by
  obtain ⟨hpull, hlatch, hdemand, hpending, happlied⟩ := s.blocksReset.retestPermits.resetBrake_spec
  have hbrake : s.consistReset.brake = s.blocksReset.retestPermits.resetBrake.brake := by
    rw [consistReset_tested, setFaults_brake, State.blocksTested]
  have hstand : s.blocksReset.retestPermits.consistStandstill = s.consistStandstill :=
    (consistStandstill_congr (by simp) (by simp)).trans blocksReset_consistStandstill
  have hA : s.blocksReset.retestPermits.classA = s.classA :=
    (classA_congr (straps_congr (by simp)) fun k hk => retestPermits_present _ (by rintro rfl; exact absurd hk nofun)).trans
      blocksReset_classA
  have hbefore : s.blocksReset.retestPermits.brake = s.brake := by
    rw [← s.blocksReset_stands.2.1]
    simp
  have hpins : s.blocksReset.retestPermits.pins = s.pins := by
    rw [← s.blocksReset_stands.2.2.1]
    simp
  rw [hstand, hA, hbefore] at hpull hlatch
  rw [hpins] at hlatch
  rw [hbrake]
  exact ⟨hpull, hlatch, hdemand, hpending, happlied.trans (congrArg (·.applied) hbefore)⟩

/-- What a consist reset makes of the other blocks. -/
theorem State.consistReset_parts :
    s.consistReset.engagement = s.slipsCleared.engagement ∧ s.consistReset.speed = { s.speed with arithLimit := false }
      ∧ s.consistReset.restrictions = { s.restrictions with overflow := none }
      ∧ s.consistReset.radio = { s.radio with platform := none }
      ∧ s.consistReset.peers = mapPeers (fun e => { e with lastAlert := none }) s.peers
      ∧ s.consistReset.station = s.station := by
  obtain ⟨-, hengagement, hspeed, -, hrestrictions, hradio, hpeers⟩ := s.blocksReset_parts
  obtain ⟨-, -, -, -, hstation, -⟩ := s.blocksReset_stands
  rw [consistReset_tested, State.blocksTested, ← hengagement, ← hspeed, ← hrestrictions, ← hradio, ← hpeers, ← hstation]
  exact ⟨by simp, by simp, by simp, by simp, by simp, by simp⟩

theorem State.consistReset_peer (i : Fin 8) : s.consistReset.peers[i] = { s.peers[i] with lastAlert := none } := by
  obtain ⟨-, -, -, -, hpeers, -⟩ := s.consistReset_parts
  exact (congrArg (fun v : Vector PeerEntry 8 => v[i]) hpeers).trans (mapPeers_get _ _ i)

/-- A door after a consist reset: without its flags, and withdrawn where its side loses the release that held it. -/
theorem State.consistReset_get :
    s.consistReset.doors.doors.get d
      = if s.doors.sideRelease (doorSide d) = true ∧ s.consistReset.doors.sideRelease (doorSide d) = false
          ∧ (s.doors.doors.get d).handleRelease = false then
        (s.doors.doors.get d).unflagged.withoutRelease s.clock
      else (s.doors.doors.get d).unflagged := by
  have hstraps : s.blocksReset.straps = s.straps := straps_congr blocksReset_stands.2.2.2.2.2
  obtain ⟨-, -, -, hclock, -⟩ := s.blocksReset_stands
  rw [consistReset_sideRelease, consistReset_doors, retestPermits_get, blocksReset_get, blocksReset_sideRelease, hstraps,
    hclock, Door.withdraw_eq]
  cases s.doors.sideRelease (doorSide d) <;> rfl

theorem State.consistReset_get_kept :
    (s.consistReset.doors.doors.get d).timeoutFlag = false ∧ (s.consistReset.doors.doors.get d).obstructionFlag = false
      ∧ (s.consistReset.doors.doors.get d).handleRelease = (s.doors.doors.get d).handleRelease
      ∧ (s.consistReset.doors.doors.get d).handleAlarm = (s.doors.doors.get d).handleAlarm
      ∧ (s.consistReset.doors.doors.get d).attempts = (s.doors.doors.get d).attempts
      ∧ (s.consistReset.doors.sideRelease (doorSide d) = s.doors.sideRelease (doorSide d) →
        s.consistReset.doors.doors.get d = (s.doors.doors.get d).unflagged) := by
  obtain ⟨htimeout, hobstruction, halarm, -⟩ :=
    Door.withoutRelease_flags (r := (s.doors.doors.get d).unflagged) (now := s.clock)
  rw [consistReset_get]
  split
  next hlost =>
    obtain ⟨hset, hgone, -⟩ := hlost
    exact ⟨htimeout, hobstruction, Door.withoutRelease_handle, halarm, Door.withoutRelease_attempts,
      fun hsame => absurd (hset.symm.trans (hsame.symm.trans hgone)) nofun⟩
  · exact ⟨rfl, rfl, rfl, rfl, rfl, fun _ => rfl⟩

theorem State.consistReset_present_of_mem (hk : k ∈ resetKinds) : s.consistReset.present k = false := by
  have hload : k ≠ .loadSensor := by
    rintro rfl
    exact absurd hk (by decide)
  rw [consistReset_present, retestPermits_present _ hload, State.present, s.blocksReset_parts.1]
  exact Faults.goneAtReset_present_of_mem hk

/-- A side that loses its release has no permit. -/
theorem State.consistReset_side_of_ne (h : s.consistReset.doors.sideRelease side ≠ s.doors.sideRelease side) :
    s.consistReset.doors.sideRelease side = false
      ∧ s.consistReset.permit (lineSideOf s.straps.orient side) = false := by
  rw [consistReset_permit]
  rw [consistReset_sideRelease] at h ⊢
  revert h
  cases s.doors.sideRelease side <;> cases s.blocksReset.permit (lineSideOf s.straps.orient side) <;> simp

/-- Where both releases stand, every released side has its permit and no door is withdrawn. -/
theorem State.retestPermits_of_releases (hA : s.consistReset.doors.releaseA = s.doors.releaseA)
    (hB : s.consistReset.doors.releaseB = s.doors.releaseB) : s.blocksReset.retestPermits = s.blocksReset := by
  have hstraps : s.blocksReset.straps = s.straps := straps_congr blocksReset_stands.2.2.2.2.2
  refine retestPermits_of_permitsOk fun side hset => ?_
  have hstands : s.consistReset.doors.sideRelease side = s.doors.sideRelease side := by
    cases side with
    | a => exact hA
    | b => exact hB
  rw [blocksReset_sideRelease] at hset
  rw [consistReset_sideRelease, hset, Bool.true_and] at hstands
  rw [hstraps, hstands]

/-- A record whose condition is present after the reset, or of class A before standstill, stays (R185, R189). -/
theorem State.consistReset_covers (hload : s.pins.load = m.load) (hsound : s.faults.sound) {r : FaultRecord}
    (hr : r ∈ s.faults.table) (hkept : s.consistReset.present r.kind = true ∨ r.cls = .a ∧ s.consistStandstill = false) :
    ∃ q ∈ s.consistReset.faults.table, q.kind = r.kind := by
  have hpins : s.blocksReset.pins.load = m.load := by
    rw [blocksReset_stands.2.2.1]
    exact hload
  have hgone : s.blocksReset.faults = s.faults.goneAtReset := s.blocksReset_parts.1
  have hreport : s.blocksReset.faults.covers s.blocksReset.retestPermits.faults := by
    rw [retestPermits_faults hpins]
    by_cases hlatch : s.blocksReset.latches s.blocksReset.retestPermits
    · rw [latchReports_of_latches hlatch, hgone]
      exact massReport_covers (Faults.goneAtReset_sound hsound)
    · rw [latchReports_of_not hlatch]
      exact (Faults.relabels.refl _).covers
  obtain ⟨change, htable, hkeeps⟩ := s.faults.goneAtReset_relabels
  obtain ⟨hkind, hcls, -⟩ := hkeeps r
  have hthere : change r ∈ s.blocksReset.faults.table := by
    rw [hgone, htable]
    exact List.mem_map_of_mem hr
  obtain ⟨q, hq, hqkind, hqcls⟩ := hreport (change r) hthere <| by
    rw [hkind, hcls]
    exact hkept.imp consistReset_present.symm.trans And.left
  refine ⟨q, ?_, hqkind.trans hkind⟩
  rw [consistReset_table, List.mem_filter]
  refine ⟨hq, ?_⟩
  rw [hqkind, hkind, hqcls, hcls]
  obtain hpresent | ⟨hA, hmoves⟩ := hkept
  · simp [hpresent]
  · simp [hA, hmoves]

theorem consistReset_onlyChanges :
    onlyChanges
      [.transmission, .monitors, .arith, .doors, .sideReleases, .mass, .restrictions, .peers, .platform, .demand
        , .holding, .emergency, .faults]
      s s.consistReset := by
  have hblocks : onlyChanges
      [.transmission, .monitors, .arith, .doors, .sideReleases, .mass, .restrictions, .peers, .platform, .demand
        , .holding, .emergency, .faults]
      s s.blocksReset := by
    rw [State.blocksReset, State.partsReset]
    intro q
    cases q <;> simp [Part.same, State.resetSlips, State.resetArith, State.resetOverflow, State.resetAlerts]
  have hstation : s.blocksReset.station = s.station := s.blocksReset_stands.2.2.2.2.1
  have htested : s.blocksReset.retestPermits.station = s.station := Eq.trans (by simp) hstation
  have hbraked : s.blocksTested.station = s.station := s.blocksTested_stands.2.2.2
  rw [State.blocksTested] at hbraked
  rw [State.consistReset_tested, State.blocksTested]
  exact ((hblocks.trans ((retestPermits_onlyChanges _).mono (by decide)) hstation).trans
    (resetBrake_onlyChanges.mono (by decide)) htested).trans ((setFaults_onlyChanges _ _).mono (by decide)) hbraked

/-- The labels of the records that stay, where no report of the mass latch comes between. -/
theorem State.consistReset_labels (hA : s.consistReset.doors.releaseA = s.doors.releaseA)
    (hB : s.consistReset.doors.releaseB = s.doors.releaseB) :
    (s.consistReset.faults.table.map fun r => (r.kind, r.cls, r.count))
      = (s.faults.table.filter fun r => s.consistReset.present r.kind || (r.cls == .a && !s.consistStandstill)).map
        fun r => (r.kind, r.cls, r.count) := by
  rw [consistReset_table, retestPermits_of_releases hA hB, s.blocksReset_parts.1]
  exact s.faults.goneAtReset_relabels.filter_map fun k cls => s.consistReset.present k || (cls == .a && !s.consistStandstill)

/-- Every record that stays has its condition present, or is of class A before standstill (R189). -/
theorem State.consistReset_records {r : FaultRecord} (hr : r ∈ s.consistReset.faults.table) :
    s.consistReset.present r.kind = true ∨ r.cls = .a ∧ s.consistStandstill = false := by
  rw [consistReset_table, List.mem_filter] at hr
  simpa using hr.2

theorem State.keepStore_permit (side : LineSide) : s.keepStore.permit side = s.permit side := by
  have hclass (cls : FaultClass) : s.keepStore.faults.classActive s.keepStore.straps.strict cls
      = s.faults.classActive s.straps.strict cls := by rw [keepStore_faults, keepStore_straps]
  exact permit_congr side (by simp) (by simp) (congrArg (·.applied) keepStore_brake) (hclass .a) (hclass .b)
    (congrArg (·.platform) keepStore_radio)

/-- Settles O41: each block's own reset, then the fault manager's records. -/
theorem consistResetClears : Obligations.ConsistResetClears := by
  intro m source target param s htakes
  have hexec : exec (.consistReset m source target param) s = .next (s.heardAt m).consistReset.keepStore :=
    runCommandFrame_of_takes (m := m) htakes
  obtain ⟨hpull, hlatch, hdemand, hpending, happlied⟩ := (s.heardAt m).consistReset_brake
  obtain ⟨hengagement, hspeed, hrestrictions, hradio, -, hstation⟩ := (s.heardAt m).consistReset_parts
  have hdoor (d : DoorId) := (s.heardAt m).consistReset_get_kept (d := d)
  have hgone {k : FaultKind} (hk : k ∈ resetKinds) : (s.heardAt m).consistReset.keepStore.present k = false := by
    rw [State.keepStore_present]
    exact State.consistReset_present_of_mem hk
  have hkeptEngagement : (s.heardAt m).consistReset.keepStore.engagement = (s.heardAt m).consistReset.engagement := by simp
  have hkeptRestrictions : (s.heardAt m).consistReset.keepStore.restrictions = (s.heardAt m).consistReset.restrictions := by
    simp
  refine ⟨_, hexec, ?_⟩
  simp only [State.keepStore_brake, State.keepStore_speed, keepStore_radio, State.keepStore_peers, keepStore_doors,
    State.keepStore_faults]
  refine ⟨hpull, hlatch, hdemand, hpending, happlied, ?_, ?_, ?_, ?_, ?_, fun i => ?_,
    fun d => ⟨(hdoor d).1, (hdoor d).2.1⟩, hgone (by decide), hgone (by decide), hgone (by decide), hgone (by decide),
    hgone (by decide), fun r hr => ?_, fun htables r hr hkept => ?_, fun hA hB => ?_, fun d => (hdoor d).2.2, fun side hside => ?_,
    onlyChanges_of_heard consistReset_onlyChanges hstation (by decide)⟩
  · rw [hkeptEngagement, hengagement]
    rfl
  · rw [hkeptEngagement, hengagement]
    rfl
  · rw [hspeed]
  · rw [hkeptRestrictions, hrestrictions]
    rfl
  · rw [hradio]
  · exact State.consistReset_peer (s := s.heardAt m) i
  · simp only [State.keepStore_present]
    exact State.consistReset_records hr
  · rw [State.keepStore_present] at hkept
    exact State.consistReset_covers (s := s.heardAt m) (m := m) rfl (State.tablesOk_iff.mp htables).1 hr hkept
  · simp only [State.keepStore_present]
    exact State.consistReset_labels (s := s.heardAt m) hA hB
  · rw [State.keepStore_permit]
    exact State.consistReset_side_of_ne (s := s.heardAt m) hside

end Sys2Proof.Machine
end

section
/-! SUPPORT. INSPECT: the bytes of the records (section 11.4). -/

namespace Sys2Proof.Machine

variable {ps : List Part} {s t u : State} {m : Moment} {contents : List Byte} {k : Fin 4}

/-! ## Values in bytes (R85, R202) -/

theorem byteOf_eq (x : Nat) : byteOf x = BitVec.ofNat 8 (min 255 x) := by
  rw [byteOf, narrow, Nat.min_comm]
  rfl

theorem bytes16_ofNat {x : Nat} (h : x < 65536) :
    bytes16 (BitVec.ofNat 16 x) = [BitVec.ofNat 8 (x / 256), BitVec.ofNat 8 x] := by
  rw [bytes16]
  refine congrArg₂ List.cons ?_ (congrArg (· :: []) ?_) <;>
    exact BitVec.eq_of_toNat_eq (by simp [BitVec.extractLsb'_toNat, Nat.shiftRight_eq_div_pow, Nat.mod_eq_of_lt h])

theorem twoBytes_eq (x : Nat) : twoBytes x = [BitVec.ofNat 8 (min 65535 x / 256), BitVec.ofNat 8 (min 65535 x)] := by
  rw [twoBytes, narrow, Nat.min_comm]
  exact bytes16_ofNat (x := min 65535 x) (by omega)

theorem bytes16_eq_two (x : BitVec 16) :
    bytes16 x = [BitVec.ofNat 8 (min 65535 x.toNat / 256), BitVec.ofNat 8 (min 65535 x.toNat)] := by
  have hmin : min 65535 x.toNat = x.toNat := Nat.min_eq_right (Nat.le_of_lt_succ x.isLt)
  rw [hmin, ← bytes16_ofNat x.isLt, BitVec.ofNat_toNat, BitVec.setWidth_eq]

theorem bytes24_ofNat {x : Nat} (h : x < 16777216) :
    bytes24 (BitVec.ofNat 24 x) = [BitVec.ofNat 8 (x / 65536), BitVec.ofNat 8 (x / 256), BitVec.ofNat 8 x] := by
  rw [bytes24]
  refine congrArg₂ List.cons ?_ (congrArg₂ List.cons ?_ (congrArg (· :: []) ?_)) <;>
    exact BitVec.eq_of_toNat_eq (by simp [BitVec.extractLsb'_toNat, Nat.shiftRight_eq_div_pow, Nat.mod_eq_of_lt h])

theorem threeBytes_eq (x : Nat) :
    threeBytes x
      = [BitVec.ofNat 8 (min 16777215 x / 65536), BitVec.ofNat 8 (min 16777215 x / 256)
          , BitVec.ofNat 8 (min 16777215 x)] := by
  rw [threeBytes, narrow, Nat.min_comm]
  exact bytes24_ofNat (x := min 16777215 x) (by omega)

theorem bitmapBytes_eq (v : BitVec 32) :
    bitmapBytes v
      = [BitVec.ofNat 8 (v.toNat / 16777216), BitVec.ofNat 8 (v.toNat / 65536), BitVec.ofNat 8 (v.toNat / 256)
          , BitVec.ofNat 8 v.toNat] := by
  rw [bitmapBytes]
  refine congrArg₂ List.cons ?_ (congrArg₂ List.cons ?_ (congrArg₂ List.cons ?_ (congrArg (· :: []) ?_))) <;>
    refine BitVec.eq_of_toNat_eq ?_ <;> simp [BitVec.extractLsb'_toNat, Nat.shiftRight_eq_div_pow]

/-! ## The records of FAULTS -/

theorem FaultClass.code_byte (cls : FaultClass) : byteOf cls.code = match cls with | .a => 3 | .b => 2 | .c => 1 := by
  cases cls <;> rfl

theorem Faults.highestClass_byte (strict : Bool) (f : Faults) :
    (f.highestClass strict).setWidth 8
      = if f.classActive strict .a then (3 : Byte)
        else if f.classActive strict .b then 2 else if f.classActive strict .c then 1 else 0 := by
  unfold Faults.highestClass
  cases f.classActive strict .a <;> cases f.classActive strict .b <;> cases f.classActive strict .c <;> rfl

theorem fiveByFive_length (fuel : Nat) (rs : List FaultRecord) :
    (fiveByFive fuel rs).length = min fuel ((rs.length + 4) / 5) := by
  induction fuel generalizing rs with
  | zero => simp [fiveByFive]
  | succ n ih =>
    cases rs with
    | nil => simp [fiveByFive]
    | cons r rs =>
      rw [fiveByFive, List.length_cons, ih, List.length_drop]
      · simp only [List.length_cons]
        omega
      · nofun

/-- Record `i` of those five at a time holds the records from `5 · i`. -/
theorem fiveByFive_get {fuel : Nat} {rs : List FaultRecord} {i : Nat} (h : contents ∈ (fiveByFive fuel rs)[i]?) :
    contents = ((rs.drop (5 * i)).take 5).flatMap FaultRecord.bytes := by
  induction fuel generalizing rs i with
  | zero => simp [fiveByFive] at h
  | succ n ih =>
    cases rs with
    | nil => simp [fiveByFive] at h
    | cons r rs =>
      rw [fiveByFive] at h
      · cases i with
        | zero => simpa [eq_comm] using h
        | succ i =>
          rw [List.getElem?_cons_succ] at h
          rw [ih h, List.drop_drop]
          congr 3
          omega
      · nofun

theorem State.faultsSet_length (h : s.faults.table.length ≤ 16) :
    s.faultsSet.length = 1 + (s.faults.table.length - 2 + 4) / 5 := by
  rw [State.faultsSet, List.length_cons, fiveByFive_length, List.length_drop]
  omega

theorem State.faultsSet_head (h : contents ∈ s.faultsSet[0]?) :
    contents
      = [byteOf s.faults.table.length, (s.faults.highestClass s.straps.strict).setWidth 8]
        ++ s.peers.toList.map (fun e => alertByte e.lastAlert) ++ (s.faults.table.take 2).flatMap FaultRecord.bytes :=
  (Option.some.inj h).symm

theorem State.faultsSet_rest (hk : k ≠ 0) (h : contents ∈ s.faultsSet[k.val]?) :
    contents = ((s.faults.table.drop (5 * k.val - 3)).take 5).flatMap FaultRecord.bytes := by
  obtain ⟨i, hi⟩ : ∃ i, k.val = i + 1 := Nat.exists_eq_succ_of_ne_zero fun h0 => hk (Fin.ext h0)
  rw [hi, State.faultsSet, List.getElem?_cons_succ] at h
  rw [fiveByFive_get h, List.drop_drop, hi]
  congr 3
  omega

end Sys2Proof.Machine
end

section
/-! SUPPORT. INSPECT (O42; section 11.4). -/

namespace Sys2Proof.Machine

variable {ps : List Part} {s t u : State} {m : Moment} {contents : List Byte} {k : Fin 4} {n : Fin 8} {target : Byte}
  {param : BitVec 16} {which : RecordSet} {records : List (List Byte)} {room i : Nat}

/-! ## The records of the other sets -/

theorem FaultRecord.bytes_eq :
    FaultRecord.bytes = fun r =>
      [BitVec.ofNat 8 (min 255 r.kind.code), match r.cls with | .a => 3 | .b => 2 | .c => 1, if r.active then 0 else 1
        , BitVec.ofNat 8 (min 255 r.count)] := by
  funext r
  rw [FaultRecord.bytes, byteOf_eq, FaultClass.code_byte, byteOf_eq]
  cases r.active <;> rfl

theorem alertByte_eq (alert : Option FaultKind) :
    alertByte alert = match alert with | some kind => BitVec.ofNat 8 (min 255 kind.code) | none => 0 := by
  cases alert with
  | none => rfl
  | some kind => exact byteOf_eq _

/-- Records 0 and 1 of WINDOWS are those of the two pinions. -/
theorem State.windowsSet_get (h : contents ∈ s.windowsSet[k.val]?) :
    contents = windowRecord (BitVec.ofNat 8 (k.val + 1)) (s.engagement.pinions.get (if k = 0 then .p1 else .p2)) := by
  match k, h with
  | 0, h => exact (Option.some.inj h).symm
  | 1, h => exact (Option.some.inj h).symm

theorem State.brakesSet_get (h : contents ∈ s.brakesSet[k.val]?) :
    (k = 0 → contents = s.brakesHead)
      ∧ (k = 1 ∨ k = 2 → contents = s.pinionRecord (BitVec.ofNat 8 k.val) (if k = 1 then .p1 else .p2))
      ∧ (k = 3 → contents = s.proofRecordBytes) := by
  match k, h with
  | 0, h => exact ⟨fun _ => (Option.some.inj h).symm, nofun, nofun⟩
  | 1, h => exact ⟨nofun, fun _ => (Option.some.inj h).symm, nofun⟩
  | 2, h => exact ⟨nofun, fun _ => (Option.some.inj h).symm, nofun⟩
  | 3, h => exact ⟨nofun, nofun, fun _ => (Option.some.inj h).symm⟩

theorem State.restrictionsSet_length : s.restrictionsSet.length = max 1 s.restrictions.entries.length := by
  unfold State.restrictionsSet
  cases s.restrictions.entries with
  | nil => rfl
  | cons e es =>
    simp only [List.length_map, List.length_cons]
    omega

theorem State.restrictionsSet_of_nil (hnil : s.restrictions.entries = []) (h : contents ∈ s.restrictionsSet[k.val]?) :
    contents = s.restrictions.head := by
  rw [State.restrictionsSet, hnil] at h
  match k, h with
  | 0, h => exact (Option.some.inj h).symm

theorem State.restrictionsSet_get {e : Restriction} (he : e ∈ s.restrictions.entries[i]?)
    (h : contents ∈ s.restrictionsSet[i]?) : contents = s.restrictions.head ++ e.bytes := by
  have hcons : s.restrictionsSet = s.restrictions.entries.map fun e => s.restrictions.head ++ e.bytes := by
    unfold State.restrictionsSet
    cases hentries : s.restrictions.entries with
    | nil => simp [hentries] at he
    | cons e es => rfl
  rw [hcons, List.getElem?_map, Option.mem_def.mp he] at h
  exact (Option.some.inj h).symm

theorem Restriction.bytes_eq (e : Restriction) :
    e.bytes = bytes16 e.orderId ++ threeBytes e.start ++ threeBytes e.stop ++ twoBytes e.limit ++ [flagByte e.covering] :=
  rfl

theorem State.radioSet_get (h : contents ∈ s.radioSet[k.val]?) :
    (k = 0 → contents
      = [s.radio.status.code.setWidth 8, flagByte s.radio.lostWide, s.radio.lastLink, byteOf s.radio.acks.length]
        ++ platformBytes s.radio.platform ++ [byteOf s.radio.window.length])
      ∧ (k = 1 → contents = byteOf s.radio.window.length :: s.radio.window) := by
  match k, h with
  | 0, h => exact ⟨fun _ => (Option.some.inj h).symm, nofun⟩
  | 1, h => exact ⟨nofun, fun _ => (Option.some.inj h).symm⟩

theorem ValleyStatus.code_byte (status : ValleyStatus) :
    (status.code.setWidth 8 : Byte) = match status with | .notFitted => 0 | .alive => 1 | .lost => 2 := by
  cases status <;> rfl

theorem platformBytes_eq (p : Option Platform) :
    platformBytes p
      = match p with
        | none => List.replicate 6 0
        | some r => [1, match r.side with | .l => 0 | .r => 1] ++ threeBytes r.stop ++ [r.sequence] := by
  cases p with
  | none => rfl
  | some r => rfl

theorem ProofResult.code_byte (result : ProofResult) :
    byteOf result.code = match result with | .notRun => 0 | .pass => 1 | .fail => 2 := by
  cases result <;> rfl

/-! ## The replies placed (R54) -/

theorem placedReplies_length : (placedReplies n param room records).length = min room records.length := by
  simp [placedReplies]

theorem placedReplies_get (h : contents ∈ records[i]?) (hroom : i < room) :
    (placedReplies n param room records)[i]?
      = some (replyFrame n param records.length i (decide (room < records.length) && i + 1 == room) contents) := by
  simp [placedReplies, hroom, Option.mem_def.mp h]

theorem State.placeReplies_replies :
    (s.placeReplies n param records).line.replies
      = s.line.replies ++ placedReplies n param (4 - s.line.replies.length) records := by
  rw [State.placeReplies, setLine_line]
  obtain ⟨sending, bus, h⟩ := Line.offer_eq
    { s.line with replies := s.line.replies ++ placedReplies n param (4 - s.line.replies.length) records }
  rw [h]

theorem placeReplies_onlyChanges : onlyChanges [.transmission, .slots] s (s.placeReplies n param records) := by
  rw [State.placeReplies]
  obtain ⟨sending, bus, h⟩ := Line.offer_eq
    { s.line with replies := s.line.replies ++ placedReplies n param (4 - s.line.replies.length) records }
  rw [h]
  intro q
  cases q <;> simp [Part.same]

theorem State.drawPhase_stands : (s.drawPhase which).line = s.line ∧ (s.drawPhase which).station = s.station := by
  unfold State.drawPhase
  split <;> exact ⟨rfl, rfl⟩

theorem drawPhase_onlyChanges : onlyChanges [.freeCount] s (s.drawPhase which) := by
  unfold State.drawPhase
  split
  · intro q
    cases q <;> simp [Part.same]
  · exact onlyChanges_refl _ _

theorem State.stationByte_iff (hown : s.line.own = some n) : target = s.stationByte ↔ target.toNat = n.val + 1 := by
  have hn : n.val + 1 < 256 := by omega
  rw [State.stationByte, hown]
  constructor
  · rintro rfl
    simp [Nat.mod_eq_of_lt hn]
  · intro h
    exact BitVec.eq_of_toNat_eq (by simp [h, Nat.mod_eq_of_lt hn])

theorem State.inspect_of_other (hown : s.line.own = some n) (h : target.toNat ≠ n.val + 1) : s.inspect target param = s := by
  have hne : ¬target = s.stationByte := mt (stationByte_iff hown).mp h
  unfold State.inspect
  rw [hown]
  cases recordSetOf param with
  | none => rfl
  | some which => exact if_neg hne

theorem State.inspect_of_own (hown : s.line.own = some n) (h : target.toNat = n.val + 1)
    (hwhich : which ∈ recordSetOf param) :
    s.inspect target param = (s.placeReplies n param (s.records which)).drawPhase which := by
  unfold State.inspect
  rw [hown, Option.mem_def.mp hwhich]
  exact if_pos ((stationByte_iff hown).mpr h)

theorem recordSet_of_code (h : which ∈ recordSetOf param) :
    (param.toNat = 1 → which = .faults) ∧ (param.toNat = 2 → which = .windows) ∧ (param.toNat = 3 → which = .brakes)
      ∧ (param.toNat = 4 → which = .restrictions) ∧ (param.toNat = 5 → which = .radio) := by
  have heq {other : RecordSet} (hset : recordSetOf param = some other) : which = other :=
    Option.some.inj ((Option.mem_def.mp h).symm.trans hset)
  exact ⟨fun hp => heq (by simp [recordSetOf, hp]), fun hp => heq (by simp [recordSetOf, hp]),
    fun hp => heq (by simp [recordSetOf, hp]), fun hp => heq (by simp [recordSetOf, hp]),
    fun hp => heq (by simp [recordSetOf, hp])⟩

/-- The records answered are those before the frame was heard. -/
theorem State.heardAt_records : (s.heardAt m).records which = s.records which := by
  cases which <;> rfl

theorem inspect_onlyChanges : onlyChanges [.transmission, .slots, .freeCount] s (s.inspect target param) := by
  unfold State.inspect
  split
  · split
    · exact ((placeReplies_onlyChanges (s := s)).mono (by decide)).trans (drawPhase_onlyChanges.mono (by decide)) rfl
    · exact onlyChanges_refl _ _
  · exact onlyChanges_refl _ _

theorem State.inspect_station : (s.inspect target param).station = s.station := by
  unfold State.inspect
  split
  · split
    · exact drawPhase_stands.2
    · rfl
  · rfl

theorem replyFrame_eq (hi : i < 256) :
    replyFrame n param records.length i (decide (room < records.length) && i + 1 == room) contents
      = buildFrame n
        (.inspectReply
          ([BitVec.ofNat 8 param.toNat, BitVec.ofNat 8 i, BitVec.ofNat 8 (min 255 records.length)
              , if room < records.length ∧ i + 1 = room then 1 else 0]
            ++ contents)) := by
  have hindex : byteOf i = BitVec.ofNat 8 i := by rw [byteOf_eq, Nat.min_eq_right (by omega)]
  have hflag : flagByte (decide (room < records.length) && i + 1 == room)
      = if room < records.length ∧ i + 1 = room then 1 else 0 := by simp [flagByte]
  rw [replyFrame, hindex, hflag, byteOf_eq]
  rfl

/-- Settles O42: the records of this moment in the REPLY slot. -/
theorem inspectAnswersOwnNumber : Obligations.InspectAnswersOwnNumber := by
  intro m source n target param k s htakes hown hlength room flag one two three faultBytes table pinion monitor brake proof
    ceiling
  have hexec : exec (.inspect m source target param) s = .next ((s.heardAt m).inspect target param).keepStore :=
    runCommandFrame_of_takes (m := m) htakes
  have hheard : (s.heardAt m).line.own = some n := hown
  refine ⟨_, hexec, fun hother => ?_, fun which hwhich hself => ?_,
    onlyChanges_of_heard inspect_onlyChanges State.inspect_station (by decide)⟩
  · rw [State.inspect_of_other hheard hother]
    exact onlyChanges_of_heard (onlyChanges_refl _ _) rfl (by decide)
  · have hreplies : ((s.heardAt m).inspect target param).keepStore.line.replies
        = s.line.replies ++ placedReplies n param room (s.records which) := by
      rw [State.keepStore_line, State.inspect_of_own hheard hself hwhich, State.drawPhase_stands.1,
        State.placeReplies_replies, State.heardAt_records]
      rfl
    obtain ⟨hfaults, hwindows, hbrakes, hrestrictions, hradio⟩ := recordSet_of_code hwhich
    rw [hreplies]
    refine ⟨fun hp => ?_, fun hp => ?_, fun hp => ?_, fun hp => ?_, fun hp htable => ?_, ?_, ?_, fun contents hcontents => ?_,
      fun contents hcontents hroom => ?_⟩
    · rw [hwindows hp]
      rfl
    · rw [hbrakes hp]
      rfl
    · rw [hrestrictions hp]
      exact State.restrictionsSet_length
    · rw [hradio hp]
      rfl
    · rw [hfaults hp]
      exact State.faultsSet_length htable
    · rw [List.length_append, placedReplies_length]
      omega
    · exact List.take_left' rfl
    · refine ⟨fun hp hk => ?_, fun hp hk => ?_, fun hp => ?_, fun hp hk => ?_, fun hp hk => ?_, fun hp hk => ?_,
        fun hp hnil => ?_, fun e he hp => ?_, fun hp hk => ?_, fun hp hk => ?_⟩
      · rw [hfaults hp, hk] at hcontents
        rw [State.faultsSet_head hcontents, Faults.highestClass_byte, byteOf_eq, FaultRecord.bytes_eq]
        simp only [alertByte_eq]
        rfl
      · rw [hfaults hp] at hcontents
        have hrest := State.faultsSet_rest hk hcontents
        rw [FaultRecord.bytes_eq] at hrest
        exact hrest
      · rw [hwindows hp] at hcontents
        rw [State.windowsSet_get hcontents, windowRecord, bitmapBytes_eq]
        simp only [byteOf_eq]
        rfl
      · rw [hbrakes hp] at hcontents
        rw [(State.brakesSet_get hcontents).1 hk, State.brakesHead]
        simp only [twoBytes_eq, byteOf_eq]
        rfl
      · rw [hbrakes hp] at hcontents
        rw [(State.brakesSet_get hcontents).2.1 hk, State.pinionRecord]
        simp only [forceBytes, twoBytes_eq, ProofResult.code_byte]
        rfl
      · rw [hbrakes hp] at hcontents
        rw [(State.brakesSet_get hcontents).2.2 hk, State.proofRecordBytes]
        refine ⟨s.phaseByte, rfl, ?_, fun hrunning => ?_⟩
        · simp only [byteOf_eq]
          rfl
        · rw [State.phaseByte, if_pos hrunning, byteOf_eq]
      · rw [hrestrictions hp] at hcontents
        rw [State.restrictionsSet_of_nil hnil hcontents, Restrictions.head, byteOf_eq, twoBytes_eq]
        rfl
      · rw [hrestrictions hp] at hcontents
        rw [State.restrictionsSet_get he hcontents, Restriction.bytes_eq, Restrictions.head]
        simp only [byteOf_eq, twoBytes_eq, threeBytes_eq, bytes16_eq_two]
        rfl
      · rw [hradio hp] at hcontents
        rw [(State.radioSet_get hcontents).1 hk, ValleyStatus.code_byte, platformBytes_eq]
        simp only [byteOf_eq, threeBytes_eq]
        rfl
      · rw [hradio hp] at hcontents
        rw [(State.radioSet_get hcontents).2 hk, byteOf_eq]
    · rw [List.getElem?_append_right (by omega), Nat.add_sub_cancel_left, placedReplies_get hcontents hroom]
      exact congrArg some (replyFrame_eq (by omega))

end Sys2Proof.Machine
end

section
/-! SUPPORT. The brake through the steps of a cycle (sections 6.3, 6.9 and 6.11). -/

namespace Sys2Proof.Machine

variable {ps : List Part} {s t u : State} {m : Moment} {j k : FaultKind} {p : Pinion} {b : PinionBrake} {now : Nat}

/-! ## Step 1: energies (R114 to R116) -/

/-- One pinion's energy update, with its saturations (R114). -/
def State.energyOf (s : State) (p : Pinion) : Sat :=
  energyAfter (s.brake.pinions.get p).energy (s.feedbackOf p) s.rack.reported s.rack.present

/-- One pinion after step 1 of a cycle. -/
def State.heatedPinion (s : State) (p : Pinion) : PinionBrake :=
  (s.brake.pinions.get p).heated s.straps (s.energyOf p).val.toNat

theorem State.heatPinion_brake (p : Pinion) (s : State) :
    (s.heatPinion p).brake = { s.brake with pinions := s.brake.pinions.set p (s.heatedPinion p) } :=
  saturations_brake _

theorem State.feedbackOf_congr (h : t.pins = s.pins) : t.feedbackOf p = s.feedbackOf p := by
  unfold State.feedbackOf
  rw [h]

theorem State.heatPinion_heatedPinion : (s.heatPinion .p1).heatedPinion .p2 = s.heatedPinion .p2 := by
  have hfeedback : (s.heatPinion .p1).feedbackOf .p2 = s.feedbackOf .p2 := feedbackOf_congr (by simp)
  have hstraps : (s.heatPinion .p1).straps = s.straps := straps_congr (by simp)
  have hpinion : (s.heatPinion .p1).brake.pinions.get .p2 = s.brake.pinions.get .p2 := by
    rw [heatPinion_brake]
    rfl
  simp only [State.heatedPinion, State.energyOf, hfeedback, hstraps, hpinion, heatPinion_frame]

theorem State.raiseFade_brake {before : State} : (s.raiseFade before p).brake = s.brake := by
  unfold State.raiseFade
  split
  · exact raise_brake nofun
  · rfl

/-- The state after both energy updates of a cycle, before its reports. -/
def State.heatedBoth (s : State) : State := (s.heatPinion .p1).heatPinion .p2

theorem State.heatedBoth_brake :
    s.heatedBoth.brake = { s.brake with pinions := { p1 := s.heatedPinion .p1, p2 := s.heatedPinion .p2 } } := by
  rw [State.heatedBoth, heatPinion_brake, heatPinion_heatedPinion, heatPinion_brake]
  rfl

/-- The state after the reports of fades that step 1 has set. -/
def State.fadesRaised (s : State) : State := (s.heatedBoth.raiseFade s .p1).raiseFade s .p2

theorem State.fadesRaised_brake : s.fadesRaised.brake = s.heatedBoth.brake := by
  rw [State.fadesRaised, raiseFade_brake, raiseFade_brake]

theorem State.energyStep_eq :
    s.energyStep
      = if s.fadesRaised.brake.pinions.p1.fade || s.fadesRaised.brake.pinions.p2.fade then s.fadesRaised
        else s.fadesRaised.clear .brakeFade := rfl

theorem State.energyStep_brake :
    s.energyStep.brake = { s.brake with pinions := { p1 := s.heatedPinion .p1, p2 := s.heatedPinion .p2 } } := by
  rw [energyStep_eq, ← heatedBoth_brake, ← fadesRaised_brake]
  split
  · rfl
  · exact clear_brake _

/-! ## Step 2: the failure check (R117) -/

/-- The pinion's feedback is below half of a command of 5 000 N or more (R117). -/
def PinionBrake.failsAt (feedback : Nat) (b : PinionBrake) : Bool :=
  !b.failed && decide (5000 ≤ b.mode.command) && decide (2 * feedback < b.mode.command)

theorem PinionBrake.failsAt_iff {feedback : Nat} :
    b.failsAt feedback = true ↔ b.failed = false ∧ 5000 ≤ b.mode.command ∧ 2 * feedback < b.mode.command := by
  simp [PinionBrake.failsAt, and_assoc]

/-- One pinion after the failure check of a cycle (R117). -/
def PinionBrake.checked (feedback now : Nat) (b : PinionBrake) : PinionBrake :=
  if b.failsAt feedback then
    match b.failTimer with
    | none => { b with failTimer := some now }
    | some start => if start + ms 1000 ≤ now then { b with failed := true, failTimer := none } else b
  else { b with failTimer := none }

/-- One pinion after step 2 of a cycle. -/
def State.checkedPinion (s : State) (p : Pinion) : PinionBrake := (s.brake.pinions.get p).checked (s.feedbackOf p) s.clock

theorem PerPinion.set_get {α : Type} (v : PerPinion α) (p : Pinion) : v.set p (v.get p) = v := by
  cases p <;> rfl

theorem State.checkPinion_brake (p : Pinion) (s : State) :
    (s.checkPinion p).brake = { s.brake with pinions := s.brake.pinions.set p (s.checkedPinion p) } := by
  unfold State.checkPinion State.checkedPinion PinionBrake.checked
  have hfails : s.failsCheck p = (s.brake.pinions.get p).failsAt (s.feedbackOf p) := rfl
  rw [hfails]
  cases (s.brake.pinions.get p).failsAt (s.feedbackOf p) with
  | false => rfl
  | true =>
    dsimp only
    rw [if_pos rfl, if_pos rfl]
    cases (s.brake.pinions.get p).failTimer with
    | none => rfl
    | some start =>
      dsimp only
      split
      · exact raise_brake nofun
      · rw [PerPinion.set_get]

theorem State.checkPinion_checkedPinion : (s.checkPinion .p1).checkedPinion .p2 = s.checkedPinion .p2 := by
  have hfeedback : (s.checkPinion .p1).feedbackOf .p2 = s.feedbackOf .p2 := feedbackOf_congr (by simp)
  have hpinion : (s.checkPinion .p1).brake.pinions.get .p2 = s.brake.pinions.get .p2 := by
    rw [checkPinion_brake]
    rfl
  have hclock : (s.checkPinion .p1).clock = s.clock := by simp
  rw [State.checkedPinion, hfeedback, hpinion, hclock]
  rfl

theorem State.failureStep_brake :
    s.failureStep.brake = { s.brake with pinions := { p1 := s.checkedPinion .p1, p2 := s.checkedPinion .p2 } } := by
  rw [State.failureStep, checkPinion_brake, checkPinion_checkedPinion, checkPinion_brake]
  rfl

/-- A pinion that a cycle's first two steps have taken. -/
def State.cycledPinion (s : State) (p : Pinion) : PinionBrake := (s.heatedPinion p).checked (s.feedbackOf p) s.clock

/-- The state before the sampling of a cycle. -/
def State.pinionsChecked (s : State) : State := s.energyStep.failureStep

theorem State.pinionsChecked_brake :
    s.pinionsChecked.brake = { s.brake with pinions := { p1 := s.cycledPinion .p1, p2 := s.cycledPinion .p2 } } := by
  have hpinion (p : Pinion) : s.energyStep.checkedPinion p = s.cycledPinion p := by
    have hfeedback : s.energyStep.feedbackOf p = s.feedbackOf p := feedbackOf_congr (by simp)
    have hclock : s.energyStep.clock = s.clock := by simp
    rw [State.checkedPinion, hfeedback, hclock, energyStep_brake]
    cases p <;> rfl
  rw [State.pinionsChecked, failureStep_brake, hpinion, hpinion, energyStep_brake]

theorem PinionBrake.checked_failed {feedback : Nat} (h : b.failed = true) : (b.checked feedback now).failed = true := by
  have hnot : b.failsAt feedback = false := by simp [PinionBrake.failsAt, h]
  simp [PinionBrake.checked, hnot, h]

theorem State.cycledPinion_failed (h : (s.brake.pinions.get p).failed = true) : (s.cycledPinion p).failed = true :=
  PinionBrake.checked_failed h

/-! ## The conditions that the first two steps leave -/

theorem State.energyStep_present (hfade : k ≠ .brakeFade) (harith : k ≠ .arithLimit) (hload : k ≠ .loadSensor) :
    s.energyStep.present k = s.present k := by
  have hheat (u : State) (p : Pinion) : (u.heatPinion p).present k = u.present k := saturations_present _ harith
  have hraised (u before : State) (p : Pinion) : (u.raiseFade before p).present k = u.present k := by
    unfold State.raiseFade
    split
    · exact raise_present_of_ne hfade hload
    · rfl
  have hfaded : s.fadesRaised.present k = s.present k := by
    rw [State.fadesRaised, hraised, hraised, State.heatedBoth, hheat, hheat]
  rw [energyStep_eq]
  split
  · exact hfaded
  · exact (clear_present_of_ne hfade hload).trans hfaded

theorem State.checkPinion_present (hfailed : k ≠ .pinionFailed) (hload : k ≠ .loadSensor) :
    (s.checkPinion p).present k = s.present k := by
  unfold State.checkPinion
  dsimp only
  split
  · split
    · rfl
    · split
      · exact raise_present_of_ne hfailed hload
      · rfl
  · rfl

theorem State.failureStep_present (hfailed : k ≠ .pinionFailed) (hload : k ≠ .loadSensor) :
    s.failureStep.present k = s.present k :=
  (checkPinion_present hfailed hload).trans (checkPinion_present hfailed hload)

theorem State.checkPinion_pinionFailed (h : s.present .pinionFailed = true) :
    (s.checkPinion p).present .pinionFailed = true := by
  unfold State.checkPinion
  dsimp only
  split
  · split
    · exact h
    · split
      · exact raise_present_self _
      · exact h
  · exact h

theorem State.failureStep_pinionFailed (h : s.present .pinionFailed = true) : s.failureStep.present .pinionFailed = true :=
  checkPinion_pinionFailed (checkPinion_pinionFailed h)

end Sys2Proof.Machine
end

section
/-! SUPPORT. The brake through the steps of a cycle: release, sharing and modes (sections 6.2 to 6.6). -/

namespace Sys2Proof.Machine

variable {ps : List Part} {s t u v : State} {m : Moment} {j k : FaultKind} {p : Pinion} {b : PinionBrake} {now : Nat}

/-! ## The release step (R110) -/

/-- The holding state that a release step leaves. -/
def State.holdsOn (s : State) : Bool := s.brake.applied && !(s.brake.releasePending && s.releaseAllowed)

/-- The release request gone. -/
def State.requestGone (s : State) : State := s.setBrake { s.brake with releasePending := false }

theorem State.releaseStep_eq :
    s.releaseStep
      = if s.brake.releasePending then
          if s.brake.applied && s.releaseAllowed then
            (s.requestGone.setBrake { s.requestGone.brake with applied := false }).retestPermits
          else s.requestGone
        else s := rfl

theorem State.releaseStep_brake :
    s.releaseStep.brake = { s.brake with releasePending := false, applied := s.holdsOn } := by
  have hgone (b : Brake) {applied pending : Bool} (h : b.applied = applied) (h' : b.releasePending = pending) :
      ({ b with releasePending := pending, applied := applied } : Brake) = b := by
    subst h h'
    rfl
  rw [releaseStep_eq, State.holdsOn]
  cases hpending : s.brake.releasePending with
  | false => simp [hgone s.brake rfl hpending]
  | true =>
    cases hallowed : s.brake.applied && s.releaseAllowed with
    | false =>
      have hheld : (s.brake.applied && !(true && s.releaseAllowed)) = s.brake.applied := by
        revert hallowed
        cases s.brake.applied <;> cases s.releaseAllowed <;> simp
      rw [hheld, if_pos rfl, if_neg nofun]
      rfl
    | true =>
      have hfalls : (s.brake.applied && !(true && s.releaseAllowed)) = false := by
        revert hallowed
        cases s.brake.applied <;> cases s.releaseAllowed <;> simp
      have hretest (u : State) : u.retestPermits.brake = u.brake := by simp
      rw [hfalls, if_pos rfl, if_pos rfl, hretest]
      rfl

/-! ## Sharing (R105 to R108) -/

/-- The forces of the two pinions after step 6. -/
def State.pinionSplit (s : State) : Nat × Nat :=
  if s.rack.present then
    splitForce (s.serviceForce s.arbitrate).val.toNat s.brake.pinions.p1.capacity s.brake.pinions.p2.capacity
  else (0, 0)

theorem State.sharingStep_brake :
    s.sharingStep.brake
      = { s.brake with
          target := s.arbitrate
          force := (s.serviceForce s.arbitrate).val.toNat
          pinions :=
            { p1 := { s.brake.pinions.p1 with split := s.pinionSplit.1 }
              p2 := { s.brake.pinions.p2 with split := s.pinionSplit.2 } } } :=
  saturations_brake _

theorem State.sharingStep_present (harith : k ≠ .arithLimit) : s.sharingStep.present k = s.present k :=
  saturations_present _ harith

/-! ## Modes (R102) -/

/-- The brake with these command modes. -/
def Brake.inModes (mode1 mode2 : PinionMode) (wheel : WheelMode) (b : Brake) : Brake :=
  { b with
    pinions := { p1 := { b.pinions.p1 with mode := mode1 }, p2 := { b.pinions.p2 with mode := mode2 } }
    wheel := wheel }

/-- The modes of a tested pinion and of the other. -/
def testModes : Pinion → PinionMode × PinionMode
  | .p1 => (.test, .full)
  | .p2 => (.full, .test)

theorem State.modesStep_eq :
    s.modesStep
      = if s.brake.latch || s.loopPulled then s.setBrake (s.brake.inModes .full .full .full)
        else if s.brake.proof.state = .running then
          s.setBrake
            (s.brake.inModes (testModes s.brake.proof.phase.tested).1 (testModes s.brake.proof.phase.tested).2 .full)
        else if s.brake.applied then s.setBrake (s.brake.inModes .full .full .full)
        else if s.rack.present then
          s.setBrake
            (s.brake.inModes (.service s.brake.pinions.p1.split) (.service s.brake.pinions.p2.split) (.service 0))
        else s.setBrake (s.brake.inModes (.service 0) (.service 0) (.service s.brake.force)) := by
  have htest (p : Pinion) : ({ (s.brake.testing p) with wheel := .full } : Brake)
      = s.brake.inModes (testModes p).1 (testModes p).2 .full := by cases p <;> rfl
  unfold State.modesStep
  rw [htest]
  rfl

theorem State.modesStep_inModes : ∃ mode1 mode2 wheel, s.modesStep = s.setBrake (s.brake.inModes mode1 mode2 wheel) := by
  rw [modesStep_eq]
  (repeat' split) <;> exact ⟨_, _, _, rfl⟩

/-! ## What the steps from the release on leave of the proof test (R121, R122) -/

/-- The proof test stands: its record, timer and sums, the marks, the station state, and the two conditions. -/
structure State.TestStands (s t : State) : Prop where
  proof : t.brake.proof = s.brake.proof
  auto : t.brake.autoProof = s.brake.autoProof
  timer : t.brake.settleTimer = s.brake.settleTimer
  sum : t.brake.sampleSum = s.brake.sampleSum
  count : t.brake.sampleCount = s.brake.sampleCount
  marks : ∀ p, (t.brake.pinions.get p).failed = (s.brake.pinions.get p).failed
  life : t.station.life = s.station.life
  present : ∀ k, k = .pinionFailed ∨ k = .proofFail → t.present k = s.present k

theorem State.TestStands.trans (hst : s.TestStands t) (htu : t.TestStands u) : s.TestStands u where
  proof := htu.proof.trans hst.proof
  auto := htu.auto.trans hst.auto
  timer := htu.timer.trans hst.timer
  sum := htu.sum.trans hst.sum
  count := htu.count.trans hst.count
  marks p := (htu.marks p).trans (hst.marks p)
  life := htu.life.trans hst.life
  present k hk := (htu.present k hk).trans (hst.present k hk)

theorem State.releaseStep_testStands : s.TestStands s.releaseStep where
  proof := by rw [releaseStep_brake]
  auto := by rw [releaseStep_brake]
  timer := by rw [releaseStep_brake]
  sum := by rw [releaseStep_brake]
  count := by rw [releaseStep_brake]
  marks p := by rw [releaseStep_brake]
  life := by simp
  present k hk := releaseStep_present (by rintro rfl; simp at hk)

theorem State.sharingStep_testStands : s.TestStands s.sharingStep where
  proof := by rw [sharingStep_brake]
  auto := by rw [sharingStep_brake]
  timer := by rw [sharingStep_brake]
  sum := by rw [sharingStep_brake]
  count := by rw [sharingStep_brake]
  marks p := by rw [sharingStep_brake]; cases p <;> rfl
  life := by simp
  present k hk := sharingStep_present (by rintro rfl; simp at hk)

theorem State.modesStep_testStands : s.TestStands s.modesStep := by
  obtain ⟨mode1, mode2, wheel, hmodes⟩ := s.modesStep_inModes
  rw [hmodes]
  exact ⟨rfl, rfl, rfl, rfl, rfl, fun p => by cases p <;> rfl, rfl, fun _ _ => rfl⟩

theorem State.keepStore_testStands : s.TestStands s.keepStore where
  proof := by rw [keepStore_brake]
  auto := by rw [keepStore_brake]
  timer := by rw [keepStore_brake]
  sum := by rw [keepStore_brake]
  count := by rw [keepStore_brake]
  marks p := by rw [keepStore_brake]
  life := by rw [keepStore_station]
  present k _ := keepStore_present k

/-- The steps of a cycle after the automatic start. -/
def State.fromRelease (s : State) : State := s.releaseStep.sharingStep.modesStep

theorem State.fromRelease_testStands : s.TestStands s.fromRelease :=
  (releaseStep_testStands.trans sharingStep_testStands).trans modesStep_testStands

/-- A running test has its modes, unless the latch is set or the loop pulled (R102). -/
theorem State.fromRelease_testModes (hlatch : s.brake.latch = false) (hloop : s.loopPulled = false)
    (hrunning : s.brake.proof.state = .running) :
    s.fromRelease.brake.pinions.p1.mode = (testModes s.brake.proof.phase.tested).1
      ∧ s.fromRelease.brake.pinions.p2.mode = (testModes s.brake.proof.phase.tested).2 := by
  have hbrake : s.releaseStep.sharingStep.brake.latch = s.brake.latch
      ∧ s.releaseStep.sharingStep.brake.ownPull = s.brake.ownPull
      ∧ s.releaseStep.sharingStep.brake.proof = s.brake.proof := by
    rw [sharingStep_brake, releaseStep_brake]
    exact ⟨rfl, rfl, rfl⟩
  obtain ⟨hlatch', hpull', hproof'⟩ := hbrake
  have hloop' : s.releaseStep.sharingStep.loopPulled = s.loopPulled := by
    rw [State.loopPulled, State.loopPulled, hpull']
    simp
  rw [State.fromRelease, modesStep_eq, hlatch', hloop', hproof', hlatch, hloop, if_neg (by decide), if_pos hrunning]
  exact ⟨rfl, rfl⟩

theorem State.brakeCycle_fromRelease :
    s.brakeCycle = s.pinionsChecked.sampleStep.automaticStep.fromRelease := rfl

end Sys2Proof.Machine
end

section
/-! SUPPORT. The proof test at a brake cycle and at its settle timer (O47; section 6.12). -/

namespace Sys2Proof.Machine

variable {ps : List Part} {s t u v : State} {m : Moment} {j k : FaultKind} {p : Pinion} {b : PinionBrake} {now : Nat}

/-! ## Readings (R121) -/

/-- The phase in which a pinion is sampled. -/
def samplePhase : Pinion → ProofPhase
  | .p1 => .p1Sample
  | .p2 => .p2Sample

/-- One reading more in the sum. -/
def State.readingAdded (p : Pinion) (s : State) : State :=
  s.setBrake { s.brake with sampleSum := s.brake.sampleSum + s.feedbackOf p, sampleCount := s.brake.sampleCount + 1 }

theorem State.sampleStep_of_sample (hrunning : s.brake.proof.state = .running)
    (hphase : s.brake.proof.phase = samplePhase p) : s.sampleStep = s.takeReading p := by
  rw [State.sampleStep, if_pos hrunning, hphase]
  cases p <;> rfl

theorem State.sampleStep_of_settle (hphase : s.brake.proof.phase = .p1Settle ∨ s.brake.proof.phase = .p2Settle) :
    s.sampleStep = s := by
  unfold State.sampleStep
  obtain hphase | hphase := hphase <;> simp [hphase]

theorem State.sampleStep_of_idle (hidle : s.brake.proof.state ≠ .running) : s.sampleStep = s := if_neg hidle

theorem State.takeReading_of_early (h : s.brake.sampleCount < 49) : s.takeReading p = s.readingAdded p :=
  if_neg (show ¬50 ≤ s.brake.sampleCount + 1 by omega)

theorem State.takeReading_of_last (h : s.brake.sampleCount = 49) : s.takeReading p = (s.readingAdded p).endSample p :=
  if_pos (show 50 ≤ s.brake.sampleCount + 1 by omega)

theorem State.automaticStep_of_running (h : s.brake.proof.state = .running) : s.automaticStep = s := by
  have hrefusal : s.proofRefusal = .running := if_pos h
  exact if_neg fun hstarts => ProofRefusal.noConfusion (hrefusal.symm.trans hstarts.2)

/-! ## What the first two steps leave (R105) -/

theorem State.pinionsChecked_testStands :
    s.pinionsChecked.brake.proof = s.brake.proof ∧ s.pinionsChecked.brake.autoProof = s.brake.autoProof
      ∧ s.pinionsChecked.brake.settleTimer = s.brake.settleTimer
      ∧ s.pinionsChecked.brake.sampleSum = s.brake.sampleSum
      ∧ s.pinionsChecked.brake.sampleCount = s.brake.sampleCount := by
  rw [pinionsChecked_brake]
  exact ⟨rfl, rfl, rfl, rfl, rfl⟩

theorem State.pinionsChecked_stands :
    s.pinionsChecked.pins = s.pins ∧ s.pinionsChecked.clock = s.clock ∧ s.pinionsChecked.station = s.station
      ∧ s.pinionsChecked.straps = s.straps ∧ s.pinionsChecked.rack = s.rack ∧ s.pinionsChecked.peers = s.peers := by
  have hstraps : s.pinionsChecked.straps = s.straps := straps_congr (by simp [State.pinionsChecked])
  exact ⟨by simp [State.pinionsChecked], by simp [State.pinionsChecked], by simp [State.pinionsChecked], hstraps,
    by simp [State.pinionsChecked], by simp [State.pinionsChecked]⟩

theorem State.pinionsChecked_marks (h : (s.brake.pinions.get p).failed = true) :
    (s.pinionsChecked.brake.pinions.get p).failed = true := by
  rw [pinionsChecked_brake]
  cases p <;> exact cycledPinion_failed h

theorem State.pinionsChecked_pinionFailed (h : s.present .pinionFailed = true) :
    s.pinionsChecked.present .pinionFailed = true :=
  failureStep_pinionFailed ((energyStep_present (by decide) (by decide) (by decide)).trans h)

/-! ## Start and refusal (R120) -/

theorem State.proofRefusal_none_iff (hidle : s.brake.proof.state ≠ .running) :
    s.proofRefusal = .none
      ↔ s.brake.latch = false ∧ s.loopPulled = false ∧ s.brake.applied = true ∧ s.consistStandstill = true := by
  unfold State.proofRefusal
  rw [if_neg hidle]
  cases s.brake.latch <;> cases s.loopPulled <;> cases s.brake.applied <;> cases s.consistStandstill <;> simp

/-- The conditions of an automatic start (R120). -/
def State.autoStarts (s : State) : Prop :=
  s.brake.autoProof = true ∧ s.brake.latch = false ∧ s.loopPulled = false ∧ s.brake.applied = true
    ∧ s.consistStandstill = true

theorem State.pinionsChecked_autoStarts : s.pinionsChecked.autoStarts ↔ s.autoStarts := by
  obtain ⟨hpins, -, -, -, hrack, hpeers⟩ := s.pinionsChecked_stands
  have hstand : s.pinionsChecked.consistStandstill = s.consistStandstill := consistStandstill_congr (by rw [hrack]) hpeers
  unfold State.autoStarts State.loopPulled
  rw [hstand, hpins, pinionsChecked_brake]

theorem State.automaticStep_of_starts (hidle : s.brake.proof.state ≠ .running) (h : s.autoStarts) :
    s.automaticStep = s.setBrake (s.brake.startProof s.clock) :=
  if_pos ⟨h.1, (proofRefusal_none_iff hidle).mpr h.2⟩

theorem State.automaticStep_of_not (hidle : s.brake.proof.state ≠ .running) (h : ¬s.autoStarts) : s.automaticStep = s :=
  if_neg fun hstarts => h ⟨hstarts.1, (proofRefusal_none_iff hidle).mp hstarts.2⟩

/-! ## Completion (R118, R122) -/

theorem State.marksReformed_present (hk : k ≠ .pinionFailed) (hload : k ≠ .loadSensor) :
    s.marksReformed.present k = s.present k := by
  unfold State.marksReformed
  split
  · rfl
  · exact clear_present_of_ne hk hload

theorem State.marksReformed_pinionFailed :
    s.marksReformed.present .pinionFailed
      = ((s.brake.pinions.p1.failed || s.brake.pinions.p2.failed) && s.present .pinionFailed) := by
  unfold State.marksReformed
  cases s.brake.pinions.p1.failed || s.brake.pinions.p2.failed with
  | false => exact clear_present_self _ _
  | true => simp

theorem State.completeProof_brake : s.completeProof.brake = s.proofDone.brake := by
  have hmarks : s.proofDone.marksReformed.brake = s.proofDone.brake := marksReformed_stands.1
  by_cases hpass : s.brake.proof.results = { p1 := .pass, p2 := .pass }
  · have hcleared : (s.proofDone.marksReformed.clear .proofFail).brake = s.proofDone.brake := (clear_brake _).trans hmarks
    rw [completeProof_of_pass hpass]
    split
    · exact hcleared
    · exact hcleared
  · rw [completeProof_of_fail hpass, raise_brake (by simp [faultClassOf]), hmarks]

theorem State.completeProof_pinionFailed :
    s.completeProof.present .pinionFailed
      = ((s.proofDone.brake.pinions.p1.failed || s.proofDone.brake.pinions.p2.failed) && s.present .pinionFailed) := by
  have hmarks : s.proofDone.marksReformed.present .pinionFailed
      = ((s.proofDone.brake.pinions.p1.failed || s.proofDone.brake.pinions.p2.failed) && s.present .pinionFailed) :=
    marksReformed_pinionFailed
  by_cases hpass : s.brake.proof.results = { p1 := .pass, p2 := .pass }
  · have hcleared := (clear_present_of_ne (s := s.proofDone.marksReformed) (j := .pinionFailed) (k := .proofFail)
      (by decide) (by decide)).trans hmarks
    rw [completeProof_of_pass hpass]
    split
    · exact hcleared
    · exact hcleared
  · rw [completeProof_of_fail hpass]
    exact (raise_present_of_ne (by decide) (by decide)).trans hmarks

theorem State.completeProof_of_passes (h : s.brake.proof.results = { p1 := .pass, p2 := .pass }) :
    s.completeProof.present .proofFail = false ∧ (s.station.life = .proving → s.completeProof.station.life = .ready) := by
  have hgone : (s.proofDone.marksReformed.clear .proofFail).present .proofFail = false := clear_present_self _ _
  rw [completeProof_of_pass h]
  split
  · exact ⟨hgone, fun _ => rfl⟩
  next hlife => exact ⟨hgone, fun hproving => absurd hproving hlife⟩

theorem State.completeProof_of_fails (h : s.brake.proof.results ≠ { p1 := .pass, p2 := .pass }) :
    s.completeProof.present .proofFail = true ∧ s.completeProof.station.life = s.station.life := by
  rw [completeProof_of_fail h, raise_station, marksReformed_stands.2]
  exact ⟨raise_present_self _, rfl⟩

/-- The marks after a test: those of the pinions that passed are gone. -/
theorem State.proofDone_marks :
    (s.proofDone.brake.pinions.get p).failed
      = ((s.brake.pinions.get p).failed && !(s.brake.proof.results.get p == .pass)) := by
  cases p <;> rfl

/-- The verdict on a measured force (R121). -/
theorem proofResult_eq (measured test : Nat) :
    proofResult measured test
      = if 100 * (measured - test) ≤ 15 * test ∧ 100 * (test - measured) ≤ 15 * test then .pass else .fail := by
  have hiff : 100 * (max measured test - min measured test) ≤ 15 * test
      ↔ 100 * (measured - test) ≤ 15 * test ∧ 100 * (test - measured) ≤ 15 * test := by omega
  unfold proofResult
  simp only [hiff]

end Sys2Proof.Machine
end

section
/-! SUPPORT. The proof test at a brake cycle and at its settle timer (O47; section 6.12). -/

namespace Sys2Proof.Machine

variable {ps : List Part} {s t u v w : State} {m : Moment} {j k : FaultKind} {p : Pinion} {b : PinionBrake} {now : Nat}

/-- The test stands from the state before the release step to the end of the cycle. -/
theorem State.cycle_testStands (h : s.pinionsChecked.sampleStep.automaticStep = w) : w.TestStands s.brakeCycle.keepStore := by
  rw [brakeCycle_fromRelease, h]
  exact fromRelease_testStands.trans keepStore_testStands

/-! ## Without a running test (R120) -/

/-- A proof test started. -/
def State.proofStarted (s : State) : State := s.setBrake (s.brake.startProof s.clock)

theorem State.proofStarted_stands :
    s.proofStarted.brake.latch = s.brake.latch ∧ s.proofStarted.loopPulled = s.loopPulled
      ∧ s.proofStarted.brake.proof = s.brake.proof.started ∧ s.proofStarted.brake.settleTimer = some s.clock
      ∧ s.proofStarted.brake.autoProof = false := ⟨rfl, rfl, rfl, rfl, rfl⟩

theorem State.cycle_of_starts (hidle : s.brake.proof.state ≠ .running) (hstarts : s.autoStarts) :
    s.brakeCycle.keepStore.brake.proof = s.brake.proof.started
      ∧ s.brakeCycle.keepStore.brake.settleTimer = some s.clock ∧ s.brakeCycle.keepStore.brake.autoProof = false
      ∧ s.brakeCycle.keepStore.brake.pinions.p1.mode = .test ∧ s.brakeCycle.keepStore.brake.pinions.p2.mode = .full := by
  obtain ⟨hproof, -⟩ := s.pinionsChecked_testStands
  obtain ⟨-, hclock, -⟩ := s.pinionsChecked_stands
  have hidle' : s.pinionsChecked.brake.proof.state ≠ .running := by rwa [hproof]
  have hstarts' : s.pinionsChecked.autoStarts := pinionsChecked_autoStarts.mpr hstarts
  have ⟨_, hlatch, hloop, _⟩ := hstarts'
  have hbefore : s.pinionsChecked.sampleStep.automaticStep = s.pinionsChecked.proofStarted := by
    rw [sampleStep_of_idle hidle', automaticStep_of_starts hidle' hstarts', State.proofStarted]
  have hstands := cycle_testStands hbefore
  obtain ⟨hlatch', hloop', hrecord, htimer, hauto⟩ := s.pinionsChecked.proofStarted_stands
  have hphase : s.pinionsChecked.proofStarted.brake.proof.phase.tested = .p1 := by
    rw [hrecord]
    rfl
  have hmodes := fromRelease_testModes (hlatch'.trans hlatch) (hloop'.trans hloop) (by rw [hrecord]; rfl)
  rw [← hbefore, ← brakeCycle_fromRelease, ← keepStore_brake, hbefore, hphase] at hmodes
  exact ⟨hstands.proof.trans (hrecord.trans (congrArg _ hproof)), hstands.timer.trans (htimer.trans (congrArg _ hclock)),
    hstands.auto.trans hauto, hmodes⟩

theorem State.cycle_of_idle (hidle : s.brake.proof.state ≠ .running) (hnot : ¬s.autoStarts) :
    s.brakeCycle.keepStore.brake.proof = s.brake.proof
      ∧ s.brakeCycle.keepStore.brake.settleTimer = s.brake.settleTimer
      ∧ s.brakeCycle.keepStore.brake.autoProof = s.brake.autoProof
      ∧ s.brakeCycle.keepStore.brake.sampleSum = s.brake.sampleSum
      ∧ s.brakeCycle.keepStore.brake.sampleCount = s.brake.sampleCount := by
  obtain ⟨hproof, hauto, htimer, hsum, hcount⟩ := s.pinionsChecked_testStands
  have hidle' : s.pinionsChecked.brake.proof.state ≠ .running := by rwa [hproof]
  have hbefore : s.pinionsChecked.sampleStep.automaticStep = s.pinionsChecked := by
    rw [sampleStep_of_idle hidle', automaticStep_of_not hidle' (mt pinionsChecked_autoStarts.mp hnot)]
  have hstands := cycle_testStands hbefore
  exact ⟨hstands.proof.trans hproof, hstands.timer.trans htimer, hstands.auto.trans hauto, hstands.sum.trans hsum,
    hstands.count.trans hcount⟩

/-! ## In a running test (R121) -/

section Running

variable (hrunning : s.brake.proof.state = .running)
include hrunning

theorem State.cycle_of_settle (hphase : s.brake.proof.phase = .p1Settle ∨ s.brake.proof.phase = .p2Settle) :
    s.brakeCycle.keepStore.brake.proof = s.brake.proof
      ∧ s.brakeCycle.keepStore.brake.sampleSum = s.brake.sampleSum
      ∧ s.brakeCycle.keepStore.brake.sampleCount = s.brake.sampleCount := by
  obtain ⟨hproof, -, -, hsum, hcount⟩ := s.pinionsChecked_testStands
  have hbefore : s.pinionsChecked.sampleStep.automaticStep = s.pinionsChecked := by
    rw [sampleStep_of_settle (by rwa [hproof]), automaticStep_of_running (by rwa [hproof])]
  have hstands := cycle_testStands hbefore
  exact ⟨hstands.proof.trans hproof, hstands.sum.trans hsum, hstands.count.trans hcount⟩

theorem State.cycle_of_early (hphase : s.brake.proof.phase = samplePhase p) (hearly : s.brake.sampleCount < 49) :
    s.brakeCycle.keepStore.brake.proof = s.brake.proof
      ∧ s.brakeCycle.keepStore.brake.sampleSum = s.brake.sampleSum + s.feedbackOf p
      ∧ s.brakeCycle.keepStore.brake.sampleCount = s.brake.sampleCount + 1 := by
  obtain ⟨hproof, -, -, hsum, hcount⟩ := s.pinionsChecked_testStands
  obtain ⟨hpins, -⟩ := s.pinionsChecked_stands
  have hrunning' : s.pinionsChecked.brake.proof.state = .running := by rwa [hproof]
  have hbefore : s.pinionsChecked.sampleStep.automaticStep = s.pinionsChecked.readingAdded p := by
    rw [sampleStep_of_sample hrunning' (by rwa [hproof]), takeReading_of_early (by rwa [hcount])]
    exact automaticStep_of_running hrunning'
  have hstands := cycle_testStands hbefore
  refine ⟨hstands.proof.trans hproof, ?_, ?_⟩
  · rw [hstands.sum, ← hsum, ← feedbackOf_congr hpins]
    rfl
  · rw [hstands.count, ← hcount]
    rfl

/-- The force measured by the 50th reading. -/
def State.measured (p : Pinion) (s : State) : Nat := (s.brake.sampleSum + s.feedbackOf p) / 50

omit hrunning in
theorem State.pinionsChecked_measured :
    s.pinionsChecked.measured p = s.measured p ∧ s.pinionsChecked.testForce = s.testForce := by
  obtain ⟨hpins, -, -, hstraps, -⟩ := s.pinionsChecked_stands
  obtain ⟨-, -, -, hsum, -⟩ := s.pinionsChecked_testStands
  rw [State.measured, State.measured, State.testForce, State.testForce, hsum, feedbackOf_congr hpins, hstraps]
  exact ⟨rfl, rfl⟩

/-- The record with the result of the 50th reading. -/
def ProofRecord.judged (p : Pinion) (measured test : Nat) (r : ProofRecord) : ProofRecord :=
  { r with results := r.results.set p (proofResult measured test), forces := r.forces.set p measured }

theorem State.cycle_of_handover (hphase : s.brake.proof.phase = .p1Sample) (hlast : s.brake.sampleCount = 49) :
    s.brakeCycle.keepStore.brake.proof = { s.brake.proof.judged .p1 (s.measured .p1) s.testForce with phase := .p2Settle }
      ∧ s.brakeCycle.keepStore.brake.settleTimer = some s.clock := by
  obtain ⟨hproof, -, -, -, hcount⟩ := s.pinionsChecked_testStands
  obtain ⟨-, hclock, -⟩ := s.pinionsChecked_stands
  obtain ⟨hmeasured, htest⟩ := s.pinionsChecked_measured (p := .p1)
  have hrunning' : s.pinionsChecked.brake.proof.state = .running := by rwa [hproof]
  have hbefore : s.pinionsChecked.sampleStep.automaticStep = (s.pinionsChecked.readingAdded .p1).endSample .p1 := by
    rw [sampleStep_of_sample (p := .p1) hrunning' (by rwa [hproof]), takeReading_of_last (by rwa [hcount])]
    exact automaticStep_of_running hrunning'
  have hstands := cycle_testStands hbefore
  refine ⟨?_, ?_⟩
  · rw [hstands.proof, ← hproof, ← hmeasured, ← htest]
    rfl
  · rw [hstands.timer, ← hclock]
    rfl

/-- The state as the 50th reading of pinion 2 completes the test. -/
def State.judgedLast (s : State) : State :=
  (s.readingAdded .p2).setBrake
    { (s.readingAdded .p2).brake with proof := s.brake.proof.judged .p2 (s.measured .p2) s.testForce }

omit hrunning in
theorem State.endSample_last : (s.readingAdded .p2).endSample .p2 = s.judgedLast.completeProof := rfl

omit hrunning in
theorem State.completeProof_auto (s : State) : s.judgedLast.completeProof.brake.autoProof = s.brake.autoProof := by
  rw [completeProof_brake]
  rfl

theorem State.cycle_of_completion (hphase : s.brake.proof.phase = .p2Sample) (hlast : s.brake.sampleCount = 49)
    (hauto : s.brake.autoProof = false) :
    s.pinionsChecked.judgedLast.completeProof.TestStands s.brakeCycle.keepStore := by
  obtain ⟨hproof, hauto', -, -, hcount⟩ := s.pinionsChecked_testStands
  refine cycle_testStands ?_
  rw [sampleStep_of_sample (p := .p2) (by rwa [hproof]) (by rwa [hproof]), takeReading_of_last (by rwa [hcount]),
    endSample_last]
  refine automaticStep_of_not_pending ?_
  exact (completeProof_auto _).trans (hauto'.trans hauto)

end Running

/-! ## The completion of a test -/

theorem PerPinion.get_p1 {α : Type} (v : PerPinion α) : v.get .p1 = v.p1 := rfl

theorem PerPinion.get_p2 {α : Type} (v : PerPinion α) : v.get .p2 = v.p2 := rfl

/-- The marks and conditions after a completed test, from those before its cycle (R118, R122). -/
theorem State.judgedLast_proof (s : State) :
    s.judgedLast.brake.proof = s.brake.proof.judged .p2 (s.measured .p2) s.testForce
      ∧ s.judgedLast.station = s.station ∧ s.judgedLast.brake.pinions = s.brake.pinions
      ∧ ∀ k, s.judgedLast.present k = s.present k := ⟨rfl, rfl, rfl, fun _ => rfl⟩

theorem State.proofDone_stands (s : State) :
    s.proofDone.brake.proof = { s.brake.proof with state := .done } ∧ ∀ k, s.proofDone.present k = s.present k :=
  ⟨rfl, fun _ => rfl⟩

section Completed

variable (hrunning : s.brake.proof.state = .running) (hphase : s.brake.proof.phase = .p2Sample)
  (hlast : s.brake.sampleCount = 49) (hauto : s.brake.autoProof = false)
include hrunning hphase hlast hauto

/-- The record after the completion, its marks and its conditions. -/
theorem State.cycle_of_completion_record :
    s.brakeCycle.keepStore.brake.proof
        = { s.brake.proof.judged .p2 (s.measured .p2) s.testForce with state := .done }
      ∧ ∀ p, (s.brakeCycle.keepStore.brake.pinions.get p).failed
        = ((s.pinionsChecked.brake.pinions.get p).failed
          && !(s.brakeCycle.keepStore.brake.proof.results.get p == .pass)) := by
  have hstands := cycle_of_completion hrunning hphase hlast hauto
  obtain ⟨hproof, -⟩ := s.pinionsChecked_testStands
  obtain ⟨hmeasured, htest⟩ := s.pinionsChecked_measured (p := .p2)
  obtain ⟨hjudged, -, hpinions, -⟩ := s.pinionsChecked.judgedLast_proof
  obtain ⟨hdone, -⟩ := s.pinionsChecked.judgedLast.proofDone_stands
  have hrecord : s.brakeCycle.keepStore.brake.proof
      = { s.brake.proof.judged .p2 (s.measured .p2) s.testForce with state := .done } := by
    rw [hstands.proof, completeProof_brake, hdone, hjudged, hproof, hmeasured, htest]
  refine ⟨hrecord, fun p => ?_⟩
  rw [hstands.marks, completeProof_brake, proofDone_marks, hpinions, hstands.proof, completeProof_brake, hdone]

theorem State.cycle_of_completion_marks (p : Pinion) :
    (s.brakeCycle.keepStore.brake.proof.results.get p = .pass →
        (s.brakeCycle.keepStore.brake.pinions.get p).failed = false)
      ∧ (s.brakeCycle.keepStore.brake.proof.results.get p ≠ .pass → (s.brake.pinions.get p).failed = true →
        (s.brakeCycle.keepStore.brake.pinions.get p).failed = true) := by
  rw [(cycle_of_completion_record hrunning hphase hlast hauto).2 p]
  generalize s.brakeCycle.keepStore.brake.proof.results.get p = result
  refine ⟨fun hpass => by simp [hpass], fun hpass hfailed => ?_⟩
  rw [pinionsChecked_marks hfailed]
  simp [hpass]

theorem State.cycle_of_completion_pinionFailed :
    s.brakeCycle.keepStore.present .pinionFailed
      = ((s.brakeCycle.keepStore.brake.pinions.p1.failed || s.brakeCycle.keepStore.brake.pinions.p2.failed)
        && s.pinionsChecked.present .pinionFailed) := by
  have hstands := cycle_of_completion hrunning hphase hlast hauto
  have hmark1 := hstands.marks .p1
  have hmark2 := hstands.marks .p2
  obtain ⟨-, -, -, hpresent⟩ := s.pinionsChecked.judgedLast_proof
  rw [completeProof_brake, PerPinion.get_p1, PerPinion.get_p1] at hmark1
  rw [completeProof_brake, PerPinion.get_p2, PerPinion.get_p2] at hmark2
  rw [hstands.present _ (.inl rfl), completeProof_pinionFailed, hpresent, hmark1, hmark2]

/-- Two passes, and any other outcome. -/
theorem State.cycle_of_completion_outcome :
    (s.brake.proof.results.p1 = .pass ∧ proofResult (s.measured .p2) s.testForce = .pass →
        s.brakeCycle.keepStore.present .proofFail = false
          ∧ (s.station.life = .proving → s.brakeCycle.keepStore.station.life = .ready))
      ∧ (s.brake.proof.results.p1 ≠ .pass ∨ proofResult (s.measured .p2) s.testForce ≠ .pass →
        s.brakeCycle.keepStore.present .proofFail = true ∧ s.brakeCycle.keepStore.station.life = s.station.life) := by
  have hstands := cycle_of_completion hrunning hphase hlast hauto
  obtain ⟨hproof, -⟩ := s.pinionsChecked_testStands
  obtain ⟨-, -, hstation, -⟩ := s.pinionsChecked_stands
  obtain ⟨hmeasured, htest⟩ := s.pinionsChecked_measured (p := .p2)
  obtain ⟨hjudged, hlife, -⟩ := s.pinionsChecked.judgedLast_proof
  rw [hproof, hmeasured, htest] at hjudged
  rw [hstation] at hlife
  have hresults : s.pinionsChecked.judgedLast.brake.proof.results
      = { p1 := s.brake.proof.results.p1, p2 := proofResult (s.measured .p2) s.testForce } := by
    rw [hjudged]
    rfl
  rw [hstands.present _ (.inr rfl), hstands.life]
  refine ⟨fun hpass => ?_, fun hfail => ?_⟩
  · rw [← hlife]
    refine completeProof_of_passes ?_
    rw [hresults, hpass.1, hpass.2]
  · rw [← hlife]
    refine completeProof_of_fails fun heq => ?_
    obtain ⟨hpass1, hpass2⟩ := PerPinion.eq_pass_iff.mp (hresults.symm.trans heq)
    exact hfail.elim (· hpass1) (· hpass2)

end Completed

/-! ## The settle timer (R121) -/

theorem Brake.beginSample_eq (b : Brake) :
    b.beginSample
      = { b with
          proof := { b.proof with phase := if b.proof.phase.tested = .p1 then .p1Sample else .p2Sample }
          sampleSum := 0
          sampleCount := 0
          settleTimer := none } := by
  unfold Brake.beginSample
  cases b.proof.phase <;> rfl

theorem beginSample_onlyChanges : onlyChanges [.proof] s (s.setBrake s.brake.beginSample) := by
  rw [Brake.beginSample_eq]
  intro q
  cases q <;> simp [Part.same]

end Sys2Proof.Machine
end

section
/-! SUPPORT. The proof test at a brake cycle and at its settle timer: the commands (O47; section 6.12). -/

namespace Sys2Proof.Machine

variable {ps : List Part} {s t u v w : State} {m : Moment} {j k : FaultKind} {p : Pinion}

/-- The state in which a cycle's steps begin. -/
def State.begunAt (m : Moment) (s : State) : State := (s.atMoment m).cycleBegun

theorem State.begunAt_stands (m : Moment) (s : State) :
    (s.begunAt m).brake = { s.brake with cycleStart := s.instant m } ∧ (s.begunAt m).clock = s.instant m
      ∧ (s.begunAt m).station = s.station ∧ (s.begunAt m).straps = s.straps
      ∧ (∀ k, (s.begunAt m).present k = s.present k) := ⟨rfl, rfl, rfl, rfl, fun _ => rfl⟩

theorem State.begunAt_readings (m : Moment) (s : State) :
    (s.begunAt m).feedbackOf .p1 = m.force1.toNat ∧ (s.begunAt m).feedbackOf .p2 = m.force2.toNat := ⟨rfl, rfl⟩

theorem State.begunAt_autoStarts (m : Moment) (s : State) : (s.begunAt m).autoStarts ↔ s.autoStarts := Iff.rfl

theorem exec_brakeCycle_begun (hrun : s.running = true) (hdue : s.brake.cycleStart + ms 20 ≤ s.instant m) :
    exec (.brakeCycle m) s = .next (s.begunAt m).brakeCycle.keepStore := exec_brakeCycle_due hrun hdue

theorem exec_proofSettleExpiry_due (hrun : s.running = true) (hrunning : s.brake.proof.state = .running)
    (hdue : timerReached s.brake.settleTimer (s.instant m) (ms 500) = true) :
    exec (.proofSettleExpiry m) s
      = .next ((s.atMoment m).setBrake (s.atMoment m).brake.beginSample).keepStore := by
  have hexec : exec (.proofSettleExpiry m) s
      = .next (if (s.atMoment m).brake.proof.state = .running then
          (s.atMoment m).setBrake (s.atMoment m).brake.beginSample else s.atMoment m).keepStore :=
    runCommand_due (m := m) (timer := fun u => u.brake.settleTimer)
      (effect := fun u => if u.brake.proof.state = .running then u.setBrake u.brake.beginSample else u) hrun hdue
  have hrunning' : (s.atMoment m).brake.proof.state = .running := hrunning
  rw [hexec, if_pos hrunning']

/-- Settles O47: the automatic start, the readings with their verdicts, and the settle timer. -/
theorem proofTestMeasuresPinions : Obligations.ProofTestMeasuresPinions := by
  intro m s hrun test verdict force1 force2 starts
  obtain ⟨hbrake, hclock, hstation, hstraps, hpresent⟩ := s.begunAt_stands m
  obtain ⟨hread1, hread2⟩ := s.begunAt_readings m
  have hproof : (s.begunAt m).brake.proof = s.brake.proof := by rw [hbrake]
  have hsum : (s.begunAt m).brake.sampleSum = s.brake.sampleSum := by rw [hbrake]
  have hcount : (s.begunAt m).brake.sampleCount = s.brake.sampleCount := by rw [hbrake]
  have htimer : (s.begunAt m).brake.settleTimer = s.brake.settleTimer := by rw [hbrake]
  have hauto : (s.begunAt m).brake.autoProof = s.brake.autoProof := by rw [hbrake]
  have hpinions : (s.begunAt m).brake.pinions = s.brake.pinions := by rw [hbrake]
  have hmeasured1 : (s.begunAt m).measured .p1 = force1 := by rw [State.measured, hsum, hread1]
  have hmeasured2 : (s.begunAt m).measured .p2 = force2 := by rw [State.measured, hsum, hread2]
  have hverdict (force : Nat) : proofResult force (s.begunAt m).testForce = verdict force := by
    rw [State.testForce, hstraps]
    exact proofResult_eq force test
  refine ⟨fun hidle hdue => ⟨_, exec_brakeCycle_begun hrun hdue, fun hstarts => ?_, fun hnot => ?_⟩,
    fun hrunning => ⟨fun hdue hphase hlast => ⟨_, exec_brakeCycle_begun hrun hdue, ?_⟩,
      fun hdue hphase hlast hpending => ⟨_, exec_brakeCycle_begun hrun hdue, ?_⟩,
      fun hdue hphase hearly => ⟨_, exec_brakeCycle_begun hrun hdue, ?_⟩,
      fun hdue hphase hearly => ⟨_, exec_brakeCycle_begun hrun hdue, ?_⟩,
      fun hdue hphase => ⟨_, exec_brakeCycle_begun hrun hdue, ?_⟩,
      fun hdue => ⟨_, exec_proofSettleExpiry_due hrun hrunning hdue, ?_, onlyChanges_of_effect beginSample_onlyChanges rfl⟩⟩⟩
  · have hcycle := State.cycle_of_starts (s := s.begunAt m) (by rwa [hproof]) ((s.begunAt_autoStarts m).mpr hstarts)
    rw [hproof, hclock] at hcycle
    exact hcycle
  · have hcycle := State.cycle_of_idle (s := s.begunAt m) (by rwa [hproof]) (mt (s.begunAt_autoStarts m).mp hnot)
    rw [hproof, hsum, hcount, htimer, hauto] at hcycle
    exact hcycle
  · obtain ⟨hrecord, hsettle⟩ :=
      State.cycle_of_handover (s := s.begunAt m) (by rwa [hproof]) (by rwa [hproof]) (by rwa [hcount])
    rw [hproof, hmeasured1] at hrecord
    rw [hrecord]
    refine ⟨hrunning, rfl, hsettle.trans (congrArg some hclock), rfl, ?_⟩
    rw [← hverdict]
    rfl
  · have hphase' : (s.begunAt m).brake.proof.phase = .p2Sample := by rwa [hproof]
    have hrunning' : (s.begunAt m).brake.proof.state = .running := by rwa [hproof]
    have hlast' : (s.begunAt m).brake.sampleCount = 49 := by rwa [hcount]
    have hpending' : (s.begunAt m).brake.autoProof = false := by rwa [hauto]
    obtain ⟨hrecord, -⟩ := State.cycle_of_completion_record hrunning' hphase' hlast' hpending'
    have hmarks := State.cycle_of_completion_marks hrunning' hphase' hlast' hpending'
    have hfailed := State.cycle_of_completion_pinionFailed hrunning' hphase' hlast' hpending'
    obtain ⟨hpasses, hfails⟩ := State.cycle_of_completion_outcome hrunning' hphase' hlast' hpending'
    rw [hproof, hmeasured2] at hrecord hpasses hfails
    rw [hverdict, hstation] at hpasses hfails
    rw [hpinions] at hmarks
    refine ⟨by rw [hrecord], by rw [hrecord]; rfl, ?_, hmarks, fun hboth => ?_, fun hany hthere => ?_, hpasses, hfails⟩
    · rw [hrecord, ← hverdict]
      rfl
    · rw [hfailed, hboth.1, hboth.2]
      rfl
    · rw [hfailed, State.pinionsChecked_pinionFailed ((hpresent _).trans hthere), Bool.and_true, Bool.or_eq_true]
      exact hany
  · have hcycle := State.cycle_of_early (s := s.begunAt m) (p := .p1) (by rwa [hproof]) (by rwa [hproof]) (by rwa [hcount])
    rw [hproof, hsum, hcount, hread1] at hcycle
    exact hcycle
  · have hcycle := State.cycle_of_early (s := s.begunAt m) (p := .p2) (by rwa [hproof]) (by rwa [hproof]) (by rwa [hcount])
    rw [hproof, hsum, hcount, hread2] at hcycle
    exact hcycle
  · have hcycle := State.cycle_of_settle (s := s.begunAt m) (by rwa [hproof]) (by rwa [hproof])
    rw [hproof, hsum, hcount] at hcycle
    exact hcycle
  · rw [State.keepStore_brake, State.setBrake_brake, Brake.beginSample_eq]
    rfl

end Sys2Proof.Machine
end

section
/-! SUPPORT. A brake cycle: what each step changes, and the pinions through the steps (O46; section 6.3). -/

namespace Sys2Proof.Machine

variable {ps : List Part} {s t u v w : State} {m : Moment} {j k : FaultKind} {p : Pinion} {b : PinionBrake} {now : Nat}

/-! ## The parts that the steps change -/

/-- The parts of a brake cycle before its sharing. -/
def Part.ofCycle : List Part := Part.also Part.ofClassB [.holding, .pinions, .outputs, .proof, .station]

theorem setPinion_onlyChanges (b : PinionBrake) (hmode : b.mode = (s.brake.pinions.get p).mode)
    (hsplit : b.split = (s.brake.pinions.get p).split) : onlyChanges [.pinions] s (s.setPinion p b) := by
  intro q
  cases p <;> cases q <;> simp_all [Part.same, State.setPinion, PerPinion.set, PerPinion.get]

theorem heatPinion_onlyChanges : onlyChanges [.pinions, .faults, .arith] s (s.heatPinion p) := by
  have hheated : onlyChanges [.pinions, .faults, .arith] s (s.setPinion p (s.heatedPinion p)) :=
    (setPinion_onlyChanges (s.heatedPinion p) rfl rfl).mono (by decide)
  exact hheated.trans ((saturations_onlyChanges _).mono (by decide)) rfl

theorem raiseFade_onlyChanges {before : State} : onlyChanges Part.ofClassB s (s.raiseFade before p) := by
  unfold State.raiseFade
  split
  · exact raise_onlyChanges_ofClassB nofun
  · exact onlyChanges_refl _ _

theorem heatedBoth_onlyChanges : onlyChanges [.pinions, .faults, .arith] s s.heatedBoth :=
  heatPinion_onlyChanges.trans heatPinion_onlyChanges (by simp)

theorem energyStep_onlyChanges_heated : onlyChanges Part.ofClassB s.heatedBoth s.energyStep := by
  have hraised : onlyChanges Part.ofClassB s.heatedBoth s.fadesRaised :=
    raiseFade_onlyChanges.trans raiseFade_onlyChanges (by simp)
  rw [State.energyStep_eq]
  split
  · exact hraised
  · exact hraised.trans (clear_onlyChanges_ofClassB _) (by simp [State.fadesRaised])

theorem checkPinion_onlyChanges : onlyChanges (Part.also Part.ofClassB [.pinions]) s (s.checkPinion p) := by
  have hset (b : PinionBrake) (hmode : b.mode = (s.brake.pinions.get p).mode)
      (hsplit : b.split = (s.brake.pinions.get p).split) :
      onlyChanges (Part.also Part.ofClassB [.pinions]) s (s.setPinion p b) :=
    (setPinion_onlyChanges b hmode hsplit).mono (by decide)
  have hraised (u : State) : onlyChanges (Part.also Part.ofClassB [.pinions]) u (u.raise .pinionFailed) :=
    (raise_onlyChanges_ofClassB (by simp [faultClassOf])).mono (by decide)
  unfold State.checkPinion
  dsimp only
  split
  · split
    · exact hset _ rfl rfl
    · split
      · exact (hset { s.brake.pinions.get p with failed := true, failTimer := none } rfl rfl).trans (hraised _) rfl
      · exact onlyChanges_refl _ _
  · exact hset _ rfl rfl

theorem failureStep_onlyChanges : onlyChanges (Part.also Part.ofClassB [.pinions]) s s.failureStep :=
  checkPinion_onlyChanges.trans checkPinion_onlyChanges (by simp)

theorem proofDone_onlyChanges : onlyChanges [.pinions, .outputs, .proof] s s.proofDone := by
  intro q
  cases q <;> simp [Part.same, State.proofDone, Brake.pinionsFull, PinionBrake.restoredBy]

theorem completeProof_onlyChanges : onlyChanges Part.ofCycle s s.completeProof := by
  have hdone : onlyChanges Part.ofCycle s s.proofDone := proofDone_onlyChanges.mono (by decide)
  have hmarks : onlyChanges Part.ofCycle s s.proofDone.marksReformed := by
    unfold State.marksReformed
    split
    · exact hdone
    · exact hdone.trans ((clear_onlyChanges_ofClassB _).mono (by decide)) rfl
  have hstation : s.proofDone.marksReformed.station = s.station := State.marksReformed_stands.2
  by_cases hpass : s.brake.proof.results = { p1 := .pass, p2 := .pass }
  · have hcleared : onlyChanges Part.ofCycle s (s.proofDone.marksReformed.clear .proofFail) :=
      hmarks.trans ((clear_onlyChanges_ofClassB _).mono (by decide)) hstation
    rw [State.completeProof_of_pass hpass]
    split
    · refine hcleared.trans (fun q => ?_) ((State.clear_station _).trans hstation)
      cases q <;> simp [Part.ofCycle, Part.also, Part.ofClassB, Part.same, hstation]
    · exact hcleared
  · rw [State.completeProof_of_fail hpass]
    exact hmarks.trans ((raise_onlyChanges_ofClassB (by simp [faultClassOf])).mono (by decide)) hstation

theorem readingAdded_onlyChanges : onlyChanges [.proof] s (s.readingAdded p) := by
  intro q
  cases q <;> simp [Part.same, State.readingAdded]

theorem endSample_first_onlyChanges : onlyChanges [.proof, .outputs] s (s.endSample .p1) := by
  intro q
  cases q <;> simp [Part.same, State.endSample, Brake.testing]

theorem judgedLast_onlyChanges : onlyChanges [.proof] s s.judgedLast := by
  intro q
  cases q <;> simp [Part.same, State.judgedLast, State.readingAdded]

theorem takeReading_onlyChanges : onlyChanges Part.ofCycle s (s.takeReading p) := by
  have hadded : onlyChanges Part.ofCycle s (s.readingAdded p) := readingAdded_onlyChanges.mono (by decide)
  have hread : s.takeReading p
      = if 50 ≤ (s.readingAdded p).brake.sampleCount then (s.readingAdded p).endSample p else s.readingAdded p := rfl
  rw [hread]
  split
  · cases p with
    | p1 => exact hadded.trans (endSample_first_onlyChanges.mono (by decide)) rfl
    | p2 =>
      rw [State.endSample_last]
      exact (judgedLast_onlyChanges.mono (by decide)).trans completeProof_onlyChanges rfl
  · exact hadded

theorem sampleStep_onlyChanges : onlyChanges Part.ofCycle s s.sampleStep := by
  unfold State.sampleStep
  split
  · split
    · exact onlyChanges_refl _ _
    · exact takeReading_onlyChanges
    · exact onlyChanges_refl _ _
    · exact takeReading_onlyChanges
  · exact onlyChanges_refl _ _

theorem automaticStep_onlyChanges : onlyChanges [.proof, .outputs] s s.automaticStep := by
  unfold State.automaticStep
  split
  · intro q
    cases q <;> simp [Part.same, Brake.startProof, Brake.testing]
  · exact onlyChanges_refl _ _

theorem requestGone_onlyChanges : onlyChanges [.holding] s s.requestGone := by
  intro q
  cases q <;> simp [Part.same, State.requestGone]

theorem releaseStep_onlyChanges : onlyChanges Part.ofCycle s s.releaseStep := by
  have hfalls : onlyChanges [.holding] s (s.requestGone.setBrake { s.requestGone.brake with applied := false }) := by
    intro q
    cases q <;> simp [Part.same, State.requestGone]
  rw [State.releaseStep_eq]
  split
  · split
    · exact (hfalls.mono (by decide)).trans ((retestPermits_onlyChanges _).mono (by decide)) rfl
    · exact requestGone_onlyChanges.mono (by decide)
  · exact onlyChanges_refl _ _

/-- The brake with its target, force and split formed anew. -/
def State.forcesShared (s : State) : State :=
  s.setBrake
    { s.brake with
      target := s.arbitrate
      force := (s.serviceForce s.arbitrate).val.toNat
      pinions :=
        { p1 := { s.brake.pinions.p1 with split := s.pinionSplit.1 }
          p2 := { s.brake.pinions.p2 with split := s.pinionSplit.2 } } }

theorem State.sharingStep_eq : s.sharingStep = s.forcesShared.saturations (s.serviceForce s.arbitrate).hits := rfl

theorem sharingStep_onlyChanges : onlyChanges [.sharing, .faults, .arith] s s.sharingStep := by
  have hshared : onlyChanges [.sharing, .faults, .arith] s s.forcesShared := by
    intro q
    cases q <;> simp [Part.same, State.forcesShared]
  rw [State.sharingStep_eq]
  exact hshared.trans ((saturations_onlyChanges _).mono (by decide)) rfl

theorem modesStep_onlyChanges : onlyChanges [.outputs] s s.modesStep := by
  obtain ⟨mode1, mode2, wheel, hmodes⟩ := s.modesStep_inModes
  rw [hmodes]
  intro q
  cases q <;> simp [Part.same, Brake.inModes]

theorem cycleBegun_onlyChanges : onlyChanges [.sharing] s s.cycleBegun := by
  intro q
  cases q <;> simp [Part.same, State.cycleBegun]

/-! ## The steps between the energies and the sharing -/

/-- The state before the sharing of a cycle. -/
def State.beforeSharing (s : State) : State := s.pinionsChecked.sampleStep.automaticStep.releaseStep

theorem State.completeProof_storing : s.completeProof.station.storing = s.station.storing := by
  have hstation : s.proofDone.marksReformed.station = s.station := marksReformed_stands.2
  by_cases hpass : s.brake.proof.results = { p1 := .pass, p2 := .pass }
  · rw [completeProof_of_pass hpass]
    split
    · rfl
    · rw [clear_station, hstation]
  · rw [completeProof_of_fail hpass, raise_station, hstation]

theorem State.sampleStep_storing : s.sampleStep.station.storing = s.station.storing := by
  have hread (p : Pinion) : (s.takeReading p).station.storing = s.station.storing := by
    have hread : s.takeReading p
        = if 50 ≤ (s.readingAdded p).brake.sampleCount then (s.readingAdded p).endSample p else s.readingAdded p := rfl
    rw [hread]
    split
    · cases p with
      | p1 => rfl
      | p2 =>
        rw [endSample_last, completeProof_storing]
        rfl
    · rfl
  unfold State.sampleStep
  split
  · split
    · rfl
    · exact hread _
    · rfl
    · exact hread _
  · rfl

theorem State.beforeSharing_storing : s.beforeSharing.station.storing = s.station.storing := by
  have hsteps (u : State) : u.automaticStep.releaseStep.station = u.station := by simp
  rw [State.beforeSharing, hsteps, sampleStep_storing, s.pinionsChecked_stands.2.2.1]

theorem beforeSharing_onlyChanges_checked : onlyChanges Part.ofCycle s.pinionsChecked s.beforeSharing := by
  have hsampled := sampleStep_onlyChanges (s := s.pinionsChecked)
  have hstarted := hsampled.trans_of_storing (automaticStep_onlyChanges.mono (by decide)) State.sampleStep_storing
  have hstation : s.pinionsChecked.sampleStep.automaticStep.station.storing
      = s.pinionsChecked.sampleStep.station.storing := by simp
  exact hstarted.trans_of_storing releaseStep_onlyChanges (hstation.trans State.sampleStep_storing)

end Sys2Proof.Machine
end

section
/-! SUPPORT. A brake cycle: the pinions and the conditions from its first step to its last (O46; section 6.3). -/

namespace Sys2Proof.Machine

variable {ps : List Part} {s t u v w : State} {m : Moment} {j k : FaultKind} {p : Pinion} {b : PinionBrake}
  {now feedback : Nat}

/-! ## A pinion without its command (R102, R108) -/

/-- A pinion's record without its command mode and its split. -/
def PinionBrake.core (b : PinionBrake) : PinionBrake := { b with mode := .full, split := 0 }

/-- The record with the mark taken from a pinion that has passed. -/
def PinionBrake.unmarked (gone : Bool) (b : PinionBrake) : PinionBrake := { b.core with failed := b.failed && !gone }

theorem PinionBrake.unmarked_false : b.unmarked false = b.core := by
  simp [PinionBrake.unmarked, PinionBrake.core]

/-- A test that runs may take a mark, a record without one stands. -/
theorem State.sampleStep_core (s : State) (p : Pinion) :
    ∃ gone, (s.sampleStep.brake.pinions.get p).core = (s.brake.pinions.get p).unmarked gone
      ∧ (s.brake.proof.state ≠ .running → gone = false) := by
  have hstands (u : State) (h : (u.brake.pinions.get p).core = (s.brake.pinions.get p).core) :
      ∃ gone, (u.brake.pinions.get p).core = (s.brake.pinions.get p).unmarked gone
        ∧ (s.brake.proof.state ≠ .running → gone = false) :=
    ⟨false, h.trans PinionBrake.unmarked_false.symm, fun _ => rfl⟩
  by_cases hrunning : s.brake.proof.state = .running
  · have hread (q : Pinion) : ∃ gone, ((s.takeReading q).brake.pinions.get p).core = (s.brake.pinions.get p).unmarked gone
        ∧ (s.brake.proof.state ≠ .running → gone = false) := by
      have hread : s.takeReading q
          = if 50 ≤ (s.readingAdded q).brake.sampleCount then (s.readingAdded q).endSample q else s.readingAdded q := rfl
      rw [hread]
      split
      · cases q with
        | p1 => exact hstands _ (by cases p <;> rfl)
        | p2 =>
          rw [endSample_last, completeProof_brake]
          refine ⟨s.judgedLast.brake.proof.results.get p == .pass, ?_, fun hidle => absurd hrunning hidle⟩
          cases p <;> rfl
      · exact hstands _ rfl
    rw [State.sampleStep, if_pos hrunning]
    split
    · exact hstands _ rfl
    · exact hread _
    · exact hstands _ rfl
    · exact hread _
  · exact hstands _ (by rw [sampleStep_of_idle hrunning])

theorem State.automaticStep_core (s : State) (p : Pinion) :
    (s.automaticStep.brake.pinions.get p).core = (s.brake.pinions.get p).core := by
  unfold State.automaticStep
  split
  · cases p <;> rfl
  · rfl

theorem State.releaseStep_pinions : s.releaseStep.brake.pinions = s.brake.pinions := by
  rw [releaseStep_brake]

theorem State.sharingStep_core (s : State) (p : Pinion) :
    (s.sharingStep.brake.pinions.get p).core = (s.brake.pinions.get p).core := by
  rw [sharingStep_brake]
  cases p <;> rfl

theorem State.modesStep_core (s : State) (p : Pinion) :
    (s.modesStep.brake.pinions.get p).core = (s.brake.pinions.get p).core := by
  obtain ⟨mode1, mode2, wheel, hmodes⟩ := s.modesStep_inModes
  rw [hmodes]
  cases p <;> rfl

theorem State.brakeCycle_beforeSharing : s.brakeCycle = s.beforeSharing.sharingStep.modesStep := rfl

theorem State.beforeSharing_core (s : State) (p : Pinion) :
    ∃ gone, (s.beforeSharing.brake.pinions.get p).core = (s.cycledPinion p).unmarked gone
      ∧ (s.brake.proof.state ≠ .running → gone = false) := by
  obtain ⟨gone, hcore, hidle⟩ := s.pinionsChecked.sampleStep_core p
  have hpinion : s.pinionsChecked.brake.pinions.get p = s.cycledPinion p := by
    rw [pinionsChecked_brake]
    cases p <;> rfl
  rw [hpinion] at hcore
  rw [s.pinionsChecked_testStands.1] at hidle
  refine ⟨gone, ?_, hidle⟩
  rw [State.beforeSharing, releaseStep_pinions, automaticStep_core, hcore]

/-- The record that a cycle leaves of a pinion, but for its command. -/
theorem State.brakeCycle_core (s : State) (p : Pinion) :
    (s.brakeCycle.brake.pinions.get p).core = (s.beforeSharing.brake.pinions.get p).core := by
  rw [brakeCycle_beforeSharing, modesStep_core, sharingStep_core]

/-! ## The failure check of a record (R117) -/

theorem PinionBrake.checked_stands :
    (b.checked feedback now).energy = b.energy ∧ (b.checked feedback now).derated = b.derated
      ∧ (b.checked feedback now).fade = b.fade := by
  unfold PinionBrake.checked
  split
  · split
    · exact ⟨rfl, rfl, rfl⟩
    · split <;> exact ⟨rfl, rfl, rfl⟩
  · exact ⟨rfl, rfl, rfl⟩

theorem PinionBrake.checked_of_not (h : b.failsAt feedback = false) : b.checked feedback now = { b with failTimer := none } := by
  rw [PinionBrake.checked, h]
  rfl

theorem PinionBrake.checked_of_start (h : b.failsAt feedback = true) (hnone : b.failTimer = none) :
    b.checked feedback now = { b with failTimer := some now } := by
  rw [PinionBrake.checked, if_pos h, hnone]

theorem PinionBrake.checked_of_early {start : Nat} (h : b.failsAt feedback = true) (hsome : b.failTimer = some start)
    (hearly : now < start + ms 1000) : b.checked feedback now = b := by
  rw [PinionBrake.checked, if_pos h, hsome]
  exact if_neg (Nat.not_le_of_lt hearly)

theorem PinionBrake.checked_of_due {start : Nat} (h : b.failsAt feedback = true) (hsome : b.failTimer = some start)
    (hdue : start + ms 1000 ≤ now) : b.checked feedback now = { b with failed := true, failTimer := none } := by
  rw [PinionBrake.checked, if_pos h, hsome]
  exact if_pos hdue

/-! ## The conditions (R84, R116, R117) -/

theorem State.saturations_arith (n : Nat) :
    (s.saturations n).speed.arithLimit = (decide (n ≠ 0) || s.speed.arithLimit)
      ∧ (s.saturations n).present .arithLimit = (decide (n ≠ 0) || s.present .arithLimit) := by
  rw [saturations_eq]
  refine ⟨rfl, ?_⟩
  cases n with
  | zero => rfl
  | succ n =>
    have hpresent : ((fun f : Faults => f.occur s.straps.strict .arithLimit)^[n + 1] s.faults).present .arithLimit = true := by
      rw [Function.iterate_succ_apply']
      exact Faults.present_occur_self _ _ _
    exact hpresent

theorem State.heatedBoth_arith :
    s.heatedBoth.speed.arithLimit
        = (decide ((s.energyOf .p2).hits ≠ 0) || (decide ((s.energyOf .p1).hits ≠ 0) || s.speed.arithLimit))
      ∧ s.heatedBoth.present .arithLimit
        = (decide ((s.energyOf .p2).hits ≠ 0) || (decide ((s.energyOf .p1).hits ≠ 0) || s.present .arithLimit)) := by
  have henergy : (s.heatPinion .p1).energyOf .p2 = s.energyOf .p2 := by
    have hfeedback : (s.heatPinion .p1).feedbackOf .p2 = s.feedbackOf .p2 := feedbackOf_congr (by simp)
    have hpinion : (s.heatPinion .p1).brake.pinions.get .p2 = s.brake.pinions.get .p2 := by
      rw [heatPinion_brake]
      rfl
    simp only [State.energyOf, hfeedback, hpinion, heatPinion_frame]
  have hheat (u : State) (p : Pinion) :
      (u.heatPinion p).speed.arithLimit = (decide ((u.energyOf p).hits ≠ 0) || u.speed.arithLimit)
        ∧ (u.heatPinion p).present .arithLimit = (decide ((u.energyOf p).hits ≠ 0) || u.present .arithLimit) :=
    saturations_arith (s := u.setPinion p (u.heatedPinion p)) _
  obtain ⟨hflag, hpresent⟩ := hheat (s.heatPinion .p1) .p2
  obtain ⟨hflag1, hpresent1⟩ := hheat s .p1
  rw [henergy, hflag1] at hflag
  rw [henergy, hpresent1] at hpresent
  exact ⟨hflag, hpresent⟩

theorem State.energyStep_arith :
    s.energyStep.speed.arithLimit = s.heatedBoth.speed.arithLimit
      ∧ s.energyStep.present .arithLimit = s.heatedBoth.present .arithLimit := by
  have hraised (u before : State) (p : Pinion) : (u.raiseFade before p).present .arithLimit = u.present .arithLimit := by
    unfold State.raiseFade
    split
    · exact raise_present_of_ne (by decide) (by decide)
    · rfl
  refine ⟨(energyStep_onlyChanges_heated .arith).resolve_left (by decide), ?_⟩
  have hfaded : s.fadesRaised.present .arithLimit = s.heatedBoth.present .arithLimit := by
    rw [State.fadesRaised, hraised, hraised]
  rw [energyStep_eq]
  split
  · exact hfaded
  · exact (clear_present_of_ne (by decide) (by decide)).trans hfaded

/-- BRAKE_FADE after step 1: present as a flag becomes set, absent without a flag. -/
theorem State.energyStep_brakeFade :
    ((∃ p, (s.heatedPinion p).fade = true ∧ (s.brake.pinions.get p).fade = false) →
        s.energyStep.present .brakeFade = true)
      ∧ ((∀ p, (s.heatedPinion p).fade = false) → s.energyStep.present .brakeFade = false) := by
  have hbrake : s.heatedBoth.brake.pinions = { p1 := s.heatedPinion .p1, p2 := s.heatedPinion .p2 } := by
    rw [heatedBoth_brake]
  have hget (u : State) (hu : u.brake = s.heatedBoth.brake) (p : Pinion) : u.brake.pinions.get p = s.heatedPinion p := by
    rw [hu, hbrake]
    cases p <;> rfl
  have hfaded (p : Pinion) : s.fadesRaised.brake.pinions.get p = s.heatedPinion p := hget _ fadesRaised_brake p
  have hany : (s.fadesRaised.brake.pinions.p1.fade || s.fadesRaised.brake.pinions.p2.fade)
      = ((s.heatedPinion .p1).fade || (s.heatedPinion .p2).fade) := by
    rw [← hfaded, ← hfaded]
    rfl
  rw [energyStep_eq, hany]
  refine ⟨fun ⟨p, hnew, hold⟩ => ?_, fun hnone => ?_⟩
  · have hset : ((s.heatedPinion .p1).fade || (s.heatedPinion .p2).fade) = true := by
      cases p <;> simp [hnew]
    rw [if_pos hset, State.fadesRaised]
    have hraises (u : State) (hu : u.brake = s.heatedBoth.brake) : u.raiseFade s p = u.raise .brakeFade := by
      refine if_pos ?_
      rw [hget u hu, hnew, hold]
      rfl
    cases p with
    | p1 =>
      rw [hraises _ rfl]
      unfold State.raiseFade
      split
      · exact raise_present_self _
      · exact raise_present_self _
    | p2 =>
      rw [hraises _ raiseFade_brake]
      exact raise_present_self _
  · rw [hnone, hnone, if_neg (by decide)]
    exact clear_present_self _ _

/-- A pinion that the check marks is an occurrence of PINION_FAILED. -/
theorem State.pinionsChecked_pinionFailed_of_new (hold : (s.brake.pinions.get p).failed = false)
    (hnew : (s.cycledPinion p).failed = true) : s.pinionsChecked.present .pinionFailed = true := by
  have hmarks (u : State) (hu : (u.brake.pinions.get p).failed = false) (hfails : (u.checkedPinion p).failed = true) :
      (u.checkPinion p).present .pinionFailed = true := by
    revert hfails
    have hfails : u.failsCheck p = (u.brake.pinions.get p).failsAt (u.feedbackOf p) := rfl
    unfold State.checkPinion State.checkedPinion PinionBrake.checked
    rw [hfails]
    cases (u.brake.pinions.get p).failsAt (u.feedbackOf p) with
    | false => simp [hu]
    | true =>
      dsimp only
      rw [if_pos rfl, if_pos rfl]
      cases (u.brake.pinions.get p).failTimer with
      | none => simp [hu]
      | some start =>
        dsimp only
        split
        · exact fun _ => raise_present_self _
        · simp [hu]
  have henergies : (s.energyStep.brake.pinions.get p).failed = false := by
    rw [energyStep_brake]
    cases p <;> exact hold
  have hpinion : s.energyStep.checkedPinion p = s.cycledPinion p := by
    have hfeedback : s.energyStep.feedbackOf p = s.feedbackOf p := feedbackOf_congr (by simp)
    have hclock : s.energyStep.clock = s.clock := by simp
    rw [State.checkedPinion, hfeedback, hclock, energyStep_brake]
    cases p <;> rfl
  cases p with
  | p1 => exact checkPinion_pinionFailed (hmarks _ henergies (by rw [hpinion, hnew]))
  | p2 =>
    refine hmarks (s.energyStep.checkPinion .p1) ?_ (by rw [checkPinion_checkedPinion, hpinion, hnew])
    rw [checkPinion_brake]
    exact henergies

theorem State.sampleStep_present (hfailed : k ≠ .pinionFailed) (hproof : k ≠ .proofFail) (hload : k ≠ .loadSensor) :
    s.sampleStep.present k = s.present k := by
  have hmarks (u : State) : u.proofDone.marksReformed.present k = u.present k := marksReformed_present hfailed hload
  have hcomplete (u : State) : u.completeProof.present k = u.present k := by
    by_cases hpass : u.brake.proof.results = { p1 := .pass, p2 := .pass }
    · have hcleared := (clear_present_of_ne (s := u.proofDone.marksReformed) hproof hload).trans (hmarks u)
      rw [completeProof_of_pass hpass]
      split
      · exact hcleared
      · exact hcleared
    · rw [completeProof_of_fail hpass]
      exact (raise_present_of_ne hproof hload).trans (hmarks u)
  have hread (p : Pinion) : (s.takeReading p).present k = s.present k := by
    have hread : s.takeReading p
        = if 50 ≤ (s.readingAdded p).brake.sampleCount then (s.readingAdded p).endSample p else s.readingAdded p := rfl
    rw [hread]
    split
    · cases p with
      | p1 => rfl
      | p2 =>
        rw [endSample_last, hcomplete]
        rfl
    · rfl
  unfold State.sampleStep
  split
  · split
    · rfl
    · exact hread _
    · rfl
    · exact hread _
  · rfl

end Sys2Proof.Machine
end

section
/-! SUPPORT. The arithmetic of a brake cycle: energies, derating, requirements and shares (sections 5.1, 6.3 and 6.9). -/

namespace Sys2Proof.Machine

variable {ps : List Part} {s t u v w : State} {m : Moment} {j k : FaultKind} {p : Pinion} {b : PinionBrake}
  {now feedback hits : Nat}

/-! ## Bounds in natural numbers (R84) -/

theorem Sat.bound_nat (limit hits n : Nat) :
    Sat.bound limit hits n = ⟨(min limit n : Nat), hits + if limit < n then 1 else 0⟩ := by
  unfold Sat.bound
  by_cases h : limit < n
  · rw [if_pos (by omega), if_pos h, Nat.min_eq_left (by omega)]
  · rw [if_neg (by omega), if_neg (by omega), if_neg h, Nat.min_eq_right (by omega), Nat.add_zero]

theorem Sat.bound_of_abs {limit x : Int} (hlow : -limit ≤ x) (hhigh : x ≤ limit) : Sat.bound limit hits x = ⟨x, hits⟩ := by
  rw [Sat.bound, if_neg (by omega), if_neg (by omega)]

theorem Sat.load_of_abs {x : Int} (hlow : -549755813887 ≤ x) (hhigh : x ≤ 549755813887) : Sat.load x = ⟨x, 0⟩ :=
  Sat.bound_of_abs hlow hhigh

theorem Sat.add_of_abs {a x : Int} (hlow : -549755813887 ≤ a + x) (hhigh : a + x ≤ 549755813887) :
    Sat.add ⟨a, hits⟩ x = ⟨a + x, hits⟩ := Sat.bound_of_abs hlow hhigh

theorem Sat.mul_of_abs {a x : Int} (hlow : -549755813887 ≤ a * x) (hhigh : a * x ≤ 549755813887) :
    Sat.mul ⟨a, hits⟩ x = ⟨a * x, hits⟩ := Sat.bound_of_abs hlow hhigh

theorem Sat.load_nat (n : Nat) :
    Sat.load n = ⟨(min 549755813887 n : Nat), if 549755813887 < n then 1 else 0⟩ := by
  rw [← Nat.zero_add (if 549755813887 < n then 1 else 0)]
  exact Sat.bound_nat 549755813887 0 n

theorem Sat.mul_nat (a n : Nat) :
    Sat.mul ⟨a, hits⟩ n
      = ⟨(min 549755813887 (a * n) : Nat), hits + if 549755813887 < a * n then 1 else 0⟩ := by
  exact Sat.bound_nat 549755813887 hits (a * n)

theorem Sat.to32_nat (a : Nat) :
    Sat.to32 ⟨a, hits⟩ = ⟨(min 2147483647 a : Nat), hits + if 2147483647 < a then 1 else 0⟩ :=
  Sat.bound_nat 2147483647 hits a

/-! ## Energies (R114) -/

/-- The energy after a cycle's cooling, J. -/
def cooledEnergy (energy : Nat) : Nat := energy - energy / 4096

/-- The heat of a cycle, J. -/
def cycleHeat (force speed : Nat) : Nat := min 549755813887 (force * speed) / 50000

theorem min_load_mul (force speed : Nat) :
    min 549755813887 (min 549755813887 force * speed) = min 549755813887 (force * speed) := by
  obtain hle | hlt := le_or_gt force 549755813887
  · rw [Nat.min_eq_right hle]
  · rw [Nat.min_eq_left (Nat.le_of_lt hlt)]
    obtain rfl | hspeed := Nat.eq_zero_or_pos speed
    · rfl
    · rw [Nat.min_eq_left (Nat.le_mul_of_pos_right _ hspeed),
        Nat.min_eq_left ((Nat.le_of_lt hlt).trans (Nat.le_mul_of_pos_right _ hspeed))]

/-- The heat with its saturations. -/
theorem heat_eq (force speed : Nat) :
    ((Sat.load force).mul speed).divBy 50000
      = ⟨(cycleHeat force speed : Nat), (if 549755813887 < force then 1 else 0)
          + if 549755813887 < min 549755813887 force * speed then 1 else 0⟩ := by
  rw [Sat.load_nat, Sat.mul_nat, min_load_mul]
  rfl

theorem cooled_eq {energy : Nat} (h : energy ≤ 2147483647) :
    ((Sat.load energy).add (-((energy / 4096 : Nat) : Int))).to32 = ⟨(cooledEnergy energy : Nat), 0⟩ := by
  have hle : energy / 4096 ≤ energy := Nat.div_le_self _ _
  rw [cooledEnergy, Sat.load_natCast (by omega), Sat.add_neg_natCast hle (by omega), Sat.to32_natCast (by omega)]

theorem energyAfter_off {energy force speed : Nat} (h : energy ≤ 2147483647) :
    energyAfter energy force speed false = ⟨(cooledEnergy energy : Nat), 0⟩ := by
  unfold energyAfter
  dsimp only
  rw [if_neg nofun, cooled_eq h]

theorem energyAfter_on {energy force speed : Nat} (h : energy ≤ 2147483647) :
    (energyAfter energy force speed true).val
        = (min 2147483647 (cooledEnergy energy + cycleHeat force speed) : Nat)
      ∧ ((energyAfter energy force speed true).hits ≠ 0
        ↔ 549755813887 < force ∨ 549755813887 < force * speed
          ∨ 2147483647 < cooledEnergy energy + cycleHeat force speed) := by
  have hcooled : cooledEnergy energy ≤ energy := Nat.sub_le _ _
  have hheat : cycleHeat force speed ≤ 549755813887 / 50000 := Nat.div_le_div_right (Nat.min_le_left _ _)
  have hsum : ((Sat.load (cooledEnergy energy)).add (cycleHeat force speed)).to32
      = ⟨(min 2147483647 (cooledEnergy energy + cycleHeat force speed) : Nat),
          if 2147483647 < cooledEnergy energy + cycleHeat force speed then 1 else 0⟩ := by
    rw [Sat.load_natCast (by omega), Sat.add_natCast (by omega), Sat.to32_nat, Nat.zero_add]
  unfold energyAfter
  dsimp only
  rw [if_pos rfl, cooled_eq h, heat_eq, hsum]
  refine ⟨rfl, ?_⟩
  have hproduct : 549755813887 < force ∨ 549755813887 < min 549755813887 force * speed
      ↔ 549755813887 < force ∨ 549755813887 < force * speed := by
    obtain hle | hlt := le_or_gt force 549755813887
    · rw [Nat.min_eq_right hle]
    · simp [hlt]
  rw [← or_assoc, ← hproduct]
  dsimp only
  split <;> split <;> split <;> simp_all

/-! ## Derating and fade (R115, R116) -/

theorem deratedCapacity_eq (q : Straps) (energy : Nat) :
    (energy ≤ 4000000 → deratedCapacity q false energy = q.pinionNominal)
      ∧ (4000000 < energy → energy < 12000000 →
        deratedCapacity q false energy = q.pinionNominal - q.pinionNominal * (energy - 4000000) / 16000000)
      ∧ (12000000 ≤ energy → deratedCapacity q false energy = q.pinionNominal / 2) := by
  have hnominal : q.pinionNominal = 5000 * (4 + q.pinionNom.toNat) := by
    rw [Straps.pinionNominal]
    omega
  unfold deratedCapacity energyE1 energyE2
  refine ⟨fun h => by simp [h], fun hlow hhigh => ?_, fun h => ?_⟩
  · have hquotient : q.pinionNominal * (energy - 4000000) / 16000000
        = (4 + q.pinionNom.toNat) * (energy - 4000000) / 3200 := by
      rw [hnominal, Nat.mul_assoc, show 16000000 = 5000 * 3200 from rfl, Nat.mul_div_mul_left _ _ (by omega)]
    rw [if_neg nofun, if_neg (by omega), if_pos hhigh, hquotient]
  · rw [if_neg nofun, if_neg (by omega), if_neg (by omega)]

theorem fadeAfter_eq (energy : Nat) (fade : Bool) :
    (12000000 ≤ energy → fadeAfter energy fade = true) ∧ (energy < 10000000 → fadeAfter energy fade = false)
      ∧ (10000000 ≤ energy → energy < 12000000 → fadeAfter energy fade = fade) := by
  unfold fadeAfter energyE2 fadeClear
  refine ⟨fun h => if_pos h, fun h => ?_, fun hlow hhigh => ?_⟩
  · rw [if_neg (by omega), if_pos h]
  · rw [if_neg (by omega), if_neg (by omega)]

/-! ## Requirements and shares (R106) -/

theorem requirement_eq {mass : Nat} {decel : Int} (hmass : mass ≤ 6553500) (hlow : -11000 ≤ decel) (hhigh : decel ≤ 11000) :
    requirement mass decel = ⟨max 0 (mass * decel / 1000), 0⟩ := by
  have hproduct : -72088500000 ≤ mass * decel ∧ mass * decel ≤ 72088500000 := by
    have hmass' : (mass : Int) ≤ 6553500 := by omega
    constructor <;> nlinarith
  have hmul : Sat.mul ⟨(mass : Int), 0⟩ decel = ⟨mass * decel, 0⟩ := Sat.mul_of_abs (by omega) (by omega)
  rw [requirement, Sat.load_natCast (by omega), hmul]
  rfl

/-- The requirement of such a mass is 72 088 500 N at most. -/
theorem requirement_le {mass : Nat} {decel : Int} (hmass : mass ≤ 6553500) (hhigh : decel ≤ 11000) :
    max 0 ((mass : Int) * decel / 1000) ≤ 72088500 := by
  have hproduct : (mass : Int) * decel ≤ 72088500000 := by
    have hmass' : (mass : Int) ≤ 6553500 := by omega
    nlinarith
  omega

/-- A sum of values of no sign is formed without a saturation while it is within the accumulator. -/
theorem satSum_eq (xs : List Int) (hpos : ∀ x ∈ xs, 0 ≤ x) (hsum : xs.sum ≤ 549755813887) : satSum xs = ⟨xs.sum, 0⟩ := by
  have hfold (xs : List Int) (a : Int) (ha : 0 ≤ a) (hpos : ∀ x ∈ xs, 0 ≤ x) (hsum : a + xs.sum ≤ 549755813887) :
      xs.foldl Sat.add ⟨a, 0⟩ = ⟨a + xs.sum, 0⟩ := by
    induction xs generalizing a with
    | nil => simp
    | cons x xs ih =>
      have hx : 0 ≤ x := hpos x List.mem_cons_self
      have hrest : 0 ≤ xs.sum := List.sum_nonneg fun y hy => hpos y (List.mem_cons_of_mem _ hy)
      rw [List.sum_cons] at hsum
      have hadd : Sat.add ⟨a, 0⟩ x = ⟨a + x, 0⟩ := Sat.add_of_abs (by omega) (by omega)
      rw [List.foldl_cons, hadd, ih (a + x) (by omega) (fun y hy => hpos y (List.mem_cons_of_mem _ hy)) (by omega),
        List.sum_cons, add_assoc]
  have hload : Sat.load 0 = ⟨0, 0⟩ := rfl
  rw [satSum, hload, hfold xs 0 le_rfl hpos (by omega), zero_add]

/-- The own extra without a saturation (R107). -/
theorem ownExtra_eq {short spare own : Int} (hshort : 0 ≤ short) (hown : 0 ≤ own) (hle : short ≤ 549755813887)
    (h : min short spare * own ≤ 549755813887) :
    ownExtra short spare own = ⟨if 0 < spare then min short spare * own / spare else 0, 0⟩ := by
  unfold ownExtra
  split
  next hspare =>
    have hmin : 0 ≤ min short spare := le_min hshort (le_of_lt hspare)
    have hload : Sat.load (min short spare) = ⟨min short spare, 0⟩ := Sat.load_of_abs (by omega) (by omega)
    have hmul : Sat.mul ⟨min short spare, 0⟩ own = ⟨min short spare * own, 0⟩ := Sat.mul_of_abs (by nlinarith) h
    rw [hload, hmul]
    rfl
  · rfl

theorem ownExtra_saturates {short spare own : Int} (hshort : 0 ≤ short) (hle : short ≤ 549755813887) (hspare : 0 ≤ spare)
    (h : 549755813887 < min short spare * own) : 0 < (ownExtra short spare own).hits := by
  have hpos : 0 < spare := by
    refine lt_of_le_of_ne hspare fun hzero => ?_
    rw [← hzero, min_eq_right hshort, zero_mul] at h
    exact absurd h (by decide)
  have hload : Sat.load (min short spare) = ⟨min short spare, 0⟩ := Sat.load_of_abs (by omega) (by omega)
  have hmul : (Sat.mul ⟨min short spare, 0⟩ own).hits = 1 := by
    unfold Sat.mul Sat.bound accumulatorEnd
    rw [if_pos h]
  unfold ownExtra
  rw [if_pos hpos, hload]
  exact hmul ▸ Nat.one_pos

/-! ## The split (R108) -/

/-- The split gives away at most 1 N of a force within both capacities. -/
theorem splitForce_sum {force c1 c2 : Nat} (h : force ≤ c1 + c2) :
    (splitForce force c1 c2).1 + (splitForce force c1 c2).2 ≤ force
      ∧ force ≤ (splitForce force c1 c2).1 + (splitForce force c1 c2).2 + 1 := by
  unfold splitForce
  split
  next hzero => exact ⟨Nat.zero_le _, by omega⟩
  next hsum =>
    have hparts : force * c1 / (c1 + c2) + force * c2 / (c1 + c2) ≤ force
        ∧ force ≤ force * c1 / (c1 + c2) + force * c2 / (c1 + c2) + 1 := by
      have htotal : force * c1 + force * c2 = force * (c1 + c2) := (Nat.mul_add _ _ _).symm
      have hpos : 0 < c1 + c2 := Nat.pos_of_ne_zero hsum
      have hdiv := Nat.add_div hpos (a := force * c1) (b := force * c2)
      rw [htotal, Nat.mul_div_cancel _ hpos] at hdiv
      split at hdiv <;> omega
    dsimp only
    split <;> omega

end Sys2Proof.Machine
end

section
/-! SUPPORT. A brake cycle: the own service force and the consist's shortfall (sections 5.2 and 6.3). -/

namespace Sys2Proof.Machine

variable {ps : List Part} {s t u v w : State} {m : Moment} {k : FaultKind} {p : Pinion} {target : Nat} {decel : Int}

/-! ## The gravity term (R86, R106) -/

theorem gravityEntry_le (k : Nat) : gravityEntry k ≤ 4387 := by
  have hmem : ∀ x ∈ gravityTable, x ≤ 4387 := by decide
  rw [gravityEntry, List.getD_eq_getElem?_getD]
  cases h : gravityTable[k]? with
  | none => exact Nat.zero_le _
  | some x => exact hmem x (List.mem_of_getElem? h)

theorem gravityMagnitude_le (g : Nat) : gravityMagnitude g ≤ 8774 := by
  unfold gravityMagnitude
  dsimp only
  have hlow := gravityEntry_le (g / 10)
  have hhigh := gravityEntry_le (g / 10 + 1)
  split
  · exact (gravityEntry_le 50).trans (by decide)
  · have hstep : (gravityEntry (g / 10 + 1) - gravityEntry (g / 10)) * (g % 10) ≤ 4387 * 10 :=
      Nat.mul_le_mul (by omega) (by omega)
    omega

theorem gravity_bounds (g : Int) : -8774 ≤ gravity g ∧ gravity g ≤ 8774 := by
  have hle := gravityMagnitude_le g.natAbs
  unfold gravity
  split <;> omega

theorem State.gravityTerm_bounds : -8774 ≤ s.gravityTerm ∧ s.gravityTerm ≤ 8774 := by
  have hhere := gravity_bounds s.rack.grade
  unfold State.gravityTerm State.gravityHere
  split <;> omega

/-! ## Needs and spares (R106) -/

/-- The requirement of a mass for a deceleration. -/
def needOf (decel : Int) (mass : Nat) : Int := max 0 ((mass : Int) * decel / 1000)

theorem shareOf_eq {mass capacity : Nat} (hmass : mass ≤ 6553500) (hlow : -11000 ≤ decel) (hhigh : decel ≤ 11000) :
    shareOf mass capacity decel = { need := needOf decel mass, capacity := capacity, hits := 0 } := by
  rw [shareOf, requirement_eq hmass hlow hhigh]
  rfl

/-- What the consist lacks. -/
def State.shortSum (decel : Int) (s : State) : Int :=
  max 0 (needOf decel s.doors.mass - s.serviceCapacity)
    + (s.consistPeers.map fun e => max 0 (needOf decel e.countedMass - e.countedCapacity)).sum

/-- What the own station can spare. -/
def State.ownSpare (decel : Int) (s : State) : Int := max 0 (s.serviceCapacity - needOf decel s.doors.mass)

/-- What the consist can spare. -/
def State.spareSum (decel : Int) (s : State) : Int :=
  s.ownSpare decel + (s.consistPeers.map fun e => max 0 (e.countedCapacity - needOf decel e.countedMass)).sum

theorem sum_map_le {α : Type} {f : α → Int} {bound : Int} {xs : List α} (hlength : xs.length ≤ 8) (hbound : 0 ≤ bound)
    (h : ∀ x ∈ xs, f x ≤ bound) : (xs.map f).sum ≤ 8 * bound := by
  have hsum : (xs.map f).sum ≤ (xs.map f).length • bound :=
    List.sum_le_card_nsmul _ _ fun y hy => by
      obtain ⟨x, hx, rfl⟩ := List.mem_map.mp hy
      exact h x hx
  rw [List.length_map, nsmul_eq_mul] at hsum
  have hlength' : (xs.length : Int) ≤ 8 := by omega
  nlinarith

theorem sum_map_nonneg {α : Type} {f : α → Int} {xs : List α} (h : ∀ x ∈ xs, 0 ≤ f x) : 0 ≤ (xs.map f).sum :=
  List.sum_nonneg fun y hy => by
    obtain ⟨x, hx, rfl⟩ := List.mem_map.mp hy
    exact h x hx

theorem State.consistPeers_length : s.consistPeers.length ≤ 8 := by
  have hle := List.length_filter_le PeerEntry.inSet s.peers.toList
  rwa [Vector.length_toList] at hle

theorem PeerEntry.countedMass_le {e : PeerEntry} (h : e.tare ≤ 6553500) : e.countedMass ≤ 6553500 := by
  have hmass := e.report.mass.isLt
  unfold PeerEntry.countedMass
  omega

theorem PeerEntry.countedCapacity_le (e : PeerEntry) : e.countedCapacity ≤ 6553500 := by
  have hcapacity := e.report.capacity.isLt
  unfold PeerEntry.countedCapacity
  split <;> omega

section Force

variable (hmass : s.doors.mass ≤ 65535) (hcapacity : s.serviceCapacity ≤ 1000000)
  (htares : ∀ e ∈ s.consistPeers, e.tare ≤ 6553500) (hlow : -11000 ≤ decel) (hhigh : decel ≤ 11000)

include hmass htares hhigh in
theorem State.shortSum_bounds : 0 ≤ s.shortSum decel ∧ s.shortSum decel ≤ 648796500 := by
  have hown : needOf decel s.doors.mass ≤ 72088500 := requirement_le (by omega) hhigh
  have hpeers : (s.consistPeers.map fun e => max 0 (needOf decel e.countedMass - e.countedCapacity)).sum ≤ 8 * 72088500 :=
    sum_map_le consistPeers_length (by decide) fun e he => by
      have hneed : needOf decel e.countedMass ≤ 72088500 :=
        requirement_le (PeerEntry.countedMass_le (htares e he)) hhigh
      omega
  have hnonneg : 0 ≤ (s.consistPeers.map fun e => max 0 (needOf decel e.countedMass - e.countedCapacity)).sum :=
    sum_map_nonneg fun e _ => le_max_left _ _
  unfold State.shortSum
  omega

include hcapacity in
theorem State.spareSum_bounds :
    0 ≤ s.ownSpare decel ∧ s.ownSpare decel ≤ 1000000 ∧ s.ownSpare decel ≤ s.spareSum decel
      ∧ s.spareSum decel ≤ 53428000 := by
  have hneed (mass : Nat) : 0 ≤ needOf decel mass := le_max_left _ _
  have hown := hneed s.doors.mass
  have hpeers : (s.consistPeers.map fun e => max 0 (e.countedCapacity - needOf decel e.countedMass)).sum ≤ 8 * 6553500 :=
    sum_map_le consistPeers_length (by decide) fun e _ => by
      have hcap := e.countedCapacity_le
      have hpos := hneed e.countedMass
      omega
  have hnonneg : 0 ≤ (s.consistPeers.map fun e => max 0 (e.countedCapacity - needOf decel e.countedMass)).sum :=
    sum_map_nonneg fun e _ => le_max_left _ _
  unfold State.spareSum State.ownSpare
  omega

/-- The own share of the consist's shortfall (R107). -/
def State.extraForce (decel : Int) (s : State) : Sat := ownExtra (s.shortSum decel) (s.spareSum decel) (s.ownSpare decel)

include hmass hcapacity htares hlow hhigh in
/-- In range only the own extra can saturate. -/
theorem State.serviceForce_eq (hdecel : (target : Int) + s.gravityTerm = decel) :
    (s.serviceForce target).val
        = min (s.serviceCapacity : Int)
          ((Sat.load (needOf decel s.doors.mass)).add (s.extraForce decel).val).val
      ∧ (s.serviceForce target).hits
        = (s.extraForce decel).hits + ((Sat.load (needOf decel s.doors.mass)).add (s.extraForce decel).val).hits := by
  obtain ⟨hshort0, hshort⟩ := shortSum_bounds hmass htares hhigh
  obtain ⟨hown0, -, hspare0, hspare⟩ := spareSum_bounds (decel := decel) hcapacity
  have hown : s.ownShare target = { need := needOf decel s.doors.mass, capacity := s.serviceCapacity, hits := 0 } := by
    rw [State.ownShare, hdecel, shareOf_eq (by omega) hlow hhigh]
  have hpeers : s.peerShares target = s.consistPeers.map fun e =>
      { need := needOf decel e.countedMass, capacity := e.countedCapacity, hits := 0 } := by
    rw [State.peerShares, hdecel]
    exact List.map_congr_left fun e he => shareOf_eq (PeerEntry.countedMass_le (htares e he)) hlow hhigh
  have hshorts : ((s.ownShare target :: s.peerShares target).map Share.short).sum = s.shortSum decel := by
    rw [hown, hpeers, List.map_cons, List.map_map, List.sum_cons]
    rfl
  have hspares : ((s.ownShare target :: s.peerShares target).map Share.spare).sum = s.spareSum decel := by
    rw [hown, hpeers, List.map_cons, List.map_map, List.sum_cons]
    rfl
  have hhits : ((s.ownShare target :: s.peerShares target).map fun x => x.hits).sum = 0 := by
    rw [hown, hpeers, List.map_cons, List.map_map, List.sum_cons]
    exact (zero_add _).trans (List.sum_eq_zero fun n hn => by
      obtain ⟨e, -, rfl⟩ := List.mem_map.mp hn
      rfl)
  have hshortSum : satSum ((s.ownShare target :: s.peerShares target).map Share.short) = ⟨s.shortSum decel, 0⟩ := by
    rw [← hshorts]
    refine satSum_eq _ (fun x hx => ?_) (by omega)
    obtain ⟨share, -, rfl⟩ := List.mem_map.mp hx
    exact le_max_left _ _
  have hspareSum : satSum ((s.ownShare target :: s.peerShares target).map Share.spare) = ⟨s.spareSum decel, 0⟩ := by
    rw [← hspares]
    refine satSum_eq _ (fun x hx => ?_) (by omega)
    obtain ⟨share, -, rfl⟩ := List.mem_map.mp hx
    exact le_max_left _ _
  have hspareOwn : (s.ownShare target).spare = s.ownSpare decel := by
    rw [hown]
    rfl
  have hneedOwn : (s.ownShare target).need = needOf decel s.doors.mass := by rw [hown]
  have hcapacityOwn : (s.ownShare target).capacity = s.serviceCapacity := by rw [hown]
  unfold State.serviceForce State.extraForce
  dsimp only
  rw [hhits, hshortSum, hspareSum, hspareOwn, hneedOwn, hcapacityOwn]
  refine ⟨rfl, ?_⟩
  dsimp only
  omega

/-- The share of the shortfall is beyond the accumulator. -/
def State.shareSaturates (decel : Int) (s : State) : Prop :=
  549755813887 < min (s.shortSum decel) (s.spareSum decel) * s.ownSpare decel

include hmass hcapacity htares hlow hhigh in
theorem State.serviceForce_of_share (hdecel : (target : Int) + s.gravityTerm = decel) (h : ¬s.shareSaturates decel) :
    (s.serviceForce target).val
        = min (s.serviceCapacity : Int)
          (needOf decel s.doors.mass
            + if 0 < s.spareSum decel then
                min (s.shortSum decel) (s.spareSum decel) * s.ownSpare decel / s.spareSum decel
              else 0)
      ∧ (s.serviceForce target).hits = 0 := by
  obtain ⟨hshort0, hshort⟩ := shortSum_bounds hmass htares hhigh
  obtain ⟨hown0, hown, hspare0, hspare⟩ := spareSum_bounds (decel := decel) hcapacity
  have hneed0 : 0 ≤ needOf decel s.doors.mass := le_max_left _ _
  have hneed : needOf decel s.doors.mass ≤ 72088500 := requirement_le (by omega) hhigh
  have hextra := ownExtra_eq hshort0 hown0 (by omega) (not_lt.mp h)
  have hextraBound : 0 ≤ (s.extraForce decel).val ∧ (s.extraForce decel).val ≤ 1000000 := by
    rw [State.extraForce, hextra]
    dsimp only
    split
    next hpos =>
      have hmin0 : 0 ≤ min (s.shortSum decel) (s.spareSum decel) := le_min hshort0 (le_of_lt hpos)
      have hmin : min (s.shortSum decel) (s.spareSum decel) ≤ s.spareSum decel := min_le_right _ _
      refine ⟨Int.ediv_nonneg (mul_nonneg hmin0 hown0) (le_of_lt hpos), ?_⟩
      have hle : min (s.shortSum decel) (s.spareSum decel) * s.ownSpare decel ≤ s.ownSpare decel * s.spareSum decel := by
        rw [mul_comm (s.ownSpare decel)]
        exact mul_le_mul_of_nonneg_right hmin hown0
      exact (Int.ediv_le_of_le_mul hpos hle).trans hown
    · omega
  have hforce : (Sat.load (needOf decel s.doors.mass)).add (s.extraForce decel).val
      = ⟨needOf decel s.doors.mass + (s.extraForce decel).val, 0⟩ := by
    rw [Sat.load_of_abs (by omega) (by omega)]
    exact Sat.add_of_abs (by omega) (by omega)
  obtain ⟨hval, hhits⟩ := serviceForce_eq hmass hcapacity htares hlow hhigh hdecel
  rw [hforce] at hval hhits
  refine ⟨?_, ?_⟩
  · rw [hval]
    dsimp only
    rw [State.extraForce, hextra]
  · rw [hhits]
    dsimp only
    rw [State.extraForce, hextra]

include hmass hcapacity htares hlow hhigh in
theorem State.serviceForce_saturates (hdecel : (target : Int) + s.gravityTerm = decel) (h : s.shareSaturates decel) :
    (s.serviceForce target).hits ≠ 0 := by
  obtain ⟨hshort0, hshort⟩ := shortSum_bounds hmass htares hhigh
  obtain ⟨hown0, hown, hspare0, hspare⟩ := spareSum_bounds (decel := decel) hcapacity
  have hextra : 0 < (s.extraForce decel).hits := ownExtra_saturates hshort0 (by omega) (by omega) h
  rw [(serviceForce_eq hmass hcapacity htares hlow hhigh hdecel).2]
  omega

end Force

end Sys2Proof.Machine
end

section
/-! SUPPORT. A brake cycle from its sharing on, and the values that the rules form (O46; section 6.3). -/

namespace Sys2Proof.Machine

variable {ps : List Part} {s t u v w : State} {m : Moment} {k : FaultKind} {p : Pinion} {target : Nat} {decel : Int}

/-! ## Counted values (R73, R74, R96, R103, R106) -/

theorem State.valuesFormed_holds (s : State) : s.valuesFormed := by
  refine ⟨rfl, rfl, ?_, ?_, fun e _ => ⟨rfl, fun hfresh => ?_, fun hstale => ?_⟩⟩
  · have hdirection : s.direction = if s.rack.standstill then Direction.none else s.rack.movingDir := rfl
    unfold State.gravityTerm State.gravityHere
    rw [hdirection]
    cases s.rack.standstill <;> cases s.rack.movingDir <;> rfl
  · exact List.filter_congr fun e _ => by cases h : e.state <;> simp [PeerEntry.inSet, h]
  · simp [PeerEntry.countedCapacity, PeerEntry.countedHolding, hfresh]
  · simp [PeerEntry.countedCapacity, PeerEntry.countedHolding, hstale]

theorem PinionBrake.capacity_core (b : PinionBrake) : b.core.capacity = b.capacity := rfl

theorem State.serviceCapacity_congr (hpresent : t.rack.present = s.rack.present) (hstraps : t.straps = s.straps)
    (hcore : ∀ p, (t.brake.pinions.get p).core = (s.brake.pinions.get p).core) : t.serviceCapacity = s.serviceCapacity := by
  have hcap (p : Pinion) : (t.brake.pinions.get p).capacity = (s.brake.pinions.get p).capacity := by
    rw [← PinionBrake.capacity_core, hcore p, PinionBrake.capacity_core]
  have hcap1 : t.brake.pinions.p1.capacity = s.brake.pinions.p1.capacity := hcap .p1
  have hcap2 : t.brake.pinions.p2.capacity = s.brake.pinions.p2.capacity := hcap .p2
  unfold State.serviceCapacity
  rw [hpresent, hstraps, hcap1, hcap2]

theorem State.gravityTerm_congr (h : t.rack = s.rack) : t.gravityTerm = s.gravityTerm := by
  unfold State.gravityTerm State.gravityHere State.direction
  rw [h]

/-! ## The last two steps (R102, R105 to R108) -/

/-- The state after the sharing and the modes. -/
def State.sharedOut (s : State) : State := s.sharingStep.modesStep

theorem State.sharedOut_stands :
    s.sharedOut.rack = s.rack ∧ s.sharedOut.peers = s.peers ∧ s.sharedOut.doors = s.doors ∧ s.sharedOut.pins = s.pins
      ∧ s.sharedOut.straps = s.straps ∧ s.sharedOut.station = s.station
      ∧ ∀ p, (s.sharedOut.brake.pinions.get p).core = (s.brake.pinions.get p).core := by
  have hstraps : s.sharedOut.straps = s.straps := straps_congr (by simp [State.sharedOut])
  have hshared : s.sharingStep.doors = s.doors := saturations_doors _
  have hdoors : s.sharedOut.doors = s.doors := by
    rw [← hshared]
    simp [State.sharedOut]
  exact ⟨by simp [State.sharedOut], by simp [State.sharedOut], hdoors, by simp [State.sharedOut], hstraps,
    by simp [State.sharedOut], fun p => by rw [State.sharedOut, modesStep_core, sharingStep_core]⟩

/-- The brake after the sharing, in some modes. -/
theorem State.sharedOut_brake :
    ∃ mode1 mode2 wheel, s.sharedOut.brake = s.forcesShared.brake.inModes mode1 mode2 wheel := by
  obtain ⟨mode1, mode2, wheel, hmodes⟩ := s.sharingStep.modesStep_inModes
  refine ⟨mode1, mode2, wheel, ?_⟩
  have hshared : s.sharingStep.brake = s.forcesShared.brake := sharingStep_brake
  rw [State.sharedOut, hmodes, hshared]
  rfl

theorem State.sharedOut_forces :
    s.sharedOut.brake.target = s.arbitrate ∧ s.sharedOut.brake.force = (s.serviceForce s.arbitrate).val.toNat
      ∧ s.sharedOut.brake.pinions.p1.split = s.pinionSplit.1 ∧ s.sharedOut.brake.pinions.p2.split = s.pinionSplit.2
      ∧ s.sharedOut.brake.cabDemand = s.brake.cabDemand ∧ s.sharedOut.brake.latch = s.brake.latch
      ∧ s.sharedOut.brake.ownPull = s.brake.ownPull ∧ s.sharedOut.brake.proof = s.brake.proof
      ∧ s.sharedOut.brake.applied = s.brake.applied ∧ s.sharedOut.brake.cycleStart = s.brake.cycleStart := by
  obtain ⟨mode1, mode2, wheel, hbrake⟩ := s.sharedOut_brake
  rw [hbrake]
  exact ⟨rfl, rfl, rfl, rfl, rfl, rfl, rfl, rfl, rfl, rfl⟩

theorem State.sharedOut_loopPulled : s.sharedOut.loopPulled = s.loopPulled := by
  obtain ⟨-, -, -, -, -, -, hpull, -⟩ := s.sharedOut_forces
  obtain ⟨-, -, -, hpins, -⟩ := s.sharedOut_stands
  rw [State.loopPulled, State.loopPulled, hpull, hpins]

/-- The modes of R102, read from the state that the sharing leaves. -/
theorem State.sharedOut_modes :
    s.sharedOut.brake
      = if s.brake.latch || s.loopPulled then s.forcesShared.brake.inModes .full .full .full
        else if s.brake.proof.state = .running then
          s.forcesShared.brake.inModes (testModes s.brake.proof.phase.tested).1 (testModes s.brake.proof.phase.tested).2 .full
        else if s.brake.applied then s.forcesShared.brake.inModes .full .full .full
        else if s.rack.present then
          s.forcesShared.brake.inModes (.service s.pinionSplit.1) (.service s.pinionSplit.2) (.service 0)
        else s.forcesShared.brake.inModes (.service 0) (.service 0) (.service (s.serviceForce s.arbitrate).val.toNat) := by
  have hshared : s.sharingStep.brake = s.forcesShared.brake := sharingStep_brake
  have hpins : s.sharingStep.pins = s.pins := by simp
  have hrack : s.sharingStep.rack = s.rack := by simp
  have hset (v : Brake) : (s.sharingStep.setBrake v).brake = v := rfl
  have hloop : s.sharingStep.loopPulled = s.loopPulled := by
    rw [State.loopPulled, State.loopPulled, hshared, hpins]
    rfl
  rw [State.sharedOut, modesStep_eq, hloop, hshared, hrack]
  simp only [apply_ite State.brake, hset]
  rfl

/-- The sharing's saturations are those of the service force (R84). -/
theorem State.sharedOut_arith :
    s.sharedOut.speed.arithLimit = (decide ((s.serviceForce s.arbitrate).hits ≠ 0) || s.speed.arithLimit)
      ∧ s.sharedOut.present .arithLimit
        = (decide ((s.serviceForce s.arbitrate).hits ≠ 0) || s.present .arithLimit) := by
  have hspeed : s.sharedOut.speed = s.sharingStep.speed := by simp [State.sharedOut]
  have hpresent : s.sharedOut.present .arithLimit = s.sharingStep.present .arithLimit :=
    present_congr (by simp [State.sharedOut]) _
  rw [hspeed, hpresent, sharingStep_eq]
  exact saturations_arith _

theorem State.sharedOut_present (h : k ≠ .arithLimit) : s.sharedOut.present k = s.present k := by
  have hpresent : s.sharedOut.present k = s.sharingStep.present k := present_congr (by simp [State.sharedOut]) _
  exact hpresent.trans (sharingStep_present h)

theorem State.sharedOut_classes : s.sharedOut.classA = s.classA ∧ s.sharedOut.classB = s.classB := by
  obtain ⟨-, -, -, -, hstraps, -⟩ := s.sharedOut_stands
  refine ⟨classA_congr hstraps fun k hk => sharedOut_present ?_, classB_congr hstraps fun k hk => sharedOut_present ?_⟩ <;>
    (rintro rfl; exact absurd hk nofun)

theorem State.brakeCycle_sharedOut : s.brakeCycle = s.beforeSharing.sharedOut := rfl

/-! ## The steps before the sharing -/

theorem State.beforeSharing_arith :
    s.beforeSharing.speed.arithLimit = s.heatedBoth.speed.arithLimit
      ∧ s.beforeSharing.present .arithLimit = s.heatedBoth.present .arithLimit := by
  obtain ⟨hflag, hpresent⟩ := s.energyStep_arith
  have hchecked : s.pinionsChecked.speed.arithLimit = s.energyStep.speed.arithLimit :=
    (failureStep_onlyChanges (s := s.energyStep) .arith).resolve_left (by decide)
  have hbefore : s.beforeSharing.speed.arithLimit = s.pinionsChecked.speed.arithLimit :=
    (beforeSharing_onlyChanges_checked .arith).resolve_left (by decide)
  refine ⟨hbefore.trans (hchecked.trans hflag), ?_⟩
  rw [← hpresent, State.beforeSharing, releaseStep_present (by decide)]
  have hstarted (u : State) : u.automaticStep.present .arithLimit = u.present .arithLimit := present_congr (by simp) _
  rw [hstarted, sampleStep_present (by decide) (by decide) (by decide), State.pinionsChecked]
  exact failureStep_present (by decide) (by decide)

theorem State.beforeSharing_brakeFade : s.beforeSharing.present .brakeFade = s.energyStep.present .brakeFade := by
  have hstarted (u : State) : u.automaticStep.present .brakeFade = u.present .brakeFade := present_congr (by simp) _
  rw [State.beforeSharing, releaseStep_present (by decide), hstarted,
    sampleStep_present (by decide) (by decide) (by decide), State.pinionsChecked]
  exact failureStep_present (by decide) (by decide)

theorem State.beforeSharing_pinionFailed (hidle : s.brake.proof.state ≠ .running) :
    s.beforeSharing.present .pinionFailed = s.pinionsChecked.present .pinionFailed := by
  have hstarted (u : State) : u.automaticStep.present .pinionFailed = u.present .pinionFailed := present_congr (by simp) _
  have hidle' : s.pinionsChecked.brake.proof.state ≠ .running := by rwa [s.pinionsChecked_testStands.1]
  rw [State.beforeSharing, releaseStep_present (by decide), hstarted, sampleStep_of_idle hidle']

theorem pinionsChecked_onlyChanges : onlyChanges (Part.also Part.ofClassB [.arith, .pinions]) s s.pinionsChecked := by
  have hheated : onlyChanges (Part.also Part.ofClassB [.arith, .pinions]) s s.heatedBoth :=
    heatedBoth_onlyChanges.mono (by decide)
  have hheatedStation : s.heatedBoth.station = s.station := by simp [State.heatedBoth]
  have henergies := hheated.trans (energyStep_onlyChanges_heated.mono (by decide)) hheatedStation
  exact henergies.trans (failureStep_onlyChanges.mono (by decide)) (by simp)

theorem beforeSharing_onlyChanges : onlyChanges (Part.also Part.ofCycle [.arith]) s s.beforeSharing :=
  (pinionsChecked_onlyChanges.mono (by decide)).trans (beforeSharing_onlyChanges_checked.mono (by decide))
    s.pinionsChecked_stands.2.2.1

theorem sharedOut_onlyChanges : onlyChanges [.sharing, .faults, .arith, .outputs] s s.sharedOut :=
  (sharingStep_onlyChanges.mono (by decide)).trans (modesStep_onlyChanges.mono (by decide)) (by simp)

theorem brakeCycle_onlyChanges :
    onlyChanges (Part.also Part.ofClassB [.arith, .sharing, .holding, .pinions, .outputs, .proof, .station]) s s.brakeCycle :=
  (beforeSharing_onlyChanges.mono (by decide)).trans_of_storing (sharedOut_onlyChanges.mono (by decide))
    State.beforeSharing_storing

theorem State.beforeSharing_stands :
    s.beforeSharing.rack = s.rack ∧ s.beforeSharing.peers = s.peers
      ∧ s.beforeSharing.brake.cabDemand = s.brake.cabDemand
      ∧ s.beforeSharing.speed.intervening = s.speed.intervening := by
  have hsupervision := (beforeSharing_onlyChanges (s := s) .supervision).resolve_left (by decide)
  obtain ⟨-, -, -, -, hintervening⟩ := hsupervision
  exact ⟨by simp [State.beforeSharing, State.pinionsChecked], by simp [State.beforeSharing, State.pinionsChecked],
    (beforeSharing_onlyChanges .demand).resolve_left (by decide), hintervening⟩

/-- A brake cycle's frame, where the station state may change. -/
theorem onlyChanges_of_effect_of_storing (h : onlyChanges ps (s.atMoment m) t)
    (hstoring : t.station.storing = s.station.storing) : onlyChanges ps s t.keepStore := by
  have hmoment : onlyChanges ps s (s.atMoment m) := (atMoment_onlyChanges m s).mono (List.nil_subset _)
  have hkeep : onlyChanges ps t t.keepStore := (keepStore_onlyChanges t).mono (List.nil_subset _)
  exact (hmoment.trans h rfl).trans_of_storing hkeep hstoring

end Sys2Proof.Machine
end

section
/-! SUPPORT. A brake cycle: its pinions, forces and modes (O46; sections 6.2 to 6.11). -/

namespace Sys2Proof.Machine

variable {ps : List Part} {s t u v w : State} {m : Moment} {k : FaultKind} {p : Pinion} {decel : Int}

/-! ## The pinions (R114 to R117) -/

/-- What a cycle makes of one pinion's record. -/
theorem State.brakeCycle_pinion (s : State) (p : Pinion) :
    ∃ gone, (s.brakeCycle.brake.pinions.get p).core = (s.cycledPinion p).unmarked gone
      ∧ (s.brake.proof.state ≠ .running → gone = false) := by
  obtain ⟨gone, hcore, hidle⟩ := s.beforeSharing_core p
  exact ⟨gone, (s.brakeCycle_core p).trans hcore, hidle⟩

theorem PinionBrake.fields_of_unmarked {b v : PinionBrake} {gone : Bool} (h : v.core = b.unmarked gone) :
    v.energy = b.energy ∧ v.derated = b.derated ∧ v.fade = b.fade ∧ v.failTimer = b.failTimer
      ∧ v.failed = (b.failed && !gone) :=
  ⟨show v.core.energy = (b.unmarked gone).energy by rw [h], show v.core.derated = (b.unmarked gone).derated by rw [h],
    show v.core.fade = (b.unmarked gone).fade by rw [h], show v.core.failTimer = (b.unmarked gone).failTimer by rw [h],
    show v.core.failed = (b.unmarked gone).failed by rw [h]⟩

/-- Energy, derated capacity and fade flag after a cycle are those of its first step. -/
theorem State.brakeCycle_heated (s : State) (p : Pinion) :
    (s.brakeCycle.brake.pinions.get p).energy = (s.energyOf p).val.toNat
      ∧ (s.brakeCycle.brake.pinions.get p).derated
        = deratedCapacity s.straps (s.brake.pinions.get p).failed (s.brakeCycle.brake.pinions.get p).energy
      ∧ (s.brakeCycle.brake.pinions.get p).fade
        = fadeAfter (s.brakeCycle.brake.pinions.get p).energy (s.brake.pinions.get p).fade
      ∧ (s.brakeCycle.brake.pinions.get p).fade = (s.heatedPinion p).fade := by
  obtain ⟨gone, hcore, -⟩ := s.brakeCycle_pinion p
  obtain ⟨henergy, hderated, hfade, -⟩ := PinionBrake.fields_of_unmarked hcore
  obtain ⟨henergy', hderated', hfade'⟩ :=
    PinionBrake.checked_stands (b := s.heatedPinion p) (feedback := s.feedbackOf p) (now := s.clock)
  have hheated : (s.brakeCycle.brake.pinions.get p).energy = (s.energyOf p).val.toNat := henergy.trans henergy'
  refine ⟨hheated, ?_, ?_, hfade.trans hfade'⟩
  · rw [hheated]
    exact hderated.trans hderated'
  · rw [hheated]
    exact hfade.trans hfade'

theorem State.brakeCycle_energy (henergy : (s.brake.pinions.get p).energy ≤ 2147483647) :
    (s.rack.present = false →
        (s.brakeCycle.brake.pinions.get p).energy = cooledEnergy (s.brake.pinions.get p).energy)
      ∧ (s.rack.present = true →
        (s.brakeCycle.brake.pinions.get p).energy
          = min 2147483647
            (cooledEnergy (s.brake.pinions.get p).energy + cycleHeat (s.feedbackOf p) s.rack.reported)) := by
  rw [(s.brakeCycle_heated p).1, State.energyOf]
  refine ⟨fun hoff => ?_, fun hon => ?_⟩
  · rw [hoff, energyAfter_off henergy]
    exact Int.toNat_natCast _
  · rw [hon, (energyAfter_on henergy).1]
    exact Int.toNat_natCast _

theorem State.brakeCycle_derated (s : State) (p : Pinion) :
    ((s.brake.pinions.get p).failed = true → (s.brakeCycle.brake.pinions.get p).derated = 0)
      ∧ ((s.brake.pinions.get p).failed = false →
        ((s.brakeCycle.brake.pinions.get p).energy ≤ 4000000 →
            (s.brakeCycle.brake.pinions.get p).derated = s.straps.pinionNominal)
          ∧ (4000000 < (s.brakeCycle.brake.pinions.get p).energy →
            (s.brakeCycle.brake.pinions.get p).energy < 12000000 →
            (s.brakeCycle.brake.pinions.get p).derated
              = s.straps.pinionNominal
                - s.straps.pinionNominal * ((s.brakeCycle.brake.pinions.get p).energy - 4000000) / 16000000)
          ∧ (12000000 ≤ (s.brakeCycle.brake.pinions.get p).energy →
            (s.brakeCycle.brake.pinions.get p).derated = s.straps.pinionNominal / 2)) := by
  obtain ⟨-, hderated, -⟩ := s.brakeCycle_heated p
  generalize s.brakeCycle.brake.pinions.get p = new at hderated ⊢
  refine ⟨fun hfailed => ?_, fun hok => ?_⟩
  · rw [hderated, hfailed, deratedCapacity_failed]
  · rw [hok] at hderated
    rw [hderated]
    exact deratedCapacity_eq _ _

theorem State.brakeCycle_brakeFade :
    ((∃ p, (s.brakeCycle.brake.pinions.get p).fade = true ∧ (s.brake.pinions.get p).fade = false) →
        s.brakeCycle.present .brakeFade = true)
      ∧ ((∀ p, (s.brakeCycle.brake.pinions.get p).fade = false) → s.brakeCycle.present .brakeFade = false) := by
  have hpresent : s.brakeCycle.present .brakeFade = s.energyStep.present .brakeFade := by
    rw [brakeCycle_sharedOut, sharedOut_present (by decide), beforeSharing_brakeFade]
  have hfade (p : Pinion) := (s.brakeCycle_heated p).2.2.2
  obtain ⟨hset, hclear⟩ := s.energyStep_brakeFade
  rw [hpresent]
  exact ⟨fun ⟨p, hnew, hold⟩ => hset ⟨p, (hfade p).symm.trans hnew, hold⟩,
    fun hnone => hclear fun p => (hfade p).symm.trans (hnone p)⟩

theorem State.brakeCycle_fade (s : State) (p : Pinion) :
    (12000000 ≤ (s.brakeCycle.brake.pinions.get p).energy →
        (s.brakeCycle.brake.pinions.get p).fade = true
          ∧ ((s.brake.pinions.get p).fade = false → s.brakeCycle.present .brakeFade = true))
      ∧ ((s.brakeCycle.brake.pinions.get p).energy < 10000000 → (s.brakeCycle.brake.pinions.get p).fade = false)
      ∧ (10000000 ≤ (s.brakeCycle.brake.pinions.get p).energy → (s.brakeCycle.brake.pinions.get p).energy < 12000000 →
        (s.brakeCycle.brake.pinions.get p).fade = (s.brake.pinions.get p).fade) := by
  obtain ⟨-, -, hfade, -⟩ := s.brakeCycle_heated p
  obtain ⟨hhigh, hlow, hbetween⟩ := fadeAfter_eq (s.brakeCycle.brake.pinions.get p).energy (s.brake.pinions.get p).fade
  exact ⟨fun h => ⟨hfade.trans (hhigh h), fun hold => brakeCycle_brakeFade.1 ⟨p, hfade.trans (hhigh h), hold⟩⟩,
    fun h => hfade.trans (hlow h), fun h h' => hfade.trans (hbetween h h')⟩

/-- A mark of an idle station's cycle is old or an occurrence. -/
theorem State.brakeCycle_pinionFailed (hidle : s.brake.proof.state ≠ .running)
    (hnew : (s.brakeCycle.brake.pinions.get p).failed = true) :
    (s.brake.pinions.get p).failed = true ∨ s.brakeCycle.present .pinionFailed = true := by
  obtain ⟨gone, hcore, -⟩ := s.brakeCycle_pinion p
  obtain ⟨-, -, -, -, hmark⟩ := PinionBrake.fields_of_unmarked hcore
  rw [hmark, Bool.and_eq_true] at hnew
  cases hold : (s.brake.pinions.get p).failed with
  | true => exact .inl rfl
  | false =>
    rw [brakeCycle_sharedOut, sharedOut_present (by decide), beforeSharing_pinionFailed hidle]
    exact .inr (pinionsChecked_pinionFailed_of_new hold hnew.1)

/-- The failure check of a cycle, from the pinion before it (R117). -/
theorem State.brakeCycle_check (s : State) (p : Pinion) :
    ((s.brake.pinions.get p).failsAt (s.feedbackOf p) = true → (s.brake.pinions.get p).failTimer = none →
        (s.brakeCycle.brake.pinions.get p).failTimer = some s.clock
          ∧ (s.brakeCycle.brake.pinions.get p).failed = false)
      ∧ (∀ start ∈ (s.brake.pinions.get p).failTimer, (s.brake.pinions.get p).failsAt (s.feedbackOf p) = true →
        s.clock < start + ms 1000 →
        (s.brakeCycle.brake.pinions.get p).failTimer = some start
          ∧ (s.brakeCycle.brake.pinions.get p).failed = false)
      ∧ (∀ start ∈ (s.brake.pinions.get p).failTimer, (s.brake.pinions.get p).failsAt (s.feedbackOf p) = true →
        start + ms 1000 ≤ s.clock →
        (s.brakeCycle.brake.pinions.get p).failTimer = none
          ∧ (s.brake.proof.state ≠ .running →
            (s.brakeCycle.brake.pinions.get p).failed = true ∧ s.brakeCycle.present .pinionFailed = true))
      ∧ ((s.brake.pinions.get p).failsAt (s.feedbackOf p) = false →
        (s.brakeCycle.brake.pinions.get p).failTimer = none
          ∧ (s.brake.proof.state ≠ .running →
            (s.brakeCycle.brake.pinions.get p).failed = (s.brake.pinions.get p).failed)) := by
  obtain ⟨gone, hcore, hgone⟩ := s.brakeCycle_pinion p
  obtain ⟨-, -, -, htimer, hmark⟩ := PinionBrake.fields_of_unmarked hcore
  have hfails : (s.heatedPinion p).failsAt (s.feedbackOf p) = (s.brake.pinions.get p).failsAt (s.feedbackOf p) := rfl
  have hold (h : (s.brake.pinions.get p).failsAt (s.feedbackOf p) = true) : (s.heatedPinion p).failed = false :=
    (PinionBrake.failsAt_iff.mp h).1
  refine ⟨fun h hnone => ?_, fun start hstart h hearly => ?_, fun start hstart h hdue => ?_, fun h => ?_⟩
  · rw [State.cycledPinion, PinionBrake.checked_of_start (hfails.trans h) hnone] at htimer hmark
    exact ⟨htimer, by rw [hmark, hold h, Bool.false_and]⟩
  · rw [State.cycledPinion, PinionBrake.checked_of_early (hfails.trans h) hstart hearly] at htimer hmark
    exact ⟨htimer.trans hstart, by rw [hmark, hold h, Bool.false_and]⟩
  · have hchecked := PinionBrake.checked_of_due (hfails.trans h) hstart hdue
    rw [State.cycledPinion, hchecked] at htimer hmark
    refine ⟨htimer, fun hidle => ?_⟩
    have hnew : (s.brakeCycle.brake.pinions.get p).failed = true := by rw [hmark, hgone hidle]; rfl
    have hstands : (s.brake.pinions.get p).failed = false := hold h
    exact ⟨hnew, (brakeCycle_pinionFailed hidle hnew).resolve_left (by rw [hstands]; decide)⟩
  · rw [State.cycledPinion, PinionBrake.checked_of_not (hfails.trans h)] at htimer hmark
    refine ⟨htimer, fun hidle => ?_⟩
    rw [hmark, hgone hidle, Bool.not_false, Bool.and_true]
    rfl

/-! ## The target (R105) -/

theorem State.brakeCycle_target :
    s.brakeCycle.brake.target
      = max s.brake.cabDemand
        (max (if s.speed.intervening then 600 else 0) (if s.brakeCycle.classA || s.brakeCycle.classB then 800 else 0)) := by
  obtain ⟨htarget, -⟩ := s.beforeSharing.sharedOut_forces
  obtain ⟨hA, hB⟩ := s.beforeSharing.sharedOut_classes
  obtain ⟨-, -, hdemand, hintervening⟩ := s.beforeSharing_stands
  rw [brakeCycle_sharedOut, htarget, hA, hB, State.arbitrate, hdemand, hintervening]

theorem State.brakeCycle_stands :
    s.brakeCycle.rack = s.rack ∧ s.brakeCycle.brake.cabDemand = s.brake.cabDemand
      ∧ s.brakeCycle.consistPeers = s.consistPeers ∧ s.brakeCycle.doors = s.beforeSharing.doors
      ∧ s.brakeCycle.gravityTerm = s.beforeSharing.gravityTerm
      ∧ s.brakeCycle.serviceCapacity = s.beforeSharing.serviceCapacity
      ∧ s.beforeSharing.consistPeers = s.consistPeers := by
  obtain ⟨hrack, hpeers, hdoors, -, hstraps, -, hcore⟩ := s.beforeSharing.sharedOut_stands
  obtain ⟨hrack', hpeers', hdemand', -⟩ := s.beforeSharing_stands
  obtain ⟨-, -, -, -, hdemand, -⟩ := s.beforeSharing.sharedOut_forces
  have hconsist (u : State) (h : u.peers = s.peers) : u.consistPeers = s.consistPeers := by
    rw [State.consistPeers, h]
    rfl
  rw [brakeCycle_sharedOut]
  exact ⟨hrack.trans hrack', hdemand.trans hdemand', hconsist _ (hpeers.trans hpeers'), hdoors, gravityTerm_congr hrack,
    serviceCapacity_congr (congrArg Rack.present hrack) hstraps hcore, hconsist _ hpeers'⟩

theorem State.brakeCycle_force_le : s.brakeCycle.brake.force ≤ s.brakeCycle.serviceCapacity := by
  obtain ⟨-, -, -, -, -, hcapacity, -⟩ := s.brakeCycle_stands
  obtain ⟨-, hforce, -⟩ := s.beforeSharing.sharedOut_forces
  rw [hcapacity, brakeCycle_sharedOut, hforce]
  exact serviceForce_le _ _

/-! ## The shares (R106, R107) -/

/-- The arithmetic-limit flag and its condition after a cycle (R84). -/
theorem State.brakeCycle_arith :
    s.brakeCycle.speed.arithLimit
        = (decide ((s.beforeSharing.serviceForce s.beforeSharing.arbitrate).hits ≠ 0) || s.heatedBoth.speed.arithLimit)
      ∧ s.brakeCycle.present .arithLimit
        = (decide ((s.beforeSharing.serviceForce s.beforeSharing.arbitrate).hits ≠ 0)
          || s.heatedBoth.present .arithLimit) := by
  obtain ⟨hflag, hpresent⟩ := s.beforeSharing.sharedOut_arith
  obtain ⟨hflag', hpresent'⟩ := s.beforeSharing_arith
  rw [hflag'] at hflag
  rw [hpresent'] at hpresent
  exact ⟨hflag, hpresent⟩

/-- The energy updates of a cycle saturate. -/
def State.heatSaturates (s : State) : Prop := ∃ p, (s.energyOf p).hits ≠ 0

theorem State.heatedBoth_of_saturates (h : s.heatSaturates) :
    s.heatedBoth.speed.arithLimit = true ∧ s.heatedBoth.present .arithLimit = true := by
  obtain ⟨hflag, hpresent⟩ := s.heatedBoth_arith
  obtain ⟨p, hp⟩ := h
  rw [hflag, hpresent]
  cases p <;> simp [hp]

theorem State.heatedBoth_of_not (h : ¬s.heatSaturates) :
    s.heatedBoth.speed.arithLimit = s.speed.arithLimit ∧ s.heatedBoth.present .arithLimit = s.present .arithLimit := by
  obtain ⟨hflag, hpresent⟩ := s.heatedBoth_arith
  have hzero (p : Pinion) : (s.energyOf p).hits = 0 := not_not.mp fun hp => h ⟨p, hp⟩
  rw [hflag, hpresent, hzero, hzero]
  exact ⟨rfl, rfl⟩

/-- The places of R114 in which an energy update saturates. -/
theorem State.heatSaturates_iff (henergies : ∀ p, (s.brake.pinions.get p).energy ≤ 2147483647) :
    s.heatSaturates
      ↔ s.rack.present = true ∧ ∃ p, 549755813887 < s.feedbackOf p ∨ 549755813887 < s.feedbackOf p * s.rack.reported
        ∨ 2147483647 < cooledEnergy (s.brake.pinions.get p).energy + cycleHeat (s.feedbackOf p) s.rack.reported := by
  unfold State.heatSaturates State.energyOf
  cases hpresent : s.rack.present with
  | false => simp [energyAfter_off (henergies _)]
  | true => simp only [(energyAfter_on (henergies _)).2, true_and]

end Sys2Proof.Machine
end

section
/-! SUPPORT. A brake cycle: its shares, split and modes (O46; sections 6.2 to 6.4). -/

namespace Sys2Proof.Machine

variable {ps : List Part} {s t u v w : State} {m : Moment} {k : FaultKind} {p : Pinion} {decel : Int}

/-! ## The own force (R106, R107) -/

theorem State.shares_congr (hmass : t.doors = s.doors) (hcapacity : t.serviceCapacity = s.serviceCapacity)
    (hpeers : t.consistPeers = s.consistPeers) :
    t.shortSum decel = s.shortSum decel ∧ t.ownSpare decel = s.ownSpare decel ∧ t.spareSum decel = s.spareSum decel
      ∧ (t.shareSaturates decel ↔ s.shareSaturates decel) := by
  have hshort : t.shortSum decel = s.shortSum decel := by rw [State.shortSum, State.shortSum, hmass, hcapacity, hpeers]
  have hown : t.ownSpare decel = s.ownSpare decel := by rw [State.ownSpare, State.ownSpare, hmass, hcapacity]
  have hspare : t.spareSum decel = s.spareSum decel := by rw [State.spareSum, State.spareSum, hown, hpeers]
  exact ⟨hshort, hown, hspare, by rw [State.shareSaturates, State.shareSaturates, hshort, hown, hspare]⟩

/-- The deceleration with its gravity term, mm/s². -/
def State.neededDecel (s : State) : Int := (s.brake.target : Int) + s.gravityTerm

theorem State.brakeCycle_target_le (h : s.brake.cabDemand ≤ 2000) : s.brakeCycle.brake.target ≤ 2000 := by
  rw [brakeCycle_target]
  split <;> split <;> omega

/-- The own force with its own share of the shortfall, within the accumulator (R106, R107). -/
def State.sharedForce (decel : Int) (s : State) : Int :=
  min (s.serviceCapacity : Int)
    (needOf decel s.doors.mass
      + if 0 < s.spareSum decel then min (s.shortSum decel) (s.spareSum decel) * s.ownSpare decel / s.spareSum decel
        else 0)

theorem State.sharedForce_nonneg (hmass : s.doors.mass ≤ 65535) (hcapacity : s.serviceCapacity ≤ 1000000)
    (htares : ∀ e ∈ s.consistPeers, e.tare ≤ 6553500) (hhigh : decel ≤ 11000) : 0 ≤ s.sharedForce decel := by
  obtain ⟨hshort0, -⟩ := shortSum_bounds hmass htares hhigh
  obtain ⟨hown0, -, hspare0, -⟩ := spareSum_bounds (decel := decel) hcapacity
  have hneed0 : 0 ≤ needOf decel s.doors.mass := le_max_left _ _
  unfold State.sharedForce
  refine le_min (Int.natCast_nonneg _) (add_nonneg hneed0 ?_)
  split
  next hpos => exact Int.ediv_nonneg (mul_nonneg (le_min hshort0 (le_of_lt hpos)) hown0) (le_of_lt hpos)
  · exact le_rfl

theorem State.brakeCycle_share (hdemand : s.brake.cabDemand ≤ 2000) (hmass : s.brakeCycle.doors.mass ≤ 65535)
    (hcapacity : s.brakeCycle.serviceCapacity ≤ 1000000) (htares : ∀ e ∈ s.consistPeers, e.tare ≤ 6553500) :
    (¬s.brakeCycle.shareSaturates s.brakeCycle.neededDecel →
        (s.brakeCycle.brake.force : Int) = s.brakeCycle.sharedForce s.brakeCycle.neededDecel
          ∧ (¬s.heatSaturates →
            s.brakeCycle.speed.arithLimit = s.speed.arithLimit
              ∧ s.brakeCycle.present .arithLimit = s.present .arithLimit))
      ∧ (s.brakeCycle.shareSaturates s.brakeCycle.neededDecel →
        s.brakeCycle.speed.arithLimit = true ∧ s.brakeCycle.present .arithLimit = true) := by
  obtain ⟨-, -, hpeers, hdoors, hterm, hcap, hpeers'⟩ := s.brakeCycle_stands
  obtain ⟨htarget, hforce, -⟩ := s.beforeSharing.sharedOut_forces
  rw [← brakeCycle_sharedOut] at htarget hforce
  obtain ⟨hshort, hown, hspare, hsaturates⟩ :=
    shares_congr (decel := s.brakeCycle.neededDecel) hdoors hcap (hpeers.trans hpeers'.symm)
  have hbounds := s.brakeCycle.gravityTerm_bounds
  have hle := brakeCycle_target_le hdemand
  have hlow : -11000 ≤ s.brakeCycle.neededDecel := by
    unfold State.neededDecel
    omega
  have hhigh : s.brakeCycle.neededDecel ≤ 11000 := by
    unfold State.neededDecel
    omega
  have hdecel : (s.beforeSharing.arbitrate : Int) + s.beforeSharing.gravityTerm = s.brakeCycle.neededDecel := by
    rw [State.neededDecel, htarget, hterm]
  have hmass' : s.beforeSharing.doors.mass ≤ 65535 := hdoors ▸ hmass
  have hcapacity' : s.beforeSharing.serviceCapacity ≤ 1000000 := hcap ▸ hcapacity
  have htares' : ∀ e ∈ s.beforeSharing.consistPeers, e.tare ≤ 6553500 := hpeers' ▸ htares
  have hshared : s.brakeCycle.sharedForce s.brakeCycle.neededDecel
      = s.beforeSharing.sharedForce s.brakeCycle.neededDecel := by
    rw [State.sharedForce, State.sharedForce, hshort, hown, hspare, hcap, hdoors]
  obtain ⟨hflag, hpresent⟩ := s.brakeCycle_arith
  rw [hsaturates, hshared]
  refine ⟨fun hfits => ?_, fun hover => ?_⟩
  · obtain ⟨hval, hhits⟩ := serviceForce_of_share hmass' hcapacity' htares' hlow hhigh hdecel hfits
    refine ⟨?_, fun hcool => ?_⟩
    · rw [hforce, hval]
      exact Int.toNat_of_nonneg (sharedForce_nonneg hmass' hcapacity' htares' hhigh)
    · obtain ⟨hflag', hpresent'⟩ := heatedBoth_of_not hcool
      rw [hflag, hpresent, hhits, hflag', hpresent']
      exact ⟨rfl, rfl⟩
  · have hhits := serviceForce_saturates hmass' hcapacity' htares' hlow hhigh hdecel hover
    rw [hflag, hpresent, decide_eq_true hhits]
    exact ⟨rfl, rfl⟩

theorem State.brakeCycle_of_heat (h : s.heatSaturates) :
    s.brakeCycle.speed.arithLimit = true ∧ s.brakeCycle.present .arithLimit = true := by
  obtain ⟨hflag, hpresent⟩ := s.brakeCycle_arith
  obtain ⟨hflag', hpresent'⟩ := heatedBoth_of_saturates h
  rw [hflag, hpresent, hflag', hpresent', Bool.or_true]
  exact ⟨rfl, rfl⟩

/-! ## The split (R108) -/

theorem State.brakeCycle_capacities :
    s.beforeSharing.brake.pinions.p1.capacity = s.brakeCycle.brake.pinions.p1.capacity
      ∧ s.beforeSharing.brake.pinions.p2.capacity = s.brakeCycle.brake.pinions.p2.capacity := by
  have hcap (p : Pinion) : (s.beforeSharing.brake.pinions.get p).capacity = (s.brakeCycle.brake.pinions.get p).capacity := by
    rw [← PinionBrake.capacity_core, ← brakeCycle_core, PinionBrake.capacity_core]
  exact ⟨hcap .p1, hcap .p2⟩

theorem State.brakeCycle_split :
    (s.brakeCycle.rack.present = true →
        s.brakeCycle.brake.pinions.p1.split
            = (splitForce s.brakeCycle.brake.force s.brakeCycle.brake.pinions.p1.capacity
              s.brakeCycle.brake.pinions.p2.capacity).1
          ∧ s.brakeCycle.brake.pinions.p2.split
            = (splitForce s.brakeCycle.brake.force s.brakeCycle.brake.pinions.p1.capacity
              s.brakeCycle.brake.pinions.p2.capacity).2
          ∧ s.brakeCycle.brake.force
            ≤ s.brakeCycle.brake.pinions.p1.capacity + s.brakeCycle.brake.pinions.p2.capacity)
      ∧ (s.brakeCycle.rack.present = false →
        s.brakeCycle.brake.pinions.p1.split = 0 ∧ s.brakeCycle.brake.pinions.p2.split = 0) := by
  obtain ⟨hrack, -⟩ := s.brakeCycle_stands
  obtain ⟨hrack', -⟩ := s.beforeSharing_stands
  obtain ⟨-, hforce, hsplit1, hsplit2, -⟩ := s.beforeSharing.sharedOut_forces
  rw [← brakeCycle_sharedOut] at hforce hsplit1 hsplit2
  obtain ⟨hcap1, hcap2⟩ := s.brakeCycle_capacities
  have hle := s.brakeCycle_force_le
  rw [State.pinionSplit, hrack', ← hforce, hcap1, hcap2] at hsplit1 hsplit2
  rw [hrack]
  refine ⟨fun hon => ?_, fun hoff => ?_⟩
  · rw [if_pos hon] at hsplit1 hsplit2
    refine ⟨hsplit1, hsplit2, ?_⟩
    rwa [State.serviceCapacity, hrack, if_pos hon] at hle
  · rw [hoff] at hsplit1 hsplit2
    exact ⟨hsplit1, hsplit2⟩

theorem splitForce_eq (force c1 c2 : Nat) :
    splitForce force c1 c2
      = (if c1 + c2 = 0 then 0
          else if force * c1 / (c1 + c2) + (force - force * c1 / (c1 + c2) - force * c2 / (c1 + c2)) ≤ c1 then
            force * c1 / (c1 + c2) + (force - force * c1 / (c1 + c2) - force * c2 / (c1 + c2))
          else force * c1 / (c1 + c2),
        if c1 + c2 = 0 then 0 else force * c2 / (c1 + c2)) := by
  unfold splitForce
  split <;> rfl

/-! ## The modes (R102) -/

theorem State.brakeCycle_modes :
    (s.brakeCycle.brake.latch = true ∨ s.brakeCycle.loopPulled = true → s.brakeCycle.brake.outputsFull)
      ∧ (s.brakeCycle.brake.latch = false → s.brakeCycle.loopPulled = false →
        s.brakeCycle.brake.proof.state = .running →
        s.brakeCycle.brake.wheel = .full
          ∧ s.brakeCycle.brake.pinions.p1.mode = (testModes s.brakeCycle.brake.proof.phase.tested).1
          ∧ s.brakeCycle.brake.pinions.p2.mode = (testModes s.brakeCycle.brake.proof.phase.tested).2)
      ∧ (s.brakeCycle.brake.latch = false → s.brakeCycle.loopPulled = false →
        s.brakeCycle.brake.proof.state ≠ .running → s.brakeCycle.brake.applied = true → s.brakeCycle.brake.outputsFull)
      ∧ (s.brakeCycle.brake.latch = false → s.brakeCycle.loopPulled = false →
        s.brakeCycle.brake.proof.state ≠ .running → s.brakeCycle.brake.applied = false →
        (s.brakeCycle.rack.present = true →
            s.brakeCycle.brake.pinions.p1.mode = .service s.brakeCycle.brake.pinions.p1.split
              ∧ s.brakeCycle.brake.pinions.p2.mode = .service s.brakeCycle.brake.pinions.p2.split
              ∧ s.brakeCycle.brake.wheel = .service 0)
          ∧ (s.brakeCycle.rack.present = false →
            s.brakeCycle.brake.pinions.p1.mode = .service 0 ∧ s.brakeCycle.brake.pinions.p2.mode = .service 0
              ∧ s.brakeCycle.brake.wheel = .service s.brakeCycle.brake.force)) := by
  rw [brakeCycle_sharedOut]
  generalize s.beforeSharing = u
  obtain ⟨-, hforce, hsplit1, hsplit2, -, hlatch, -, hproof, happlied, -⟩ := u.sharedOut_forces
  obtain ⟨hrack, -⟩ := u.sharedOut_stands
  have hmodes := u.sharedOut_modes
  rw [u.sharedOut_loopPulled, hlatch, hproof, happlied, hrack, hforce, hsplit1, hsplit2]
  refine ⟨fun hpulled => ?_, fun hl hp hrunning => ?_, fun hl hp hidle hheld => ?_,
    fun hl hp hidle hfree => ⟨fun hon => ?_, fun hoff => ?_⟩⟩
  · rw [if_pos (by simpa using hpulled)] at hmodes
    rw [hmodes]
    exact ⟨rfl, rfl, rfl⟩
  · rw [hl, hp, if_neg nofun, if_pos hrunning] at hmodes
    rw [hmodes]
    exact ⟨rfl, rfl, rfl⟩
  · rw [hl, hp, if_neg nofun, if_neg hidle, if_pos hheld] at hmodes
    rw [hmodes]
    exact ⟨rfl, rfl, rfl⟩
  · rw [hl, hp, if_neg nofun, if_neg hidle, hfree, if_neg nofun, if_pos hon] at hmodes
    rw [hmodes]
    exact ⟨rfl, rfl, rfl⟩
  · rw [hl, hp, if_neg nofun, if_neg hidle, hfree, if_neg nofun, hoff, if_neg nofun] at hmodes
    rw [hmodes]
    exact ⟨rfl, rfl, rfl⟩

end Sys2Proof.Machine
end

section
/-! SUPPORT. A brake cycle: the command (O46; section 6.3). -/

namespace Sys2Proof.Machine

variable {ps : List Part} {s t u v w : State} {m : Moment} {k : FaultKind} {p : Pinion} {decel : Int}

/-- A forced reading of the store leaves what a cycle's rules form. -/
theorem State.keepStore_formed :
    s.keepStore.serviceCapacity = s.serviceCapacity ∧ s.keepStore.gravityTerm = s.gravityTerm
      ∧ s.keepStore.rack = s.rack ∧ s.keepStore.loopPulled = s.loopPulled ∧ s.keepStore.classB = s.classB := by
  have hrack : s.keepStore.rack = s.rack := by simp
  have hcapacity : s.keepStore.serviceCapacity = s.serviceCapacity :=
    serviceCapacity_congr (by rw [hrack]) keepStore_straps fun p => by rw [keepStore_brake]
  refine ⟨hcapacity, gravityTerm_congr hrack, hrack, ?_, classB_congr keepStore_straps fun k _ => keepStore_present k⟩
  rw [State.loopPulled, State.loopPulled, keepStore_brake, keepStore_pins]

theorem begunAt_cycle_onlyChanges (m : Moment) (s : State) :
    onlyChanges (Part.also Part.ofClassB [.arith, .sharing, .holding, .pinions, .outputs, .proof, .station]) s
      (s.begunAt m).brakeCycle.keepStore := by
  have hbegun : onlyChanges (Part.also Part.ofClassB [.arith, .sharing, .holding, .pinions, .outputs, .proof, .station])
      (s.atMoment m) (s.begunAt m) := cycleBegun_onlyChanges.mono (by decide)
  refine onlyChanges_of_effect_of_storing (hbegun.trans brakeCycle_onlyChanges rfl) ?_
  rw [State.brakeCycle_sharedOut, State.sharedOut_stands.2.2.2.2.2.1, State.beforeSharing_storing]
  rfl

theorem State.brakeCycle_cycleStart : s.brakeCycle.brake.cycleStart = s.brake.cycleStart := by
  obtain ⟨-, -, -, -, -, -, -, -, -, hstart⟩ := s.beforeSharing.sharedOut_forces
  have hsharing := (beforeSharing_onlyChanges (s := s) .sharing).resolve_left (by decide)
  obtain ⟨hbefore, -⟩ := hsharing
  rw [brakeCycle_sharedOut, hstart, hbefore]

/-- The sums of the sharing, written out over the consist set (R106). -/
theorem State.sums_eq {peers : List PeerEntry} (h : s.consistPeers = peers) :
    s.shortSum decel
        = max 0 (needOf decel s.doors.mass - s.serviceCapacity)
          + (peers.map fun e => max 0 (needOf decel e.countedMass - e.countedCapacity)).sum
      ∧ s.spareSum decel
        = max 0 (s.serviceCapacity - needOf decel s.doors.mass)
          + (peers.map fun e => max 0 (e.countedCapacity - needOf decel e.countedMass)).sum := by
  subst h
  exact ⟨rfl, rfl⟩

/-- Settles O46: the steps of a cycle, from the energies to the modes. -/
theorem brakeCycleSharesAndCommands : Obligations.BrakeCycleSharesAndCommands := by
  intro m s hrun hdue nominal read cooled heat heatSaturates
  have hread (p : Pinion) : (s.begunAt m).feedbackOf p = read p := by cases p <;> rfl
  obtain ⟨hcapacity, hterm, hrack, hloop, hclassB⟩ := (s.begunAt m).brakeCycle.keepStore_formed
  obtain ⟨-, hdemand, hpeersAfter, -⟩ := (s.begunAt m).brakeCycle_stands
  have hpinion (p : Pinion) : (s.begunAt m).brake.pinions.get p = s.brake.pinions.get p := rfl
  have hproof : (s.begunAt m).brake.proof = s.brake.proof := rfl
  have hstraps : (s.begunAt m).straps = s.straps := rfl
  have hreported : (s.begunAt m).rack = s.rack := rfl
  have hclock : (s.begunAt m).clock = s.instant m := rfl
  have hheat (henergies : ∀ p, (s.brake.pinions.get p).energy ≤ 2147483647) :
      (s.begunAt m).heatSaturates ↔ heatSaturates := by
    rw [State.heatSaturates_iff (s := s.begunAt m) henergies]
    refine and_congr Iff.rfl ⟨fun ⟨p, hp⟩ => ⟨p, by cases p <;> simp, ?_⟩, fun ⟨p, _, hp⟩ => ⟨p, ?_⟩⟩
    · rwa [hread] at hp
    · rwa [hread]
  refine ⟨_, exec_brakeCycle_begun hrun hdue, ?_⟩
  simp only [State.keepStore_brake, State.keepStore_present, hcapacity, hterm, hrack, hloop, hclassB,
    State.keepStore_classA, State.keepStore_speed, keepStore_doors]
  refine ⟨?_, State.valuesFormed_holds _, fun p henergy => ?_, fun p => ?_, fun hnone => ?_, State.brakeCycle_target, hdemand,
    State.brakeCycle_force_le, fun hcab hmass hcap htares => ?_, fun henergies hsaturates => ?_, fun hon => ?_, ?_, ?_, ?_, ?_, ?_,
    begunAt_cycle_onlyChanges m s⟩
  · exact State.brakeCycle_cycleStart
  · obtain ⟨hoff, hon⟩ := State.brakeCycle_energy (s := s.begunAt m) (p := p) henergy
    obtain ⟨hfailed, hok⟩ := (s.begunAt m).brakeCycle_derated p
    obtain ⟨hhigh, hlow, hbetween⟩ := (s.begunAt m).brakeCycle_fade p
    have hmark := State.brakeCycle_pinionFailed (s := s.begunAt m) (p := p)
    rw [hpinion, hreported] at hoff
    rw [hpinion, hreported, hread] at hon
    rw [hpinion] at hfailed hhigh hbetween
    rw [hpinion, hstraps] at hok
    rw [hpinion, hproof] at hmark
    exact ⟨hoff, hon, hfailed, hok, hhigh, hlow, hbetween, hmark⟩
  · obtain ⟨hstart, hearly, hlate, hpasses⟩ := (s.begunAt m).brakeCycle_check p
    rw [hpinion, hread, hclock] at hstart hearly hlate
    rw [hpinion, hread] at hpasses
    rw [hproof] at hlate hpasses
    exact ⟨fun hfails => hstart (PinionBrake.failsAt_iff.mpr hfails),
      fun start htimer hfails => hearly start htimer (PinionBrake.failsAt_iff.mpr hfails),
      fun start htimer hfails => hlate start htimer (PinionBrake.failsAt_iff.mpr hfails),
      fun hnot => hpasses (Bool.eq_false_iff.mpr fun hfails => hnot (PinionBrake.failsAt_iff.mp hfails))⟩
  · refine (s.begunAt m).brakeCycle_brakeFade.2 fun p => ?_
    cases p with
    | p1 => rw [PerPinion.get_p1, hnone.1]
    | p2 => rw [PerPinion.get_p2, hnone.2]
  · have hpeers : (s.begunAt m).consistPeers = s.consistPeers := rfl
    have htares' : ∀ e ∈ (s.begunAt m).consistPeers, e.tare ≤ 6553500 := by rwa [hpeers]
    obtain ⟨hfits, hover⟩ := State.brakeCycle_share (s := s.begunAt m) hcab hmass hcap htares'
    obtain ⟨hshort, hspare⟩ := State.sums_eq (decel := (s.begunAt m).brakeCycle.neededDecel) (hpeersAfter.trans hpeers)
    rw [State.shareSaturates, hshort, hspare, State.ownSpare] at hfits hover
    rw [State.sharedForce, hshort, hspare, State.ownSpare] at hfits
    exact ⟨fun hnot => (hfits hnot).1, hover, fun henergies hnot hcool => (hfits hnot).2 (mt (hheat henergies).mp hcool)⟩
  · exact State.brakeCycle_of_heat ((hheat henergies).mpr hsaturates)
  · obtain ⟨hsplit1, hsplit2, hle⟩ := (s.begunAt m).brakeCycle_split.1 hon
    obtain ⟨hwithin1, hwithin2⟩ := splitForce_le hle
    obtain ⟨hgiven, hkept⟩ := splitForce_sum hle
    rw [← hsplit1] at hwithin1 hgiven hkept
    rw [← hsplit2] at hwithin2 hgiven hkept
    rw [splitForce_eq] at hsplit1 hsplit2
    dsimp only at hsplit1 hsplit2
    exact ⟨hsplit1, hsplit2, hwithin1, hwithin2, hgiven, hkept⟩
  · exact (s.begunAt m).brakeCycle_split.2
  · exact (s.begunAt m).brakeCycle_modes.1
  · refine fun hlatch hpulled hrunning => ?_
    obtain ⟨hwheel, hmode1, hmode2⟩ := (s.begunAt m).brakeCycle_modes.2.1 hlatch hpulled hrunning
    exact ⟨hwheel, fun htested => ⟨by rw [hmode1, htested]; rfl, by rw [hmode2, htested]; rfl⟩,
      fun htested => ⟨by rw [hmode1, htested]; rfl, by rw [hmode2, htested]; rfl⟩⟩
  · exact (s.begunAt m).brakeCycle_modes.2.2.1
  · exact (s.begunAt m).brakeCycle_modes.2.2.2

end Sys2Proof.Machine
end

section
/-! SUPPORT. A supervision computation: what its judgements and limits change (sections 5.3 to 5.6). -/

namespace Sys2Proof.Machine

variable {ps : List Part} {s t u v w : State} {m : Moment} {j k : FaultKind} {net : Int} {speed : Nat}

/-! ## A class A or B condition at the limits (R94, R95) -/

theorem foldl_min_zero (xs : List Nat) : xs.foldl min 0 = 0 :=
  Nat.le_zero.mp (foldl_min_le xs 0).1

theorem State.lowerLimit_zero : (s.lowerLimit 0).speed.localLimit = 0 ∧ (s.lowerLimit 0).speed.enforced = 0 := by
  have hlimit : (s.lowerLimit 0).speed.localLimit = 0 := Nat.min_zero _
  refine ⟨hlimit, ?_⟩
  have henforced : (s.lowerLimit 0).speed.enforced
      = (s.consistPeers.map fun e => e.report.localLimit.toNat).foldl min (s.lowerLimit 0).speed.localLimit := rfl
  rw [henforced, hlimit, foldl_min_zero]

/-- A class A or B condition that becomes present takes both limits to 0. -/
theorem State.raise_limits (h : faultClassOf s.straps.strict k ≠ .c) (habsent : s.present k = false) :
    (s.raise k).speed.localLimit = 0 ∧ (s.raise k).speed.enforced = 0 := by
  have hretest (u : State) : u.retestPermits.speed = u.speed := by simp
  have hreact : (s.recordOccurrence k).straps.strict = s.straps.strict := rfl
  rw [State.raise, if_neg (by rw [habsent]; decide), State.react, hreact]
  split
  · rw [hretest]
    exact lowerLimit_zero
  · rw [hretest]
    exact lowerLimit_zero
  next hc => exact absurd hc h

/-! ## HOLD_INADEQUATE (R89) -/

theorem judgeHoldInadequate_onlyChanges : onlyChanges Part.ofClassA s (s.judgeHoldInadequate net) := by
  unfold State.judgeHoldInadequate
  split
  · split
    · exact onlyChanges_refl _ _
    · exact raise_onlyChanges _
  · exact (clear_onlyChanges_ofClassB _).mono (by decide)

theorem State.judgeHoldInadequate_present :
    (s.judgeHoldInadequate net).present .holdInadequate = decide (net ≤ 0 ∧ s.rack.standstill = false) := by
  unfold State.judgeHoldInadequate
  split
  next h =>
    rw [decide_eq_true h]
    split
    · assumption
    · exact raise_present_self _
  next h =>
    rw [decide_eq_false h]
    exact clear_present_self _ _

theorem State.judgeHoldInadequate_present_of_ne (hk : k ≠ .holdInadequate) (hload : k ≠ .loadSensor) :
    (s.judgeHoldInadequate net).present k = s.present k := by
  unfold State.judgeHoldInadequate
  split
  · split
    · rfl
    · exact raise_present_of_ne hk hload
  · exact clear_present_of_ne hk hload

/-- The limits stand, or the condition arises and takes the local limit to 0. -/
theorem State.judgeHoldInadequate_speed :
    (s.judgeHoldInadequate net).speed = s.speed
      ∨ net ≤ 0 ∧ s.present .holdInadequate = false ∧ (s.judgeHoldInadequate net).speed.localLimit = 0
        ∧ (s.judgeHoldInadequate net).brake.ownPull = true
        ∧ (s.judgeHoldInadequate net).present .holdInadequate = true := by
  unfold State.judgeHoldInadequate
  split
  next h =>
    split
    · exact .inl rfl
    next habsent =>
      have habsent' : s.present .holdInadequate = false := eq_false_of_ne_true habsent
      exact .inr ⟨h.1, habsent', (raise_limits (by simp [faultClassOf]) habsent').1, (raise_pulls rfl habsent').1,
        raise_present_self _⟩
  · exact .inl (clear_speed _)

/-! ## The state after HOLD_INADEQUATE is judged -/

theorem superJudged_onlyChanges : onlyChanges (Part.also Part.ofClassA [.arith]) s s.superJudged :=
  ((saturations_onlyChanges _).mono (by decide)).trans (judgeHoldInadequate_onlyChanges.mono (by decide)) (by simp)

theorem State.superJudged_stands :
    s.superJudged.rack = s.rack ∧ s.superJudged.peers = s.peers ∧ s.superJudged.clock = s.clock
      ∧ s.superJudged.straps = s.straps ∧ s.superJudged.station = s.station := by
  have hstraps : s.superJudged.straps = s.straps := straps_congr (by simp [State.superJudged])
  exact ⟨by simp [State.superJudged], by simp [State.superJudged], by simp [State.superJudged], hstraps,
    by simp [State.superJudged]⟩

theorem State.superJudged_present (harith : k ≠ .arithLimit) (hk : k ≠ .holdInadequate) (hload : k ≠ .loadSensor) :
    s.superJudged.present k = s.present k :=
  (judgeHoldInadequate_present_of_ne hk hload).trans (saturations_present _ harith)

theorem State.superJudged_holdInadequate :
    s.superJudged.present .holdInadequate = decide (s.netDecel.val ≤ 0 ∧ s.rack.standstill = false) := by
  rw [State.superJudged, judgeHoldInadequate_present]
  simp

theorem State.superJudged_arith :
    s.superJudged.speed.arithLimit = (decide (s.netDecel.hits + s.superFive.hits ≠ 0) || s.speed.arithLimit)
      ∧ s.superJudged.present .arithLimit
        = (decide (s.netDecel.hits + s.superFive.hits ≠ 0) || s.present .arithLimit) := by
  obtain ⟨hflag, hpresent⟩ := saturations_arith (s := s) (s.netDecel.hits + s.superFive.hits)
  have hspeed := (judgeHoldInadequate_onlyChanges
    (s := s.saturations (s.netDecel.hits + s.superFive.hits)) (net := s.netDecel.val) .arith).resolve_left (by decide)
  exact ⟨hspeed.trans hflag, (judgeHoldInadequate_present_of_ne (by decide) (by decide)).trans hpresent⟩

/-- The local limit and its raise hold stand, or both the result and the limit are 0 and the loop is pulled. -/
theorem State.superJudged_limit :
    (s.superJudged.speed.localLimit = s.speed.localLimit ∧ s.superJudged.speed.raiseHold = s.speed.raiseHold)
      ∨ s.superResult = 0 ∧ s.superJudged.speed.localLimit = 0 ∧ s.superJudged.brake.ownPull = true
        ∧ s.superJudged.present .holdInadequate = true := by
  have hsums : (s.saturations (s.netDecel.hits + s.superFive.hits)).speed.localLimit = s.speed.localLimit
      ∧ (s.saturations (s.netDecel.hits + s.superFive.hits)).speed.raiseHold = s.speed.raiseHold := by
    rw [saturations_eq]
    exact ⟨rfl, rfl⟩
  obtain hsame | ⟨hnet, -, hlimit, hpull, hthere⟩ := judgeHoldInadequate_speed
    (s := s.saturations (s.netDecel.hits + s.superFive.hits)) (net := s.netDecel.val)
  · rw [State.superJudged, hsame]
    exact .inl hsums
  · exact .inr ⟨superResult_of_net hnet, hlimit, hpull, hthere⟩

/-! ## The local and the enforced limit (R93, R95) -/

/-- The local limit that a result and a raise hold make (R93). -/
def Speed.taken (result now : Nat) (v : Speed) : Nat :=
  if result ≤ v.localLimit then result
  else
    match v.raiseHold with
    | none => v.localLimit
    | some (candidate, start) => if start + ms 2000 ≤ now then min candidate result else v.localLimit

theorem Speed.takeResult_localLimit (result now : Nat) (v : Speed) :
    (v.takeResult result now).localLimit = v.taken result now := by
  unfold Speed.takeResult Speed.taken
  by_cases hbelow : result < v.localLimit
  · rw [if_pos hbelow, if_pos (by omega)]
  · rw [if_neg hbelow]
    by_cases hsame : result = v.localLimit
    · rw [if_pos hsame, if_pos (by omega), hsame]
    · rw [if_neg hsame, if_neg (by omega)]
      cases v.raiseHold with
      | none => rfl
      | some hold =>
        dsimp only
        split <;> rfl

theorem Speed.takeResult_raiseHold {result now : Nat} {v w : Speed} (hlimit : w.localLimit = v.localLimit)
    (hhold : w.raiseHold = v.raiseHold) : (w.takeResult result now).raiseHold = (v.takeResult result now).raiseHold := by
  unfold Speed.takeResult
  rw [hlimit, hhold]
  split
  · rfl
  · split
    · rfl
    · cases v.raiseHold with
      | none => rfl
      | some hold =>
        dsimp only
        split <;> rfl

/-- The limits of the consist set. -/
def State.peerLimits (s : State) : List Nat := s.consistPeers.map fun e => e.report.localLimit.toNat

theorem State.limitsFormed_limits :
    s.limitsFormed.speed.localLimit = s.speed.taken s.superResult s.clock
      ∧ s.limitsFormed.speed.enforced = s.peerLimits.foldl min (s.speed.taken s.superResult s.clock)
      ∧ (s.superJudged.present .holdInadequate = false →
        s.limitsFormed.speed.raiseHold = (s.speed.takeResult s.superResult s.clock).raiseHold) := by
  obtain ⟨-, hpeers, hclock, -⟩ := s.superJudged_stands
  have hlimit : s.limitsFormed.speed.localLimit
      = (s.superJudged.speed.takeResult s.superResult s.superJudged.clock).localLimit := rfl
  have hhold : s.limitsFormed.speed.raiseHold
      = (s.superJudged.speed.takeResult s.superResult s.superJudged.clock).raiseHold := rfl
  have henforced : s.limitsFormed.speed.enforced = s.superJudged.peerLimits.foldl min s.limitsFormed.speed.localLimit := rfl
  have hpeerLimits : s.superJudged.peerLimits = s.peerLimits := by
    rw [State.peerLimits, State.consistPeers, hpeers]
    rfl
  have htaken : s.limitsFormed.speed.localLimit = s.speed.taken s.superResult s.clock := by
    rw [hlimit, Speed.takeResult_localLimit, hclock]
    obtain ⟨hsame, hsameHold⟩ | ⟨hzero, hnone, -⟩ := s.superJudged_limit
    · rw [Speed.taken, Speed.taken, hsame, hsameHold]
    · rw [Speed.taken, Speed.taken, hzero, if_pos (Nat.zero_le _), if_pos (Nat.zero_le _)]
  refine ⟨htaken, by rw [henforced, hpeerLimits, htaken], fun habsent => ?_⟩
  obtain ⟨hsame, hsameHold⟩ :=
    s.superJudged_limit.resolve_right fun hraised => absurd (habsent.symm.trans hraised.2.2.2) nofun
  rw [hhold, hclock]
  exact Speed.takeResult_raiseHold hsame hsameHold

end Sys2Proof.Machine
end

section
/-! SUPPORT. A supervision computation: holding margin, intervention, hard reference (sections 5.4 to 5.6). -/

namespace Sys2Proof.Machine

variable {ps : List Part} {s t u v w : State} {m : Moment} {j k : FaultKind} {net : Int} {speed : Nat}

/-! ## HOLD_MARGIN (R96) -/

/-- The saturations of the holding check. -/
def State.holdingHits (s : State) : Nat := s.holdingProducts.1.hits + s.holdingProducts.2.hits

/-- The consist stands without the force to hold it. -/
def State.unheld (s : State) : Prop := s.rack.standstill = true ∧ s.holdingProducts.1.val < s.holdingProducts.2.val

theorem State.judgeHoldMargin_of_moving (h : u.rack.standstill = false) : s.judgeHoldMargin u = s := by
  simp [State.judgeHoldMargin, h]

theorem State.judgeHoldMargin_of_still (h : u.rack.standstill = true) :
    s.judgeHoldMargin u
      = if u.holdingProducts.1.val < u.holdingProducts.2.val then
          (if (s.saturations u.holdingHits).present .holdMargin then s.saturations u.holdingHits
            else (s.saturations u.holdingHits).raise .holdMargin)
        else (s.saturations u.holdingHits).clear .holdMargin := if_pos h

theorem judgeHoldMargin_onlyChanges : onlyChanges (Part.also Part.ofClassB [.arith]) s (s.judgeHoldMargin u) := by
  have hsums : onlyChanges (Part.also Part.ofClassB [.arith]) s (s.saturations u.holdingHits) :=
    (saturations_onlyChanges _).mono (by decide)
  cases hstill : u.rack.standstill with
  | false =>
    rw [State.judgeHoldMargin_of_moving hstill]
    exact onlyChanges_refl _ _
  | true =>
    rw [State.judgeHoldMargin_of_still hstill]
    split
    · split
      · exact hsums
      · exact hsums.trans ((raise_onlyChanges_ofClassB (k := .holdMargin) (by simp [faultClassOf])).mono (by decide)) (by simp)
    · exact hsums.trans ((clear_onlyChanges_ofClassB _).mono (by decide)) (by simp)

theorem State.judgeHoldMargin_present :
    (u.rack.standstill = true → (s.judgeHoldMargin u).present .holdMargin
        = decide (u.holdingProducts.1.val < u.holdingProducts.2.val))
      ∧ (u.rack.standstill = false → (s.judgeHoldMargin u).present .holdMargin = s.present .holdMargin) := by
  refine ⟨fun hstill => ?_, fun hmoving => by rw [judgeHoldMargin_of_moving hmoving]⟩
  rw [judgeHoldMargin_of_still hstill]
  split
  next h =>
    rw [decide_eq_true h]
    split
    · assumption
    · exact raise_present_self _
  next h =>
    rw [decide_eq_false h]
    exact clear_present_self _ _

theorem State.judgeHoldMargin_present_of_ne (harith : k ≠ .arithLimit) (hk : k ≠ .holdMargin) (hload : k ≠ .loadSensor) :
    (s.judgeHoldMargin u).present k = s.present k := by
  have hsums : (s.saturations u.holdingHits).present k = s.present k := saturations_present _ harith
  cases hstill : u.rack.standstill with
  | false => rw [judgeHoldMargin_of_moving hstill]
  | true =>
    rw [judgeHoldMargin_of_still hstill]
    split
    · split
      · exact hsums
      · exact (raise_present_of_ne hk hload).trans hsums
    · exact (clear_present_of_ne hk hload).trans hsums

theorem State.judgeHoldMargin_arith :
    (s.judgeHoldMargin u).speed.arithLimit
        = (decide (u.rack.standstill = true ∧ u.holdingHits ≠ 0) || s.speed.arithLimit)
      ∧ (s.judgeHoldMargin u).present .arithLimit
        = (decide (u.rack.standstill = true ∧ u.holdingHits ≠ 0) || s.present .arithLimit) := by
  obtain ⟨hflag, hpresent⟩ := saturations_arith (s := s) u.holdingHits
  cases hstill : u.rack.standstill with
  | false =>
    rw [judgeHoldMargin_of_moving hstill]
    simp
  | true =>
    rw [judgeHoldMargin_of_still hstill]
    have hraised := (raise_onlyChanges (s := s.saturations u.holdingHits) .holdMargin .arith).resolve_left (by decide)
    simp only [true_and]
    split
    · split
      · exact ⟨hflag, hpresent⟩
      · exact ⟨Eq.trans hraised hflag, (raise_present_of_ne (by decide) (by decide)).trans hpresent⟩
    · rw [clear_speed, clear_present_of_ne (by decide) (by decide)]
      exact ⟨hflag, hpresent⟩

/-- The limits stand, but where HOLD_MARGIN arises. -/
theorem State.judgeHoldMargin_limits :
    ((s.judgeHoldMargin u).speed.localLimit = s.speed.localLimit
        ∧ (s.judgeHoldMargin u).speed.raiseHold = s.speed.raiseHold
        ∧ (s.judgeHoldMargin u).speed.enforced = s.speed.enforced ∧ (u.unheld → s.present .holdMargin = true))
      ∨ u.unheld ∧ (s.judgeHoldMargin u).present .holdMargin = true ∧ (s.judgeHoldMargin u).speed.localLimit = 0
        ∧ (s.judgeHoldMargin u).speed.enforced = 0 := by
  have hsums : (s.saturations u.holdingHits).speed.localLimit = s.speed.localLimit
      ∧ (s.saturations u.holdingHits).speed.raiseHold = s.speed.raiseHold
      ∧ (s.saturations u.holdingHits).speed.enforced = s.speed.enforced := by
    rw [saturations_eq]
    exact ⟨rfl, rfl, rfl⟩
  obtain ⟨hlimit, hhold, henforced⟩ := hsums
  have hmargin : (s.saturations u.holdingHits).present .holdMargin = s.present .holdMargin :=
    saturations_present _ (by decide)
  cases hstill : u.rack.standstill with
  | false =>
    rw [judgeHoldMargin_of_moving hstill]
    exact .inl ⟨rfl, rfl, rfl, fun h => absurd (hstill.symm.trans h.1) nofun⟩
  | true =>
    rw [judgeHoldMargin_of_still hstill]
    split
    next hless =>
      split
      next hthere => exact .inl ⟨hlimit, hhold, henforced, fun _ => hmargin.symm.trans hthere⟩
      next habsent =>
        obtain ⟨hzero, hzero'⟩ := raise_limits (s := s.saturations u.holdingHits) (k := .holdMargin)
          (by simp [faultClassOf]) (eq_false_of_ne_true habsent)
        exact .inr ⟨⟨hstill, hless⟩, raise_present_self _, hzero, hzero'⟩
    next hmore =>
      rw [clear_speed]
      exact .inl ⟨hlimit, hhold, henforced, fun h => absurd h.2 hmore⟩

/-! ## Intervention and hard reference (R97, R98) -/

theorem Speed.intervene_intervening (v : Speed) :
    (v.intervening = false → (v.intervene speed).intervening = decide (v.enforced < speed))
      ∧ (v.intervening = true → 10 ≤ v.enforced → (v.intervene speed).intervening = decide (v.enforced < speed + 10))
      ∧ (v.intervening = true → v.enforced < 10 → (v.intervene speed).intervening = decide (speed ≠ 0)) := by
  refine ⟨fun h => by simp [Speed.intervene, h], fun h hhigh => ?_, fun h hlow => ?_⟩
  · have hnot : ¬v.enforced < 10 := by omega
    simp only [Speed.intervene, h, if_true, if_neg hnot]
    rw [Bool.eq_iff_iff]
    simp
  · simp only [Speed.intervene, h, if_true, if_pos hlow]
    rw [Bool.eq_iff_iff]
    simp

theorem Speed.intervene_stands (v : Speed) : ∃ b, v.intervene speed = { v with intervening := b } := by
  unfold Speed.intervene
  split <;> exact ⟨_, rfl⟩

theorem Speed.followHard_stands (v : Speed) (buildUpTime : Nat) :
    ∃ hardRef buildUp descending,
      v.followHard buildUpTime = { v with hardRef := hardRef, buildUp := buildUp, descending := descending } := by
  unfold Speed.followHard
  dsimp only
  split
  · exact ⟨_, _, _, rfl⟩
  · split
    · split <;> exact ⟨_, _, _, rfl⟩
    · exact ⟨_, _, _, rfl⟩

theorem Speed.followHard_eq (v : Speed) (buildUpTime : Nat) :
    (v.hardRef ≤ v.enforced →
        (v.followHard buildUpTime).hardRef = v.enforced ∧ (v.followHard buildUpTime).buildUp = 0
          ∧ (v.followHard buildUpTime).descending = false)
      ∧ (v.enforced < v.hardRef → v.descending = false →
        (v.followHard buildUpTime).hardRef = v.hardRef ∧ (v.followHard buildUpTime).buildUp = buildUpTime / 100
          ∧ (v.followHard buildUpTime).descending = true)
      ∧ (v.enforced < v.hardRef → v.descending = true → 0 < v.buildUp →
        (v.followHard buildUpTime).hardRef = v.hardRef ∧ (v.followHard buildUpTime).buildUp = v.buildUp - 1
          ∧ (v.followHard buildUpTime).descending = true)
      ∧ (v.enforced < v.hardRef → v.descending = true → v.buildUp = 0 →
        (v.followHard buildUpTime).hardRef = max v.enforced (v.hardRef - 2) ∧ (v.followHard buildUpTime).buildUp = 0
          ∧ (v.followHard buildUpTime).descending = decide ((v.followHard buildUpTime).hardRef ≠ v.enforced)) := by
  unfold Speed.followHard
  refine ⟨fun h => by simp [h], fun h hrest => ?_, fun h hdown hcount => ?_, fun h hdown hzero => ?_⟩
  · have hnot : ¬v.hardRef ≤ v.enforced := by omega
    simp [hnot, hrest]
  · have hnot : ¬v.hardRef ≤ v.enforced := by omega
    simp [hnot, hdown, hcount]
  · have hnot : ¬v.hardRef ≤ v.enforced := by omega
    simp only [hnot, hdown, hzero, if_true, if_false, lt_irrefl]
    refine ⟨trivial, trivial, ?_⟩
    rw [Bool.eq_iff_iff]
    simp

/-! ## OVERSPEED_HARD (R98) -/

theorem judgeOverspeed_onlyChanges : onlyChanges Part.ofClassA s (s.judgeOverspeed speed) := by
  unfold State.judgeOverspeed
  split
  · exact raise_onlyChanges _
  · exact onlyChanges_refl _ _

theorem State.judgeOverspeed_present :
    (s.judgeOverspeed speed).present .overspeedHard
      = (s.present .overspeedHard || decide (s.speed.hardRef + 20 < speed)) := by
  unfold State.judgeOverspeed
  split
  next h => rw [raise_present_self, decide_eq_true h.1, Bool.or_true]
  next h =>
    cases hthere : s.present .overspeedHard with
    | true => rfl
    | false => rw [decide_eq_false fun hfast => h ⟨hfast, hthere⟩]; rfl

theorem State.judgeOverspeed_present_of_ne (hk : k ≠ .overspeedHard) (hload : k ≠ .loadSensor) :
    (s.judgeOverspeed speed).present k = s.present k := by
  unfold State.judgeOverspeed
  split
  · exact raise_present_of_ne hk hload
  · rfl

/-- The state stands, or the condition arises, takes the limits to 0 and pulls the loop. -/
theorem State.judgeOverspeed_cases :
    s.judgeOverspeed speed = s
      ∧ ((s.judgeOverspeed speed).present .overspeedHard = true → s.present .overspeedHard = true)
      ∨ s.present .overspeedHard = false ∧ (s.judgeOverspeed speed).present .overspeedHard = true
        ∧ (s.judgeOverspeed speed).speed.localLimit = 0 ∧ (s.judgeOverspeed speed).speed.enforced = 0
        ∧ (s.judgeOverspeed speed).brake.ownPull = true := by
  unfold State.judgeOverspeed
  split
  next h =>
    obtain ⟨hlimit, henforced⟩ := raise_limits (s := s) (k := .overspeedHard) (by simp [faultClassOf]) h.2
    exact .inr ⟨h.2, raise_present_self _, hlimit, henforced, (raise_pulls rfl h.2).1⟩
  · exact .inl ⟨rfl, id⟩

end Sys2Proof.Machine
end

section
/-! SUPPORT. A supervision computation as a whole (sections 5.3 to 5.6). -/

namespace Sys2Proof.Machine

variable {ps : List Part} {s t u v w : State} {m : Moment} {j k : FaultKind} {net : Int}

/-! ## The state before OVERSPEED_HARD is judged -/

/-- A supervision computation after HOLD_MARGIN is judged (R96). -/
def State.marginJudged (s : State) : State := s.limitsFormed.judgeHoldMargin s

/-- The supervised speed, 0.1 km/h. -/
def State.supervisedSpeed (s : State) : Nat := toTenthKmh s.rack.reported

/-- A supervision computation after the hard reference has followed (R97, R98). -/
def State.hardFollowed (s : State) : State :=
  s.marginJudged.setSpeed
    ((s.marginJudged.speed.intervene s.supervisedSpeed).followHard s.marginJudged.straps.buildUpTime)

theorem State.supervise_eq : s.supervise = s.hardFollowed.judgeOverspeed s.supervisedSpeed := rfl

theorem limitsFormed_onlyChanges : onlyChanges (Part.also Part.ofClassA [.arith]) s s.limitsFormed := by
  have htaken : onlyChanges [.limit] s.superJudged (s.superJudged.setSpeed
      (s.superJudged.speed.takeResult (s.stageSix s.superFive.val.toNat) s.superJudged.clock)) := by
    have hfields (v : Speed) (r now : Nat) : (v.takeResult r now).superStart = v.superStart
        ∧ (v.takeResult r now).hardRef = v.hardRef ∧ (v.takeResult r now).buildUp = v.buildUp
        ∧ (v.takeResult r now).descending = v.descending ∧ (v.takeResult r now).intervening = v.intervening
        ∧ (v.takeResult r now).arithLimit = v.arithLimit := by
      unfold Speed.takeResult
      (repeat' split) <;> exact ⟨rfl, rfl, rfl, rfl, rfl, rfl⟩
    obtain ⟨hstart, href, hbuild, hdown, hinter, harith⟩ := hfields s.superJudged.speed
      (s.stageSix s.superFive.val.toNat) s.superJudged.clock
    intro q
    cases q <;> simp [Part.same, hstart, href, hbuild, hdown, hinter, harith]
  have hstation : s.superJudged.station = s.station := s.superJudged_stands.2.2.2.2
  exact (superJudged_onlyChanges.trans (htaken.mono (by decide)) hstation).trans
    (reformEnforced_onlyChanges.mono (by decide)) hstation

theorem State.limitsFormed_stands :
    s.limitsFormed.station = s.station ∧ s.limitsFormed.straps = s.straps
      ∧ (∀ k, s.limitsFormed.present k = s.superJudged.present k)
      ∧ s.limitsFormed.speed.arithLimit = s.superJudged.speed.arithLimit
      ∧ s.limitsFormed.brake = s.superJudged.brake := by
  have harith : (s.superJudged.speed.takeResult (s.stageSix s.superFive.val.toNat) s.superJudged.clock).arithLimit
      = s.superJudged.speed.arithLimit := by
    unfold Speed.takeResult
    (repeat' split) <;> rfl
  exact ⟨s.superJudged_stands.2.2.2.2, s.superJudged_stands.2.2.2.1, fun _ => rfl, harith, rfl⟩

theorem marginJudged_onlyChanges : onlyChanges (Part.also Part.ofClassA [.arith]) s s.marginJudged :=
  limitsFormed_onlyChanges.trans (judgeHoldMargin_onlyChanges.mono (by decide)) State.limitsFormed_stands.1

theorem State.marginJudged_stands :
    s.marginJudged.station = s.station ∧ s.marginJudged.straps = s.straps
      ∧ s.marginJudged.brake = s.superJudged.brake := by
  obtain ⟨hstation, hstraps, -, -, hbrake⟩ := s.limitsFormed_stands
  have hmargin (u : State) : (u.judgeHoldMargin s).station = u.station := by simp
  have hstraps' : s.marginJudged.straps = s.limitsFormed.straps := straps_congr (by simp [State.marginJudged])
  refine ⟨(hmargin _).trans hstation, hstraps'.trans hstraps, ?_⟩
  rw [← hbrake]
  have hbrake' {u : State} : (u.judgeHoldMargin s).brake = u.brake := by
    cases hstill : s.rack.standstill with
    | false => rw [judgeHoldMargin_of_moving hstill]
    | true =>
      rw [judgeHoldMargin_of_still hstill]
      split
      · split
        · exact saturations_brake _
        · exact (raise_brake (by simp [faultClassOf])).trans (saturations_brake _)
      · exact (clear_brake _).trans (saturations_brake _)
  exact hbrake'

/-- The limits after HOLD_MARGIN is judged: those formed, or 0 where the consist is not held. -/
theorem State.marginJudged_enforced :
    (¬s.unheld → s.marginJudged.speed.enforced = s.peerLimits.foldl min (s.speed.taken s.superResult s.clock))
      ∧ (s.unheld → s.marginJudged.speed.enforced = 0) := by
  obtain ⟨-, henforced, -⟩ := s.limitsFormed_limits
  obtain ⟨-, -, hformed, hheld⟩ | ⟨hunheld, -, -, hzero⟩ := judgeHoldMargin_limits (s := s.limitsFormed) (u := s)
  · refine ⟨fun _ => hformed.trans henforced, fun hunheld => ?_⟩
    have hthere : s.present .holdMargin = true := by
      rw [← hheld hunheld, s.limitsFormed_stands.2.2.1]
      exact (superJudged_present (by decide) (by decide) (by decide)).symm
    have hB : s.classB = true := classB_iff.mpr ⟨.holdMargin, rfl, hthere⟩
    have hresult : s.superResult = 0 :=
      Nat.le_zero.mp (superResult_le_ceiling (mem_ceilings.mpr (.inr (.inr (.inr ⟨.inr (.inl hB), rfl⟩)))))
    have htaken : s.speed.taken s.superResult s.clock = 0 := by
      rw [hresult, Speed.taken, if_pos (Nat.zero_le _)]
    exact (hformed.trans henforced).trans (by rw [htaken, foldl_min_zero])
  · exact ⟨fun hheld => absurd hunheld hheld, fun _ => hzero⟩

/-- What the speed record keeps as the hard reference follows. -/
theorem State.hardFollowed_speed :
    s.hardFollowed.speed.localLimit = s.marginJudged.speed.localLimit
      ∧ s.hardFollowed.speed.raiseHold = s.marginJudged.speed.raiseHold
      ∧ s.hardFollowed.speed.enforced = s.marginJudged.speed.enforced
      ∧ s.hardFollowed.speed.arithLimit = s.marginJudged.speed.arithLimit
      ∧ s.hardFollowed.speed.superStart = s.marginJudged.speed.superStart
      ∧ s.hardFollowed.speed.intervening = (s.marginJudged.speed.intervene s.supervisedSpeed).intervening := by
  obtain ⟨b, hinter⟩ := s.marginJudged.speed.intervene_stands (speed := s.supervisedSpeed)
  obtain ⟨hardRef, buildUp, descending, hfollow⟩ :=
    (s.marginJudged.speed.intervene s.supervisedSpeed).followHard_stands s.marginJudged.straps.buildUpTime
  have hspeed : s.hardFollowed.speed
      = (s.marginJudged.speed.intervene s.supervisedSpeed).followHard s.marginJudged.straps.buildUpTime := rfl
  rw [hspeed, hfollow, hinter]
  exact ⟨rfl, rfl, rfl, rfl, rfl, rfl⟩

theorem State.supervisionStands :
    s.marginJudged.speed.superStart = s.speed.superStart ∧ s.marginJudged.speed.hardRef = s.speed.hardRef
      ∧ s.marginJudged.speed.buildUp = s.speed.buildUp ∧ s.marginJudged.speed.descending = s.speed.descending
      ∧ s.marginJudged.speed.intervening = s.speed.intervening :=
  (marginJudged_onlyChanges (s := s) .supervision).resolve_left (by decide)

/-- The supervision's own values stand as OVERSPEED_HARD is judged. -/
theorem State.supervise_supervision :
    s.supervise.speed.superStart = s.speed.superStart ∧ s.supervise.speed.hardRef = s.hardFollowed.speed.hardRef
      ∧ s.supervise.speed.buildUp = s.hardFollowed.speed.buildUp
      ∧ s.supervise.speed.descending = s.hardFollowed.speed.descending
      ∧ s.supervise.speed.intervening = s.hardFollowed.speed.intervening := by
  have hsame : s.supervise.speed.superStart = s.hardFollowed.speed.superStart
      ∧ s.supervise.speed.hardRef = s.hardFollowed.speed.hardRef
      ∧ s.supervise.speed.buildUp = s.hardFollowed.speed.buildUp
      ∧ s.supervise.speed.descending = s.hardFollowed.speed.descending
      ∧ s.supervise.speed.intervening = s.hardFollowed.speed.intervening :=
    (judgeOverspeed_onlyChanges (s := s.hardFollowed) (speed := s.supervisedSpeed) .supervision).resolve_left (by decide)
  obtain ⟨hstart, href, hbuild, hdown, hinter⟩ := hsame
  exact ⟨hstart.trans (s.hardFollowed_speed.2.2.2.2.1.trans s.supervisionStands.1), href, hbuild, hdown, hinter⟩

theorem supervise_onlyChanges : onlyChanges (Part.also Part.ofClassA [.supervision, .arith]) s s.supervise := by
  have hfollowed : onlyChanges [.supervision] s.marginJudged s.hardFollowed := by
    obtain ⟨hlimit, hhold, henforced, harith, -⟩ := s.hardFollowed_speed
    have hspeed (v : Speed) : (s.marginJudged.setSpeed v).speed = v := rfl
    unfold State.hardFollowed at hlimit hhold henforced harith ⊢
    rw [hspeed] at hlimit hhold henforced harith
    intro q
    cases q <;> simp [Part.same, hlimit, hhold, henforced, harith]
  have hstation : s.marginJudged.station = s.station := s.marginJudged_stands.1
  exact ((marginJudged_onlyChanges.mono (by decide)).trans (hfollowed.mono (by decide)) hstation).trans
    (judgeOverspeed_onlyChanges.mono (by decide)) hstation

/-! ## The conditions after a computation -/

theorem State.hardFollowed_present (k : FaultKind) : s.hardFollowed.present k = s.marginJudged.present k := rfl

theorem State.supervise_holdInadequate :
    s.supervise.present .holdInadequate = decide (s.netDecel.val ≤ 0 ∧ s.rack.standstill = false) := by
  rw [supervise_eq, judgeOverspeed_present_of_ne (by decide) (by decide), hardFollowed_present, State.marginJudged,
    judgeHoldMargin_present_of_ne (by decide) (by decide) (by decide), s.limitsFormed_stands.2.2.1,
    superJudged_holdInadequate]

theorem State.supervise_holdMargin :
    (s.rack.standstill = true →
        s.supervise.present .holdMargin = decide (s.holdingProducts.1.val < s.holdingProducts.2.val))
      ∧ (s.rack.standstill = false → s.supervise.present .holdMargin = s.present .holdMargin) := by
  have hjudged : s.supervise.present .holdMargin = (s.limitsFormed.judgeHoldMargin s).present .holdMargin :=
    judgeOverspeed_present_of_ne (s := s.hardFollowed) (by decide) (by decide)
  obtain ⟨hstill, hmoving⟩ := judgeHoldMargin_present (s := s.limitsFormed) (u := s)
  rw [hjudged]
  refine ⟨hstill, fun h => (hmoving h).trans ?_⟩
  rw [s.limitsFormed_stands.2.2.1]
  exact superJudged_present (by decide) (by decide) (by decide)

theorem State.marginJudged_present (harith : k ≠ .arithLimit) (hinadequate : k ≠ .holdInadequate)
    (hmargin : k ≠ .holdMargin) (hload : k ≠ .loadSensor) : s.marginJudged.present k = s.present k := by
  rw [State.marginJudged, judgeHoldMargin_present_of_ne harith hmargin hload, s.limitsFormed_stands.2.2.1]
  exact superJudged_present harith hinadequate hload

theorem State.supervise_overspeedHard :
    s.supervise.present .overspeedHard
      = (s.present .overspeedHard || decide (s.supervise.speed.hardRef + 20 < s.supervisedSpeed)) := by
  rw [s.supervise_supervision.2.1, supervise_eq, judgeOverspeed_present, hardFollowed_present,
    marginJudged_present (by decide) (by decide) (by decide) (by decide)]

/-! ## The saturations (R84) -/

/-- A saturation of the computation's arithmetic. -/
def State.superSaturates (s : State) : Prop :=
  0 < s.netDecel.hits + s.superFive.hits ∨ s.rack.standstill = true ∧ 0 < s.holdingHits

theorem State.supervise_arith :
    (s.superSaturates → s.supervise.speed.arithLimit = true ∧ s.supervise.present .arithLimit = true)
      ∧ (¬s.superSaturates →
        s.supervise.speed.arithLimit = s.speed.arithLimit ∧ s.supervise.present .arithLimit = s.present .arithLimit) := by
  obtain ⟨hflag, hpresent⟩ := s.superJudged_arith
  obtain ⟨hflag', hpresent'⟩ := judgeHoldMargin_arith (s := s.limitsFormed) (u := s)
  obtain ⟨-, -, hformed, hformedFlag, -⟩ := s.limitsFormed_stands
  have hlastFlag : s.supervise.speed.arithLimit = s.hardFollowed.speed.arithLimit :=
    (judgeOverspeed_onlyChanges (s := s.hardFollowed) (speed := s.supervisedSpeed) .arith).resolve_left (by decide)
  have hlast : s.supervise.present .arithLimit = (s.limitsFormed.judgeHoldMargin s).present .arithLimit :=
    judgeOverspeed_present_of_ne (s := s.hardFollowed) (by decide) (by decide)
  rw [hlast, hlastFlag, s.hardFollowed_speed.2.2.2.1, State.marginJudged, hflag', hpresent', hformed, hformedFlag, hflag,
    hpresent]
  unfold State.superSaturates
  refine ⟨fun hsaturates => ?_, fun hnone => ?_⟩
  · obtain hfirst | ⟨hstill, hsecond⟩ := hsaturates
    · rw [decide_eq_true hfirst.ne', Bool.true_or, Bool.true_or, Bool.or_true]
      exact ⟨rfl, rfl⟩
    · simp [hstill, hsecond.ne']
  · have hfirst : s.netDecel.hits + s.superFive.hits = 0 := by
      by_contra h
      exact hnone (.inl (Nat.pos_of_ne_zero h))
    have hsecond : ¬(s.rack.standstill = true ∧ s.holdingHits ≠ 0) :=
      fun h => hnone (.inr ⟨h.1, Nat.pos_of_ne_zero h.2⟩)
    rw [decide_eq_false hsecond, hfirst]
    exact ⟨rfl, rfl⟩

end Sys2Proof.Machine
end

section
/-! SUPPORT. The arithmetic of a supervision computation (sections 5.1 to 5.3 and 5.5). -/

namespace Sys2Proof.Machine

variable {s : State}

/-! ## Sums over the consist set (R88, R96) -/

theorem foldl_satAdd_eq {α : Type} (f : α → Nat) (xs : List α) {a : Nat} (h : a + (xs.map f).sum ≤ 549755813887) :
    xs.foldl (fun (acc : Sat) x => acc.add (f x)) ⟨a, 0⟩ = ⟨(a + (xs.map f).sum : Nat), 0⟩ := by
  induction xs generalizing a with
  | nil => rfl
  | cons x xs ih =>
    rw [List.map_cons, List.sum_cons] at h ⊢
    rw [List.foldl_cons, Sat.add_natCast (by omega), ih (by omega), Nat.add_assoc]

theorem sum_peers_le (s : State) {f : PeerEntry → Nat} (h : ∀ e ∈ s.consistPeers, f e ≤ 6553500) :
    (s.consistPeers.map f).sum ≤ 52428000 := by
  have hsum : (s.consistPeers.map f).sum ≤ (s.consistPeers.map f).length • 6553500 :=
    List.sum_le_card_nsmul _ _ fun y hy => by
      obtain ⟨e, he, rfl⟩ := List.mem_map.mp hy
      exact h e he
  rw [List.length_map, smul_eq_mul] at hsum
  have hlength := s.consistPeers_length
  omega

theorem PeerEntry.countedHolding_le (e : PeerEntry) : e.countedHolding ≤ 6553500 := by
  have hholding := e.report.holdingCapacity.isLt
  unfold PeerEntry.countedHolding
  split <;> omega

theorem pinionNominal_le (p : Straps) : p.pinionNominal ≤ 95000 := by
  have hnom := p.pinionNom.isLt
  unfold Straps.pinionNominal
  omega

theorem State.holdingCapacity_le : s.holdingCapacity ≤ 190000 := by
  have hle := pinionNominal_le s.straps
  unfold State.holdingCapacity
  split <;> split <;> omega

/-- The mass of the consist set. -/
def State.massSum (s : State) : Nat := s.doors.mass + (s.consistPeers.map fun e => e.countedMass).sum

/-- The service capacity of the consist set. -/
def State.capacitySum (s : State) : Nat := s.serviceCapacity + (s.consistPeers.map fun e => e.countedCapacity).sum

/-- The holding capacity of the consist set. -/
def State.holdingSum (s : State) : Nat := s.holdingCapacity + (s.consistPeers.map fun e => e.countedHolding).sum

theorem State.holdingSum_le : s.holdingSum ≤ 52618000 := by
  have hpeers := sum_peers_le s (f := fun e => e.countedHolding) fun e _ => e.countedHolding_le
  have hown := s.holdingCapacity_le
  unfold State.holdingSum
  omega

theorem State.totalHolding_eq : s.totalHolding = ⟨s.holdingSum, 0⟩ := by
  have hle := s.holdingSum_le
  have hown := s.holdingCapacity_le
  rw [State.totalHolding, Sat.load_natCast (by omega)]
  exact foldl_satAdd_eq (fun e : PeerEntry => e.countedHolding) _ (le_trans hle (by decide))

section Measures

variable (hmeasures : s.measuresOk)

include hmeasures in
theorem State.serviceCapacity_le : s.serviceCapacity ≤ 190000 := by
  obtain ⟨-, -, h1, h2, -⟩ := hmeasures
  have hc1 := s.brake.pinions.p1.capacity_le
  have hc2 := s.brake.pinions.p2.capacity_le
  have hwheel := s.straps.wheelNom.isLt
  unfold State.serviceCapacity Straps.wheelNominal
  split <;> omega

include hmeasures in
theorem State.massSum_bounds : 10000 ≤ s.massSum ∧ s.massSum ≤ 52471500 := by
  obtain ⟨hlow, hhigh, -, -, htares⟩ := hmeasures
  have hpeers := sum_peers_le s (f := fun e => e.countedMass) fun e he =>
    PeerEntry.countedMass_le (le_trans (htares e he) (by decide))
  unfold State.massSum
  omega

include hmeasures in
theorem State.capacitySum_le : s.capacitySum ≤ 52618000 := by
  have hpeers := sum_peers_le s (f := fun e => e.countedCapacity) fun e _ => e.countedCapacity_le
  have hown := State.serviceCapacity_le hmeasures
  unfold State.capacitySum
  omega

include hmeasures in
theorem State.totalMass_eq : s.totalMass = ⟨s.massSum, 0⟩ := by
  obtain ⟨-, hle⟩ := State.massSum_bounds hmeasures
  have hown := hmeasures.2.1
  rw [State.totalMass, Sat.load_natCast (by omega)]
  exact foldl_satAdd_eq (fun e : PeerEntry => e.countedMass) _ (le_trans hle (by decide))

include hmeasures in
theorem State.totalCapacity_eq : s.totalCapacity = ⟨s.capacitySum, 0⟩ := by
  have hle := State.capacitySum_le hmeasures
  have hown := State.serviceCapacity_le hmeasures
  rw [State.totalCapacity, Sat.load_natCast (by omega)]
  exact foldl_satAdd_eq (fun e : PeerEntry => e.countedCapacity) _ (le_trans hle (by decide))

/-! ## The net deceleration (R88, R89) -/

include hmeasures in
theorem State.brakeDeceleration_eq :
    s.brakeDeceleration = ⟨(s.capacitySum * 1000 / s.massSum : Nat), 0⟩ ∧ s.capacitySum * 1000 / s.massSum ≤ 5261800 := by
  have hcapacity := State.capacitySum_le hmeasures
  obtain ⟨hmass, -⟩ := State.massSum_bounds hmeasures
  have hquotient : s.capacitySum * 1000 / s.massSum ≤ 5261800 :=
    calc s.capacitySum * 1000 / s.massSum
      _ ≤ s.capacitySum * 1000 / 10000 := Nat.div_le_div_left hmass (by decide)
      _ ≤ 5261800 := by omega
  have hproduct : Sat.mul ⟨s.capacitySum, 0⟩ 1000 = ⟨(s.capacitySum * 1000 : Nat), 0⟩ :=
    Sat.mul_natCast (n := 1000) (by omega)
  refine ⟨?_, hquotient⟩
  rw [State.brakeDeceleration, State.totalCapacity_eq hmeasures, State.totalMass_eq hmeasures, hproduct,
    Sat.divBy_natCast, Sat.to32_natCast (by omega)]
  rfl

theorem netDeceleration_eq {brake : Nat} (h : brake ≤ 5261800) :
    netDeceleration s.direction brake s.gravityHere = ⟨brake - s.gravityTerm, 0⟩ := by
  obtain ⟨hlow, hhigh⟩ : -8774 ≤ s.gravityHere ∧ s.gravityHere ≤ 8774 := gravity_bounds _
  have hfits {x : Int} (hx : -8774 ≤ x) (hx' : x ≤ 8774) : ((Sat.load brake).add x).to32 = ⟨brake + x, 0⟩ := by
    rw [Sat.load_natCast (by omega), Sat.add_of_abs (by omega) (by omega)]
    exact Sat.bound_of_abs (limit := 2147483647) (by dsimp only; omega) (by dsimp only; omega)
  unfold netDeceleration State.gravityTerm
  cases s.direction with
  | up =>
    dsimp only
    rw [hfits hlow hhigh, sub_neg_eq_add]
  | down => exact hfits (by omega) (by omega)
  | none => exact hfits (by omega) (by omega)

include hmeasures in
/-- The net deceleration of stages 1 to 3 (R88, R89). -/
theorem State.netDecel_eq :
    s.netDecel = ⟨min 2500 (((s.capacitySum * 1000 / s.massSum : Nat) : Int) - s.gravityTerm), 0⟩ := by
  obtain ⟨hbrake, hle⟩ := State.brakeDeceleration_eq hmeasures
  rw [State.netDecel, hbrake]
  dsimp only
  rw [netDeceleration_eq hle, min_comm]
  rfl

/-! ## The holding check (R96) -/

theorem State.holdingProducts_first : s.holdingProducts.1 = ⟨(s.holdingSum * 5000 : Nat), 0⟩ := by
  have hle := s.holdingSum_le
  have hfirst : s.holdingProducts.1 = s.totalHolding.mul 5000 := rfl
  rw [hfirst, s.totalHolding_eq]
  exact Sat.mul_natCast (n := 5000) (by omega)

theorem State.gravityHere_natAbs_le : s.gravityHere.natAbs ≤ 8774 := by
  obtain ⟨hlow, hhigh⟩ : -8774 ≤ s.gravityHere ∧ s.gravityHere ≤ 8774 := gravity_bounds _
  omega

include hmeasures in
theorem State.holdingProducts_second :
    s.holdingProducts.2.val = (min 549755813887 (s.massSum * s.gravityHere.natAbs * 6) : Nat) := by
  obtain ⟨-, hmass⟩ := State.massSum_bounds hmeasures
  have hproduct : s.massSum * s.gravityHere.natAbs ≤ 52471500 * 8774 := Nat.mul_le_mul hmass s.gravityHere_natAbs_le
  have hsecond : s.holdingProducts.2 = ((Sat.load s.totalMass.val).mul s.gravityHere.natAbs).mul (6 : Nat) := rfl
  rw [hsecond, State.totalMass_eq hmeasures]
  dsimp only
  rw [Sat.load_natCast (by omega), Sat.mul_natCast (by omega), Sat.mul_nat]

end Measures

/-- A product beyond the accumulator saturates it. -/
theorem State.holdingHits_of_beyond (h : 549755813887 < s.totalMass.val * s.gravityHere.natAbs * 6) :
    0 < s.holdingHits := by
  have hmass : 0 ≤ s.totalMass.val := by
    by_contra hneg
    have hle : s.totalMass.val * s.gravityHere.natAbs ≤ 0 :=
      mul_nonpos_of_nonpos_of_nonneg (by omega) (Int.natCast_nonneg _)
    omega
  obtain ⟨mass, hmass⟩ := Int.eq_ofNat_of_zero_le hmass
  have hsecond : s.holdingProducts.2 = ((Sat.load s.totalMass.val).mul s.gravityHere.natAbs).mul (6 : Nat) := rfl
  rw [hmass] at h hsecond
  have hbeyond : 549755813887 < mass * s.gravityHere.natAbs * 6 := by exact_mod_cast h
  have hhits : 0 < s.holdingProducts.2.hits := by
    rw [hsecond, Sat.load_nat, Sat.mul_nat, Sat.mul_nat]
    dsimp only
    by_cases hload : 549755813887 < mass
    · rw [if_pos hload]
      omega
    · have hload' : min 549755813887 mass = mass := Nat.min_eq_right (by omega)
      rw [hload']
      by_cases hproduct : 549755813887 < mass * s.gravityHere.natAbs
      · rw [if_pos hproduct]
        omega
      · have hproduct' : min 549755813887 (mass * s.gravityHere.natAbs) = mass * s.gravityHere.natAbs :=
          Nat.min_eq_right (by omega)
        rw [hproduct', if_pos hbeyond]
        omega
  unfold State.holdingHits
  omega

/-! ## Stages 4 and 5 (R90, R91) -/

theorem straps_stages_le (p : Straps) : p.buildUpTime ≤ 1500 ∧ p.stoppingDistance ≤ 80000 := by
  unfold Straps.buildUpTime Straps.stoppingDistance
  constructor
  · split <;> omega
  · split <;> decide

/-- The stage 5 value is the stopping speed in 0.1 km/h, under the section ceiling and the sweep cap. -/
theorem State.stageFive_eq {net : Int} (hpos : 0 < net) (hle : net ≤ 2500) :
    (s.stageFive net).val
      = min ((stoppingSpeed net s.straps.buildUpTime s.straps.stoppingDistance).val * 36 / 1000)
        (if s.sweeping then (min s.sectionCeiling 50 : Nat) else s.sectionCeiling) := by
  obtain ⟨n, rfl⟩ := Int.eq_ofNat_of_zero_le hpos.le
  obtain ⟨hbuildUp, hdistance⟩ := straps_stages_le s.straps
  obtain ⟨hb, hsum, -, hnonneg, hroot, -⟩ :=
    stageFourFindsStoppingSpeed n s.straps.buildUpTime s.straps.stoppingDistance (by omega) hbuildUp hdistance
  generalize hspeed : stoppingSpeed n s.straps.buildUpTime s.straps.stoppingDistance = v at hnonneg hroot
  have hv : v.val ≤ 20350 := by
    by_contra hbig
    have hlarge : 20351 ≤ v.val.toNat + n * s.straps.buildUpTime / 1000 := by omega
    have hsquare := Nat.mul_le_mul hlarge hlarge
    omega
  have htenth : (((Sat.load v.val).mul 36).divBy 1000).to32.val = v.val * 36 / 1000 := by
    obtain ⟨x, hx⟩ := Int.eq_ofNat_of_zero_le hnonneg
    have hmul : Sat.mul ⟨(x : Int), 0⟩ 36 = ⟨(x * 36 : Nat), 0⟩ := Sat.mul_natCast (n := 36) (by omega)
    have hdiv : Sat.divBy ⟨((x * 36 : Nat) : Int), 0⟩ 1000 = ⟨(x * 36 / 1000 : Nat), 0⟩ := Sat.divBy_natCast (n := 1000)
    rw [hx, Sat.load_natCast (by omega), hmul, hdiv, Sat.to32_natCast (by omega)]
    dsimp only
    omega
  rw [State.stageFive, if_neg (by omega)]
  dsimp only
  rw [hspeed, htenth]
  split <;> omega

end Sys2Proof.Machine
end

section
/-! SUPPORT. The result, the limits and the hard reference of a supervision computation (sections 5.3 to 5.6). -/

namespace Sys2Proof.Machine

variable {s : State} {k : FaultKind}

/-! ## Stage 6 (R92) -/

theorem foldl_min_attained (xs : List Nat) (a : Nat) : xs.foldl min a = a ∨ xs.foldl min a ∈ xs := by
  induction xs generalizing a with
  | nil => exact .inl rfl
  | cons x xs ih =>
    rw [List.foldl_cons]
    obtain hfirst | hlater := ih (min a x)
    · rw [hfirst]
      obtain h | h := min_choice a x
      · exact .inl h
      · exact .inr (by rw [h]; exact List.mem_cons_self)
    · exact .inr (List.mem_cons_of_mem _ hlater)

/-- The result is the stage 5 value or one of the ceilings, and under all of them. -/
theorem State.superResult_eq (hfive : 0 ≤ s.superFive.val) :
    (s.superResult : Int) ≤ s.superFive.val ∧ (∀ c ∈ s.ceilings, s.superResult ≤ c)
      ∧ ((s.superResult : Int) = s.superFive.val ∨ s.superResult ∈ s.ceilings) := by
  obtain ⟨hle, hceilings⟩ := s.superResult_le
  refine ⟨by omega, hceilings, ?_⟩
  obtain hsame | hmem := foldl_min_attained s.ceilings s.superFive.val.toNat
  · have hsame' : s.superResult = s.superFive.val.toNat := hsame
    exact .inl (by omega)
  · exact .inr hmem

/-! ## The limits (R93, R95, R96, R98) -/

/-- The enforced limit before OVERSPEED_HARD is judged. -/
def State.enforcedLimit (s : State) : Nat :=
  if s.rack.standstill = true ∧ s.holdingProducts.1.val < s.holdingProducts.2.val then 0
  else s.peerLimits.foldl min (s.speed.taken s.superResult s.clock)

theorem State.marginJudged_enforcedLimit : s.marginJudged.speed.enforced = s.enforcedLimit := by
  obtain ⟨hheld, hunheld⟩ := s.marginJudged_enforced
  unfold State.enforcedLimit
  split
  next h => exact hunheld h
  next h => exact hheld h

theorem State.supervise_enforced :
    s.supervise.speed.enforced
      = if s.present .overspeedHard = false ∧ s.supervise.present .overspeedHard = true then 0 else s.enforcedLimit := by
  have hbefore : s.hardFollowed.present .overspeedHard = s.present .overspeedHard :=
    marginJudged_present (by decide) (by decide) (by decide) (by decide)
  obtain ⟨hsame, hthere⟩ | ⟨habsent, hthere, -, henforced, -⟩ :=
    judgeOverspeed_cases (s := s.hardFollowed) (speed := s.supervisedSpeed)
  · rw [if_neg fun h => absurd (h.1.symm.trans (hbefore.symm.trans (hthere h.2))) nofun, supervise_eq, hsame,
      s.hardFollowed_speed.2.2.1, marginJudged_enforcedLimit]
  · rw [if_pos ⟨hbefore.symm.trans habsent, hthere⟩]
    exact henforced

theorem State.classA_false (h : s.classA = false) (hk : faultClassOf s.straps.strict k = .a) : s.present k = false :=
  eq_false_of_ne_true fun hpresent => absurd (h.symm.trans (classA_iff.mpr ⟨k, hk, hpresent⟩)) nofun

theorem State.classB_false (h : s.classB = false) (hk : faultClassOf s.straps.strict k = .b) : s.present k = false :=
  eq_false_of_ne_true fun hpresent => absurd (h.symm.trans (classB_iff.mpr ⟨k, hk, hpresent⟩)) nofun

/-- Without a class A or B condition the limits are those that the result makes. -/
theorem State.supervise_limits (hA : s.supervise.classA = false) (hB : s.supervise.classB = false) :
    s.supervise.speed.localLimit = (s.speed.takeResult s.superResult s.clock).localLimit
      ∧ s.supervise.speed.raiseHold = (s.speed.takeResult s.superResult s.clock).raiseHold
      ∧ s.supervise.speed.enforced = s.peerLimits.foldl min s.supervise.speed.localLimit := by
  have hinadequate : s.superJudged.present .holdInadequate = false := by
    rw [superJudged_holdInadequate, ← supervise_holdInadequate]
    exact classA_false hA (by simp [faultClassOf])
  have hmargin : (s.limitsFormed.judgeHoldMargin s).present .holdMargin = false :=
    (judgeOverspeed_present_of_ne (s := s.hardFollowed) (by decide) (by decide)).symm.trans
      (classB_false hB (by simp [faultClassOf]))
  have hhard : s.supervise.present .overspeedHard = false := classA_false hA (by simp [faultClassOf])
  obtain ⟨hlimit, henforced, hhold⟩ := s.limitsFormed_limits
  obtain ⟨hlimit', hhold', henforced', -⟩ :=
    (judgeHoldMargin_limits (s := s.limitsFormed) (u := s)).resolve_right fun h =>
      absurd (hmargin.symm.trans h.2.1) nofun
  obtain ⟨hlimit'', hhold'', henforced'', -⟩ := s.hardFollowed_speed
  obtain ⟨hsame, -⟩ := (judgeOverspeed_cases (s := s.hardFollowed) (speed := s.supervisedSpeed)).resolve_right fun h =>
    absurd (hhard.symm.trans h.2.1) nofun
  rw [supervise_eq, hsame, hlimit'', hhold'', henforced'']
  unfold State.marginJudged
  rw [hlimit', hhold', henforced', henforced, hlimit, hhold hinadequate, Speed.takeResult_localLimit]
  exact ⟨rfl, rfl, rfl⟩

/-- What the raise hold makes of the local limit, by cases (R93). -/
theorem Speed.takeResult_cases (v : Speed) (result now : Nat) :
    (result < v.localLimit → (v.takeResult result now).localLimit = result ∧ (v.takeResult result now).raiseHold = none)
      ∧ (result = v.localLimit → (v.takeResult result now).localLimit = result ∧ (v.takeResult result now).raiseHold = none)
      ∧ (v.localLimit < result → v.raiseHold = none →
        (v.takeResult result now).localLimit = v.localLimit ∧ (v.takeResult result now).raiseHold = some (result, now))
      ∧ (∀ hold ∈ v.raiseHold, v.localLimit < result → now < hold.2 + ms 2000 →
        (v.takeResult result now).localLimit = v.localLimit
          ∧ (v.takeResult result now).raiseHold = some (min hold.1 result, hold.2))
      ∧ (∀ hold ∈ v.raiseHold, v.localLimit < result → hold.2 + ms 2000 ≤ now →
        (v.takeResult result now).localLimit = min hold.1 result ∧ (v.takeResult result now).raiseHold = none) := by
  unfold Speed.takeResult
  refine ⟨fun h => ?_, fun h => ?_, fun h hnone => ?_, fun hold hmem h hearly => ?_, fun hold hmem h hlate => ?_⟩
  · rw [if_pos h]
    exact ⟨rfl, rfl⟩
  · rw [if_neg (by omega), if_pos h]
    exact ⟨h.symm, rfl⟩
  · rw [if_neg (by omega), if_neg (by omega), hnone]
    exact ⟨rfl, rfl⟩
  · rw [if_neg (by omega), if_neg (by omega), Option.mem_def.mp hmem]
    dsimp only
    rw [if_neg (by omega)]
    exact ⟨rfl, rfl⟩
  · rw [if_neg (by omega), if_neg (by omega), Option.mem_def.mp hmem]
    dsimp only
    rw [if_pos hlate]
    exact ⟨rfl, rfl⟩

/-! ## Intervention and hard reference (R97, R98) -/

theorem State.supervise_intervening :
    (s.speed.intervening = false → s.supervise.speed.intervening = decide (s.enforcedLimit < s.supervisedSpeed))
      ∧ (s.speed.intervening = true → 10 ≤ s.enforcedLimit →
        s.supervise.speed.intervening = decide (s.enforcedLimit < s.supervisedSpeed + 10))
      ∧ (s.speed.intervening = true → s.enforcedLimit < 10 →
        s.supervise.speed.intervening = decide (s.supervisedSpeed ≠ 0)) := by
  have h := s.marginJudged.speed.intervene_intervening (speed := s.supervisedSpeed)
  rw [s.supervisionStands.2.2.2.2, marginJudged_enforcedLimit, ← s.hardFollowed_speed.2.2.2.2.2,
    ← s.supervise_supervision.2.2.2.2] at h
  exact h

theorem State.supervise_hardRef :
    (s.speed.hardRef ≤ s.enforcedLimit →
        s.supervise.speed.hardRef = s.enforcedLimit ∧ s.supervise.speed.buildUp = 0
          ∧ s.supervise.speed.descending = false)
      ∧ (s.enforcedLimit < s.speed.hardRef → s.speed.descending = false →
        s.supervise.speed.hardRef = s.speed.hardRef ∧ s.supervise.speed.buildUp = s.straps.buildUpTime / 100
          ∧ s.supervise.speed.descending = true)
      ∧ (s.enforcedLimit < s.speed.hardRef → s.speed.descending = true → 0 < s.speed.buildUp →
        s.supervise.speed.hardRef = s.speed.hardRef ∧ s.supervise.speed.buildUp = s.speed.buildUp - 1
          ∧ s.supervise.speed.descending = true)
      ∧ (s.enforcedLimit < s.speed.hardRef → s.speed.descending = true → s.speed.buildUp = 0 →
        s.supervise.speed.hardRef = max s.enforcedLimit (s.speed.hardRef - 2) ∧ s.supervise.speed.buildUp = 0
          ∧ s.supervise.speed.descending = decide (s.supervise.speed.hardRef ≠ s.enforcedLimit)) := by
  obtain ⟨b, hinter⟩ := s.marginJudged.speed.intervene_stands (speed := s.supervisedSpeed)
  obtain ⟨-, href, hbuild, hdown, -⟩ := s.supervisionStands
  obtain ⟨-, href', hbuild', hdown', -⟩ := s.supervise_supervision
  have hspeed : s.hardFollowed.speed
      = (s.marginJudged.speed.intervene s.supervisedSpeed).followHard s.marginJudged.straps.buildUpTime := rfl
  have h := (s.marginJudged.speed.intervene s.supervisedSpeed).followHard_eq s.marginJudged.straps.buildUpTime
  rw [← hspeed, ← href', ← hbuild', ← hdown', hinter, s.marginJudged_stands.2.1] at h
  dsimp only at h
  rw [href, hbuild, hdown, marginJudged_enforcedLimit] at h
  exact h

/-! ## A new class A condition (R94, R167) -/

theorem State.superJudged_raised (habsent : s.present .holdInadequate = false)
    (hthere : s.superJudged.present .holdInadequate = true) :
    s.superResult = 0 ∧ s.superJudged.brake.ownPull = true := by
  rw [superJudged_holdInadequate, decide_eq_true_eq] at hthere
  have habsent' : (s.saturations (s.netDecel.hits + s.superFive.hits)).present .holdInadequate = false :=
    (saturations_present _ (by decide)).trans habsent
  have hstill : (s.saturations (s.netDecel.hits + s.superFive.hits)).rack.standstill = false := by
    simpa using hthere.2
  refine ⟨superResult_of_net hthere.1, ?_⟩
  rw [State.superJudged, State.judgeHoldInadequate, if_pos ⟨hthere.1, hstill⟩, if_neg (by rw [habsent']; decide)]
  exact (raise_pulls rfl habsent').1

/-- A class A condition that arises takes the local limit to 0 and pulls the loop. -/
theorem State.supervise_of_newClassA (hbefore : s.classA = false) (hafter : s.supervise.classA = true) :
    s.supervise.speed.localLimit = 0 ∧ s.supervise.brake.ownPull = true := by
  obtain ⟨hsame, hhard⟩ | ⟨-, -, hlimit, -, hpull⟩ :=
    judgeOverspeed_cases (s := s.hardFollowed) (speed := s.supervisedSpeed)
  swap
  · exact ⟨hlimit, hpull⟩
  have hsame' : s.supervise = s.hardFollowed := hsame
  obtain ⟨k, hk, hthere⟩ := classA_iff.mp hafter
  have hstraps : s.supervise.straps = s.straps := by
    rw [hsame']
    exact s.marginJudged_stands.2.1
  rw [hstraps] at hk
  have habsent : s.present k = false := classA_false hbefore hk
  have hthere' : s.marginJudged.present k = true := by rwa [hsame'] at hthere
  have hkind : k = .holdInadequate := by
    by_contra hne
    have hstands : s.marginJudged.present k = s.present k :=
      marginJudged_present (by rintro rfl; simp [faultClassOf] at hk) hne (by rintro rfl; simp [faultClassOf] at hk)
        (by rintro rfl; simp [faultClassOf] at hk)
    exact absurd (habsent.symm.trans (hstands.symm.trans hthere')) nofun
  subst hkind
  have hraised : s.superJudged.present .holdInadequate = true := by
    rw [← s.limitsFormed_stands.2.2.1,
      ← judgeHoldMargin_present_of_ne (s := s.limitsFormed) (u := s) (by decide) (by decide) (by decide)]
    exact hthere'
  obtain ⟨hresult, hpull⟩ := superJudged_raised habsent hraised
  have hformed : s.limitsFormed.speed.localLimit = 0 := by
    rw [s.limitsFormed_limits.1, hresult, Speed.taken, if_pos (Nat.zero_le _)]
  have hmargin : s.marginJudged.speed.localLimit = 0 := by
    obtain ⟨hlimit, -⟩ | ⟨-, -, hlimit, -⟩ := judgeHoldMargin_limits (s := s.limitsFormed) (u := s)
    · exact hlimit.trans hformed
    · exact hlimit
  have hbrake : s.hardFollowed.brake = s.superJudged.brake := s.marginJudged_stands.2.2
  rw [hsame', s.hardFollowed_speed.1, hbrake]
  exact ⟨hmargin, hpull⟩

end Sys2Proof.Machine
end

section
/-! SUPPORT. The command SUPERVISION_COMPUTATION (O45; section 5.3). -/

namespace Sys2Proof.Machine

variable {s : State} {m : Moment}

/-- The state as a supervision computation begins at a moment. -/
def State.supervisedAt (m : Moment) (s : State) : State :=
  (s.atMoment m).setSpeed { (s.atMoment m).speed with superStart := (s.atMoment m).clock }

theorem exec_supervisionComputation_due (hrun : s.running = true) (hdue : s.speed.superStart + ms 100 ≤ s.instant m) :
    exec (.supervisionComputation m) s = .next (s.supervisedAt m).supervise.keepStore :=
  runCommand_due (m := m) (timer := fun u => some u.speed.superStart)
    (effect := fun u => (u.setSpeed { u.speed with superStart := u.clock }).supervise) hrun (decide_eq_true hdue)

theorem supervisedAt_onlyChanges : onlyChanges [.supervision] (s.atMoment m) (s.supervisedAt m) := by
  intro q
  cases q <;> simp [Part.same, State.supervisedAt]

theorem supervisionComputation_onlyChanges (m : Moment) (s : State) :
    onlyChanges (Part.also Part.ofClassA [.supervision, .arith]) s (s.supervisedAt m).supervise.keepStore := by
  have hstation : (s.supervisedAt m).station = s.station := rfl
  have heffect := (supervisedAt_onlyChanges (s := s) (m := m)).mono (qs := Part.also Part.ofClassA [.supervision, .arith])
    (by decide)
  refine onlyChanges_of_effect (heffect.trans supervise_onlyChanges hstation) ?_
  have hjudged {u : State} {speed : Nat} : (u.judgeOverspeed speed).station = u.station := by simp
  exact hjudged.trans ((s.supervisedAt m).marginJudged_stands.1.trans hstation)

/-- The result against the stage 5 value and the ceilings, one by one (R92). -/
theorem State.superResult_clauses (hfive : 0 ≤ s.superFive.val) :
    let valleyLost := s.radio.status ≠ .alive ∧ ∀ i : Fin 8, s.peers[i].state = .fresh → s.peers[i].report.valley ≠ 1
    let stopped := s.classA = true ∨ s.classB = true ∨ s.brake.latch = true
    (s.superResult : Int) ≤ s.superFive.val
      ∧ (∀ e ∈ s.restrictions.entries, e.covering = true ∨ s.rack.known = false → s.superResult ≤ e.limit)
      ∧ (∀ c ∈ s.restrictions.overflow, s.superResult ≤ c) ∧ (valleyLost → s.superResult ≤ 60)
      ∧ (stopped → s.superResult = 0)
      ∧ ((s.superResult : Int) = s.superFive.val
        ∨ (∃ e ∈ s.restrictions.entries, (e.covering = true ∨ s.rack.known = false) ∧ s.superResult = e.limit)
        ∨ s.restrictions.overflow = some s.superResult ∨ (valleyLost ∧ s.superResult = 60)
        ∨ (stopped ∧ s.superResult = 0)) := by
  intro valleyLost stopped
  have hvalley : s.valleyLostNow = true ↔ valleyLost := by
    rw [valleyLostNow_iff]
    simp only [not_and, valleyLost, ne_eq]
  obtain ⟨hle, hceilings, hattained⟩ := s.superResult_eq hfive
  refine ⟨hle, fun e he happlies => hceilings _ (mem_ceilings.mpr (.inl ⟨e, he, happlies, rfl⟩)),
    fun c hc => hceilings _ (mem_ceilings.mpr (.inr (.inl hc))),
    fun hlost => hceilings _ (mem_ceilings.mpr (.inr (.inr (.inl ⟨hvalley.mpr hlost, rfl⟩)))),
    fun hstopped => Nat.le_zero.mp (hceilings _ (mem_ceilings.mpr (.inr (.inr (.inr ⟨hstopped, rfl⟩))))), ?_⟩
  refine hattained.imp_right fun hmem => ?_
  obtain ⟨e, he, happlies, hlimit⟩ | hoverflow | ⟨hlost, hresult⟩ | hzero := mem_ceilings.mp hmem
  · exact .inl ⟨e, he, happlies, hlimit.symm⟩
  · exact .inr (.inl hoverflow)
  · exact .inr (.inr (.inl ⟨hvalley.mp hlost, hresult⟩))
  · exact .inr (.inr (.inr hzero))

/-- Settles O45: the result of the stages, the limits that it makes, and the conditions judged with them. The moment and
the timer's start leave everything that the computation reads. -/
theorem supervisionTakesResult : Obligations.SupervisionTakesResult := by
  intro m s hrun hdue net result speed saturates mass capacity holding lineClass ceiling buildUp distance five valleyLost
    stopped unheld taken enforced
  refine ⟨_, exec_supervisionComputation_due hrun hdue, ?_⟩
  simp only [State.keepStore_brake, State.keepStore_present, State.keepStore_classA, State.keepStore_speed,
    State.keepStore_formed.2.2.2.2]
  refine ⟨?_, State.valuesFormed_holds s, fun hmeasures => ?_, fun h => ?_, fun hpos hle => ?_, fun hfive => ?_, ?_, ?_, ?_,
    fun hclass => ?_, ?_, ?_, ?_, ?_, ?_, ?_, ?_, ?_, ?_, ?_, ?_, ?_, fun hnew => ?_, supervisionComputation_onlyChanges m s⟩
  · exact (s.supervisedAt m).supervise_supervision.1
  · have hnetDecel := State.netDecel_eq hmeasures
    exact ⟨congrArg Sat.val hnetDecel, congrArg Sat.hits hnetDecel, s.holdingProducts_first,
      State.holdingProducts_second hmeasures⟩
  · exact congrArg Sat.val (if_pos h)
  · exact State.stageFive_eq hpos hle
  · exact State.superResult_clauses hfive
  · exact (s.supervisedAt m).supervise_arith.1
  · exact (s.supervisedAt m).supervise_arith.2
  · exact fun hstill hbeyond => .inr ⟨hstill, State.holdingHits_of_beyond hbeyond⟩
  · obtain ⟨hlimit, hhold, hformed⟩ := State.supervise_limits hclass.1 hclass.2
    obtain ⟨hbelow, hsame, hstarts, hearly, hlate⟩ := Speed.takeResult_cases (s.supervisedAt m).speed
      (s.supervisedAt m).superResult (s.supervisedAt m).clock
    rw [← hlimit, ← hhold] at hbelow hsame hstarts hearly hlate
    exact ⟨hbelow, hsame, hstarts, hearly, hlate, hformed⟩
  · exact (s.supervisedAt m).supervise_enforced
  · exact (s.supervisedAt m).supervise_intervening.1
  · exact (s.supervisedAt m).supervise_intervening.2.1
  · exact (s.supervisedAt m).supervise_intervening.2.2
  · exact (s.supervisedAt m).supervise_hardRef.1
  · exact (s.supervisedAt m).supervise_hardRef.2.1
  · exact (s.supervisedAt m).supervise_hardRef.2.2.1
  · exact (s.supervisedAt m).supervise_hardRef.2.2.2
  · exact (s.supervisedAt m).supervise_holdInadequate
  · exact (s.supervisedAt m).supervise_holdMargin.1
  · exact (s.supervisedAt m).supervise_holdMargin.2
  · exact (s.supervisedAt m).supervise_overspeedHard
  · exact State.supervise_of_newClassA hnew.2 hnew.1

end Sys2Proof.Machine
end
